-- ==== Sys2Proof/Word.lean ====
section
/-! DEFINITION. The word types of the WZ9600 model and their plainest arithmetic: bytes, 32-bit registers, 64-bit pairs,
ticks, and the saturating counters that the register tables of the spec ask for. -/

namespace Sys2Proof

/-- One byte of a packet, a frame, a record or a bank (R11). -/
abbrev Byte := BitVec 8
/-- Every register is 32 bits wide (R12). -/
abbrev W32 := BitVec 32
/-- A 64-bit value held in two registers (R17), and chain time (R6). -/
abbrev W64 := BitVec 64
/-- A count of FIRE ticks (R5). Chain time itself is a 64-bit word; a tick an event carries is a plain count. -/
abbrev Tick := Nat

/-- A counter of `w` bits that stops at its all-ones value. -/
def satInc {w : Nat} (x : BitVec w) : BitVec w :=
  if x = BitVec.allOnes w then x else x + 1

/-- Adding `n` to a counter of `w` bits that stops at its all-ones value. -/
def satAdd {w : Nat} (x : BitVec w) (n : Nat) : BitVec w :=
  if x.toNat + n < 2 ^ w then BitVec.ofNat w (x.toNat + n) else BitVec.allOnes w

/-- The Bool as a number, 1 for true. -/
def b2n (b : Bool) : Nat := if b then 1 else 0

/-- Division rounding up. -/
def ceilDiv (a b : Nat) : Nat := (a + b - 1) / b

/-- Ticks in a microsecond and in a millisecond (R6). -/
abbrev usTicks : Nat := 1200
abbrev msTicks : Nat := 1200000

end Sys2Proof
end

