-- ==== Sys2Proof/Syntax.lean ====
section
/-! DEFINITION. The commands of the WZ9600: one constructor per row of spec/opcode_table.json, with the operands that the row's
rules give it. A row that Thinis takes from a lane's command queue carries the queue's lane and the packet (R155). A row that
is a host access carries the requesting function f (R121) and what is written. A row that is an event carries what the
outside world brings (levels, frames, measurements, stamps). -/

namespace Sys2Proof

/-- A lane or function (R121), a gate (R375), a feed engine (R27), a trigger (R283): 0 to 15. -/
abbrev LaneIx := Fin 16
/-- A cell, active 0-255 or spare 256-271 (R20), and its bank (R24). -/
abbrev CellIx := Fin 272
/-- A head link (R20). -/
abbrev LinkIx := Fin 512
/-- A quad, active 0-63 or spare 64-67 (R20). -/
abbrev QuadIx := Fin 68
/-- A power domain (R79). -/
abbrev DomainIx := Fin 80
/-- A block of a bank (R205). -/
abbrev BlockIx := Fin 8192
/-- An epoch number: bits [63:48] are 0 (R452). -/
abbrev EpochIx := BitVec 48
/-- A feed ring (R27). -/
abbrev RingIx := Fin 65536
/-- A Pacer (R29), an encoder (R275) or a motor channel (R407): 0 to 7. -/
abbrev Oct := Fin 8
/-- An event source (R146). -/
abbrev SrcIx := Fin 384
/-- A chain port: 0 E, 1 W, 2 A, 3 B (R432, CHN_PSTSx). -/
abbrev PortIx := Fin 4
/-- A Thinis core: 0 THN_A, 1 THN_B. -/
abbrev CoreIx := Fin 2
/-- A byte offset in the 64 MiB of BAR0 (R126). -/
abbrev Bar0 := BitVec 26

/-- A command packet but for its OPCODE, which is the row itself (R155). `param` holds bytes 8-63, byte 8 lowest. -/
structure Packet where
  lane  : Byte
  flags : Byte
  tag   : W32
  param : BitVec 448
deriving DecidableEq, Repr

/-- Who reads a register pair: a PCI Express function or a Thinis core (R17). -/
inductive Requester where
  | func (f : LaneIx)
  | core (c : CoreIx)
deriving DecidableEq, Repr

/-- How a read that the part makes can fail (R195, R534). -/
inductive BusError where
  | ur | ca | poisoned | timeout
deriving DecidableEq, Repr

/-- The causes of a PCI Express conventional reset (R88). -/
inductive PcieReset where
  | perst | hot | linkDown
deriving DecidableEq, Repr

/-- The causes of a cold reset (R88). -/
inductive ColdCause where
  | vin | prst
deriving DecidableEq, Repr

/-- The trained link widths (R117). -/
inductive LinkWidth where
  | x16 | x8 | x4 | x2 | x1
deriving DecidableEq, Repr

/-- A change of a condition of R144: MSI-X enable, function mask, or the mask bit of one vector. -/
inductive MsixChange where
  | enable (on : Bool)
  | maskAll (on : Bool)
  | maskVec (v : Fin 128) (on : Bool)
deriving DecidableEq, Repr

/-- What ECC finds at a read of one block (R216). -/
inductive Ecc where
  | clean | corrected | uncorrectable
deriving DecidableEq, Repr

/-- A partner's side in the neighbour exchange (R238). -/
inductive Side where
  | left | right
deriving DecidableEq, Repr

/-- The pairs of an encoder (R275). -/
inductive EncPair where
  | a | b | z
deriving DecidableEq, Repr

/-- An encoder reference of a Pacer (R300). -/
inductive EncRef where
  | primary | secondary
deriving DecidableEq, Repr

/-- The causes of R300, in the code of POS_REFSTSp.LOSSCAUSE (R306). -/
inductive LossCause where
  | qerr | pairFault | noEdge | disabled
deriving DecidableEq, Repr

/-- The causes of R357 that are not a write of EN. -/
inductive DownCause where
  | codeErrors | signal | silence | power
deriving DecidableEq, Repr

/-- The fault classes (R488). -/
inductive FaultClass where
  | corrected | degraded | zoneStop | deviceCritical
deriving DecidableEq, Repr

/-- The results of an ACK (R438). -/
inductive AckRes where
  | ready | none | notReady
deriving DecidableEq, Repr

/-- The causes of a CANCEL (R438). -/
inductive CancelCause where
  | protocol | late | level
deriving DecidableEq, Repr

/-- One head link's part of a configuration copy (R252, LINK0 and LINK1). `lv1` to `lv3` are the codes of LVLMAP. -/
structure LinkCfg where
  nred   : Nat
  shift  : Int
  ldly   : Nat
  redofs : Nat
  tdly   : Nat
  lv1    : Nat
  lv2    : Nat
  lv3    : Nat
  wset   : Nat
deriving DecidableEq, Repr

/-- One mask of a configuration copy (R252). `lv1` to `lv3` are the bits of LEVELS. -/
structure MaskCfg where
  en    : Bool
  inv   : Bool
  lv1   : Bool
  lv2   : Bool
  lv3   : Bool
  h     : Nat
  phase : Nat
  line  : Nat
deriving DecidableEq, Repr

/-- The contents of a configuration copy (R252) but for its CRC. `tone` lists the non-zero entries of TONE by pixel value.
`resv` says that every reserved bit is 0. -/
structure Copy where
  gen      : W32
  cell     : Nat
  lane     : Nat
  plane    : Nat
  mode     : Nat
  nbrL     : Bool
  nbrR     : Bool
  cc       : Nat
  fmax     : Nat
  lwm      : Nat
  depth    : Nat
  pacer    : Nat
  fr       : Nat
  dr       : Nat
  dataline : Nat
  datasz   : Nat
  link0    : LinkCfg
  link1    : LinkCfg
  mask0    : MaskCfg
  mask1    : MaskCfg
  mask2    : MaskCfg
  mask3    : MaskCfg
  lev1     : Nat
  lev2     : Nat
  lev3     : Nat
  tone     : List (Nat × Nat)
  resv     : Bool
deriving DecidableEq, Repr

/-- A waveform definition (R360): ENERGY, TCOEF and the segments (DUR, LEVEL). -/
structure Wave where
  energy : Nat
  tcoef  : Int
  segs   : List (Nat × Int)
deriving DecidableEq, Repr

/-- One cell section of an image (R256): which parts are present, and those parts. `noz` lists nozzle entries (all the
non-zero ones in a full image, the named ones in a patch); `waves` lists the definitions that are not all zero. -/
structure CellSection where
  cell    : Nat
  hasCopy : Bool
  hasNoz  : Bool
  hasWave : Bool
  copy    : Copy
  noz     : List (Nat × W32)
  waves   : List (Nat × Wave)
deriving DecidableEq, Repr

/-- A Plini Builder image as the part reads it from its bytes (R256). `size` is the number of bytes read, `crcOk` the verdict of the CRC-32 over
the whole image, `resv` says that every reserved byte of the header is 0, and `whole` that the sections fill the image exactly. -/
structure Image where
  magic    : W32
  kind     : Nat
  lane     : Nat
  ncell    : Nat
  length   : Nat
  size     : Nat
  crc      : W32
  crcOk    : Bool
  resv     : Bool
  whole    : Bool
  fmax     : Nat
  sections : List CellSection
deriving DecidableEq, Repr

/-- One temperature set (R392), as a cell holds it and as TEMPSET-LOAD brings it. -/
structure TempSet where
  valid : Bool
  cdly  : Int
  hdly0 : Int
  hdly1 : Int
  tf0   : Nat
  tf1   : Nat
deriving DecidableEq, Repr

/-- What a host memory read is made for (R258, R259, R261, R393): the long command of a handle, the refill of a quad's cells after a power
cycle, or the refill of one cell. -/
inductive ReadFor where
  | handle (h : W32)
  | quad (k : QuadIx)
  | cell (c : CellIx)
deriving DecidableEq, Repr

/-- A frame received from a head (R343): its bytes from TYPE through the check field, and whether it came with no code error. -/
structure RxFrame where
  bytes  : List Byte
  codeOk : Bool
deriving DecidableEq, Repr

/-- What a head-link training sees (R356): the phases that hold a transition (R397), whether the symbols aligned, the round
trips in ticks, in sets of 16 (R354), the first STATUS (R345), whether the frames of LOAD were accepted, and the STATUS after SYNC. -/
structure HeadTrain where
  eye      : BitVec 32
  aligned  : Bool
  rts      : List Nat
  ident    : RxFrame
  loaded   : Bool
  sync     : RxFrame
deriving DecidableEq, Repr

/-- A HELLO payload (R438). `role` is true for a ring unit. -/
structure Hello where
  id    : W64
  addr  : BitVec 16
  port  : PortIx
  role  : Bool
  level : Byte
deriving DecidableEq, Repr

/-- What a chain port's training sees (R432, R435): for each lane the tick at which it is aligned, none where it does not pass; the partner's
HELLO; and the round trips, in sets of 16. -/
structure PortTrain where
  lanes : List (Option Nat)
  hello : Hello
  rts   : List Nat
deriving DecidableEq, Repr

/-- A PROBE payload (R438). -/
structure ProbeBody where
  time    : W64
  closed  : Bool
  lead    : BitVec 16
  guard   : Byte
  ol      : Byte
  lmin    : Byte
  lmax    : Byte
  rtr     : W32
  members : BitVec 16
  id      : W64
deriving DecidableEq, Repr

/-- A PROBE-REPLY payload (R438). -/
structure ReplyBody where
  id        : W64
  level     : Byte
  arrival   : W64
  residence : W32
  missed    : BitVec 16
deriving DecidableEq, Repr

/-- What one loop period of a motor channel measures and computes (R411-R424): the speed in 0.01 Hz, whether the loop overran
(R418), whether the voltage or current needed exceeds its limit (R413), whether the handoff condition holds (R420), whether a back-EMF zero
crossing commutates (R408), and the decimator outputs of MCn_ISA and MCn_ISB at the sampling instant (R409). -/
structure MotorMeas where
  spd     : Int
  overrun : Bool
  vlim    : Bool
  clim    : Bool
  handoff : Bool
  cross   : Bool
  isa     : BitVec 16
  isb     : BitVec 16
deriving DecidableEq, Repr

/-- What the 4,096 decimator outputs of one current input give (R398). -/
structure CalInput where
  sum   : Int
  stuck : Bool
deriving DecidableEq, Repr

/-- The measurement of one HT pin (R467, R468): for a thermistor V in µV, for a diode the forward voltage at 10 µA and ΔV in µV. -/
structure PinMeas where
  uv   : Nat
  duv  : Int
deriving DecidableEq, Repr

/-- The measurements of one housekeeping round (R470): its end tick, the head pins, the die sensors with the verdict of the
reference check (R468), VIN12 in mV, and the rails in mV by the instance numbers of source 11 (R489). -/
structure HkMeas where
  t     : Tick
  pins  : List (Nat × PinMeas)
  die   : List (Nat × (Bool × Int))
  vin   : Nat
  rails : List (Nat × Nat)
deriving DecidableEq, Repr

/-- What a write of registers carries (R13, R17): one register, or a pair in one aligned access of 8 bytes. -/
inductive RegData where
  | word (v : W32)
  | pair (low high : W32)
deriving DecidableEq, Repr

/-- A read of the low word of a pair (R17): of 4 bytes, or of the whole pair in one aligned access of 8 bytes. -/
structure PairRead where
  addr : Bar0
  wide : Bool
deriving DecidableEq, Repr

/-- An access of any size and alignment (R18) reads, or writes the low bytes of data. -/
inductive AccessDir where
  | read
  | write (data : W64)
deriving DecidableEq, Repr

/-- The bytes that a debug window writes (R215), and the ECC verdicts of the blocks of which it writes a part. -/
structure WindowData where
  bytes : List Byte
  ecc   : List (BlockIx × Ecc)
deriving DecidableEq, Repr

/-- A bank whose credit window starts (R208), with the ECC verdicts of the blocks that contone intake reads in it (R216, R232). -/
structure BankReads where
  bank : CellIx
  ecc  : List (BlockIx × Ecc)
deriving DecidableEq, Repr

/-- The commands: one constructor per row of the table, in the table's order. -/
inductive Instr where
  /-- IDENTIFY (R168): Immediate command that writes unit ID, stepping, firmware versions, levels, feature enables and link width to a host buffer. -/
  | identify (q : LaneIx) (p : Packet)
  /-- GET_LOG (R168): Immediate command that writes a consistent copy of the first-error record or the history queue to host memory. -/
  | getLog (q : LaneIx) (p : Packet)
  /-- DEVICE_STATUS (R168): Immediate command that writes a 512-byte device status buffer to host memory. -/
  | deviceStatus (q : LaneIx) (p : Packet)
  /-- NOP (R168): Immediate command that does nothing and completes OK. -/
  | nop (q : LaneIx) (p : Packet)
  /-- LANE_RESET (R136): Command that puts a lane in RESETTING, releases its handles, drains its feed and writes, and posts one completion when the lane is IDLE. -/
  | laneReset (q : LaneIx) (p : Packet)
  /-- QUAD_ASSIGN (R123): Lane-0 immediate command that moves active quads, with their rings, between lanes that are both IDLE. -/
  | quadAssign (q : LaneIx) (p : Packet)
  /-- LANE_STATUS (R168): Immediate command that writes a 256-byte lane status buffer to host memory. -/
  | laneStatus (q : LaneIx) (p : Packet)
  /-- HANDLE_QUERY (R168): Immediate command that reports in DETAIL whether a handle is outstanding in the issuing lane. -/
  | handleQuery (q : LaneIx) (p : Packet)
  /-- ABORT (R167): Immediate command that abandons an outstanding CONFIG-LOAD, FW-LOAD or SPIT-TEST, whose final entry then carries ABORTED. -/
  | abort (q : LaneIx) (p : Packet)
  /-- CONFIG_LOAD (R257): Long command that empties an image slot, reads and checks a Plini Builder image and compiles its cell copies into the slot. -/
  | configLoad (q : LaneIx) (p : Packet)
  /-- CONFIG_LOAD_DONE (R257): End of the image read and compile, which fills the slot or leaves it empty and posts the final entry of CONFIG-LOAD. -/
  | configLoadDone (handle : W32) (img : List Byte)
  /-- CONFIG_COMMIT (R258): Long command that checks link width, image, Pacer binding and bank admission, writes the tables and shadow sets, and swaps them at an epoch or line boundary. -/
  | configCommit (q : LaneIx) (p : Packet)
  /-- CONFIG_PATCH (R259): Long command that admits a patch image like a commit and applies its copies, waveforms and nozzle entries at line boundaries. -/
  | configPatch (q : LaneIx) (p : Packet)
  /-- CONFIG_RELOAD (R261): Long command that rewrites the three copies of every cell of the lane from the compiled copies in force. -/
  | configReload (q : LaneIx) (p : Packet)
  /-- CONFIG_READ (R168): Long command that writes a cell table to host memory. -/
  | configRead (q : LaneIx) (p : Packet)
  /-- CONFIG_DISCARD (R261): Immediate command that empties an image slot unless it is in use or is the committed slot of a lane that is configured or printing. -/
  | configDiscard (q : LaneIx) (p : Packet)
  /-- PRINT_START (R168): Long command that moves a CONFIGURED lane into PRINT at an epoch or at the next line boundary. -/
  | printStart (q : LaneIx) (p : Packet)
  /-- PRINT_STOP (R294): Long command that ends printing after the open windows close, or at the next line boundary with the open windows force-closed. -/
  | printStop (q : LaneIx) (p : Packet)
  /-- SET_SPEED (R40): Immediate command that sets the lane's commanded line rate, which feeds the web set-point. -/
  | setSpeed (q : LaneIx) (p : Packet)
  /-- SET_CEILING (R39): Immediate command that sets the line-rate ceiling by command and raises event 371. -/
  | setCeiling (q : LaneIx) (p : Packet)
  /-- WINDOW_ARM (R287): Immediate command that queues one ARMED print window with start and stop triggers, an offset and a length. -/
  | windowArm (q : LaneIx) (p : Packet)
  /-- ALIGN_SET (R260): Long command that writes new copies with a link's SHIFT, LDLY and TDLY and swaps them at the given epoch. -/
  | alignSet (q : LaneIx) (p : Packet)
  /-- SPIT_TEST (R380): Long command that fires test drops for one plane through the gates for N rounds, using pattern SERVO, DETECT or PURGE. -/
  | spitTest (q : LaneIx) (p : Packet)
  /-- TEMPSET_LOAD (R393): Long command that writes temperature set s of every active cell of the lane from a host buffer. -/
  | tempsetLoad (q : LaneIx) (p : Packet)
  /-- NOZZLE_MARK (R254): Immediate command that marks a nozzle missing or clears its marks at the cell's next line boundary. -/
  | nozzleMark (q : LaneIx) (p : Packet)
  /-- SERVO_CTL (R385): Immediate command that sets a plane's target drop velocity and turns its servo on or off. -/
  | servoCtl (q : LaneIx) (p : Packet)
  /-- MOTOR_BIND (R410): Lane-0 immediate command that binds a motor channel to a Pacer with a ratio, or unbinds it. -/
  | motorBind (q : LaneIx) (p : Packet)
  /-- MOTOR_ENABLE (R408): Long command that enables a motor channel in the compact or full profile and completes when the channel first reaches RUN or READY. -/
  | motorEnable (q : LaneIx) (p : Packet)
  /-- MOTOR_STOP (R423): Long command that stops a motor channel by braking at once or by ramping at the slew, ending in BRAKED or OFF. -/
  | motorStop (q : LaneIx) (p : Packet)
  /-- MOTOR_CAL (R409): Long command that calibrates the current-sense offsets of a stopped channel. -/
  | motorCal (q : LaneIx) (p : Packet)
  /-- CHAIN_STATUS (R168): Immediate command that writes a 1 KiB chain status buffer to host memory. -/
  | chainStatus (q : LaneIx) (p : Packet)
  /-- CHAIN_JOIN (R447): Long command that sends JOIN when a PROBE is heard, or takes the baton of a new chain. -/
  | chainJoin (q : LaneIx) (p : Packet)
  /-- BATON_REQUEST (R449): Long command that asks the baton holder for the baton. -/
  | batonRequest (q : LaneIx) (p : Packet)
  /-- RELAY_ONLY (R463): Immediate command that enters or leaves relay-only mode. -/
  | relayOnly (q : LaneIx) (p : Packet)
  /-- LEVEL_ENABLE (R461): Long command that raises the chain operating level at an epoch when every member supports it. -/
  | levelEnable (q : LaneIx) (p : Packet)
  /-- METER_READ (R168): Immediate command that writes the committed counters of the lane's 16 planes to host memory. -/
  | meterRead (q : LaneIx) (p : Packet)
  /-- PERIOD_CLOSE (R517): Long command that closes the lane's billing period at T_END and opens the next one. -/
  | periodClose (q : LaneIx) (p : Packet)
  /-- RECORD_READ (R519): Immediate command that writes a held sealed period record to host memory. -/
  | recordRead (q : LaneIx) (p : Packet)
  /-- FUSE_READ (R509): Immediate command that reads words of an OTP region unless the region is read-locked. -/
  | fuseRead (q : LaneIx) (p : Packet)
  /-- FUSE_PROGRAM (R510): Long command that programs OTP bits under the window, pulse and verify rules. -/
  | fuseProgram (q : LaneIx) (p : Packet)
  /-- FUSE_LOCK (R509): Long command that programs the write-lock or read-lock fuse of a region. -/
  | fuseLock (q : LaneIx) (p : Packet)
  /-- DOMAIN_RESET (R85): Long command that resets one domain's logic, with power and clock kept, when the acceptance table allows. -/
  | domainReset (q : LaneIx) (p : Packet)
  /-- DOMAIN_CYCLE (R86): Long command that removes and restores a domain's power, calibrates it and restores its cells. -/
  | domainCycle (q : LaneIx) (p : Packet)
  /-- SPARE_TAKEOVER (R263): Long command in which a spare copies an active cell's tables and bank, runs in step with it, and takes its links at a line boundary. -/
  | spareTakeover (q : LaneIx) (p : Packet)
  /-- SPARE_RETURN (R264): Long command that reverses a takeover and returns an active cell's work from its spare. -/
  | spareReturn (q : LaneIx) (p : Packet)
  /-- SELFTEST_CTL (R266): Immediate command that turns rolling self-test on or off for selected quadrants. -/
  | selftestCtl (q : LaneIx) (p : Packet)
  /-- FEED_RESTART (R196): Immediate command that clears a bus-error stop and returns the engine's STOPPED rings to RUN. -/
  | feedRestart (q : LaneIx) (p : Packet)
  /-- FAULT_CLEAR (R492): Immediate command that releases the first-error record and sets FLT_OVF to 0. -/
  | faultClear (q : LaneIx) (p : Packet)
  /-- FW_LOAD (R513): Long command that loads a firmware image into the standby core from host memory or from a chain neighbour. -/
  | fwLoad (q : LaneIx) (p : Packet)
  /-- FW_LOAD_DONE (R513): Arrival of the last image byte, after which the image is authenticated and the final entry of FW-LOAD is posted. -/
  | fwLoadDone (handle : W32) (img : List Byte)
  /-- FW_ACTIVATE (R172): Long command that makes a planned swap to the standby core running the loaded image. -/
  | fwActivate (q : LaneIx) (p : Packet)
  /-- CORE_SWAP (R172): Long command that makes a planned swap of the cores with the same image. -/
  | coreSwap (q : LaneIx) (p : Packet)
  /-- FW_INFO (R168): Immediate command that writes a 1 KiB firmware information buffer to host memory. -/
  | fwInfo (q : LaneIx) (p : Packet)
  /-- SQ_TAIL (R151): Doorbell write of a lane's command queue tail, which makes new commands available to Thinis. `unknown` gives the packets it brings whose OPCODE is of no row (R156): index in the queue, TAG and FENCE. -/
  | sqTail (f : LaneIx) (lane : LaneIx) (tail : W32) (unknown : List (BitVec 12 × W32 × Bool))
  /-- CQ_HEAD (R152): Doorbell write of a lane's completion queue head, which frees space for waiting entries. -/
  | cqHead (f : LaneIx) (lane : LaneIx) (head : W32)
  /-- FEED_DOORBELL (R183): Doorbell write of a feed ring's producer index. -/
  | feedDoorbell (f : LaneIx) (r : RingIx) (pidx : W32)
  /-- QP_ENABLE (R150): Write of QP_CTL.EN = 1, which enables a queue pair and resets its indices, or sets CFG_ERR. -/
  | qpEnable (f : LaneIx)
  /-- RING_ENABLE (R198): Write of FEED_WCFG.EN = 1, which enables a feed ring or refuses it. -/
  | ringEnable (f : LaneIx) (v : W32)
  /-- RING_DISABLE (R197): Write of FEED_WCFG.EN = 0, which abandons the ring's running channel and disables the ring. -/
  | ringDisable (f : LaneIx) (v : W32)
  /-- VSET_WRITE (R67): Write of GLB_QCTLk.VSET, applied in order with neighbours or refused. -/
  | vsetWrite (f : LaneIx) (k : QuadIx) (code : BitVec 5)
  /-- DIVREQ_WRITE (R67): Write of GLB_QCTLk.DIVREQ, applied in order with neighbours or refused. -/
  | divreqWrite (f : LaneIx) (k : QuadIx) (code : BitVec 2)
  /-- SKIP_WRITE (R67): Write of GLB_QCTLk.SKIP, applied in order with neighbours or refused. -/
  | skipWrite (f : LaneIx) (k : QuadIx) (code : BitVec 3)
  /-- PCIE_CLKMODE_WRITE (R62): Write of the PCI Express clock mode, which takes effect at the next fundamental or hot reset. -/
  | pcieClkmodeWrite (f : LaneIx) (common : Bool)
  /-- DISC_EN_WRITE (R90): Write of GLB_CLKCTL.DISC_EN, which enables discipline to the baton or freezes the trim. -/
  | discEnWrite (f : LaneIx) (en : Bool)
  /-- DEBUG_WINDOW_READ (R129): Host read through a line-store debug window, costing one bank credit. -/
  | debugWindowRead (i : Fin 4) (off : Fin 524288) (len : Nat) (ecc : List (BlockIx × Ecc))
  /-- DEBUG_WINDOW_WRITE (R215): Host write through a line-store debug window, costing one credit for a whole block or two for a part. -/
  | debugWindowWrite (i : Fin 4) (off : Fin 524288) (data : WindowData)
  /-- EVT_STAT_WRITE (R144): Write-1-to-clear of event status bits, with stray counting for sources a virtual function does not own. -/
  | evtStatWrite (f : LaneIx) (w : Fin 12) (v : W32)
  /-- EVT_EN_WRITE (R144): Write of event enable bits, with stray counting for sources a virtual function does not own. -/
  | evtEnWrite (f : LaneIx) (w : Fin 12) (v : W32)
  /-- EVT_MAP_WRITE (R144): Physical-function write of an event's function and vector mapping; a virtual function's write is counted as stray. -/
  | evtMapWrite (f : LaneIx) (src : SrcIx) (v : W32)
  /-- MSIX_CONDITION_CLEAR (R144): Unmask, enable or return to D0 that sends a pending MSI-X message when a mapped request is high. -/
  | msixConditionClear (f : LaneIx) (c : MsixChange)
  /-- LOW_WORD_READ (R17): 4-byte read of the low word of a 64-bit pair, which captures the high word into the requester's shadow, or one aligned 8-byte read of the pair. -/
  | lowWordRead (rq : Requester) (a : PairRead)
  /-- HIGH_WORD_READ (R17): 4-byte read of a high word, which returns and empties the shadow for the captured pair or else returns the live value. -/
  | highWordRead (rq : Requester) (a : Bar0)
  /-- IDXARM (R281): Write of IDXARM, which arms ONCE-mode index re-basing. -/
  | idxarm (f : LaneIx) (n : Oct)
  /-- FORCEBACK (R303): Write of FORCEBACK, which allows a switch back to a better reference at the next line boundary. -/
  | forceback (f : LaneIx) (p : Oct)
  /-- PVSEL_SNAPSHOT (R340): Write of CELL_PVSEL, which takes a provisional snapshot of an undecided strobe. -/
  | pvselSnapshot (f : LaneIx) (c : CellIx) (v : W32)
  /-- LINK_EN_WRITE (R357): Write of HL_CTLi.EN, which takes a head link DOWN with TX idle or lets it train. -/
  | linkEnWrite (f : LaneIx) (l : LinkIx) (en : Bool)
  /-- RETRAIN (R356): Write of HL_CTLi.RETRAIN, which takes the link DOWN and trains it again. -/
  | retrain (f : LaneIx) (l : LinkIx)
  /-- GATESEL_WRITE (R375): Write of a gate's owning quad and serve mask, applied whole or refused. -/
  | gateselWrite (f : LaneIx) (g : LaneIx) (v : W32)
  /-- RECAL (R379): Write of RECAL, which starts idle calibration of a gate or is refused. -/
  | recal (f : LaneIx) (g : LaneIx)
  /-- DUTY_COMMIT (R419): Direct-mode write of COMMIT, which loads all three shadow duties at the next PWM reload. -/
  | dutyCommit (f : LaneIx) (n : Oct) (dw : BitVec 14)
  /-- FLT_INJ_ARM (R504): Write of ARM, which injects inverted check data into one checker or is refused. -/
  | fltInjArm (f : LaneIx) (v : W32)
  /-- PERS_CLEAR (R497): Write-1-to-clear of a source's PERS bit, which clears PERSISTENT and discards its recovery times. -/
  | persClear (f : LaneIx) (src : Fin 32)
  /-- PREC_ENABLE (R307): Write of PREC_CTL.EN = 1, which enables the product record ring with TAIL 0 and PHASE 1. -/
  | precEnable (f : LaneIx) (v : W32)
  /-- PREC_DISABLE (R307): Write of PREC_CTL.EN = 0, which disables the ring after any record being written. -/
  | precDisable (f : LaneIx)
  /-- REGISTER_WRITE (R13): 4-byte write, or with `high` an aligned 8-byte write of a pair (R18), to a register that has no row of its own, acting under its access code, with virtual-function filtering. -/
  | registerWrite (f : LaneIx) (a : Bar0) (v : RegData)
  /-- COMPLETER_ABORT (R18): BAR0 access of any size, of which a malformed one is completed with Completer Abort and logged through AER. -/
  | completerAbort (f : LaneIx) (a : Bar0) (size : Nat) (dir : AccessDir)
  /-- HUNG_ACCESS_COMPLETE (R77): Completion of a register access held while its target domain's clock was stopped, once the clock runs. -/
  | hungAccessComplete (rq : Requester)
  /-- CONVENTIONAL_RESET (R88): PERST_N, hot reset or link-down, which resets the HOST and FEED domains while lanes keep printing. -/
  | conventionalReset (cause : PcieReset)
  /-- FLR (R177): Function-level reset, which makes a lane reset of that lane with no completion entry. -/
  | flr (f : LaneIx)
  /-- NUMVFS_WRITE (R142): Configuration write that clears VF Enable or lowers NumVFs, which lane-resets each lane that leaves the bus. -/
  | numvfsWrite (en : Bool) (num : BitVec 16)
  /-- D3HOT_ENTRY (R120): Entry of a function into D3hot, which blocks its BAR accesses and holds its MSI-X messages. -/
  | d3hotEntry (f : LaneIx)
  /-- D0_RETURN (R120): Return of a function to D0, which restores access and sends held messages. -/
  | d0Return (f : LaneIx)
  /-- HOST_READ_ERROR (R534): Error completion or timeout on a command's host read, which ends the command with BAD-PARAM 0xFFFF. -/
  | hostReadError (r : ReadFor) (cause : BusError)
  /-- DESCRIPTOR_ARRIVAL (R185): Arrival of a fetched feed descriptor, which is checked for ownership and validity. -/
  | descriptorArrival (r : RingIx) (raw : BitVec 512)
  /-- CHANNEL_START (R191): Start of a feed channel once its ring qualifies and enough requests are pending, taking all its requests. -/
  | channelStart (e : LaneIx)
  /-- READ_COMPLETION (R189): Arrival of feed read data, which the funnel packs into bursts and writes into the bank. -/
  | readCompletion (e : LaneIx) (data : List Byte)
  /-- BURST_ACK (R190): Bank acknowledgement of every write of a burst, which advances the request line's write pointer. -/
  | burstAck (e : LaneIx)
  /-- CHANNEL_COMPLETE (R193): Completion of a channel's bursts, followed by a two-part write-back and a CIDX advance. -/
  | channelComplete (e : LaneIx)
  /-- BUS_ERROR_STOP (R195): Stop of a feed engine after an error completion on any of its reads. -/
  | busErrorStop (e : LaneIx) (cause : BusError) (r : RingIx) (addr : W64)
  /-- CREDIT_WINDOW (R208): Start of a bank credit window, which refills every consumer's reservation. -/
  | creditWindow (b : BankReads)
  /-- SCRUB_READ (R218): Scrub read of one bank block, which writes back a corrected block. -/
  | scrubRead (b : CellIx) (ecc : Ecc)
  /-- ROW_REPAIR (R219): Soft repair that copies a failing row to a spare row and remaps it. -/
  | rowRepair (b : CellIx) (row : Fin 1024)
  /-- CONFIG_CHECK (R224): Periodic recomputation of the active copies' CRCs and resolution of the set. -/
  | configCheck (c : CellIx)
  /-- DATA_LINE_START (R228): Start of the pipeline on data line m once it is complete, its predecessor has left stage 8 and an output slot is free. -/
  | dataLineStart (c : CellIx) (ecc : List (BlockIx × Ecc))
  /-- DATA_LINE_PROCESSED (R250): Exit of a data line from stage 8 into its output-ring slot. -/
  | dataLineProcessed (c : CellIx)
  /-- EXCHANGE_ARRIVAL (R238): Arrival of a neighbour's edge levels and error share for a data line. -/
  | exchangeArrival (c : CellIx) (side : Side) (m : Nat)
  /-- TAKEOVER_FAIL (R265): Failure of a takeover before the link swap, which returns the spare to FREE and ends the command with HW-FAULT. -/
  | takeoverFail (c : CellIx)
  /-- SELFTEST_TICK (R266): Timer every 125 ms that starts the self-test of the next cell of a quadrant. -/
  | selftestTick (q : Fin 4)
  /-- SELFTEST_DONE (R267): End of a cell's 20 ms self-test, which refills and returns it or retires it. -/
  | selftestDone (c : CellIx) (pass : Bool)
  /-- CELL_BOUNDARY_TIMER (R310): 1 ms fallback line boundary of a cell that decides no line but applies waiting changes. -/
  | cellBoundaryTimer (c : CellIx)
  /-- ENCODER_EDGE (R277): Accepted A or B edge, which updates the raw count and applies the deadband rule. -/
  | encoderEdge (n : Oct) (a b : Bool) (t : Tick)
  /-- PAIR_FAULT (R276): Encoder pair held within ±200 mV for 1,200 ticks, which stops edges and sets PAIRFLT. -/
  | pairFault (n : Oct) (pair : EncPair)
  /-- INDEX (R280): Accepted rising edge of Z, which counts a lap and may re-base the reported position. -/
  | index (n : Oct)
  /-- SPEED_WINDOW (R282): End of an encoder speed window, which updates SPD. -/
  | speedWindow (n : Oct) (t : Tick)
  /-- STILL (R282): 100 ms without a confirmed edge, which sets SPD to 0 and STILL. -/
  | still (n : Oct)
  /-- EDGE_LEARN (R313): Pacer learning a confirmed edge 32 ticks after its stamp and classing it as on time or early. -/
  | edgeLearn (p : Oct)
  /-- EDGE_OVERDUE (R313): Expiry of the deadline for the next edge in TRACK, which causes a false start and WAIT. -/
  | edgeOverdue (p : Oct)
  /-- PACER_LINE_BOUNDARY (R309): Tick at which the prediction reaches a line boundary, where Pacer-level changes take effect. -/
  | pacerLineBoundary (p : Oct)
  /-- PACER_MARK (R310): 1 ms mark at which changes waiting for a Pacer boundary take effect while no boundary falls. -/
  | pacerMark (p : Oct)
  /-- FILL_TIMER (R42): 1 ms computation of F and the data-late limit while the web is stopped. -/
  | fillTimer (p : Oct)
  /-- STROBE_COMMIT (R321): Commit tick of a line's strobe on a link, where it is committed or sent to the release rule. -/
  | strobeCommit (l : LinkIx)
  /-- STROBE_RELEASE (R322): Release of a strobe that was not committed at its commit tick, on time or late, at its release tick. -/
  | strobeRelease (l : LinkIx)
  /-- STROBE_DROP (R322): Drop of a strobe at the first tick at which its lateness can no longer stay within LATEMAX. -/
  | strobeDrop (l : LinkIx)
  /-- LATCH_LOAD (R316): Sending of a line's LATCH-LOAD frame once the last sub-strobe of line n − 2 on that link has executed. -/
  | latchLoad (l : LinkIx)
  /-- LL_ACK (R348): Receipt of an LL-ACK frame, which completes the LATCH-LOAD or triggers one resend. -/
  | llAck (l : LinkIx) (frame : RxFrame)
  /-- LL_ACK_TIMEOUT (R348): Expiry of the LL-ACK wait, which resends the LATCH-LOAD once. -/
  | llAckTimeout (l : LinkIx)
  /-- REFERENCE_LOSS (R300): Qualification of an encoder reference as lost, which starts a switch-down. -/
  | referenceLoss (p : Oct) (r : EncRef) (cause : LossCause)
  /-- REFERENCE_REQUALIFIED (R302): 1,024 consecutive valid edges, which make a requalifying encoder QUALIFIED. -/
  | referenceRequalified (p : Oct) (r : EncRef)
  /-- DRLIM (R333): Expiry of the dead-reckoning limit, which makes the reference NONE. -/
  | drlim (p : Oct)
  /-- TRIGGER_EDGE (R283): Accepted trigger edge, which latches chain time and position and acts as a start or stop edge of windows. -/
  | triggerEdge (tr : LaneIx) (fall : Bool) (t : Tick)
  /-- PRODUCT_RECORD (R297): Writing of a window's product records once all of its lines are decided, followed by event 376 + p. -/
  | productRecord (p : Oct)
  /-- LINK_TRAINING (R356): Head-link training from detection of signal energy through latency, identification, loading and sync to UP. -/
  | linkTraining (l : LinkIx) (tr : HeadTrain)
  /-- LONG_RETRY (R354): Retry of training every 100 ms for a link in LONG. -/
  | longRetry (l : LinkIx)
  /-- HEAD_LINK_DOWN (R357): Loss of an UP head link through code errors, signal loss, STATUS silence or a head fault. -/
  | headLinkDown (l : LinkIx) (cause : DownCause)
  /-- STATUS (R345): Receipt of a head STATUS frame carrying temperature, faults, sync difference and lost strobes. -/
  | status (l : LinkIx) (frame : RxFrame)
  /-- HL_TIME_SYNC (R355): Sending of a TIME-SYNC frame to the head every 1 ms. -/
  | hlTimeSync (l : LinkIx)
  /-- CONFIG_RESEND (R361): Resend of CONFIG and WAVE-LOAD frames after CFGSEQ has not advanced for 200 µs. -/
  | configResend (l : LinkIx)
  /-- GOVERNOR_RELEASE (R370): Release of a link's derate request after RELEASE × 10 ms without excess. -/
  | governorRelease (l : LinkIx)
  /-- GATE_PULSE (R377): Pulse on a photo-finish gate, classed by width as ignored, a crossing or blocked. -/
  | gatePulse (g : LaneIx) (rise : Tick) (fall : Tick)
  /-- GATE_CAL_END (R379): End of a gate's 32 ms idle calibration, which sets MINW or BLOCKED. -/
  | gateCalEnd (g : LaneIx)
  /-- TEST_LINE (R381): Test clock of period SPACING in CONFIGURED that places a test line. -/
  | testLine (c : CellIx)
  /-- TEST_WINDOW_CLOSE (R386): Close of a test's acceptance window, which takes a hit or no-hit outcome. -/
  | testWindowClose (g : LaneIx)
  /-- TEMP_INTERP (R394): 1 ms interpolation of CDLY, HDLY and TFNOM from the temperature sets. -/
  | tempInterp (c : CellIx)
  /-- TF_STEP (R395): 1 ms step of TF toward its target while the lane prints. -/
  | tfStep (c : CellIx)
  /-- QUAD_CAL_END (R396): End of a quad's 40 ms power-up calibration. -/
  | quadCalEnd (k : QuadIx)
  /-- LOOP_PERIOD (R411): Motor loop and PWM period, which moves REF at the slew, applies limits and reloads duties. -/
  | loopPeriod (n : Oct) (m : MotorMeas)
  /-- MOTOR_START (R420): Start sequence of a READY channel through check, align and ramp to handoff and RUN. -/
  | motorStart (n : Oct) (spd : Int) (handoff : Bool)
  /-- START_ATTEMPT_FAIL (R421): Failure of a start attempt, which retries or enters FAULT. -/
  | startAttemptFail (n : Oct)
  /-- START_RETRY_GAP (R421): End of the 100 ms gates-off gap after a failed attempt, which starts again. -/
  | startRetryGap (n : Oct)
  /-- STOP_COMPLETE (R423): Speed falling below ZSPD during a brake or coast, which ends the stop or reversal. -/
  | stopComplete (n : Oct)
  /-- BRAKE_TIMEOUT (R424): Short brake not below ZSPD within 5 s, which enters FAULT. -/
  | brakeTimeout (n : Oct)
  /-- PORT_TRAINING (R435): Chain port training through lock, deskew, HELLO and latency measurement. -/
  | portTraining (x : PortIx) (tr : PortTrain)
  /-- PORT_DOWN (R435): Chain port going DOWN after a loss of lane lock or of HELLO frames. -/
  | portDown (x : PortIx)
  /-- HELLO_SEND (R435): Sending of a HELLO frame every 100 µs. -/
  | helloSend (x : PortIx)
  /-- HELLO (R433): Receipt of a HELLO frame, which gives the partner's identity and role or shows MISWIRED. -/
  | hello (x : PortIx) (h : Hello) (crcOk : Bool)
  /-- PRL_FRAME (R439): Arrival of a PRL frame, which the relay delivers locally, forwards, strips or discards. -/
  | prlFrame (x : PortIx) (frame : List Byte) (codeOk : Bool)
  /-- PRL_TIME_SYNC (R444): Receipt of a chain TIME-SYNC, which forms the counter offset and may reload the counter. -/
  | prlTimeSync (x : PortIx) (src : BitVec 16) (time : W64) (corr : BitVec 48) (arrival : Tick)
  /-- PROBE_SEND (R448): Sending of a PROBE by the baton holder every 1 ms, and removal of members that missed three replies. -/
  | probeSend
  /-- PROBE (R434): Receipt of a PROBE, answered with PROBE-REPLY and carrying ring state, lead and levels. -/
  | probe (x : PortIx) (src : BitVec 16) (b : ProbeBody) (arrival : Tick)
  /-- PROBE_REPLY (R448): Receipt by the baton holder of a member's reply, from which delays and misses are taken. -/
  | probeReply (src : BitVec 16) (b : ReplyBody) (arrival : Tick)
  /-- JOIN (R447): Receipt by the baton holder of a JOIN, granted or refused by JOIN-REPLY. -/
  | join (id : W64) (req : BitVec 16) (level : Byte)
  /-- JOIN_REPLY (R447): Receipt of a JOIN-REPLY, which makes the unit a MEMBER or refuses its address. -/
  | joinReply (id : W64) (addr : BitVec 16)
  /-- JOIN_TIMEOUT (R447): 5 ms without a PROBE after CHAIN-JOIN, which takes the baton of a new chain. -/
  | joinTimeout
  /-- REGISTER (R452): Receipt by the baton holder of a change registered for an epoch. -/
  | register (src : BitVec 16) (ep : EpochIx) (levelKind : Bool) (level : Byte)
  /-- PREPARE (R455): Receipt of PREPARE for an epoch, answered with READY, NONE or NOT-READY. -/
  | prepare (ep : EpochIx) (level : Byte)
  /-- ACK (R454): Receipt by the baton holder of an ACK, which broadcasts COMMIT once all are READY or NONE. -/
  | ack (src : BitVec 16) (ep : EpochIx) (res : AckRes)
  /-- COMMIT (R454): Receipt of COMMIT for an epoch, which arms the change for application at E. -/
  | commit (ep : EpochIx)
  /-- CANCEL (R455): Receipt of CANCEL for an epoch, which completes its changes with EPOCH-CANCELLED or ends a hold. -/
  | cancel (ep : EpochIx) (cause : CancelCause)
  /-- EPOCH_BOUNDARY (R454): Start of an epoch, at which TIME-SYNC, PREPARE, deadline cancels, baton handovers and due changes are sent or applied. -/
  | epochBoundary (ep : EpochIx)
  /-- BATON_REQ (R449): Receipt by the holder of a baton request, gathered for a grant at the end of the epoch. -/
  | batonReq (src : BitVec 16) (id : W64)
  /-- BATON_MOVE (R449): Receipt of a BATON-MOVE naming the new holder and the handover epoch. -/
  | batonMove (id : W64) (ep : EpochIx)
  /-- TIME_SYNC_LOSS (R450): 5 ms without a TIME-SYNC, which starts CLAIM broadcasts. -/
  | timeSyncLoss
  /-- CLAIM (R450): Receipt of a CLAIM, which stops claiming when its ID is lower. -/
  | claim (id : W64)
  /-- CLAIM_TIMER (R450): 1 ms repeat of CLAIM, and baton take-over after 3 ms without a lower ID. -/
  | claimTimer
  /-- FW_BLOCK (R462): Receipt of an image block from a chain neighbour during a chain firmware fetch. -/
  | fwBlock (off : Nat) (data : List Byte)
  /-- ALERT (R459): Receipt by the baton holder of a port-down alert, which marks the ring OPEN and rebroadcasts epoch frames. -/
  | alert (src : BitVec 16) (port : PortIx)
  /-- DISC_LOCKED (R58): Frequency error below 0.05 ppm for 100 ms, which moves discipline to LOCKED. -/
  | discLocked (err : Int)
  /-- DISC_UNLOCKED (R58): Frequency error above 0.2 ppm for 10 ms, which leaves LOCKED. -/
  | discUnlocked (err : Int)
  /-- HK_ROUND_START (R470): Start of a slow or fast housekeeping measurement round. -/
  | hkRoundStart
  /-- HK_ROUND_END (R471): End of a round, at which readings, levels and their actions take effect together. -/
  | hkRoundEnd (m : HkMeas)
  /-- GRACE_EXPIRY (R475): End of a throttle request's grace, which enforces the target in PACER_THRp. -/
  | graceExpiry (p : Oct)
  /-- RSTEP_EXPIRY (R475): RSTEP after a request with a sensor still at THROTTLE, which lowers the target again. -/
  | rstepExpiry (p : Oct)
  /-- THROTTLE_RELEASE (R476): HOLD passed below threshold, which closes the request and lifts the thermal limit. -/
  | throttleRelease (p : Oct)
  /-- LADDER_HOLD (R473): HOLD elapsed below THROTTLE, which moves a quad one rung up. -/
  | ladderHold (k : QuadIx)
  /-- COLD_POWER_UP (R83): VIN12 passing 10.0 V or PRST_N released, which runs the power-up sequence to HWRDY. -/
  | coldPowerUp (cause : ColdCause) (lock : Bool)
  /-- PLL_LOCK_RETRY (R84): Retry of root PLL lock every 10 ms while lock has not been reached at power-up. -/
  | pllLockRetry (lock : Bool)
  /-- POWER_FAIL (R101): VIN12 falling below 9.5 V, which opens the switch, sheds load and runs on stored energy. -/
  | powerFail
  /-- PRST_N_PULSE (R89): Low pulse on PRST_N, which is ignored when short and causes a cold reset at 10 µs or more. -/
  | prstNPulse (ns : Nat)
  /-- ROOT_PLL_UNLOCK (R56): Loss of root lock, which stops all divided clocks and is a DEVICE-CRITICAL fault. -/
  | rootPllUnlock
  /-- RELOCK_RESTART (R501): Return of root lock, which restarts every domain but AON and META with lanes in IDLE. -/
  | relockRestart
  /-- TAP_INSTRUCTION (R116): Load of a boundary-scan instruction, of which the pin-taking ones stop the part until a cold reset. -/
  | tapInstruction (code : Byte)
  /-- FAULT_REPORT (R488): Fault from a checker, classed and acted on at once, with its record written. -/
  | faultReport (src : Fin 32) (cls : FaultClass) (inst : BitVec 16) (detail : W64) (t : Tick)
  /-- RECORD_WRITE_DONE (R491): Completion of a fault record write after 16 HKCLK cycles. -/
  | recordWriteDone
  /-- QUIET_EXPIRY (R496): End of a source's quiet period, at which the source recovers. -/
  | quietExpiry (src : Fin 32)
  /-- WATCHDOG_EXPIRY (R499): Thinis watchdog not serviced for 20 ms, which swaps or resets the core. -/
  | watchdogExpiry (core : CoreIx)
  /-- LOCKSTEP_MISMATCH (R499): Lockstep compare failure in a Thinis core, which swaps or resets the core. -/
  | lockstepMismatch (core : CoreIx)
  /-- STANDBY_RELOAD_DONE (R499): Completion of the failed core's reset and reload, after which it is standby. -/
  | standbyReloadDone
  /-- ALIVE_TOGGLE (R502): Toggle of ALIVE every 500 µs while no DEVICE-CRITICAL fault is outstanding. -/
  | aliveToggle
  /-- BOOT_EPOCH_PROGRAM (R514): Programming of the next boot-epoch bit at the first slow round within the programming window. -/
  | bootEpochProgram (ok : Bool)
  /-- SEAL (R519): Sealing of a closed period's record with an HMAC, followed by the final entry and event 372. -/
  | sealStep
  /-- CHAINBOOT_FETCH (R512): Boot ROM fetch of an image from a chain neighbour, 100 ms after HWRDY and then every 1 s. -/
  | chainbootFetch
  /-- REGULATOR_READY (R66): A quad or domain regulator reports that it has reached its new voltage, after which a waiting clock rise or clock start takes place. -/
  | regulatorReady (d : DomainIx)
  /-- DIVIDER_CHANGE_DONE (R66): A divider or skip change takes effect within 1,200 ticks, after which the next change in the ordered sequence (the quad after its neighbours) is made. -/
  | dividerChangeDone (k : QuadIx)
  /-- PAIR_FAULT_END (R276): An encoder pair's differential voltage leaves the ±200 mV band, so PAIRFLT clears and the pair yields edges again. -/
  | pairFaultEnd (n : Oct) (pair : EncPair)
  /-- ZERO_LENGTH_READ_DONE (R136): The completion, or completion timeout, of the zero-length read issued behind a lane's last write, after which the lane-reset completion is posted and the lane enters IDLE. -/
  | zeroLengthReadDone (lane : LaneIx) (ok : Bool)
  /-- COMMAND_READ_DONE (R258): Successful completion of a host memory read issued for a command or a refill (image re-read at commit, patch images, temperature-set buffer, table refill), after which the command goes on. -/
  | commandReadDone (r : ReadFor) (data : List (List Byte))
  /-- TAKEOVER_COPY_DONE (R263): The table-memory and bank copy of a takeover or return completes, after which the spare runs in step and awaits the link swap. -/
  | takeoverCopyDone (c : CellIx) (ecc : List (BlockIx × Ecc))
  /-- CORE_SWAP_DONE (R172): The standby core takes over after a planned swap, resumes every handle, clears PAUSED and posts the final entry of FW-ACTIVATE or CORE-SWAP, raising event 348. -/
  | coreSwapDone
  /-- FUSE_PULSE_DONE (R510): A 20 µs programming pulse of an OTP bit ends, followed by the verify and margin reads, a repeat pulse, or the next bit after a window check. -/
  | fusePulseDone (ok : Bool)
  /-- MOTOR_CAL_DONE (R409): A channel's current-offset calibration ends after 4,096 decimator outputs, setting the offsets or failure flags and posting the final entry of MOTOR-CAL. -/
  | motorCalDone (n : Oct) (a : CalInput) (b : CalInput)
  /-- PERST_N_DEASSERT (R83): PERST_N is deasserted, and PCI Express link training starts toward L0 at the trained width. -/
  | perstNDeassert (width : LinkWidth)
  /-- INJECTION_END (R504): The 10 ms of an injected PLL unlock runs out, and the source 10 condition ends so that its quiet period can start. -/
  | injectionEnd
deriving DecidableEq, Repr

end Sys2Proof
end

