-- ==== Sys2Proof/Decode.lean ====
section
/-! DEFINITION. Command packets (R155, R168), and the commands that a word spells by the bits of spec/opcode_table.json. Every row of that table
has an empty list of fields ("fields": []): it gives no row a bit, so no word spells a command by it. A command reaches the block as a term of
Instr. -/

namespace Sys2Proof

/-- The command that the word w of nbits bits spells by the table's bits: none, since the table gives no row any bits. -/
def decodeTableWord (_nbits _w : Nat) : Option Instr := none

/-- The opcodes of the device and lane classes (R168). -/
def deviceRows : List (BitVec 16 × (LaneIx → Packet → Instr)) :=
  [(0x0000, Instr.identify), (0x0001, Instr.getLog), (0x0002, Instr.deviceStatus), (0x0100, Instr.nop), (0x0101, Instr.laneReset), (0x0102,
   Instr.quadAssign), (0x0103, Instr.laneStatus), (0x0104, Instr.handleQuery), (0x0105, Instr.abort)]
/-- The opcodes of the configuration and print classes (R168). -/
def printRows : List (BitVec 16 × (LaneIx → Packet → Instr)) :=
  [(0x0200, Instr.configLoad), (0x0201, Instr.configCommit), (0x0202, Instr.configPatch), (0x0203, Instr.configReload), (0x0204,
   Instr.configRead), (0x0205, Instr.configDiscard), (0x0300, Instr.printStart), (0x0301, Instr.printStop), (0x0302, Instr.setSpeed), (0x0303,
   Instr.setCeiling), (0x0304, Instr.windowArm)]
/-- The opcodes of the calibration, motor and chain classes (R168). -/
def plantRows : List (BitVec 16 × (LaneIx → Packet → Instr)) :=
  [(0x0400, Instr.alignSet), (0x0401, Instr.spitTest), (0x0402, Instr.tempsetLoad), (0x0403, Instr.nozzleMark), (0x0404, Instr.servoCtl),
   (0x0500, Instr.motorBind), (0x0501, Instr.motorEnable), (0x0502, Instr.motorStop), (0x0503, Instr.motorCal), (0x0600, Instr.chainStatus),
   (0x0601, Instr.chainJoin), (0x0602, Instr.batonRequest), (0x0603, Instr.relayOnly), (0x0604, Instr.levelEnable)]
/-- The opcodes of the metering, fuse, service and firmware classes (R168). -/
def serviceRows : List (BitVec 16 × (LaneIx → Packet → Instr)) :=
  [(0x0700, Instr.meterRead), (0x0701, Instr.periodClose), (0x0702, Instr.recordRead), (0x0800, Instr.fuseRead), (0x0801, Instr.fuseProgram),
   (0x0802, Instr.fuseLock), (0x0900, Instr.domainReset), (0x0901, Instr.domainCycle), (0x0902, Instr.spareTakeover), (0x0903,
   Instr.spareReturn), (0x0904, Instr.selftestCtl), (0x0905, Instr.feedRestart), (0x0906, Instr.faultClear), (0x0A00, Instr.fwLoad), (0x0A01,
   Instr.fwActivate), (0x0A02, Instr.coreSwap), (0x0A03, Instr.fwInfo)]
/-- The opcodes of R168 and their commands. -/
def commandRows : List (BitVec 16 × (LaneIx → Packet → Instr)) := deviceRows ++ (printRows ++ (plantRows ++ serviceRows))

/-- The command that the 64 bytes of a packet in the ring of queue q hold, byte 0 lowest (R155, R168): OPCODE in bytes 0 and 1, LANE in byte 2,
FLAGS in byte 3, TAG in bytes 4 to 7; none where the OPCODE is of no row (R156 check 1). -/
def readPacket (q : LaneIx) (raw : BitVec 512) : Option Instr :=
  (commandRows.find? (fun e => decide (e.1 = raw.extractLsb' 0 16))).map (fun e => e.2 q
    { lane := raw.extractLsb' 16 8, flags := raw.extractLsb' 24 8, tag := raw.extractLsb' 32 32, param := raw.extractLsb' 64 448 })

/-- The 64 bytes of a packet (R155). -/
def packetBytes (op : BitVec 16) (p : Packet) : BitVec 512 := p.param ++ p.tag ++ p.flags ++ p.lane ++ op

end Sys2Proof
end

