-- ==== Sys2Proof/Config.lean ====
section
/-! DEFINITION. What the spec leaves open, as constants with no body: nothing in Lean can evaluate one of them, so a claim
holds whatever its value is. Each is named in a row of notes/assumptions. -/

namespace Sys2Proof

/-- Byte `off` of the `n`-th status buffer the part writes for a command whose buffer layout the spec does not give
(IDENTIFY, DEVICE-STATUS, LANE-STATUS, CHAIN-STATUS, FW-INFO, CONFIG-READ: R168, R169). FREE VALUE, log entry 3. -/
opaque Config.bufferByte : Nat → Nat → Byte

/-- Whether the `n`-th PRST_N pulse of 1 µs to 10 µs causes a cold reset: R89 says it is not defined.
FREE VALUE, log entry 4. -/
opaque Config.prstShortPulse : Nat → Bool

/-- The `n`-th value the spec states no result for where the part goes on (each use is named in log entry 6). -/
opaque Config.freeWord : Nat → W64

/-- What the word at an offset of the working state (R251) is, whose layout the spec does not give: below 128 the detected-missing bits of
nozzles 32 i to 32 i + 31, 128 and 129 the exchange buffers of the left and right edge, 130 CELL_CLINES, 131 CELL_CONC, 132 to 137 the
other counters of the cell (CELL_XCHG, CELL_SCHCNT, CELL_SVCNT0, CELL_SVCNT1, CELL_TESTS, CELL_NOHITS), 160 to 223 the scheduler entries of its two
links, else none of these. FREE VALUE, log entry 70. -/
opaque Config.workingWord : Nat → Nat

/-- Bit `i` of the boundary register (R114) after its `n`-th capture: the spec lists no cells of it. FREE VALUE, log entry 80. -/
opaque Config.boundaryBit : Nat → Nat → Bool

/-- Result of a division of R282, R386 or R387 whose divisor is 0: the spec states no value.
FREE VALUE, log entry 6. -/
opaque Config.divByZero : Nat → Nat

end Sys2Proof
end

