-- ==== Sys2Proof/Machine/State.lean ====
section
/-! DEFINITION. The state of the WZ9600 as plain data. A register that the part has many of (rings, cells, links, encoders ...) is a
table that lists, by rising index, only the copies that differ from their reset value; what an unlisted copy holds is the reset
function of that kind in Machine/Ops.lean. Each structure names the chapter and rules of spec/ it follows. -/

namespace Sys2Proof.Machine

/-- A sparse array: (index, value) pairs with strictly rising indexes, none equal to its reset value. -/
abbrev Tab (α : Type) := List (Nat × α)

/-- Addressed memory: strictly rising addresses (Host.Cell). -/
abbrev Memory := List Host.Cell

/-! ### What leaves the part -/

/-- The edges of one phase in a PWM period, in PWMCLK cycles from its start, the valley (R107, R417): the low gate is on in [lowOn, lowFall) and from
lowRise to the end, the high gate in [highRise, highFall). `highEnd` says that the high side stays on across the end. -/
structure PwmEdges where
  lowOn    : Nat
  lowFall  : Nat
  highRise : Nat
  highFall : Nat
  lowRise  : Nat
  highEnd  : Bool
deriving DecidableEq, Repr

/-- What the part sends outward, newest first in `State.out`: MSI-X messages (R144), the bytes of head-link frames from TYPE through the check
field (R344) and of chain frames (R436), the answer to a BATON-REQ that lost (R449, for which R438 gives no type), motor gate edges (R107) and
the reads of the feed engines (R188), with their relaxed-ordering attribute (R117). It is the model's own record of the wires, not a register. -/
inductive Out where
  | msix (f : Nat) (vec : Nat)
  | head (link : Nat) (frame : List Byte)
  | prl (ports : List Nat) (frame : List Byte)
  | prlBroken (ports : List Nat) (frame : List Byte)
  | roleContended (ports : List Nat) (dst : BitVec 16)
  | pwm (motor : Nat) (u v w : PwmEdges) (sample : Option Nat)
  | feedRead (engine : Nat) (addr : Nat) (len : Nat) (relaxed : Bool)
deriving DecidableEq, Repr

/-! ### Host interface, lanes and events (chapters 0, 4, 5, 6, 9) -/

/-- A requester's 64-bit shadow (R17), with the position word of a latch set (R284). -/
structure Shadow where
  high : Nat
  val  : W32
  pos  : Option W32
deriving DecidableEq, Repr

/-- An MSI-X table entry (R143). -/
structure Vec where
  addr : W64
  data : W32
  mask : Bool
deriving DecidableEq, Repr

/-- What the AER header log keeps of a request (R117): read or write, its address and its length in bytes (log entry 79). -/
structure Tlp where
  write : Bool
  addr  : Nat
  len   : Nat
deriving DecidableEq, Repr

/-- An error in a function's AER log (R120). -/
inductive Aer where
  | completerAbort (t : Tlp)
  | unsupported (t : Tlp)
  | poisoned | timeout | readUr | readCa
  | internal
deriving DecidableEq, Repr

/-- A packet whose OPCODE is of no row (R156 check 1): its index in the queue, its TAG and its FENCE. -/
structure Unknown where
  index : BitVec 12
  tag   : W32
  fence : Bool
deriving DecidableEq, Repr

/-- A host access, held while it hangs on a stopped clock (R77): a 4-byte access of a register of BAR0, an 8-byte access of a register
pair (R18), an SQ_TAIL doorbell with the packets it brings whose OPCODE is of no row (R151, R156), a malformed access of BAR0 (R18), or
one through a debug window (R129). -/
inductive HeldAcc where
  | reg (addr : Nat) (write : Bool) (value : W32)
  | pair (addr : Nat) (write : Option W64)
  | tail (lane : Nat) (value : W32) (unknown : List Unknown)
  | bad (t : Tlp)
  | dbgRead (i off len : Nat) (ecc : List (BlockIx × Ecc))
  | dbgWrite (i off : Nat) (data : List Byte) (ecc : List (BlockIx × Ecc))
deriving DecidableEq, Repr

/-- A completion entry but for SQHEAD and PHASE, which it takes when it is posted (R158). -/
structure Entry where
  tag    : W32
  handle : W32
  status : BitVec 16
  detail : BitVec 16
  hv     : Bool
  final  : Bool
deriving DecidableEq, Repr

/-- A command that is taken and waits for the handles its lane held then (R161): its row's OPCODE and packet, none where the OPCODE is
of no row, and its TAG. -/
structure Fenced where
  cmd     : Option (BitVec 16 × Packet)
  tag     : W32
  handles : List W32
deriving DecidableEq, Repr

/-- What one PCI Express function holds: its base address registers (the physical function's, R126), the read size and the relaxed-ordering enable
of its Device Control (R117), its power state and MSI-X
state (R120, R143), its shadow (R17), its AER log, its queue pair (R149) with the packets in it of no row and the command that a FENCE holds (R156,
R161), its product record ring (R307), its ring window (R204) and its accesses that hang (R77). `rdata` is the data of the last register
read completed, `dbgData` of the last debug-window read (R129). -/
structure HostFn where
  bar0     : W64
  bar2     : W64
  mrrs     : BitVec 3
  relaxed  : Bool
  unknown  : List Unknown
  fence    : Option Fenced
  d3       : Bool
  msixEn   : Bool
  maskAll  : Bool
  vecs     : Tab Vec
  pba      : BitVec 128
  stray    : W32
  shadow   : Option Shadow
  rdata    : W64
  dbgData  : List Byte
  aer      : List Aer
  held     : List HeldAcc
  sqBase   : W64
  cqBase   : W64
  sqLog    : BitVec 4
  cqLog    : BitVec 5
  en       : Bool
  cfgErr   : Bool
  sqErr    : Bool
  cqErr    : Bool
  phase    : Bool
  cqTail   : BitVec 16
  cqHead   : BitVec 16
  sqHead   : BitVec 12
  sqTail   : BitVec 12
  next     : BitVec 28
  waiting  : List Entry
  wsel     : BitVec 16
  prBase   : W64
  prEn     : Bool
  prLog    : BitVec 4
  prPhase  : Bool
  prTail   : BitVec 16
  prSeq    : W32
  prLost   : W32
deriving DecidableEq, Repr

/-- The long operations (R533), with their parameters. -/
inductive OpKind where
  | configLoad (slot : Nat) (addr : W64) (len : Nat)
  | configCommit (slot : Nat) (ep : Nat)
  | configPatch (slot : Nat) (ep : Nat)
  | configReload
  | configRead
  | printStart (ep : Nat)
  | printStop (mode : Nat) (ep : Nat)
  | alignSet (link : Nat) (shift : Int) (ldly tdly : Nat) (ep : Nat)
  | spitTest (plane pattern rounds : Nat)
  | tempsetLoad (set : Nat) (addr : W64) (len : Nat)
  | motorEnable (n : Nat)
  | motorStop (n : Nat)
  | motorCal (n : Nat)
  | chainJoin (addr : BitVec 16)
  | batonRequest
  | levelEnable (level : Byte) (ep : Nat)
  | periodClose
  | fuseProgram
  | fuseLock
  | domainReset (d : Nat) (force : Bool)
  | domainCycle (d : Nat) (force : Bool)
  | spareTakeover (c s : Nat)
  | spareReturn (c s : Nat)
  | fwLoad (chain : Bool) (addr : W64) (len : Nat)
  | fwActivate
  | coreSwap
deriving DecidableEq, Repr

/-- An outstanding handle (R165): its value, the command's TAG, the queue it was issued on, the lane it acts on. -/
structure Op where
  handle : W32
  tag    : W32
  queue  : Nat
  target : Nat
  kind   : OpKind
deriving DecidableEq, Repr

/-- Lane states, in the code of GLB_LANESTSL.STATE (R124, R130). -/
inductive LaneSt where
  | idle | configured | print | resetting
deriving DecidableEq, Repr

/-- Where an image lies, as Thinis keeps it for refills (R257, R261): in the host memory of function `fn`. -/
structure ImgRef where
  fn   : Nat
  addr : W64
  len  : Nat
  crc  : W32
deriving DecidableEq, Repr

/-- A filled image slot (R257). -/
structure Slot where
  patch  : Bool
  ref    : ImgRef
  copies : List Copy
  cells  : List Nat
deriving DecidableEq, Repr

/-- A lane reset in progress (R136): the cells that have not reached their boundary, the engines still in a burst, the commands to answer
(queue, TAG, whether it started the reset: R140), the handles released, whether an FLR or a change of the functions on the bus takes part,
and the last line that a cell of the lane decided before it gave up the rest. -/
structure LaneReset where
  cells    : List Nat
  engines  : List Nat
  issuers  : List (Nat × W32 × Bool)
  released : Nat
  flr      : Bool
  upTo     : Option Int
deriving DecidableEq, Repr

/-- The velocity servo of one plane (R385). -/
structure Servo where
  vt : BitVec 16
  on : Bool
deriving DecidableEq, Repr

/-- A lane (R122, R124, R42, R43, R257-R261, R457). -/
structure Lane where
  st      : LaneSt
  locked  : Bool
  rate    : W32
  fill    : BitVec 16
  derate  : Bool
  starv   : W32
  slot0   : Option Slot
  slot1   : Option Slot
  comSlot : Option Nat
  image   : Option ImgRef
  inForce : List Copy
  patches : List ImgRef
  tsRefs  : List (Nat × ImgRef)
  hold    : Bool
  unhold  : Bool
  reset   : Option LaneReset
  servos  : Tab Servo
  stopping : Bool
  stopWin  : Nat
deriving DecidableEq, Repr

/-- What a waiting change does at its point of application (R170, R452). -/
inductive ChangeKind where
  | commit (slot : Nat)
  | patch (slot : Nat)
  | align
  | printStart
  | printStop (mode : Nat)
  | level (l : Byte)
deriving DecidableEq, Repr

/-- A QUAD-ASSIGN that waits for the rings it has disabled (R200): its TAG, the new lane and the quads. -/
structure Moving where
  tag   : W32
  lane  : Fin 16
  quads : List Nat
deriving DecidableEq, Repr

/-- A change waiting for its point of application (R452): its lane, its epoch (0: the next line boundary), the cells that have
still to make it, its handle, whether its checks have passed (`ready`), its state in the epoch protocol (R454-R456), and for
PRINT-STOP whether the windows have been dealt with (R294). -/
structure Change where
  lane      : Nat
  kind      : ChangeKind
  ep        : Nat
  cells     : List Nat
  handle    : W32
  ready     : Bool
  prepared  : Bool
  committed : Bool
  windows   : Bool
deriving DecidableEq, Repr

/-- Event block (R147): status and enable bits by source, and the mappings that differ from reset (FUNC, VEC). -/
structure Evt where
  stat : BitVec 384
  en   : BitVec 384
  maps : Tab (Nat × Nat)
deriving DecidableEq, Repr

/-! ### Feed engines (chapter 6) -/

/-- Ring states, in the code of FEED_RSTSr.STATE (R181, R204). -/
inductive RingSt where
  | disabled | run | stopped | error
deriving DecidableEq, Repr

/-- A descriptor as fetched (R184): the ring index it lies at, its fields, and the verdict of R187 (`bad`). -/
structure Desc where
  idx  : Nat
  base : W64
  sa   : Int
  sb   : Int
  sc   : Int
  span : Nat
  na   : Nat
  nb   : Nat
  nc   : Nat
  own  : Bool
  bad  : Bool
deriving DecidableEq, Repr

/-- A feed ring (R178-R183, R204): `err` and `burst` are coded as in FEED_RSTSr and FEED_WCFG. `stale` counts the descriptor fetches whose
data are to be discarded (R195). -/
structure Ring where
  st      : RingSt
  err     : BitVec 2
  pidx    : BitVec 12
  cidx    : BitVec 12
  base    : W64
  en      : Bool
  busy    : Bool
  refused : Bool
  burst   : BitVec 2
  log2    : BitVec 4
  line    : BitVec 4
  cell    : BitVec 8
  pre     : List Desc
  stale   : Nat
deriving DecidableEq, Repr

/-- A channel in service (R191-R193): a number of its own, its ring, and as it started, the function that owns the ring, the address of the
descriptor, the cell, the request line and the burst size; its descriptor, the bytes of its stream, those it ends after, those read so far,
the stream bytes received and not yet cut into a burst, the bytes received in all, the bursts written and those acknowledged. -/
structure Chan where
  id     : Nat
  ring   : Nat
  fn     : Nat
  at_    : Nat
  cell   : Nat
  line   : Nat
  burst  : Nat
  desc   : Desc
  total  : Nat
  limit  : Nat
  issued : Nat
  buf    : List Byte
  got    : Nat
  wrote  : Nat
  acked  : Nat
deriving DecidableEq, Repr

/-- An outstanding read of a feed engine (R188, R189): its channel and ring, its address, the bytes still to come, and whether they are to be
discarded (R195). -/
structure FeedRead where
  chan : Nat
  ring : Nat
  addr : Nat
  left : Nat
  dead : Bool
deriving DecidableEq, Repr

/-- A feed engine (R195, R204). `chans` are its channels in start order, `reads` its outstanding reads in the order of their completions;
`last` is the ring last started (round robin). -/
structure Engine where
  stopped : Bool
  chans   : List Chan
  reads   : List FeedRead
  nextId  : Nat
  last    : Nat
  cause   : Byte
  errRing : BitVec 16
  errAddr : W64
  stops   : W32
  bursts  : W32
deriving DecidableEq, Repr

/-- A request line of a cell (R27, R190, R229): the room in bytes that channels have taken and not yet filled, and the write pointer as
bytes written since the region was emptied. -/
structure ReqLine where
  taken : Nat
  wptr  : Nat
deriving DecidableEq, Repr

/-! ### Line store (chapter 7) -/

/-- A line-store bank's registers and repair state (R208-R225): the admitted reservation, the credits left in the window by
consumer, the error registers, the repaired rows by spare row, scrub (next block, pass, and by row the passes with a correction and
the last of them), the rows due for repair, and the uncorrectable blocks. -/
structure Bank where
  adm     : Bool
  limit   : BitVec 20
  sum     : BitVec 20
  resFeed : BitVec 16
  resPipe : BitVec 16
  resDbg  : BitVec 16
  resTko  : BitVec 16
  crFeed  : Nat
  crDbg   : Nat
  crScrub : Nat
  crTko   : Nat
  crData  : Nat
  crMask  : Nat
  crCont  : Nat
  defer   : W32
  ce      : BitVec 16
  ue      : BitVec 16
  eValid  : Bool
  eIsUe   : Bool
  eBlock  : BitVec 13
  lastRow : BitVec 10
  soft    : Byte
  fused   : Byte
  remap   : List (Nat × Nat)
  scrub   : Nat
  pass    : Nat
  hits    : Tab (Nat × Nat)
  due     : List Nat
  poison  : List Nat
deriving DecidableEq, Repr

/-! ### Cells (chapter 8) -/

/-- CELL_STS.SVC (R273). -/
inductive Svc where
  | inService | stoodIn | underTest | retired | free | copying | standingIn | spareTest | spareRetired
deriving DecidableEq, Repr

/-- A configuration copy in table memory (R222): its contents and whether its CRC checks. -/
structure StoredCopy where
  body   : Copy
  intact : Bool
deriving DecidableEq, Repr

/-- One nozzle of a processed line (R249): cell-local nozzle, drop level and wire code (both non-zero). -/
structure Drop where
  noz  : Nat
  lvl  : Nat
  code : Nat
deriving DecidableEq, Repr

/-- An output-ring slot (R250): the data line, its drops, the nozzles to be counted as concealed (R246), and the columns that an
uncorrectable block zeroed, but for those of these nozzles (R217). -/
structure RingSlot where
  m     : Nat
  drops : List Drop
  conc  : List Nat
  cols  : List Nat
deriving DecidableEq, Repr

/-- A contone row buffer (R232): the row, how many of its two halves it holds, its pixel values, the uncorrectable blocks that it was read from
(0-31), and whether the buffer failed (R255). -/
structure RowBuf where
  row    : Nat
  halves : Nat
  bytes  : List Byte
  bad    : List Nat
  lost   : Bool
deriving DecidableEq, Repr

/-- A refill of one cell (R255, R261, R266): whether the images and which temperature sets are still to be read again, whether it belongs to a
self-test, and whether a check has failed. -/
structure Refill where
  image  : Bool
  sets   : List Nat
  test   : Bool
  failed : Bool
deriving DecidableEq, Repr

/-- What a cell held before a commit wrote its tables, or, where not `whole`, a patch its waveforms, until the sets swap (R49, R258, R259). -/
structure Saved where
  whole  : Bool
  noz    : Tab W32
  waves  : Tab Wave
  servo  : Tab Byte
  det    : List Nat
  badNoz : List Nat
  erased : Bool
deriving DecidableEq, Repr

/-- A data line in stages 4-8 (R228): its screened levels by column (non-zero ones), the nozzles missing and the links down when it
entered stage 5 (R271, R358), the columns zeroed by uncorrectable blocks and the uncorrectable mask blocks (R217). -/
structure Pipe where
  m       : Nat
  levels  : List (Nat × Nat)
  missing : List Nat
  down    : List Nat
  zeroed  : List Nat
  maskUe  : List Nat
deriving DecidableEq, Repr

/-- An exchange value (R238): whether it has arrived, the side it comes from, the line, the error share, and the screened levels of
the sender's 64 edge columns by their distance from the common edge. -/
structure XVal where
  here : Bool
  side : Side
  m    : Nat
  err  : Int
  edge : List (Nat × Nat)
deriving DecidableEq, Repr

/-- The assignment of a Pacer line (R317): the data line it takes, if any, and whether it was starved (R43). -/
structure Assign where
  n       : Int
  m       : Option Nat
  starved : Bool
deriving DecidableEq, Repr

/-- A nozzle mark waiting for the cell's boundary (R254): nozzle, clear or mark, and the command to answer (queue, TAG). -/
structure Mark where
  noz   : Nat
  clear : Bool
  queue : Nat
  tag   : W32
deriving DecidableEq, Repr

/-- The CELL_PV snapshot (R340). -/
structure Pv where
  valid   : Bool
  st      : BitVec 2
  km1     : BitVec 2
  loaded  : Bool
  bank    : Bool
  data    : Bool
  starved : Bool
  line    : W64
  ts1     : W64
  dline   : W32
deriving DecidableEq, Repr

/-- A cell: service state (R262-R268, R273), table memory (R251-R254), pipeline (R226-R250), scheduler (R316-R318, R340) and
servo registers (R390-R394, R405). `lastCfg` is the copy that the cell used last, `gen` the generation of its copies (R222); `nozNext` the nozzle entries of a patch that waits for
its swap and `nozPend` those that the boundaries after it write (R259); `keptMasks` the mask areas that the last commit left as they
were (R248); `counted` the lines that CLINES has counted on one link and the other has still to decide (R324). -/
structure Cell where
  svc       : Svc
  server    : Nat
  tkoActive : Bool
  tkoStep   : BitVec 3
  tkoPeer   : Nat
  tkoBlocks : BitVec 14
  testHold  : Bool
  active    : List StoredCopy
  shadow    : List StoredCopy
  inUse     : Option Nat
  lastCfg   : Copy
  gen       : W32
  divergent : Bool
  noz       : Tab W32
  waves     : Tab Wave
  tsets     : Tab TempSet
  servo     : Tab Byte
  det       : List Nat
  badNoz    : List Nat
  nozNext   : List (Nat × W32)
  nozPend   : List (Nat × W32)
  saved     : Option Saved
  refill    : Option Refill
  keptMasks : List Nat
  rows      : List RowBuf
  marks     : List Mark
  swapDue   : Bool
  nextM     : Nat
  outM      : Nat
  pipe      : Option Pipe
  slots     : List RingSlot
  xin       : List XVal
  nextA     : Nat
  assign    : List Assign
  done      : List Nat
  relM      : Nat
  specN     : Int
  idleAt    : Nat
  counted   : List Int
  detUse    : List Nat
  skipM     : List Nat
  evt       : Byte
  clines    : W64
  conc      : W64
  lmiss     : BitVec 16
  rmiss     : BitVec 16
  ntsel     : BitVec 12
  tblCe     : BitVec 16
  tblUe     : BitVec 16
  bistV     : Bool
  bistP     : Bool
  bistFails : BitVec 12
  bistRuns  : BitVec 16
  schLate   : BitVec 16
  schDrop   : BitVec 16
  pvsel     : BitVec 9
  pv        : Pv
  govSp     : BitVec 11
  govPers   : Byte
  govRel    : Byte
  hlEvt     : BitVec 16
  throw     : BitVec 16
  vtol      : Byte
  noGate    : Bool
  purge     : List (W32 × Nat)
  cdly      : Int
  svUp      : BitVec 16
  svDown    : BitVec 16
  svSat     : BitVec 16
  svDets    : BitVec 16
  tests     : W32
  nohits    : W32
  erased    : Bool
deriving DecidableEq, Repr

/-! ### Head links (chapter 11) -/

/-- HL_STSi.STATE (R374). -/
inductive LinkSt where
  | down | detect | lock | align | latency | ident | load | sync | up | long
deriving DecidableEq, Repr

/-- The state of an undecided strobe, in the code of CELL_PVSTS.ST (R340). -/
inductive StrobeSt where
  | computed | squashed | waiting | release
deriving DecidableEq, Repr

/-- What a strobe of a link carries (R243): the data line of its print nozzles and that of its redundant nozzles, whether the print line is
starved (R43), and how many Pacer lines before its own they were assigned to: LDLY, and LDLY + REDOFS where the link has redundant
nozzles. -/
structure Load where
  pm      : Option Nat
  rm      : Option Nat
  starved : Bool
  lag     : Nat
  rlag    : Option Nat
deriving DecidableEq, Repr

/-- An undecided strobe of a link (R316-R322): its line, strobe tick, sub-strobe count k and spacing, its WSET (R362), what it carries, its cuts, its latch-load progress with the tick at which the frame was last queued (R348, R350), t_ok of R322 and its lower bound, whether it is dark (R358), and so because its
quad is forced down (R85), a test nozzle (R382: position + 2,048 × level), whether it is held at level 0 by a test line (R382, R383), and whether
its drop is not counted (R329). -/
structure Strobe where
  n      : Int
  ts1    : Int
  k      : Nat
  sp     : Nat
  st     : StrobeSt
  wset   : Nat
  load   : Load
  cuts   : List Nat
  sent   : Bool
  acked  : Bool
  resent : Bool
  sentAt : Nat
  from_  : Nat
  ok     : Option Nat
  dark   : Bool
  forced : Bool
  test   : Option Nat
  purge  : Bool
  mute   : Bool
  quiet  : Bool
deriving DecidableEq, Repr

/-- A sub-strobe committed on a link (R365): its tick, its line and its energy. -/
structure Fired where
  tick : Int
  line : Int
  e    : Nat
deriving DecidableEq, Repr

/-- A head link (R341-R374), its flight time (R390, R391), eye (R397) and the frames not yet accepted by the head (R361). `trims` lists,
for the positions whose trim at the head can differ from the target, the last trim sent and the highest that can still be in force there (R363,
R395). `forced` says that it went DOWN with a quad that was forced down (R85), `synced` that the head's count has not been found off since the
last TIME-SYNC (R355). -/
structure Link where
  en       : Bool
  swing    : BitVec 4
  tickle   : Bool
  stsper   : BitVec 7
  st       : LinkSt
  conceal  : Bool
  forced   : Bool
  held     : Bool
  trains   : BitVec 16
  rt       : BitVec 16
  oneway   : Byte
  temp     : Int
  stale    : Bool
  hflt     : BitVec 5
  hid      : W64
  seen     : Bool
  crc      : BitVec 16
  retry    : Byte
  syncErr  : Byte
  lost     : BitVec 16
  downs    : BitVec 16
  estrobe  : W32
  ewin     : W32
  klast    : BitVec 2
  derate   : Bool
  single   : Bool
  wls      : List Nat
  gcut     : W32
  exRun    : List (Nat × Bool)
  fgov     : W32
  calmFrom : Tick
  fired    : List Fired
  strobes  : List Strobe
  decided  : Option Int
  rPrev    : Option Int
  drive    : Bool
  cfgSeq   : Byte
  seq      : Byte
  unacked  : List (List Byte)
  cfgAt    : Tick
  trims    : Tab (Nat × Nat)
  stsAt    : Tick
  tf       : BitVec 20
  tgt      : BitVec 20
  flSrc    : BitVec 2
  flMeas   : Option Int
  tfnom    : Int
  hdly     : Int
  tfbSum   : Int
  tfbCnt   : Nat
  eyeOpen  : BitVec 6
  eyePhase : BitVec 5
  syncAt   : Tick
  synced   : Bool
deriving DecidableEq, Repr

/-! ### Position feedback and Pacers (chapters 9, 10) -/

/-- An encoder (R275-R282, R306). `raw` is R, `pos` is P. -/
structure Encoder where
  en       : Bool
  term     : Bool
  dirInv   : Bool
  idxMode  : BitVec 2
  idxVal   : BitVec 16
  db       : Byte
  win      : BitVec 14
  winNow   : BitVec 14
  lvA      : Bool
  lvB      : Bool
  raw      : W64
  pos      : W64
  fwdMax   : W64
  rev      : Bool
  isStill  : Bool
  armed    : Bool
  fltA     : Bool
  fltB     : Bool
  fltZ     : Bool
  revSeen  : Bool
  idxSeen  : Bool
  qerrSeen : Bool
  fltSeen  : Bool
  base     : W64
  spd      : W32
  laps     : BitVec 16
  lastIdx  : Option W64
  qerr     : BitVec 16
  jit      : BitVec 16
  qerrWin  : Nat
  winN     : Nat
  winFirst : Tick
  winLast  : Tick
  winStart : Tick
  lastEdge : Tick
deriving DecidableEq, Repr

/-- A trigger input (R283, R306). -/
structure Trig where
  en      : Bool
  encSel  : BitVec 3
  evtEdge : BitVec 2
  holdoff : BitVec 16
  level   : Bool
  rValid  : Bool
  fValid  : Bool
  rOvr    : Bool
  fOvr    : Bool
  rTime   : W64
  rPos    : W32
  fTime   : W64
  fPos    : W32
  count   : W32
  until_  : Tick
deriving DecidableEq, Repr

/-- Window states (R287-R292). -/
inductive WinSt where
  | armed | pending | opened
deriving DecidableEq, Repr

/-- How one lane's Pacer line of a window has been decided so far (R326). -/
structure LineMark where
  lane    : Nat
  n       : Int
  dropped : Bool
  late    : Bool
  starved : Bool
  conc    : Nat
deriving DecidableEq, Repr

/-- A print window (R286-R299). Positions are in 1/65,536 count. `id` numbers the windows of a Pacer in the order in which they were armed
or placed. `flags` is FLAGS of R299 common to its lanes; `laneFlags` those of one lane. A window whose records are written before its close
falls stays (`recorded`) until then. -/
structure Window where
  id        : Nat
  slot      : Nat
  st        : WinSt
  start     : Byte
  stop      : Byte
  offset    : Nat
  length    : Nat
  po        : Int
  pc        : Option Int
  byStop    : Bool
  stopSeen  : Bool
  flags     : BitVec 32
  laneFlags : List (Nat × BitVec 32)
  lanes     : List Nat
  marks     : List LineMark
  fstart    : Nat
  tOpen     : Option Tick
  tClose    : Tick
  closing   : Bool
  recorded  : Bool
deriving DecidableEq, Repr

/-- Pacer states, in the code of PACER_STSp.STATE (R311). -/
inductive PacerSt where
  | stopped | track | wait | reversed | dead | none
deriving DecidableEq, Repr

/-- A Pacer's current reference, in the code of POS_REFSTSp.CUR (R300). -/
inductive RefCur where
  | primary | secondary | dead | none
deriving DecidableEq, Repr

/-- The state of an encoder reference, in the code of POS_REFSTSp (R300). -/
inductive RefSt where
  | qualified | lost | requal | off
deriving DecidableEq, Repr

/-- An edge on its way to the Pacer (R313): its stamp, its position X and whether it is a regain edge (R279). -/
structure PEdge where
  t      : Tick
  prev   : Tick
  x      : Int
  regain : Bool
deriving DecidableEq, Repr

/-- A Pacer: prediction (R308-R315), configuration and limits (R338), references (R300-R305) and windows (R286-R295).
Positions are in 1/65,536 count; `q` is in 1/256 tick per count. `reqCnt` is the requalification count of the primary, `reqCnt2` that of the secondary
(R302). -/
structure Pacer where
  w         : BitVec 12
  dmax      : BitVec 4
  late      : BitVec 4
  qspan     : BitVec 2
  lpitch    : W32
  ratio     : W32
  drlim     : BitVec 16
  st        : PacerSt
  revPend   : Bool
  edgeErr   : BitVec 16
  q         : W32
  seeded    : Bool
  seedT     : Tick
  seedX     : Int
  x         : Int
  align     : Int
  run       : List Tick
  lastX     : Int
  inbound   : List PEdge
  afterStop : Bool
  newRef    : Bool
  schedule  : Bool
  schedAt   : Tick
  lineN     : Int
  lineT     : Tick
  fstart    : W32
  lateCnt   : W32
  dropCnt   : W32
  evt       : BitVec 4
  ceil      : W32
  thr       : W32
  gov       : W32
  data      : W32
  secEn     : Bool
  drEn      : Bool
  sec       : BitVec 3
  pri       : BitVec 3
  qlim      : BitVec 4
  lossMul   : Byte
  force     : Bool
  cur       : RefCur
  switching : Bool
  switchDue : Bool
  priSt     : RefSt
  secSt     : RefSt
  reqCnt    : BitVec 11
  reqCnt2   : BitVec 11
  lossCause : BitVec 3
  switches  : Byte
  drFrom    : Tick
  cont      : Bool
  segLen    : BitVec 20
  windows   : List Window
  nextWin   : Nat
  lastPc    : Option Int
  starts    : List Byte
  stops     : List Byte
  empty     : Byte
  stray     : Byte
  noArm     : Byte
  trunc     : Byte
deriving DecidableEq, Repr

/-! ### Drop quality (chapter 12) -/

/-- GATE_STSg.STATE (R378). -/
inductive GateSt where
  | unavailable | cal | uncal | idle | test | blocked
deriving DecidableEq, Repr

/-- A fired test of a gate (R386): the nozzle (physical), its fire tick, the acceptance window, the first crossing in it, and
whether it is to be skipped (R389). -/
structure GTest where
  noz   : Nat
  tx    : Tick
  lo    : Int
  hi    : Int
  cross : Option Tick
  skip  : Bool
deriving DecidableEq, Repr

/-- The SPIT-TEST that a gate serves (R380, R384). -/
structure Spit where
  handle  : W32
  lane    : Nat
  plane   : Nat
  pattern : Nat
  left    : Nat
  todo    : List Nat
deriving DecidableEq, Repr

/-- A photo-finish gate (R375-R389, R404, R406). `calFrom` is the tick at which its idle calibration began, `high` how long it was
high in it, `highTo` the fall of the latest pulse (R379). -/
structure Gate where
  refused  : Bool
  owner    : BitVec 6
  serve    : BitVec 16
  hgate    : BitVec 16
  gwin     : BitVec 16
  gdly     : BitVec 12
  testLvl  : BitVec 2
  autoClr  : Bool
  recalRef : Bool
  guard    : Byte
  st       : GateSt
  nozzle   : BitVec 20
  minw     : BitVec 9
  calOk    : Bool
  blocked  : Bool
  calFrom  : Tick
  idle     : BitVec 16
  maxBin   : Option Nat
  high     : Nat
  highTo   : Tick
  hit      : Bool
  tfb      : BitVec 20
  tests    : W32
  nohit    : W32
  skip     : W32
  blk      : W32
  rounds   : BitVec 16
  evt      : BitVec 5
  spit     : Option Spit
  open_    : List GTest
  lastTx   : Option Tick
deriving DecidableEq, Repr

/-! ### Motors (chapter 13) -/

/-- MOT_STSn.STATE (R431). -/
inductive MotorSt where
  | off | cal | ready | check | align | ramp | run | braking | coast | braked | fault | direct
deriving DecidableEq, Repr

/-- A motor channel (R407-R431). Speeds are in 0.01 Hz. `rem` is the slew remainder (R411); `ending` says a stop by MOTOR-STOP is in
progress, `rampStop` that REF ramps to 0 for it; `brakeHeld` whether the low sides hold a brake, `gap` the gates-off gap of R421,
`starting` that a stop belongs to a start (R420 step 2), `back` that the start runs in reverse; `spent` are the PWMCLK cycles since the channel
entered its state, `loopCnt` the periods since the loop last ran (R417), `sector` the six-step position of the compact profile and `acc` the open-loop
angle on its way to the next one (R408, R420), `idRef` the d-axis current of ALIGN (R420), `integ` the speed-loop integrator (R413), `sampA` and
`sampB` the loop samples less their offsets (R409), and `uE`, `vE`, `wE` the gate edges of this period (R107, R417). -/
structure Motor where
  mode     : BitVec 2
  brken    : Bool
  iclk     : Bool
  loopDiv  : BitVec 2
  dt       : Byte
  n        : BitVec 14
  spdSet   : W32
  tslew    : Byte
  trq      : BitVec 16
  slew     : BitVec 31
  ilim     : BitVec 15
  spdMax   : BitVec 16
  alignT   : Byte
  alignLvl : Byte
  rampT    : Byte
  retry    : BitVec 2
  handoff  : BitVec 10
  brkSpd   : BitVec 11
  zspd     : BitVec 11
  du       : BitVec 14
  dv       : BitVec 14
  dw       : BitVec 14
  commit   : Bool
  liveU    : BitVec 14
  liveV    : BitVec 14
  liveW    : BitVec 14
  st       : MotorSt
  profile  : Bool
  bound    : Option (Fin 8)
  dir      : Bool
  vlim     : Bool
  slim     : Bool
  clim     : Bool
  revRef   : Bool
  failA    : Bool
  failB    : Bool
  calValid : Bool
  fcause   : BitVec 2
  spd      : Int
  ref      : Int
  rem      : Int
  trqRef   : Int
  ofsA     : BitVec 16
  ofsB     : BitVec 16
  ovr      : BitVec 16
  ovrRun   : Nat
  starts   : Byte
  tries    : Nat
  faults   : Byte
  evt      : BitVec 12
  ratio    : W32
  ending   : Bool
  rampStop : Bool
  brakeHeld : Bool
  gap      : Bool
  starting : Bool
  back     : Bool
  spent    : Nat
  loopCnt  : Nat
  sector   : Nat
  acc      : Nat
  idRef    : Nat
  integ    : W64
  sampA    : Int
  sampB    : Int
  uE       : PwmEdges
  vE       : PwmEdges
  wE       : PwmEdges
deriving DecidableEq, Repr

/-! ### Chain (chapter 14) -/

/-- CHN_PSTSx.STATE (R464). -/
inductive PortSt where
  | down | train | up | miswired
deriving DecidableEq, Repr

/-- A chain port (R432-R435, R464, R465). -/
structure Port where
  st     : PortSt
  width  : BitVec 2
  oneway : W32
  nid    : W64
  nlevel : Byte
  nport  : BitVec 2
  nring  : Bool
  naddr  : BitVec 16
  fwd    : W32
  err    : W32
  hops   : Option Nat
deriving DecidableEq, Repr

/-- A member that the baton holder knows (R448, R453). -/
structure Member where
  addr   : BitVec 16
  id     : W64
  level  : Byte
  oneway : Nat
  rtrip  : Nat
  misses : Nat
  missed : BitVec 16
deriving DecidableEq, Repr

/-- A change registered with the baton holder (R452). -/
structure Reg where
  src       : BitVec 16
  ep        : Nat
  levelKind : Bool
  level     : Byte
deriving DecidableEq, Repr

/-- An epoch that the baton holder has prepared (R454). -/
structure Prep where
  ep    : Nat
  level : Byte
  acks  : List (BitVec 16 × AckRes)
  sent  : Bool
  dead  : Bool
deriving DecidableEq, Repr

/-- CHN_STS.STATE (R447). -/
inductive ChainSt where
  | unjoined | joining | member | relayOnly
deriving DecidableEq, Repr

/-- CHN_STS.RCAUSE (R463). -/
inductive RelayCause where
  | none | command | level | chn
deriving DecidableEq, Repr

/-- The chain block (R432-R465). As a member: `epochs` are the PREPAREs received with their level and whether COMMIT came, `refused` the
epochs whose change failed its checks (R455). As baton holder: `known`, `regs`, `preps`, the batons asked for, the JOINs deferred, the
level that OL falls to (R460) and whether the last PROBE came back (R434), or, while the unit is JOINING, whether a PROBE has been heard
(R447). -/
structure Chain where
  lead      : BitVec 16
  crcThr    : BitVec 16
  st        : ChainSt
  baton     : Bool
  closed    : Bool
  leadLow   : Bool
  spur      : Bool
  rcause    : RelayCause
  addr      : BitVec 16
  joined    : Bool
  ol        : Byte
  lmax      : Byte
  lmin      : Byte
  batonId   : W64
  rtr       : W32
  ow        : W32
  leadAct   : BitVec 16
  guard     : Byte
  held      : Bool
  steps     : BitVec 7
  offset    : BitVec 24
  load      : Option W64
  applied   : BitVec 16
  missed    : BitVec 16
  missedR   : BitVec 16
  members   : BitVec 16
  ports     : Tab Port
  known     : List Member
  regs      : List Reg
  preps     : List Prep
  epochs    : List (Nat × Byte × Bool)
  refused   : List Nat
  olFall    : Option Byte
  probeBack : Bool
  joins     : List (W64 × Nat × Byte)
  asks      : List (BitVec 16 × W64)
  move      : Option (W64 × Nat)
  claimFrom : Option Tick
  claimAt   : Tick
  heard     : List (BitVec 16 × BitVec 16)
  seq       : BitVec 16
  syncAt    : Tick
  probeAt   : Tick
  probes    : List Tick
  crcRun    : List Tick
  joinAddr  : BitVec 16
  loadNext  : Bool
  syncPort  : Nat
deriving DecidableEq, Repr

/-! ### Clocks, power and reset (chapter 2) -/

/-- GLB_PLLSTS.DISC (R59). -/
inductive Disc where
  | free | acquire | locked | holdover
deriving DecidableEq, Repr

/-- Why a quad's cells are stopping (step 1 of R86): a latched shutdown (R477, R478), or a domain cycle or reset with its handle, none for
one that the part makes itself (R498). -/
inductive StopWhy where
  | shutdown
  | cycle (h : Option W32)
  | reset (h : Option W32)
deriving DecidableEq, Repr

/-- What a quad is going through (R83, R86): its cells stop at their line boundaries, its regulator ramps, it calibrates, or its cells
are restored (the committed image and the temperature sets still to be read). `starting` says that the regulator has its voltage and the
clock waits for the neighbours (R64-R66). The handle is that of a DOMAIN-CYCLE. -/
inductive QuadJob where
  | none
  | stopping (cells : List Nat) (why : StopWhy)
  | ramping (h : Option W32)
  | starting (h : Option W32)
  | calibrating (h : Option W32)
  | restoring (h : Option W32) (image : Bool) (sets : List Nat)
deriving DecidableEq, Repr

/-- A quad's clock and supply (R63-R67, R90), ownership (R123), ladder and shutdown (R473, R477, R487). `goDiv` is the divider and skip
change in flight; `vWait` says that the regulator slews; `calib` that the power-up calibration has ended; `hot` and `hotter` are the
flag of R72 and its throttling of the hotter quad; `forced` that a domain command forces its cells dark while their lane prints (R85);
`joined` that it has joined the print-rate class from rung 4 (R473). -/
structure Quad where
  owner     : Fin 16
  refused   : Bool
  vact      : BitVec 5
  vset      : BitVec 5
  skip      : BitVec 3
  divAct    : BitVec 2
  divReq    : BitVec 2
  skipAct   : BitVec 3
  goDiv     : Option (BitVec 2 × BitVec 3)
  vWait     : Bool
  rung      : BitVec 3
  shutdown  : Bool
  shead     : Bool
  sdie      : Bool
  hot       : Bool
  hmax      : Byte
  calib     : Bool
  job       : QuadJob
  hotter    : Bool
  forced    : Bool
  joined    : Bool
  coolFrom  : Option Tick
  upAt      : Tick
deriving DecidableEq, Repr

/-- A line-store debug window (R129). -/
structure Dbg where
  en   : Bool
  wren : Bool
  cell : BitVec 9
deriving DecidableEq, Repr

/-- The clock, power, reset and link state of the part (R52-R90, R101, R116, R117, R121), with VF BAR0/VF BAR1 of the SR-IOV capability (R126). `trim` is the fractional trim of the root PLL in
0.001 ppm (R57, R58) with the tick of its last step, `unable` says that the pull range does not reach the baton (R59). `tapDr` is what a
capture of the selected data register brings (R114, R115), none for the boundary register, whose contents are free after each of `tapScans`
captures (log entry 80). `cycles` lists the domains other than quads
that a DOMAIN-CYCLE powers off, with its handle (R86), `lsOff` the quadrants among them that wait for running channels (R201). `failing` says that the part runs on stored energy (R101), `relock` that a
relock restart is under way (R501). Bit d of `clk` and `pwr` is domain d (R79). -/
structure Glb where
  clk       : BitVec 80
  pwr       : BitVec 80
  resOk     : Bool
  rootLock  : Bool
  phyLock   : Bool
  serdes    : Bool
  hwrdy     : Bool
  disc      : Disc
  discErr   : BitVec 16
  trim      : Int
  trimAt    : Tick
  unable    : Bool
  discEn    : Bool
  clkMode   : Bool
  clkModeOn : Bool
  rstCause  : BitVec 9
  powered   : Bool
  failing   : Bool
  relock    : Bool
  devStop   : Bool
  pins      : Bool
  tapIr     : Byte
  tapDr     : Option W32
  tapScans  : Nat
  cycles    : List (Nat × W32)
  lsOff     : List Nat
  linkUp    : Bool
  width     : LinkWidth
  vfEn      : Bool
  vfBar     : W64
  numVfs    : BitVec 16
  dbg0      : Dbg
  dbg1      : Dbg
  dbg2      : Dbg
  dbg3      : Dbg
deriving DecidableEq, Repr

/-! ### Housekeeping (chapter 15) -/

/-- A head sensor pin (R466-R471, R487). -/
structure Pin where
  en      : Bool
  diode   : Bool
  icur    : Bool
  zone    : BitVec 7
  warn    : Byte
  throt   : Byte
  shut    : Byte
  hyst    : BitVec 4
  rnom    : BitVec 16
  beta    : BitVec 16
  broken  : Bool
  level   : BitVec 2
  crossed : Bool
  temp    : Int
deriving DecidableEq, Repr

/-- A die sensor (R469, R471, R487). -/
structure Die where
  broken  : Bool
  level   : BitVec 2
  crossed : Bool
  temp    : Int
deriving DecidableEq, Repr

/-- A Pacer's print-rate request (R474-R476, R487). `due` holds the requests in their grace, oldest first: tick and target. -/
structure Treq where
  req      : Bool
  enf      : Bool
  target   : BitVec 24
  asked    : Tick
  due      : List (Tick × BitVec 24)
  calmFrom : Option Tick
deriving DecidableEq, Repr

/-- Housekeeping (R466-R487). `supsts` has bit r for rail r of R489 (0-79 domains, 80 VIN12, 81 3.3 V, 82 1.8 V, 83 0.9 V, 84 1.2 V);
`lastBad` the rails out of range in the round before. -/
structure Hk where
  fast     : Bool
  fastAct  : Bool
  trate    : Byte
  grace    : Byte
  dhyst    : BitVec 4
  rstep    : Byte
  hold     : Byte
  rounds   : BitVec 16
  vin      : BitVec 16
  supsts   : BitVec 85
  lastBad  : List Nat
  measuring : Bool
  pins     : Tab Pin
  die      : Tab Die
  treq     : Tab Treq
deriving DecidableEq, Repr

/-! ### Faults and Thinis cores (chapter 16) -/

/-- A fault record (R490). -/
structure Rec where
  seq    : W32
  source : Byte
  flags  : Byte
  inst   : BitVec 16
  time   : W64
  ovf    : BitVec 16
  rcnt   : BitVec 16
  detail : W64
  domain : Byte
deriving DecidableEq, Repr

/-- A fault source (R489, R496, R497, R506). Bit c of `outCls` says that a fault of class c is outstanding; `conds` are the instances
whose condition stands; `quietAt` the start of the quiet period. `inj` says that every outstanding fault was injected. -/
structure Src where
  outCls  : BitVec 4
  pers    : Bool
  cls     : BitVec 2
  rlim    : BitVec 4
  rcnt    : BitVec 16
  times   : List Tick
  conds   : List Nat
  quietAt : Tick
  inj     : Bool
deriving DecidableEq, Repr

/-- The fault collector, ALIVE and SVCREQ (R488-R506). `writing` is the record being written, with its history index and whether it is the
first-error record too. `hitSrc`, `hitInst` and `hitAddr` are those of the injection that waits (R504), and `injRound` its stage. -/
structure Flt where
  quiet    : BitVec 16
  firstMin : BitVec 2
  histMin  : BitVec 2
  ovf      : W32
  cause    : BitVec 5
  rwin     : BitVec 16
  seq      : W32
  head     : BitVec 5
  first    : Option Rec
  hist     : Tab Rec
  writing  : Option (Nat × Rec × Bool)
  clearDue : Bool
  stopDue  : Option Rec
  frozen   : Bool
  pend     : Bool
  done     : Bool
  injRef   : Bool
  injSrc   : BitVec 5
  injInst  : BitVec 16
  injAddr  : W32
  injUntil : Option Tick
  injRound : Nat
  hitSrc   : Nat
  hitInst  : Nat
  hitAddr  : Nat
  srcs     : Tab Src
  alive    : Bool
  aliveAt  : Tick
deriving DecidableEq, Repr

/-- What a Thinis core is (R172, R499, R512): empty, serving as the boot ROM, active, standby, or in warm reset and reload. -/
inductive CoreRole where
  | empty | rom | active | standby | reloading
deriving DecidableEq, Repr

/-- The image a core holds (R513). -/
structure FwInfo where
  version : W32
  level   : Byte
  slot    : Byte
deriving DecidableEq, Repr

/-- A Thinis core (R499, R512), with its reads that hang on a stopped clock (R77): the address and whether 8 bytes are read. -/
structure ThnCore where
  role   : CoreRole
  image  : Option FwInfo
  shadow : Option Shadow
  rdata  : W64
  held   : List (Nat × Bool)
deriving DecidableEq, Repr

/-- The Thinis cores and the firmware load in progress (R172, R499, R512, R527). `swap` is a planned swap in progress, `fetch` the
port of a chain fetch and its bytes so far. -/
structure Thn where
  a      : ThnCore
  b      : ThnCore
  paused : Bool
  swap   : Option W32
  fetch  : Option (Nat × Nat)
  boots  : Nat
  bootAt : Tick
  fwSeen : Bool
deriving DecidableEq, Repr

/-! ### Fuses and metering (chapter 17) -/

/-- A FUSE-PROGRAM or FUSE-LOCK in progress (R510): its handle, region and word, the bits still to program in rising order, the
pulses the first of them has had, and the lock fuses to program. -/
structure Prog where
  handle : W32
  region : Nat
  word   : Nat
  bits   : List Nat
  pulses : Nat
  lock   : Bool
deriving DecidableEq, Repr

/-- The OTP array and its state (R507-R515, R523): word w of region r is entry 128r + w. -/
structure Fuse where
  words     : Tab W32
  wl        : BitVec 16
  rl        : BitVec 16
  prog      : Option Prog
  epochPend : Bool
  epochExh  : Bool
  epochBit  : Option Nat
  epochPulses : Nat
deriving DecidableEq, Repr

/-- A period record but for its MAC (R518). `planes` lists (plane, drops, volume) of planes that are not zero. -/
structure PRec where
  lane   : Nat
  flags  : Byte
  period : W64
  nonce  : W64
  tStart : W64
  tEnd   : W64
  wall   : W64
  planes : List (Nat × W64 × W64)
deriving DecidableEq, Repr

/-- A closed period that awaits its seal (R517, R521), with the handle of its PERIOD-CLOSE, if it is still held. -/
structure Closed where
  lane   : Nat
  handle : W32
  wall   : W64
  flags  : Byte
  tStart : W64
  tEnd   : W64
  planes : List (Nat × W64 × W64)
deriving DecidableEq, Repr

/-- One lane's meters and records (R516-R524). -/
structure MeterLane where
  drops   : Tab W64
  vols    : Tab W64
  vpl     : Tab (BitVec 24)
  tStart  : W64
  restart : Bool
  chStep  : Bool
  lost    : Bool
  count   : Nat
  period  : W64
  wall    : W64
  lflags  : Byte
  recs    : List PRec
deriving DecidableEq, Repr

/-- The META domain (R516-R524). -/
structure Meter where
  seqNo   : Nat
  seqLost : Bool
  exh     : Bool
  lanes   : Tab MeterLane
  closed  : List Closed
deriving DecidableEq, Repr

/-! ### The whole part -/

/-- The rolling self-test of a quadrant (R266): whether it is on, the next cell to test, the cell under test. -/
structure SelfTest where
  on   : Bool
  next : Nat
  cell : Option Nat
deriving DecidableEq, Repr

/-- The state of the WZ9600. `time` is chain time (R443). `hostMem` is what the part has written to host memory, keyed by
function × 2^64 + address (R148, R178, R296); `store` is the line store, keyed by bank × 524,288 + offset (R205). `free` counts the
free values used, and `out` records what was sent; both are the model's own. `pending` is the queue of commands that wait. -/
structure State where
  time     : W64
  glb      : Glb
  quads    : Tab Quad
  host     : Tab HostFn
  evt      : Evt
  lanes    : Tab Lane
  ops      : List Op
  assign   : Option Moving
  changes  : List Change
  rings    : Tab Ring
  engines  : Tab Engine
  reqs     : Tab ReqLine
  banks    : Tab Bank
  store    : Memory
  cells    : Tab Cell
  tests    : Tab SelfTest
  links    : Tab Link
  encs     : Tab Encoder
  trigs    : Tab Trig
  pacers   : Tab Pacer
  gates    : Tab Gate
  motors   : Tab Motor
  chn      : Chain
  hk       : Hk
  flt      : Flt
  thn      : Thn
  fuse     : Fuse
  meter    : Meter
  hostMem  : Memory
  free     : Nat
  out      : List Out
  pending  : List Instr
deriving DecidableEq, Repr

/-- Why the machine stops with a fault. It has no constructor: the spec gives every command an effect, or none at all, on every operand. Safe:
no step stops. -/
inductive Fault
deriving DecidableEq, Repr

/-- Why a command is refused. -/
inductive Refusal where
  /-- Raised by a dispatch arm whose command has no meaning yet. Safe: nothing is claimed of it. -/
  | notModelled (mnemonic : String)
deriving DecidableEq, Repr

/-- Clocks and power at a cold reset, before the sequence of R83 (R90). -/
def resetGlb : Glb :=
  { clk := 1#80 <<< 68, pwr := 0, resOk := false, rootLock := false, phyLock := false, serdes := false, hwrdy := false,
    disc := .free, discErr := 0, trim := 0, trimAt := 0, unable := false, discEn := true, clkMode := false, clkModeOn := false, rstCause := 1, powered := false,
    failing := false, relock := false, devStop := false, pins := false, tapIr := 0x02, tapDr := some 0x1960054F, tapScans := 0, cycles := [], lsOff := [], linkUp := false, width := .x16, vfEn := false, vfBar := 0,
    numVfs := 0, dbg0 := ⟨false, false, 0⟩, dbg1 := ⟨false, false, 0⟩, dbg2 := ⟨false, false, 0⟩, dbg3 := ⟨false, false, 0⟩ }

/-- The event block at reset (R147): EVT_EN10 and EVT_EN11 read 0x0000_FFFF. -/
def resetEvt : Evt :=
  { stat := 0, en := (0xFFFF#384 <<< 320) ||| (0xFFFF#384 <<< 352), maps := [] }

/-- The chain block at reset (R464): UNJOINED, holding its own baton. -/
def resetChain : Chain :=
  { lead := 8, crcThr := 16, st := .unjoined, baton := true, closed := false, leadLow := false, spur := false,
    rcause := .none, addr := 0, joined := false, ol := 0, lmax := 0, lmin := 0, batonId := 0, rtr := 12000, ow := 0,
    leadAct := 8, guard := 1, held := false, steps := 0, offset := 0, load := none, applied := 0, missed := 0,
    missedR := 0, members := 1, ports := [], known := [], regs := [], preps := [], epochs := [], refused := [], olFall := none, probeBack := false, joins := [], asks := [], move := none,
    claimFrom := none, claimAt := 0, heard := [], seq := 0, syncAt := 0, probeAt := 0, crcRun := [], joinAddr := 0,
    loadNext := false, syncPort := 1, probes := [] }

/-- Housekeeping at reset (R487). -/
def resetHk : Hk :=
  { fast := false, fastAct := true, trate := 224, grace := 50, dhyst := 5, rstep := 100, hold := 100, rounds := 0,
    vin := 0, supsts := 0, lastBad := [], measuring := false, pins := [], die := [], treq := [] }

/-- The fault collector at reset (R506). -/
def resetFlt : Flt :=
  { quiet := 1000, firstMin := 1, histMin := 0, ovf := 0, cause := 0, rwin := 600, seq := 1, head := 0, first := none,
    hist := [], writing := none, clearDue := false, stopDue := none, frozen := false, pend := false, done := false,
    injRef := false, injSrc := 0, injInst := 0, injAddr := 0, injUntil := none, injRound := 0, hitSrc := 0, hitInst := 0, hitAddr := 0, srcs := [], alive := false,
    aliveAt := 0 }

/-- A Thinis core with no image. -/
def resetCore : ThnCore := { role := .empty, image := none, shadow := none, rdata := 0, held := [] }

/-- The OTP array of a shipped part (R508): the words the spec states, a first key slot that is not empty (log entry 8), every
other word unprogrammed, and the locks set at shipment. -/
def resetFuse : Fuse :=
  { words := [(2, 0x96000000), (3, 0xA1), (256, 1)], wl := 0x000F, rl := 0x0008, prog := none, epochPend := true,
    epochExh := false, epochBit := none, epochPulses := 0 }

/-- Metering at reset (R524). -/
def resetMeter : Meter := { seqNo := 0, seqLost := false, exh := false, lanes := [], closed := [] }

/-- The part right after a cold reset by power-on, before the sequence of R83 has run: every register at its reset value. -/
def State.reset : State :=
  { time := 0, glb := resetGlb, quads := [], host := [], evt := resetEvt, lanes := [], ops := [], assign := none, changes := [],
    rings := [], engines := [], reqs := [], banks := [], store := [], cells := [], tests := [], links := [], encs := [],
    trigs := [], pacers := [], gates := [], motors := [], chn := resetChain, hk := resetHk, flt := resetFlt,
    thn := { a := resetCore, b := resetCore, paused := false, swap := none, fetch := none, boots := 0, bootAt := 0, fwSeen := false },
    fuse := resetFuse, meter := resetMeter, hostMem := [], free := 0, out := [], pending := [] }

end Sys2Proof.Machine
end

