-- ==== Sys2Proof/Machine/Ops.lean ====
section
/-! DEFINITION. The named operations over the state: sparse tables, memory, bit fields, the reset value of every kind of register, time,
domains and numbering, the checks of CRC-32 and CRC-16, and what the part sends. -/

namespace Sys2Proof.Machine

/-! ### Sparse tables and memory -/

/-- What a table holds at index k; `d` gives the unlisted ones. -/
def tabGet {α : Type} (d : Nat → α) : Tab α → Nat → α
  | [], k => d k
  | (j, v) :: t, k => if j = k then v else tabGet d t k

/-- Inserting an entry at its place in a list of rising indexes. -/
def tabIns {α : Type} (k : Nat) (v : α) : Tab α → Tab α
  | [] => [(k, v)]
  | (j, w) :: t => if k < j then (k, v) :: (j, w) :: t else (j, w) :: tabIns k v t

/-- Writing index k: the old entry goes, and the new one is listed unless it equals what an unlisted index holds. -/
def tabPut {α : Type} [DecidableEq α] (d : Nat → α) (t : Tab α) (k : Nat) (v : α) : Tab α :=
  let t' := t.filter (fun e => decide (e.1 ≠ k))
  if v = d k then t' else tabIns k v t'

/-- Changing every listed entry of a table. Unlisted entries keep their reset value, so u is used only where it fixes that. -/
def tabMap {α : Type} [DecidableEq α] (d : Nat → α) (u : Nat → α → α) (t : Tab α) : Tab α :=
  t.filterMap (fun e => if u e.1 e.2 = d e.1 then none else some (e.1, u e.1 e.2))

/-- The canonical form of a table: rising indexes, no entry equal to what an unlisted index holds. -/
abbrev tabWf {α : Type} [DecidableEq α] (d : Nat → α) (t : Tab α) : Prop :=
  t.Pairwise (fun a b => a.1 < b.1) ∧ ∀ e ∈ t, e.2 ≠ d e.1

/-- What a byte of the line store that nothing has written reads as: power-up of LSq initialises the store to zero (R83 step 9). -/
def storeDefault (_ : Nat) : Byte := 0

/-- The canonical form of the line store. -/
abbrev Memory.wf (m : Memory) : Prop := tabWf storeDefault m

/-- One byte of the line store. -/
def Memory.read (m : Memory) (a : Nat) : Byte := tabGet storeDefault m a
/-- Writing one byte of the line store. -/
def Memory.write (m : Memory) (a : Nat) (v : Byte) : Memory := tabPut storeDefault m a v
/-- Writing bytes at rising addresses from a. -/
def Memory.writeBytes (m : Memory) (a : Nat) : List Byte → Memory
  | [] => m
  | b :: bs => Memory.writeBytes (Memory.write m a b) (a + 1) bs
/-- n bytes from address a. -/
def Memory.readBytes (m : Memory) (a : Nat) : Nat → List Byte
  | 0 => []
  | n + 1 => Memory.read m a :: Memory.readBytes m (a + 1) n

/-- The byte the part has written at an address of host memory, none where it has written nothing. -/
def hostRead : Memory → Nat → Option Byte
  | [], _ => none
  | (j, v) :: t, k => if j = k then some v else hostRead t k
/-- Writing bytes to host memory at rising addresses. Every byte the part writes is listed. -/
def hostWrite (m : Memory) (a : Nat) : List Byte → Memory
  | [] => m
  | b :: bs => hostWrite (tabIns a b (m.filter (fun e => decide (e.1 ≠ a)))) (a + 1) bs

/-- The low n bytes of a number, least significant first (R11). -/
def leBytes : Nat → Nat → List Byte
  | _, 0 => []
  | x, n + 1 => BitVec.ofNat 8 x :: leBytes (x / 256) n
/-- The number that bytes spell, least significant first (R11). -/
def ofLe : List Byte → Nat
  | [] => 0
  | b :: bs => b.toNat + 256 * ofLe bs

/-! ### Bit fields -/

/-- Field [lo + n - 1 : lo] of a register word. -/
def fld {w : Nat} (x : BitVec w) (lo n : Nat) : BitVec n := x.extractLsb' lo n
/-- Bit i of a word. -/
def bit {w : Nat} (x : BitVec w) (i : Nat) : Bool := x.getLsbD i
/-- A word with bit i set or cleared. -/
def setBit {w : Nat} (x : BitVec w) (i : Nat) (b : Bool) : BitVec w :=
  if b then x ||| (1#w <<< i) else x &&& ~~~(1#w <<< i)
/-- Bits lo and up of a 32-bit register that hold v. -/
def put (lo : Nat) {n : Nat} (v : BitVec n) : W32 := (v.setWidth 32) <<< lo
/-- A flag at bit lo of a 32-bit register. -/
def putB (lo : Nat) (b : Bool) : W32 := if b then 1#32 <<< lo else 0
/-- A number at bits lo and up of a 32-bit register. -/
def putN (lo : Nat) (v : Nat) : W32 := BitVec.ofNat 32 (v * 2 ^ lo)
/-- The 64-bit word of a pair with one half replaced. -/
def setLow (x : W64) (v : W32) : W64 := (x.extractLsb' 32 32) ++ v
def setHigh (x : W64) (v : W32) : W64 := v ++ (x.extractLsb' 0 32)
/-- The two's-complement reading of the low n bits of x. -/
def signed (n : Nat) (x : Nat) : Int :=
  let y := x % 2 ^ n
  if y < 2 ^ (n - 1) then (y : Int) else (y : Int) - 2 ^ n
/-- An integer kept within ±(2^n - 1). -/
def satInt (n : Nat) (x : Int) : Int := max (-(2 ^ n - 1 : Int)) (min (2 ^ n - 1 : Int) x)
/-- An integer as a w-bit word, two's complement. -/
def ofInt (w : Nat) (x : Int) : BitVec w := BitVec.ofInt w x
/-- x rounded to the nearest multiple of 1/d, a half upward: floor(x ÷ d + 1/2). -/
def roundDiv (x : Int) (d : Nat) : Int := (2 * x + d) / (2 * d)

/-! ### Check fields (R343) -/

/-- One bit of CRC-32, reflected, polynomial IEEE 802.3. -/
def crc32Bits : Nat → Nat → Nat
  | 0, c => c
  | n + 1, c => crc32Bits n (if c % 2 = 1 then (c / 2) ^^^ 0xEDB88320 else c / 2)
/-- CRC-32 as R343 computes it. -/
def crc32 (bs : List Byte) : Nat :=
  (bs.foldl (fun c b => crc32Bits 8 (c ^^^ b.toNat)) 0xFFFFFFFF) ^^^ 0xFFFFFFFF
/-- One bit of CRC-16, polynomial 0x1021, most significant bit first. -/
def crc16Bits : Nat → Nat → Nat
  | 0, c => c
  | n + 1, c => crc16Bits n (if c ≥ 0x8000 then ((c * 2) % 65536) ^^^ 0x1021 else c * 2)
/-- CRC-16 as R343 computes it. -/
def crc16 (bs : List Byte) : Nat := bs.foldl (fun c b => crc16Bits 8 (c ^^^ (b.toNat * 256))) 0xFFFF

/-! ### Reset values -/

/-- A debug-window, MSI-X and queue-pair state of a function at reset (R143, R149, R204, R307). The mask bit of a vector is 1, a base
address register 0, the Device Control read size 512 bytes and relaxed ordering enabled at reset (PCI Express, PRESUMED, log entry 9). -/
def vecReset (_ : Nat) : Vec := { addr := 0, data := 0, mask := true }
def hostReset (_ : Nat) : HostFn :=
  { bar0 := 0, bar2 := 0, mrrs := 2, relaxed := true, unknown := [], fence := none, d3 := false, msixEn := false, maskAll := false, vecs := [], pba := 0, stray := 0, shadow := none, rdata := 0, dbgData := [], aer := [],
    held := [], sqBase := 0, cqBase := 0, sqLog := 4, cqLog := 4, en := false, cfgErr := false, sqErr := false,
    cqErr := false, phase := true, cqTail := 0, cqHead := 0, sqHead := 0, sqTail := 0, next := 0, waiting := [], wsel := 0,
    prBase := 0, prEn := false, prLog := 4, prPhase := true, prTail := 0, prSeq := 0, prLost := 0 }
/-- A lane at reset: IDLE (R124). -/
def laneReset (_ : Nat) : Lane :=
  { st := .idle, locked := false, rate := 0, fill := 0, derate := false, starv := 0, slot0 := none, slot1 := none,
    comSlot := none, image := none, inForce := [], patches := [], tsRefs := [], hold := false, unhold := false, reset := none, servos := [],
    stopping := false, stopWin := 0 }
/-- A plane's servo at reset: no target velocity, off (R385, R405). -/
def servoReset (_ : Nat) : Servo := { vt := 0, on := false }
/-- A feed ring at reset (R204): DISABLED, bound to cell (r div 16) mod 256, line r mod 16. -/
def ringReset (r : Nat) : Ring :=
  { st := .disabled, err := 0, pidx := 0, cidx := 0, base := 0, en := false, busy := false, refused := false, burst := 2,
    log2 := 4, line := BitVec.ofNat 4 (r % 16), cell := BitVec.ofNat 8 (r / 16), pre := [], stale := 0 }
/-- A feed engine at reset (R204). -/
def engineReset (_ : Nat) : Engine :=
  { stopped := false, chans := [], reads := [], nextId := 0, last := 0, cause := 0, errRing := 0, errAddr := 0, stops := 0, bursts := 0 }
/-- A request line at reset: nothing written. -/
def reqReset (_ : Nat) : ReqLine := { taken := 0, wptr := 0 }
/-- A line-store bank at reset (R225). -/
def bankReset (_ : Nat) : Bank :=
  { adm := false, limit := 0, sum := 0, resFeed := 0, resPipe := 0, resDbg := 0, resTko := 0, crFeed := 0, crDbg := 0,
    crScrub := 0, crTko := 0, crData := 0, crMask := 0, crCont := 0, defer := 0, ce := 0, ue := 0, eValid := false, eIsUe := false, eBlock := 0, lastRow := 0,
    soft := 0, fused := 0, remap := [], scrub := 0, pass := 0, hits := [], due := [], poison := [] }
/-- A link's part of an empty copy. -/
def noLinkCfg : LinkCfg := ⟨0, 0, 0, 0, 0, 0, 0, 0, 0⟩
/-- An empty mask. -/
def noMaskCfg : MaskCfg := ⟨false, false, false, false, false, 0, 0, 0⟩
/-- The contents of an empty table memory read as a copy. -/
def noCopy : Copy :=
  { gen := 0, cell := 0, lane := 0, plane := 0, mode := 0, nbrL := false, nbrR := false, cc := 0, fmax := 0, lwm := 0,
    depth := 0, pacer := 0, fr := 0, dr := 0, dataline := 0, datasz := 0, link0 := noLinkCfg, link1 := noLinkCfg,
    mask0 := noMaskCfg, mask1 := noMaskCfg, mask2 := noMaskCfg, mask3 := noMaskCfg, lev1 := 0, lev2 := 0, lev3 := 0,
    tone := [], resv := true }
/-- The empty temperature set (R393). -/
def tsetReset (_ : Nat) : TempSet := { valid := false, cdly := 0, hdly0 := 0, hdly1 := 0, tf0 := 0, tf1 := 0 }
/-- An all-zero waveform definition. -/
def waveReset (_ : Nat) : Wave := { energy := 0, tcoef := 0, segs := [] }
/-- The CELL_PV registers at reset (R340). -/
def pvReset : Pv :=
  { valid := false, st := 0, km1 := 0, loaded := false, bank := false, data := false, starved := false, line := 0, ts1 := 0,
    dline := 0 }
/-- A cell at reset, and when its serving quad powers up (R273, R405): table memory empty, registers at their reset values. -/
def cellReset (c : Nat) : Cell :=
  { svc := if c < 256 then .inService else .free, server := c, tkoActive := false, tkoStep := 0, tkoPeer := 0,
    tkoBlocks := 0, testHold := false, active := [], shadow := [], inUse := none, lastCfg := noCopy, gen := 0, divergent := false,
    noz := [], waves := [], tsets := [], servo := [], det := [], badNoz := [], nozNext := [], nozPend := [], saved := none, refill := none, keptMasks := [], rows := [], marks := [], swapDue := false,
    nextM := 0, outM := 0, pipe := none, slots := [], xin := [], nextA := 0, assign := [], done := [], relM := 0, specN := 0,
    idleAt := 0, counted := [], detUse := [], skipM := [], evt := 0, clines := 0, conc := 0, lmiss := 0, rmiss := 0, ntsel := 0, tblCe := 0, tblUe := 0,
    bistV := false, bistP := false, bistFails := 0, bistRuns := 0, schLate := 0, schDrop := 0, pvsel := 0, pv := pvReset,
    govSp := 120, govPers := 64, govRel := 100, hlEvt := 0, throw := 500, vtol := 10, noGate := false, purge := [], cdly := 0, svUp := 0,
    svDown := 0, svSat := 0, svDets := 0, tests := 0, nohits := 0, erased := false }
/-- A quadrant's rolling self-test at reset: off, starting from its lowest cell. -/
def testReset (q : Nat) : SelfTest := { on := false, next := 64 * q, cell := none }
/-- A head link at reset (R374): enabled, DOWN, with no limit of energy. -/
def linkReset (_ : Nat) : Link :=
  { en := true, swing := 4, tickle := false, stsper := 10, st := .down, conceal := false, forced := false, held := false, trains := 0, rt := 0,
    oneway := 0, temp := 0, stale := true, hflt := 0, hid := 0, seen := false, crc := 0, retry := 0, syncErr := 0, lost := 0,
    downs := 0, estrobe := 0xFFFFFFFF, ewin := 0xFFFFFFFF, klast := 0, derate := false, single := false, wls := [], gcut := 0,
    exRun := [], fgov := 0xFFFFFFFF, calmFrom := 0, fired := [], strobes := [], decided := none, rPrev := none,
    drive := false, cfgSeq := 0, seq := 0, unacked := [], cfgAt := 0, trims := [], stsAt := 0, tf := 0, tgt := 0, flSrc := 0, flMeas := none, tfnom := 0, hdly := 0,
    tfbSum := 0, tfbCnt := 0, eyeOpen := 0, eyePhase := 0, syncAt := 0, synced := true }
/-- An encoder at reset (R306). -/
def encReset (_ : Nat) : Encoder :=
  { en := true, term := true, dirInv := false, idxMode := 0, idxVal := 0, db := 2, win := 200, winNow := 200, lvA := false,
    lvB := false, raw := 0, pos := 0, fwdMax := 0, rev := false, isStill := true, armed := false, fltA := false, fltB := false,
    fltZ := false, revSeen := false, idxSeen := false, qerrSeen := false, fltSeen := false, base := 0, spd := 0, laps := 0,
    lastIdx := none, qerr := 0, jit := 0, qerrWin := 0, winN := 0, winFirst := 0, winLast := 0, winStart := 0, lastEdge := 0 }
/-- A trigger input at reset (R306): enabled, latching encoder t mod 8, raising its event on rising edges. -/
def trigReset (t : Nat) : Trig :=
  { en := true, encSel := BitVec.ofNat 3 t, evtEdge := 1, holdoff := 0, level := false, rValid := false, fValid := false,
    rOvr := false, fOvr := false, rTime := 0, rPos := 0, fTime := 0, fPos := 0, count := 0, until_ := 0 }
/-- A Pacer at reset (R306, R338): STOPPED, primary encoder p, no secondary (R29). -/
def pacerReset (p : Nat) : Pacer :=
  { w := 600, dmax := 4, late := 4, qspan := 2, lpitch := 0x20000, ratio := 0x10000, drlim := 1000, st := .stopped,
    revPend := false, edgeErr := 0, q := 0, seeded := false, seedT := 0, seedX := 0, x := 0, align := 0, run := [],
    lastX := 0, inbound := [], afterStop := true, newRef := false, schedule := false, schedAt := 0, lineN := 0, lineT := 0,
    fstart := 0, lateCnt := 0, dropCnt := 0, evt := 0, ceil := 0xFFFFFFFF, thr := 0xFFFFFFFF, gov := 0xFFFFFFFF,
    data := 0xFFFFFFFF, secEn := false, drEn := false, sec := 0, pri := BitVec.ofNat 3 p, qlim := 2, lossMul := 8,
    force := false, cur := .primary, switching := false, switchDue := false, priSt := .qualified, secSt := .off, reqCnt := 0, reqCnt2 := 0,
    lossCause := 0, switches := 0, drFrom := 0, cont := false, segLen := 100000, windows := [], nextWin := 0, lastPc := none, starts := [], stops := [],
    empty := 0, stray := 0, noArm := 0, trunc := 0 }
/-- A photo-finish gate at reset (R404, R406): owned by quad 4g, serving it, UNCAL. -/
def gateReset (g : Nat) : Gate :=
  { refused := false, owner := BitVec.ofNat 6 (4 * g), serve := 1#16 <<< (4 * (g % 4)), hgate := 1000, gwin := 24000,
    gdly := 0, testLvl := 3, autoClr := false, recalRef := false, guard := 16, st := .uncal, nozzle := 0, minw := 12,
    calOk := false, blocked := false, calFrom := 0, idle := 0, maxBin := none, high := 0, highTo := 0, hit := false, tfb := 0, tests := 0, nohit := 0,
    skip := 0, blk := 0, rounds := 0, evt := 0, spit := none, open_ := [], lastTx := none }
/-- The gate edges of a phase that turned nothing on (R107, R417). -/
def edgesIdle : PwmEdges := { lowOn := 0, lowFall := 0, highRise := 0, highFall := 0, lowRise := 0, highEnd := false }
/-- A motor channel at reset (R431): OFF, unbound, short braking allowed. -/
def motorReset (_ : Nat) : Motor :=
  { mode := 0, brken := true, iclk := false, loopDiv := 0, dt := 15, n := 4688, spdSet := 0, tslew := 16, trq := 0,
    slew := 10000, ilim := 16384, spdMax := 10000, alignT := 50, alignLvl := 32, rampT := 50, retry := 3, handoff := 20,
    brkSpd := 100, zspd := 10, du := 0, dv := 0, dw := 0, commit := false, liveU := 0, liveV := 0, liveW := 0, st := .off,
    profile := false, bound := none, dir := false, vlim := false, slim := false, clim := false, revRef := false,
    failA := false, failB := false, calValid := false, fcause := 0, spd := 0, ref := 0, rem := 0, trqRef := 0, ofsA := 0,
    ofsB := 0, ovr := 0, ovrRun := 0, starts := 0, tries := 0, faults := 0, evt := 0, ratio := 0, ending := false,
    rampStop := false, brakeHeld := false, gap := false, starting := false, back := false, spent := 0, loopCnt := 0, sector := 0, acc := 0, idRef := 0,
    integ := 0, sampA := 0, sampB := 0, uE := edgesIdle, vE := edgesIdle, wE := edgesIdle }
/-- A chain port at reset: DOWN (R464). -/
def portReset (_ : Nat) : Port :=
  { st := .down, width := 0, oneway := 0, nid := 0, nlevel := 0, nport := 0, nring := false, naddr := 0, fwd := 0, err := 0, hops := none }
/-- A quad at reset (R90): owned by lane 0 (R123), 0.80 V, divider 4 in force, rung 3 until calibrated (R486). -/
def quadReset (_ : Nat) : Quad :=
  { owner := 0, refused := false, vact := 15, vset := 15, skip := 0, divAct := 2, divReq := 0, skipAct := 0, goDiv := none,
    vWait := false, rung := 0, shutdown := false, shead := false, sdie := false, hot := false, hmax := 0, calib := false,
    job := .none, hotter := false, forced := false, joined := false, coolFrom := none, upAt := 0 }
/-- A head sensor pin at reset (R487): not measured, guarding zone n div 2. -/
def pinReset (n : Nat) : Pin :=
  { en := false, diode := false, icur := false, zone := BitVec.ofNat 7 (n / 2), warn := 70, throt := 80, shut := 90,
    hyst := 5, rnom := 10000, beta := 3950, broken := false, level := 0, crossed := false, temp := 0 }
/-- A die sensor at reset (R487). -/
def dieReset (_ : Nat) : Die := { broken := false, level := 0, crossed := false, temp := 0 }
/-- A Pacer's print-rate request at reset: none (R487). -/
def treqReset (_ : Nat) : Treq := { req := false, enf := false, target := 0, asked := 0, due := [], calmFrom := none }
/-- The escalation limits of R489 by source. -/
def rlimReset (s : Nat) : BitVec 4 :=
  match s with
  | 1 => 8 | 3 => 8 | 4 => 4 | 5 => 4 | 6 => 3 | 7 => 4 | 8 => 2 | 9 => 2 | 10 => 2 | 11 => 4 | 12 => 4 | 13 => 4 | 16 => 3
  | 17 => 4 | 18 => 1 | _ => 0
/-- A fault source at reset (R506). -/
def srcReset (s : Nat) : Src :=
  { outCls := 0, pers := false, cls := 0, rlim := rlimReset s, rcnt := 0, times := [], conds := [], quietAt := 0,
    inj := false }
/-- An empty history record. -/
def recReset (_ : Nat) : Rec :=
  { seq := 0, source := 0, flags := 0, inst := 0, time := 0, ovf := 0, rcnt := 0, detail := 0, domain := 0 }
/-- A lane's meters after META powers up: every counter 0 (R524). The first period's record carries RESTART (R520). -/
def meterReset (_ : Nat) : MeterLane :=
  { drops := [], vols := [], vpl := [], tStart := 0, restart := true, chStep := false, lost := false, count := 0,
    period := 0, wall := 0, lflags := 0, recs := [] }
/-- The mapping of an event source at reset (R147): FUNC and VEC. -/
def mapReset (s : Nat) : Nat × Nat :=
  if 320 ≤ s ∧ s < 336 then (s - 320, 0) else if 352 ≤ s ∧ s < 368 then (s - 352, 1) else (0, 0)

/-! ### Access to the state's tables -/

/-- The Quad of index k. -/
def State.getQuad (s : State) (k : Nat) : Quad := tabGet quadReset s.quads k
/-- The state with another Quad at index k. -/
def State.setQuad (s : State) (k : Nat) (v : Quad) : State := { s with quads := tabPut quadReset s.quads k v }
/-- The state with the Quad of index k changed by u. -/
def State.updQuad (s : State) (k : Nat) (u : Quad → Quad) : State := s.setQuad k (u (s.getQuad k))

/-- The HostFn of index k. -/
def State.getHost (s : State) (k : Nat) : HostFn := tabGet hostReset s.host k
/-- The state with another HostFn at index k. -/
def State.setHost (s : State) (k : Nat) (v : HostFn) : State := { s with host := tabPut hostReset s.host k v }
/-- The state with the HostFn of index k changed by u. -/
def State.updHost (s : State) (k : Nat) (u : HostFn → HostFn) : State := s.setHost k (u (s.getHost k))

/-- The Lane of index k. -/
def State.getLane (s : State) (k : Nat) : Lane := tabGet laneReset s.lanes k
/-- The state with another Lane at index k. -/
def State.setLane (s : State) (k : Nat) (v : Lane) : State := { s with lanes := tabPut laneReset s.lanes k v }
/-- The state with the Lane of index k changed by u. -/
def State.updLane (s : State) (k : Nat) (u : Lane → Lane) : State := s.setLane k (u (s.getLane k))

/-- The Ring of index k. -/
def State.getRing (s : State) (k : Nat) : Ring := tabGet ringReset s.rings k
/-- The state with another Ring at index k. -/
def State.setRing (s : State) (k : Nat) (v : Ring) : State := { s with rings := tabPut ringReset s.rings k v }
/-- The state with the Ring of index k changed by u. -/
def State.updRing (s : State) (k : Nat) (u : Ring → Ring) : State := s.setRing k (u (s.getRing k))

/-- The Engine of index k. -/
def State.getEngine (s : State) (k : Nat) : Engine := tabGet engineReset s.engines k
/-- The state with another Engine at index k. -/
def State.setEngine (s : State) (k : Nat) (v : Engine) : State := { s with engines := tabPut engineReset s.engines k v }
/-- The state with the Engine of index k changed by u. -/
def State.updEngine (s : State) (k : Nat) (u : Engine → Engine) : State := s.setEngine k (u (s.getEngine k))

/-- The ReqLine of index k. -/
def State.getReq (s : State) (k : Nat) : ReqLine := tabGet reqReset s.reqs k
/-- The state with another ReqLine at index k. -/
def State.setReq (s : State) (k : Nat) (v : ReqLine) : State := { s with reqs := tabPut reqReset s.reqs k v }
/-- The state with the ReqLine of index k changed by u. -/
def State.updReq (s : State) (k : Nat) (u : ReqLine → ReqLine) : State := s.setReq k (u (s.getReq k))

/-- The Bank of index k. -/
def State.getBank (s : State) (k : Nat) : Bank := tabGet bankReset s.banks k
/-- The state with another Bank at index k. -/
def State.setBank (s : State) (k : Nat) (v : Bank) : State := { s with banks := tabPut bankReset s.banks k v }
/-- The state with the Bank of index k changed by u. -/
def State.updBank (s : State) (k : Nat) (u : Bank → Bank) : State := s.setBank k (u (s.getBank k))

/-- The Cell of index k. -/
def State.getCell (s : State) (k : Nat) : Cell := tabGet cellReset s.cells k
/-- The state with another Cell at index k. -/
def State.setCell (s : State) (k : Nat) (v : Cell) : State := { s with cells := tabPut cellReset s.cells k v }
/-- The state with the Cell of index k changed by u. -/
def State.updCell (s : State) (k : Nat) (u : Cell → Cell) : State := s.setCell k (u (s.getCell k))

/-- The SelfTest of index k. -/
def State.getTest (s : State) (k : Nat) : SelfTest := tabGet testReset s.tests k
/-- The state with another SelfTest at index k. -/
def State.setTest (s : State) (k : Nat) (v : SelfTest) : State := { s with tests := tabPut testReset s.tests k v }
/-- The state with the SelfTest of index k changed by u. -/
def State.updTest (s : State) (k : Nat) (u : SelfTest → SelfTest) : State := s.setTest k (u (s.getTest k))

/-- The Link of index k. -/
def State.getLink (s : State) (k : Nat) : Link := tabGet linkReset s.links k
/-- The state with another Link at index k. -/
def State.setLink (s : State) (k : Nat) (v : Link) : State := { s with links := tabPut linkReset s.links k v }
/-- The state with the Link of index k changed by u. -/
def State.updLink (s : State) (k : Nat) (u : Link → Link) : State := s.setLink k (u (s.getLink k))

/-- The Encoder of index k. -/
def State.getEnc (s : State) (k : Nat) : Encoder := tabGet encReset s.encs k
/-- The state with another Encoder at index k. -/
def State.setEnc (s : State) (k : Nat) (v : Encoder) : State := { s with encs := tabPut encReset s.encs k v }
/-- The state with the Encoder of index k changed by u. -/
def State.updEnc (s : State) (k : Nat) (u : Encoder → Encoder) : State := s.setEnc k (u (s.getEnc k))

/-- The Trig of index k. -/
def State.getTrig (s : State) (k : Nat) : Trig := tabGet trigReset s.trigs k
/-- The state with another Trig at index k. -/
def State.setTrig (s : State) (k : Nat) (v : Trig) : State := { s with trigs := tabPut trigReset s.trigs k v }
/-- The state with the Trig of index k changed by u. -/
def State.updTrig (s : State) (k : Nat) (u : Trig → Trig) : State := s.setTrig k (u (s.getTrig k))

/-- The Pacer of index k. -/
def State.getPacer (s : State) (k : Nat) : Pacer := tabGet pacerReset s.pacers k
/-- The state with another Pacer at index k. -/
def State.setPacer (s : State) (k : Nat) (v : Pacer) : State := { s with pacers := tabPut pacerReset s.pacers k v }
/-- The state with the Pacer of index k changed by u. -/
def State.updPacer (s : State) (k : Nat) (u : Pacer → Pacer) : State := s.setPacer k (u (s.getPacer k))

/-- The Gate of index k. -/
def State.getGate (s : State) (k : Nat) : Gate := tabGet gateReset s.gates k
/-- The state with another Gate at index k. -/
def State.setGate (s : State) (k : Nat) (v : Gate) : State := { s with gates := tabPut gateReset s.gates k v }
/-- The state with the Gate of index k changed by u. -/
def State.updGate (s : State) (k : Nat) (u : Gate → Gate) : State := s.setGate k (u (s.getGate k))

/-- The Motor of index k. -/
def State.getMotor (s : State) (k : Nat) : Motor := tabGet motorReset s.motors k
/-- The state with another Motor at index k. -/
def State.setMotor (s : State) (k : Nat) (v : Motor) : State := { s with motors := tabPut motorReset s.motors k v }
/-- The state with the Motor of index k changed by u. -/
def State.updMotor (s : State) (k : Nat) (u : Motor → Motor) : State := s.setMotor k (u (s.getMotor k))
def State.getPort (s : State) (x : Nat) : Port := tabGet portReset s.chn.ports x
def State.updPort (s : State) (x : Nat) (u : Port → Port) : State :=
  { s with chn := { s.chn with ports := tabPut portReset s.chn.ports x (u (s.getPort x)) } }
def State.getPin (s : State) (n : Nat) : Pin := tabGet pinReset s.hk.pins n
def State.updPin (s : State) (n : Nat) (u : Pin → Pin) : State :=
  { s with hk := { s.hk with pins := tabPut pinReset s.hk.pins n (u (s.getPin n)) } }
def State.getDie (s : State) (n : Nat) : Die := tabGet dieReset s.hk.die n
def State.updDie (s : State) (n : Nat) (u : Die → Die) : State :=
  { s with hk := { s.hk with die := tabPut dieReset s.hk.die n (u (s.getDie n)) } }
def State.getTreq (s : State) (p : Nat) : Treq := tabGet treqReset s.hk.treq p
def State.updTreq (s : State) (p : Nat) (u : Treq → Treq) : State :=
  { s with hk := { s.hk with treq := tabPut treqReset s.hk.treq p (u (s.getTreq p)) } }
def State.getSrc (s : State) (i : Nat) : Src := tabGet srcReset s.flt.srcs i
def State.updSrc (s : State) (i : Nat) (u : Src → Src) : State :=
  { s with flt := { s.flt with srcs := tabPut srcReset s.flt.srcs i (u (s.getSrc i)) } }
def State.getMeter (s : State) (l : Nat) : MeterLane := tabGet meterReset s.meter.lanes l
def State.updMeter (s : State) (l : Nat) (u : MeterLane → MeterLane) : State :=
  { s with meter := { s.meter with lanes := tabPut meterReset s.meter.lanes l (u (s.getMeter l)) } }
def State.getFuse (s : State) (r w : Nat) : W32 := tabGet (fun _ => 0) s.fuse.words (128 * r + w)
def State.setFuse (s : State) (r w : Nat) (v : W32) : State :=
  { s with fuse := { s.fuse with words := tabPut (fun _ => 0) s.fuse.words (128 * r + w) v } }
def State.getMap (s : State) (src : Nat) : Nat × Nat := tabGet mapReset s.evt.maps src
/-- Applying u to every index of a list in turn. -/
def forAll (l : List Nat) (u : State → Nat → State) (s : State) : State := l.foldl u s

/-! ### Time, domains and numbering -/

/-- Chain time as a count (R443). -/
def State.now (s : State) : Nat := s.time.toNat
/-- The state at tick t, where t lies ahead: time never runs backward, and chain time holds while the root PLL is unlocked (R56). -/
def State.at_ (s : State) (t : Nat) : State :=
  if s.glb.rootLock ∧ s.time.toNat < t then { s with time := BitVec.ofNat 64 t } else s

/-- Domain numbers (R79). -/
abbrev dAON : Nat := 68
abbrev dHOST : Nat := 69
abbrev dTHNA : Nat := 70
abbrev dTHNB : Nat := 71
abbrev dFEED : Nat := 72
abbrev dLS (q : Nat) : Nat := 73 + q
abbrev dMOT : Nat := 77
abbrev dCHN : Nat := 78
abbrev dMETA : Nat := 79

/-- The part is powered and its pins are its own: not before power-up (R83), after a device stop (R480) or after a pin-taking
boundary-scan instruction (R116). -/
def State.alive (s : State) : Bool := s.glb.powered && !s.glb.devStop && !s.glb.pins
/-- Domain d runs: powered, out of reset, clocked (R78, R90). -/
def State.on (s : State) (d : Nat) : Bool := s.alive && bit s.glb.clk d
/-- A row's effect where its domain runs; a row of a stopped domain does nothing (R76, R106). -/
def whenOn (d : Nat) (u : State → State) (s : State) : State := if s.on d then u s else s
/-- FIRECLK runs (R54, R56). -/
def State.fire (s : State) : Bool := s.alive && s.glb.rootLock
/-- AON, where the TAP lies (R116), is powered and out of reset: from step 5 of R83 until power is lost or a device stop (R480). -/
def State.aonRuns (s : State) : Bool := s.glb.powered && !s.glb.devStop && bit s.glb.clk dAON
/-- Setting or clearing a domain's bits in GLB_CLKSTS and GLB_PWRSTS (R90). -/
def State.setDomain (s : State) (d : Nat) (up : Bool) : State :=
  { s with glb := { s.glb with clk := setBit s.glb.clk d up, pwr := setBit s.glb.pwr d up } }

/-- The quad, the quadrant and the links of a cell (R20). -/
def quadOf (c : Nat) : Nat := c / 4
def quadrantOf (c : Nat) : Nat := if c < 256 then c / 64 else (c - 256) / 4
def linksOf (c : Nat) : List Nat := [2 * c, 2 * c + 1]
/-- The active cells of a quad (R20). -/
def cellsOfQuad (k : Nat) : List Nat := [4 * k, 4 * k + 1, 4 * k + 2, 4 * k + 3]
/-- The four spare cells of a quadrant (R20). -/
def sparesOf (q : Nat) : List Nat := [256 + 4 * q, 257 + 4 * q, 258 + 4 * q, 259 + 4 * q]
/-- The quadrant of a quad (R20). -/
def quadrantOfQuad (k : Nat) : Nat := if k < 64 then k / 16 else k - 64
/-- The lane that owns active cell c (R122, R123). -/
def State.laneOf (s : State) (c : Nat) : Nat := (s.getQuad (quadOf c)).owner.toNat
/-- The active quads and active cells of a lane, in rising order (R122). -/
def State.quadsOf (s : State) (l : Nat) : List Nat := (List.range 64).filter (fun k => decide ((s.getQuad k).owner.toNat = l))
def State.cellsOf (s : State) (l : Nat) : List Nat := (s.quadsOf l).flatMap cellsOfQuad
/-- The cell that serves the work of active cell c (R23): c itself, or the spare that stands in. -/
def State.serverOf (s : State) (c : Nat) : Nat := if (s.getCell c).svc = .stoodIn ∨ (s.getCell c).svc = .underTest
  ∨ (s.getCell c).svc = .retired then (s.getCell c).server else c

/-- A function is present on the bus (R121): lane 0 always, lane n while VF Enable is 1 and NumVFs, taken as at most 15, is ≥ n. -/
def State.present (s : State) (f : Nat) : Bool := f = 0 || (s.glb.vfEn && decide (f ≤ min 15 s.glb.numVfs.toNat))

/-- A free value, and the state that has used it (log entry 6). -/
def State.fresh (s : State) : W64 × State := (Config.freeWord s.free, { s with free := s.free + 1 })

/-- Sending something on a wire. -/
def State.send (s : State) (o : Out) : State := { s with out := o :: s.out }

/-- The address key of byte a of function f's host memory: addresses are 64 bits. -/
def hostKey (f : Nat) (a : Nat) : Nat := f * 2 ^ 64 + a % 2 ^ 64
/-- Writing bytes to the host memory of function f. -/
def State.dma (s : State) (f : Nat) (a : Nat) (bs : List Byte) : State :=
  { s with hostMem := hostWrite s.hostMem (hostKey f a) bs }
/-- The address of a bank's byte in the line store. -/
def storeKey (b off : Nat) : Nat := b * 524288 + off

end Sys2Proof.Machine
end

