-- ==== Sys2Proof/Machine/Frames.lean ====
section
/-! DEFINITION. Frames as bytes: those to a head, from TYPE through the check field (R343-R346, R360, R361), and those of the chain (R436,
R438). Multi-byte fields are little-endian (R11). -/

namespace Sys2Proof.Machine

/-- The number in n bytes from offset `off`; bytes that are not there count as 0. -/
def numAt (bs : List Byte) (off n : Nat) : Nat := ofLe ((bs.drop off).take n)
/-- The byte at an offset. -/
def byteAt (bs : List Byte) (off : Nat) : Nat := numAt bs off 1

/-! ### Head links (R343-R345) -/

/-- A frame with a check field of CRC-16, and one with CRC-32. -/
def shortFrame (body : List Byte) : List Byte := body ++ leBytes (crc16 body) 2
def longFrame (body : List Byte) : List Byte := body ++ leBytes (crc32 body) 4
/-- A frame's check field of CRC-16 is right: its last two bytes, least significant first, over all before (R343). -/
def frameOk (frame : List Byte) : Bool :=
  decide (2 ≤ frame.length) && decide (crc16 (frame.take (frame.length - 2)) = ofLe (frame.drop (frame.length - 2)))

/-- LATCH-LOAD of line n with its codes (position, code): bank n mod 2, and the code of position j in bits [2 (j mod 4) + 1 : 2 (j mod 4)] of data
byte j div 4 (R345, R346). -/
def latchFrame (n : Int) (codes : List (Nat × Nat)) : List Byte :=
  longFrame ([0x11, BitVec.ofNat 8 (n % 2).toNat] ++ leBytes (n % 65536).toNat 2 ++ leBytes ((codes.map (fun e => e.2 * 4 ^ e.1)).sum) 512)
/-- STROBE of sub-strobe i of line n split into k (R345). -/
def strobeFrame (n : Int) (i k wset time : Nat) : List Byte :=
  shortFrame ([0x12, BitVec.ofNat 8 ((n % 2).toNat + 2 * i + 8 * (k - 1) + 32 * wset)] ++ leBytes (n % 65536).toNat 2 ++ leBytes time 6)
/-- TIME-SYNC (R345, R355). -/
def timeFrame (time : Nat) : List Byte := shortFrame (0x14 :: leBytes time 8)
/-- The 128 bytes of a waveform definition (R360). -/
def waveTo (w : Wave) : List Byte :=
  leBytes w.energy 2 ++ leBytes (ofInt 16 w.tcoef).toNat 2 ++ leBytes 0 4
    ++ (List.range 30).flatMap (fun i => leBytes (w.segs.getD i (0, 0)).1 2 ++ leBytes (ofInt 16 (w.segs.getD i (0, 0)).2).toNat 2)
/-- WAVE-LOAD of slot 4 w + c (R345, R360). -/
def waveFrame (seq : Byte) (slot : Nat) (w : Wave) : List Byte := longFrame ([0x13, seq, BitVec.ofNat 8 slot] ++ waveTo w)
/-- CONFIG: up to 256 bytes of head configuration space from an address (R345, R361). -/
def configFrame (seq : Byte) (addr : Nat) (data : List Byte) : List Byte :=
  longFrame ([0x15, seq] ++ leBytes addr 2 ++ [BitVec.ofNat 8 data.length] ++ data)

/-! ### Chain frames (R436, R438) -/

/-- A chain frame but for its CRC; LEN is the length of the data. -/
structure PrlFrame where
  type  : Byte
  prio  : Bool
  hops  : BitVec 16
  src   : BitVec 16
  dst   : BitVec 16
  inj   : BitVec 16
  seq   : BitVec 16
  level : Byte
  data  : List Byte
deriving DecidableEq, Repr

/-- The bytes of a frame: header, payload, and CRC-32 over both (R436). -/
def PrlFrame.bytes (f : PrlFrame) : List Byte :=
  longFrame ([f.type, BitVec.ofNat 8 (b2n f.prio)] ++ leBytes f.hops.toNat 2 ++ leBytes f.src.toNat 2 ++ leBytes f.dst.toNat 2
    ++ leBytes f.inj.toNat 2 ++ leBytes f.seq.toNat 2 ++ [f.level, 0] ++ leBytes f.data.length 2 ++ f.data)
/-- The longest payload of a frame type (R436). -/
def maxPay (type : Nat) : Nat := if type = 0x10 then 256 else 64
/-- A frame's length is that of LEN and no more than its type carries, and its CRC checks (R436). -/
def prlOk (b : List Byte) : Bool :=
  decide (20 ≤ b.length) && decide (numAt b 14 2 = b.length - 20) && decide (b.length - 20 ≤ maxPay (byteAt b 0)) && decide (crc32 (b.take (b.length - 4)) = ofLe (b.drop (b.length - 4)))
/-- The frame that bytes spell (R436). -/
def prlFrom (b : List Byte) : PrlFrame :=
  let half := fun (off : Nat) => BitVec.ofNat 16 (numAt b off 2)
  { type := BitVec.ofNat 8 (byteAt b 0), prio := decide (byteAt b 1 % 2 = 1), hops := half 2, src := half 4, dst := half 6, inj := half 8, seq := half 10
    level := BitVec.ofNat 8 (byteAt b 12), data := (b.drop 16).take (b.length - 20) }

/-- What a unit says in a frame that it originates, by type (R438). -/
inductive PrlMsg where
  | hello (h : Hello)
  | lat
  | timeSync (time : W64)
  | probe (b : ProbeBody)
  | probeReply (b : ReplyBody)
  | join (id : W64) (addr : BitVec 16) (level : Byte)
  | joinReply (id : W64) (addr : BitVec 16)
  | register (ep : Nat) (levelKind : Bool) (level : Byte)
  | prepare (ep : Nat) (level : Byte)
  | ack (ep : Nat) (res : AckRes)
  | commit (ep : Nat)
  | cancel (ep : Nat) (cause : CancelCause) (dst : BitVec 16)
  | batonReq (id : W64)
  | batonMove (id : W64) (ep : Nat)
  | claim (id : W64)
  | alert (port : PortIx)
deriving DecidableEq, Repr

/-- TYPE (R438). -/
def PrlMsg.type : PrlMsg → Byte
  | .hello _ => 0x01 | .lat => 0x02 | .timeSync _ => 0x03 | .probe _ => 0x04 | .probeReply _ => 0x05 | .join .. => 0x06 | .joinReply .. => 0x07
  | .register .. => 0x08 | .prepare .. => 0x09 | .ack .. => 0x0A | .commit _ => 0x0B | .cancel .. => 0x0C | .batonReq _ => 0x0D
  | .batonMove .. => 0x0E | .claim _ => 0x0F | .alert _ => 0x11
/-- DST (R437, R438): every unit, the baton holder, or the unit named. A link-local frame is given that of every unit (DESIGN CHOICE, log entry
36). -/
def PrlMsg.dst : PrlMsg → BitVec 16
  | .hello _ | .lat | .timeSync _ | .probe _ | .joinReply .. | .prepare .. | .commit _ | .batonMove .. | .claim _ => 0xFFFF
  | .probeReply _ | .join .. | .register .. | .ack .. | .batonReq _ | .alert _ => 0xFFFE
  | .cancel _ _ d => d
/-- The codes of ACK and CANCEL (R438). -/
def ackCode : AckRes → Byte
  | .ready => 0 | .none => 1 | .notReady => 2
def cancelCode : CancelCause → Byte
  | .protocol => 0 | .late => 1 | .level => 2
/-- The payload (R438). The role of a HELLO is 1 for a ring unit (DESIGN CHOICE, log entry 36). -/
def PrlMsg.payload : PrlMsg → List Byte
  | .hello h => leBytes h.id.toNat 8 ++ leBytes h.addr.toNat 2 ++ [BitVec.ofNat 8 h.port.val, BitVec.ofNat 8 (b2n h.role), h.level]
  | .lat => []
  | .timeSync t => leBytes t.toNat 8 ++ leBytes 0 6
  | .probe b => leBytes b.time.toNat 8 ++ [BitVec.ofNat 8 (b2n b.closed)] ++ leBytes b.lead.toNat 2 ++ [b.guard, b.ol, b.lmin, b.lmax]
      ++ leBytes b.rtr.toNat 4 ++ leBytes b.members.toNat 2 ++ leBytes b.id.toNat 8
  | .probeReply b => leBytes b.id.toNat 8 ++ [b.level] ++ leBytes b.arrival.toNat 8 ++ leBytes b.residence.toNat 4 ++ leBytes b.missed.toNat 2
  | .join id addr level => leBytes id.toNat 8 ++ leBytes addr.toNat 2 ++ [level]
  | .joinReply id addr => leBytes id.toNat 8 ++ leBytes addr.toNat 2
  | .register ep kind level => leBytes ep 6 ++ [BitVec.ofNat 8 (b2n kind), level]
  | .prepare ep level => leBytes ep 6 ++ [level]
  | .ack ep res => leBytes ep 6 ++ [ackCode res]
  | .commit ep => leBytes ep 6
  | .cancel ep cause _ => leBytes ep 6 ++ [cancelCode cause]
  | .batonReq id | .claim id => leBytes id.toNat 8
  | .batonMove id ep => leBytes id.toNat 8 ++ leBytes ep 6
  | .alert port => [BitVec.ofNat 8 port.val]
/-- A frame says m. -/
def PrlFrame.says (f : PrlFrame) (m : PrlMsg) : Bool := decide (f.type = m.type ∧ f.dst = m.dst ∧ f.data = m.payload)

end Sys2Proof.Machine
end

