-- ==== Sys2Proof/Machine/Flags.lean ====
section
/-! DEFINITION. The signalling that commands share: event status and MSI-X (R143-R147), AER (R120), SVCREQ (R503), the fault collector
(R488-R506), and the event registers of cells, head links and Pacers with the event sources they raise (R274, R338). -/

namespace Sys2Proof.Machine

/-! ### Events and MSI-X -/

/-- The request of an event source: its status AND its enable (R144). -/
def State.request (s : State) (src : Nat) : Bool := bit s.evt.stat src && bit s.evt.en src

/-- A vector of a function can send a message now: none of the conditions of R144 holds. -/
def State.canSend (s : State) (f v : Nat) : Bool :=
  let h := s.getHost f
  s.present f && !h.d3 && h.msixEn && !h.maskAll && !(tabGet vecReset h.vecs v).mask

/-- A rise of a request mapped to (f, v): the message is sent, or the vector's pending bit is set (R144). -/
def State.signal (f v : Nat) (s : State) : State :=
  if s.canSend f v then s.send (.msix f v) else s.updHost f (fun h => { h with pba := setBit h.pba v true })

/-- Some source mapped to (f, v) has a high request. -/
def State.anyRequest (s : State) (f v : Nat) : Bool :=
  (List.range 384).any (fun src => s.request src && decide (s.getMap src = (f, v)))

/-- One pending bit after a change (R144): it is cleared where no source mapped to it requests, and sent where it can be. -/
def State.settleVec (f : Nat) (s : State) (v : Nat) : State :=
  if bit (s.getHost f).pba v then
    if s.anyRequest f v then
      if s.canSend f v then (s.updHost f (fun h => { h with pba := setBit h.pba v false })).send (.msix f v) else s
    else s.updHost f (fun h => { h with pba := setBit h.pba v false })
  else s

/-- The pending bits of one function after a change of status, enable, mapping, mask or power state (R144). -/
def State.settleFn (s : State) (f : Nat) : State :=
  if (s.getHost f).pba = 0 then s else (List.range 128).foldl (State.settleVec f) s

/-- The pending bits of every function. -/
def State.settle (s : State) : State := (List.range 16).foldl State.settleFn s

/-- Raising event `src`: its status bit is set, and a rise of its request signals its vector (R144). The event block lies in
HOST and does not see an event while HOST does not run (R76). -/
def State.raise (src : Nat) (s : State) : State :=
  if s.on dHOST then
    let was := s.request src
    let s := { s with evt := { s.evt with stat := setBit s.evt.stat src true } }
    if !was && bit s.evt.en src then s.signal (s.getMap src).1 (s.getMap src).2 else s
  else s

/-- Raising an event where a condition holds. -/
def State.raiseIf (b : Bool) (src : Nat) (s : State) : State := if b then s.raise src else s

/-- An error logged through AER on function f (R120). -/
def State.aer (f : Nat) (e : Aer) (s : State) : State := s.updHost f (fun h => { h with aer := e :: h.aer })

/-- A discarded access of function f: EVT_STRAY rises by 1 (R128, R133, R144). -/
def State.stray (f : Nat) (s : State) : State := s.updHost f (fun h => { h with stray := satInc h.stray })

/-- How a failed read is reported through AER (R195, R534). -/
def aerOf : BusError → Aer
  | .ur => .readUr | .ca => .readCa | .poisoned => .poisoned | .timeout => .timeout

/-! ### SVCREQ (R503) -/

/-- Level of SVCREQ: some cause is set. -/
def State.svcreq (s : State) : Bool := decide (s.flt.cause ≠ 0)

/-- Setting or clearing a cause of SVCREQ; a change of the pin raises event 343 (R503). -/
def State.setCause (b : Nat) (on : Bool) (s : State) : State :=
  let t := { s with flt := { s.flt with cause := setBit s.flt.cause b on } }
  State.raiseIf (t.svcreq != s.svcreq) 343 t

/-! ### The fault collector (R488-R497) -/

/-- The domain of a fault's instance, 0xFF for none (R490; the assignment is DEDUCED, log entry 10). -/
def faultDomain (src inst : Nat) : Byte :=
  BitVec.ofNat 8 (match src with
    | 0 | 1 | 2 => dLS (quadrantOf inst)
    | 3 | 4 | 17 => quadOf inst
    | 5 => inst
    | 6 | 7 => inst / 8
    | 8 | 9 => dTHNA + inst
    | 11 => if inst < 80 then inst else 0xFF
    | 15 => dCHN
    | 16 => dMOT
    | _ => 0xFF)

/-- A source is outstanding (R496). -/
def Src.out (x : Src) : Bool := decide (x.outCls ≠ 0)

/-- A fault of class c is outstanding in some source (FLT_STS.OUT). -/
def State.outClass (s : State) (c : Nat) : Bool := (List.range 32).any (fun i => bit (s.getSrc i).outCls c)

/-- The event of a fault class (R488). -/
def classEvent (c : Nat) : Nat := 336 + c

/-- The record that a fault or a recovery of source src leaves (R490), but for FIRST. -/
def State.mkRec (s : State) (src inst : Nat) (cls : BitVec 2) (recov pers inj : Bool) (detail : W64) : Rec :=
  { seq := s.flt.seq, source := BitVec.ofNat 8 src,
    flags := BitVec.ofNat 8 (cls.toNat + 4 * b2n recov + 8 * b2n pers + 16 * b2n inj),
    inst := BitVec.ofNat 16 inst, time := s.time, ovf := s.flt.ovf.setWidth 16, rcnt := (s.getSrc src).rcnt, detail := detail,
    domain := faultDomain src inst }

/-- FLT_SEQ after a record: it wraps from 0xFFFF_FFFF to 1 (R506). -/
def nextSeq (x : W32) : W32 := if x = 0xFFFFFFFF then 1 else x + 1

/-- Starting the write of a record (R491, R492), or counting it as overflow while one is being written (R493). A record of the
first-error log takes bit 5 of FLAGS. After step 3 of a device stop the collector writes nothing more (R480). -/
def State.writeRec (r : Rec) (first : Bool) (s : State) : State :=
  if s.flt.frozen then s
  else if s.flt.writing.isSome then
    ({ s with flt := { s.flt with ovf := satInc s.flt.ovf } } : State).raise 342
  else
    let f := first && s.flt.first.isNone
    let r := if f then { r with flags := setBit r.flags 5 true } else r
    { s with flt := { s.flt with writing := some (s.flt.head.toNat, r, f), seq := nextSeq s.flt.seq } }

/-- A fault from a checker (R488-R494): its class event, the source's state and condition, AER for DEVICE-CRITICAL, and its
record. `stands` says that the condition stands after the fault. -/
def State.faultInj (inj : Bool) (src : Nat) (cls : BitVec 2) (inst : Nat) (detail : W64) (stands : Bool) (s : State) : State :=
  let x := s.getSrc src
  let s := s.updSrc src (fun x => { x with
    outCls := setBit x.outCls cls.toNat true, cls := cls, quietAt := s.now, inj := inj && (x.inj || !x.out),
    conds := if stands && !x.conds.contains inst then inst :: x.conds else x.conds })
  let s := s.raise (classEvent cls.toNat)
  let s := if cls = 3 then s.aer 0 .internal else s
  if s.flt.histMin.toNat ≤ cls.toNat then
    s.writeRec (s.mkRec src inst cls false x.pers inj detail) (decide (s.flt.firstMin.toNat ≤ cls.toNat))
  else s

/-- A fault that was not injected. -/
def State.fault (src : Nat) (cls : BitVec 2) (inst : Nat) (detail : W64) (stands : Bool) (s : State) : State :=
  s.faultInj false src cls inst detail stands

/-- The injection that waits is for this checker (R504). -/
def State.injHits (s : State) (src inst : Nat) : Bool :=
  s.flt.pend && decide (s.flt.hitSrc = src) && decide (s.flt.hitInst = inst)
/-- The injection has acted: DONE (R504). -/
def State.injDone (s : State) : State := { s with flt := { s.flt with pend := false, done := true, injRound := 0 } }
/-- A fault that the waiting injection caused, where `b` holds. -/
def State.faultBy (b : Bool) (src : Nat) (cls : BitVec 2) (inst : Nat) (detail : W64) (stands : Bool) (s : State) : State :=
  let s := s.faultInj b src cls inst detail stands
  if b then s.injDone else s
/-- Source 0 or 1: the inverted check bits stand in block i of bank b, written since ARM (R504). -/
def State.injBlock (s : State) (src b i : Nat) : Bool :=
  s.injHits src b && decide (s.flt.injRound = 1) && decide (s.flt.hitAddr = i)

/-- The end of the condition of one instance of a source (R489, R496): the quiet period starts once none stands. -/
def State.endCond (src inst : Nat) (s : State) : State :=
  if (s.getSrc src).conds.contains inst then
    s.updSrc src (fun x =>
      let c := x.conds.filter (fun i => decide (i ≠ inst))
      { x with conds := c, quietAt := if c.isEmpty then s.now else x.quietAt })
  else s

/-- Recoveries of a source within the last RWIN seconds (R497). -/
def State.recentRecoveries (s : State) (times : List Tick) : Nat :=
  (times.filter (fun t => decide (s.now < t + s.flt.rwin.toNat * 1000 * msTicks))).length

/-- The recovery of a source when its quiet period passes (R496, R497, R504). -/
def State.recover (src : Nat) (s : State) : State :=
  let x := s.getSrc src
  let times := if x.inj then x.times else (s.now :: x.times).take 15
  let esc := !x.inj && decide (x.rlim ≠ 0) && !x.pers && decide (x.rlim.toNat ≤ s.recentRecoveries times)
  let s := s.updSrc src (fun x => { x with
    outCls := 0, rcnt := satInc x.rcnt, times := times, pers := x.pers || esc, inj := false })
  let s := s.raise 341
  let s := s.raiseIf esc 340
  let s := if esc then s.setCause 1 true else s
  s.writeRec (s.mkRec src 0 x.cls true (x.pers || esc) x.inj 0) false

/-! ### Event registers of cells, links, Pacers and gates -/

/-- Bits of CELL_EVT (R273). -/
abbrev evTkoDone : Nat := 0
abbrev evTkoFail : Nat := 1
abbrev evBistPass : Nat := 2
abbrev evBistFail : Nat := 3
abbrev evXchgMiss : Nat := 4
abbrev evTblUe : Nat := 5
abbrev evLink : Nat := 6
abbrev evGate : Nat := 7

/-- The quad whose event source a cell's events raise (R274): the quad that owns the work. -/
def evtQuad (s : State) (c : Nat) : Nat :=
  if 256 ≤ c ∧ (s.getCell c).svc = .standingIn then quadOf (s.getCell c).server else quadOf c

/-- Setting bit i of CELL_EVT of a cell; its first rise raises the quad's event (R274). -/
def State.cellEvt (c i : Nat) (s : State) : State :=
  let old := bit (s.getCell c).evt i
  State.raiseIf (!old) (evtQuad s c) (s.updCell c (fun x => { x with evt := setBit x.evt i true }))

/-- Setting bit i of HL_EVT of a cell; a first rise sets CELL_EVT.LINK (R374). -/
def State.linkEvt (c i : Nat) (s : State) : State :=
  let old := bit (s.getCell c).hlEvt i
  let s := s.updCell c (fun x => { x with hlEvt := setBit x.hlEvt i true })
  if old then s else s.cellEvt c evLink

/-- Setting bit i (0-7, the LINK0 coding) of HL_EVT for head link l, in the window of its cell (R374). -/
def State.hlEvt (l i : Nat) (s : State) : State := s.linkEvt (l / 2) (8 * (l % 2) + i)

/-- Setting bit i of GATE_EVTg: each rise raises event 244 + g and sets CELL_EVT.GATE of the timing cell (R406). -/
def State.gateEvt (g i : Nat) (s : State) : State :=
  let old := bit (s.getGate g).evt i
  let s := s.updGate g (fun x => { x with evt := setBit x.evt i true })
  if old then s else (s.raise (244 + g)).cellEvt (4 * (s.getGate g).owner.toNat) evGate

/-- Setting bit i of PACER_EVTp; each rise raises event 376 + p (R338). -/
def State.pacerEvt (p i : Nat) (s : State) : State :=
  let old := bit (s.getPacer p).evt i
  State.raiseIf (!old) (376 + p) (s.updPacer p (fun x => { x with evt := setBit x.evt i true }))

/-- Setting bit i of MOT_EVTn and raising its event (R413, R431): 292 + 2n for the faults, bits 0-2; 293 + 2n for the flags. -/
def State.motorEvt (n i : Nat) (s : State) : State :=
  (s.updMotor n (fun m => { m with evt := setBit m.evt i true })).raise (if i < 3 then 292 + 2 * n else 293 + 2 * n)

/-- Fired tests that satisfy p are skipped (R389). -/
def State.skipTests (p : GTest → Bool) (s : State) : State :=
  forAll (List.range 16) (fun s g => if (s.getGate g).open_.isEmpty then s else
    s.updGate g (fun x => { x with open_ := x.open_.map (fun t => if p t then { t with skip := true } else t) })) s

end Sys2Proof.Machine
end

