-- ==== Sys2Proof/Machine/Operands.lean ====
section
/-! DEFINITION. What every command of a queue pair shares: packet fields, the checks of R156, status codes, completion entries, handles,
the resources of R533, and the two shapes of a command (immediate and long). -/

namespace Sys2Proof.Machine

/-! ### Packet fields (R155) -/

/-- The number in `len` bytes of the packet from byte `off`, off ≥ 8. -/
def pnum (p : Packet) (off len : Nat) : Nat := (p.param.toNat / 2 ^ (8 * (off - 8))) % 2 ^ (8 * len)
def pforce (p : Packet) : Bool := bit p.flags 0
def pfence (p : Packet) : Bool := bit p.flags 1

/-- A parameter of a command: its bytes, and whether its value is in range. -/
structure Field where
  off : Nat
  len : Nat
  ok  : Bool

/-- Byte i of PARAM is bad (R156 check 4): it starts a field out of range, or no field holds it and it is not 0. -/
def badByte (p : Packet) (fs : List Field) (i : Nat) : Bool :=
  fs.any (fun x => decide (x.off = i) && !x.ok)
    || (!fs.any (fun x => decide (x.off ≤ i ∧ i < x.off + x.len)) && decide (pnum p i 1 ≠ 0))

/-- The first bad byte of a packet: FLAGS at 3, then PARAM. -/
def firstBad (p : Packet) (fs : List Field) : Option Nat :=
  if p.flags.toNat < 4 then ((List.range 56).map (· + 8)).find? (badByte p fs) else some 3

/-! ### Status codes (R171) -/

abbrev stOk : BitVec 16 := 0x0000
abbrev stAccepted : BitVec 16 := 0x0001
abbrev stBadOpcode : BitVec 16 := 0x0100
abbrev stBadParam : BitVec 16 := 0x0101
abbrev stBadLane : BitVec 16 := 0x0102
abbrev stNoHandle : BitVec 16 := 0x0103
abbrev stBadState : BitVec 16 := 0x0104
abbrev stBadHandle : BitVec 16 := 0x0105
abbrev stOvercommit : BitVec 16 := 0x0200
abbrev stBusy : BitVec 16 := 0x0201
abbrev stAborted : BitVec 16 := 0x0202
abbrev stRoleContended : BitVec 16 := 0x0300
abbrev stEpochMissed : BitVec 16 := 0x0301
abbrev stEpochCancelled : BitVec 16 := 0x0302
abbrev stFuseWindow : BitVec 16 := 0x0400
abbrev stFuseLocked : BitVec 16 := 0x0401
abbrev stFuseVerify : BitVec 16 := 0x0402
abbrev stSealExhausted : BitVec 16 := 0x0500
abbrev stSealDisabled : BitVec 16 := 0x0501
abbrev stLevelMismatch : BitVec 16 := 0x0600
abbrev stLaneReset : BitVec 16 := 0x0700
abbrev stAuthFail : BitVec 16 := 0x0800
abbrev stHwFault : BitVec 16 := 0x0900

/-! ### Completion entries (R152-R154, R158) -/

/-- Entries in a completion queue of 2^CQ_LOG2 that the host has not consumed. -/
def HostFn.unconsumed (h : HostFn) : Nat :=
  (h.cqTail.toNat + 2 ^ h.cqLog.toNat - h.cqHead.toNat) % 2 ^ h.cqLog.toNat

/-- There is room for an ordinary entry: at most size − 2 unconsumed entries after it (R153). -/
def HostFn.room (h : HostFn) : Bool := decide (h.unconsumed + 3 ≤ 2 ^ h.cqLog.toNat)

/-- The 16 bytes of a completion entry (R158). -/
def entryBytes (h : HostFn) (e : Entry) : List Byte :=
  leBytes e.tag.toNat 4 ++ leBytes (if e.hv then e.handle.toNat else 0) 4 ++ leBytes e.status.toNat 2
    ++ leBytes h.sqHead.toNat 2 ++ leBytes e.detail.toNat 2 ++ [BitVec.ofNat 8 (b2n e.hv + 2 * b2n e.final)]
    ++ [BitVec.ofNat 8 (b2n h.phase)]

/-- CQ_TAIL and PHASE after an entry (R152). -/
def HostFn.advanceCq (h : HostFn) : HostFn :=
  let t := (h.cqTail.toNat + 1) % 2 ^ h.cqLog.toNat
  { h with cqTail := BitVec.ofNat 16 t, phase := if t = 0 then !h.phase else h.phase }

/-- A queue pair on which entries wait (R153, R154). -/
def HostFn.withWaiting (l : List Entry) (h : HostFn) : HostFn := { h with waiting := l }
/-- A handle ends: it is outstanding no longer (R165). -/
def State.endHandle (h : W32) (s : State) : State := { s with ops := s.ops.filter (fun o => decide (o.handle ≠ h)) }

/-- Writing an entry at CQ_TAIL and raising event 320 + q (R145, R152). A final entry ends its handle (R165). -/
def State.writeEntry (q : Nat) (e : Entry) (s : State) : State :=
  let h := s.getHost q
  let s := s.dma q (h.cqBase.toNat + 16 * h.cqTail.toNat) (entryBytes h e)
  let s := s.updHost q HostFn.advanceCq
  (if e.final then s.endHandle e.handle else s).raise (320 + q)

/-- Thinis executes: a core runs an authenticated image, or (for lane 0) the boot ROM serves (R174, R512, R527). -/
def State.imageRuns (s : State) : Bool := decide (s.thn.a.role = .active) || decide (s.thn.b.role = .active)
def State.romServes (s : State) : Bool := decide (s.thn.a.role = .rom)
/-- A core posts entries: one runs, and no core swap is under way (R172, R174). -/
def State.corePosts (s : State) : Bool := !s.thn.paused && (s.imageRuns || s.romServes)
/-- Posting the entries that wait, in order, while EN = 1, there is room and a core posts them (R153, R154, R172). -/
def State.drain (q : Nat) : Nat → State → State
  | 0, s => s
  | n + 1, s =>
    let h := s.getHost q
    match h.waiting with
    | [] => s
    | e :: rest =>
      if h.en && h.room && s.corePosts then
        State.drain q n (State.writeEntry q e (s.updHost q (HostFn.withWaiting rest)))
      else s

/-- Posting an entry on queue q behind those that wait. -/
def State.post (q : Nat) (e : Entry) (s : State) : State :=
  State.drain q ((s.getHost q).waiting.length + 1) (s.updHost q (fun h => h.withWaiting (h.waiting ++ [e])))

/-- The only entry of an immediate command, or of one refused (R159). -/
def State.answer (q : Nat) (tag : W32) (status : BitVec 16) (detail : Nat) (s : State) : State :=
  s.post q { tag := tag, handle := 0, status := status, detail := BitVec.ofNat 16 detail, hv := false, final := false }

/-! ### Handles (R164-R166) -/

/-- The operation of a handle that has not ended: outstanding, and its final entry is not waiting. -/
def State.running (s : State) (h : W32) : Option Op :=
  match s.ops.find? (fun o => decide (o.handle = h)) with
  | none => none
  | some o => if (s.getHost o.queue).waiting.any (fun e => e.final && decide (e.handle = h)) then none else some o

/-- The first running operation that satisfies p. -/
def State.findOp (s : State) (p : Op → Bool) : Option Op :=
  s.ops.find? (fun o => p o && (s.running o.handle).isSome)

/-- Why no handle can be allocated on lane q (R166): 2 when it holds 1,024, 1 when the slot is held. -/
def State.noHandle (s : State) (q : Nat) : Option Nat :=
  let mine := s.ops.filter (fun o => decide (o.queue = q))
  if 1024 ≤ mine.length then some 2
  else if mine.any (fun o => decide (o.handle.setWidth 16 = (s.getHost q).next.setWidth 16)) then some 1 else none

/-- The handle that lane q allocates next (R164, R166). -/
def State.nextHandle (s : State) (q : Nat) : W32 := BitVec.ofNat 4 q ++ (s.getHost q).next

/-- The allocation counter moves on (R164). -/
def HostFn.nextUsed (h : HostFn) : HostFn := { h with next := h.next + 1 }
/-- Accepting a long command: it receives its handle and its ACCEPTED entry (R159, R166). -/
def State.accept (q : Nat) (p : Packet) (kind : OpKind) (s : State) : State :=
  let h := s.nextHandle q
  let s := s.updHost q HostFn.nextUsed
  let o : Op := { handle := h, tag := p.tag, queue := q, target := p.lane.toNat, kind := kind }
  let s := { s with ops := s.ops ++ [o] }
  s.post q { tag := p.tag, handle := h, status := stAccepted, detail := 0, hv := true, final := false }

/-! ### Taking a command (R151, R156, R160, R161) -/

/-- Thinis serves queue q: the part runs, no core swap pauses it (R172), and it has an image, or the ROM for lane 0 (R512). -/
def State.serves (s : State) (q : Nat) : Bool :=
  s.on dHOST && !s.thn.paused && (s.imageRuns || (s.romServes && decide (q = 0)))
/-- A NOZZLE-MARK of queue q waits for its line boundary, and with it its entry (R161, R254). -/
def State.marking (s : State) (q : Nat) : Bool := s.cells.any (fun e => e.2.marks.any (fun m => decide (m.queue = q)))

/-- The part can take the packet at SQ_HEAD of queue q now (R151, R153, R161, R172, R174, R527): every command before it has its first
entry, and none waits under FENCE. -/
def State.takes (s : State) (q : Nat) : Bool :=
  let h := s.getHost q
  s.serves q && h.en && decide (h.sqHead ≠ h.sqTail) && h.waiting.isEmpty && h.fence.isNone && s.assign.isNone
    && !s.marking q
    && !s.lanes.any (fun e => match e.2.reset with
        | none => false
        | some r => r.issuers.any (fun i => decide (i.1 = q)) || (decide (e.1 = q) && r.flr))

/-- SQ_HEAD moves on by one packet (R151). -/
def HostFn.pastHead (h : HostFn) : HostFn := { h with sqHead := BitVec.ofNat 12 ((h.sqHead.toNat + 1) % 2 ^ h.sqLog.toNat) }
/-- Taking the packet (R151). -/
def State.takeHead (q : Nat) (s : State) : State := s.updHost q HostFn.pastHead

/-- The handles that lane q holds. -/
def State.handlesOf (s : State) (q : Nat) : List W32 := (s.ops.filter (fun o => decide (o.queue = q))).map (fun o => o.handle)
/-- Every handle that a waiting command of queue q waits for has posted its final entry (R161). -/
def State.fenceOver (s : State) (f : Fenced) : Bool := f.handles.all (fun h => !s.ops.any (fun o => decide (o.handle = h)))
/-- The command of queue q that a FENCE holds, none where the queue has none. -/
def HostFn.setFence (f : Option Fenced) (h : HostFn) : HostFn := { h with fence := f }

/-- The answer to a packet whose OPCODE is of no row (R156 check 1): BAD-OPCODE, or BAD-STATE from the boot ROM (R512). -/
def State.badOpcode (q : Nat) (tag : W32) (s : State) : State := s.answer q tag (if s.imageRuns then stBadOpcode else stBadState) 0
/-- Packets of no row at the head of queue q are taken and answered while Thinis can; one with FENCE = 1 waits for the lane's handles (R161).
Packets of a row are taken by their own command. -/
def State.serveUnknown (q : Nat) : Nat → State → State
  | 0, s => s
  | n + 1, s =>
    let h := s.getHost q
    match h.fence, h.unknown.find? (fun u => decide (u.index = h.sqHead)) with
    | some { cmd := none, tag := tag, handles := hs }, _ =>
      if s.serves q && s.fenceOver { cmd := none, tag := tag, handles := hs } then
        State.serveUnknown q n ((s.updHost q (HostFn.setFence none)).badOpcode q tag)
      else s
    | some { cmd := some _, .. }, _ => s
    | none, none => s
    | none, some u =>
      if s.takes q then
        let t := (s.takeHead q).updHost q (fun h => { h with unknown := h.unknown.filter (fun x => decide (x.index ≠ u.index)) })
        if u.fence && !(s.handlesOf q).isEmpty then
          t.updHost q (HostFn.setFence (some { cmd := none, tag := u.tag, handles := s.handlesOf q }))
        else State.serveUnknown q n (t.badOpcode q u.tag)
      else s
/-- Every packet of no row that can be answered now is. -/
def State.serveAll (q : Nat) (s : State) : State := State.serveUnknown q (2 * (s.getHost q).unknown.length + 2) s
/-- The queues go on once a core runs again: entries that waited for it are posted, in their order (R172, R174). -/
def State.queuesGoOn (s : State) : State :=
  forAll (List.range 16) (fun s q => (State.drain q (s.getHost q).waiting.length s).serveAll q) s

/-! ### Final entries -/

/-- Posting the final entry of a running operation (R159, R162). A packet of no row that waited for its handle is answered. -/
def State.finish (h : W32) (status : BitVec 16) (detail : Nat) (s : State) : State :=
  match s.running h with
  | none => s
  | some o => (s.post o.queue
      { tag := o.tag, handle := h, status := status, detail := BitVec.ofNat 16 detail, hv := true, final := true }).serveAll o.queue

/-- Posting the final entries of every running operation that satisfies p. -/
def State.finishAll (p : Op → Bool) (status : BitVec 16) (detail : Nat) (s : State) : State :=
  (s.ops.filter p).foldl (fun s o => s.finish o.handle status detail) s

/-! ### Resources (R533) -/

/-- What an operation can hold. -/
inductive Res where
  | slot (lane n : Nat)
  | config (lane : Nat)
  | print (lane : Nat)
  | tset (lane n : Nat)
  | channel (n : Nat)
  | chain
  | period (lane : Nat)
  | fuse
  | domain (d : Nat)
  | cell (c : Nat)
  | core
deriving DecidableEq, Repr

/-- What an operation holds but for gates (R533). -/
def Op.holds (o : Op) : List Res :=
  match o.kind with
  | .configLoad n _ _ => [.slot o.target n]
  | .configCommit n _ => [.slot o.target n, .config o.target, .print o.target]
  | .configPatch n _ => [.slot o.target n, .config o.target]
  | .configReload => [.config o.target]
  | .alignSet .. => [.config o.target]
  | .configRead => []
  | .printStart _ => [.print o.target]
  | .printStop .. => [.print o.target]
  | .tempsetLoad n _ _ => [.tset o.target n]
  | .spitTest .. => []
  | .motorEnable n => [.channel n]
  | .motorStop n => [.channel n]
  | .motorCal n => [.channel n]
  | .chainJoin _ => [.chain]
  | .batonRequest => [.chain]
  | .levelEnable .. => [.chain]
  | .periodClose => [.period o.target]
  | .fuseProgram => [.fuse]
  | .fuseLock => [.fuse]
  | .domainReset d _ => [.domain d]
  | .domainCycle d _ => [.domain d]
  | .spareTakeover c x => [.cell c, .cell x]
  | .spareReturn c x => [.cell c, .cell x]
  | .fwLoad .. => [.core]
  | .fwActivate => [.core]
  | .coreSwap => [.core]

/-- A resource is held by an outstanding operation, or by a takeover or self-test that Thinis started itself (R533). -/
def State.held (s : State) (r : Res) : Bool :=
  s.ops.any (fun o => o.holds.contains r) ||
  (match r with
   | .cell c => s.cells.any (fun e => e.2.tkoActive && (decide (e.1 = c) || decide (e.2.tkoPeer = c)))
       || s.tests.any (fun e => decide (e.2.cell = some c))
   | _ => false)

/-! ### Checking a command (R156, R157, R163) -/

/-- What R156 checks of one opcode, by its number in the table of R168. `lane0`: its class or the opcode is restricted to lane 0 (R125).
`target0`: its LANE is 0 (R157). `rom`: the boot ROM accepts it
(R512). `early`: it is of a class that R526 lets run before HWRDY. `states`: its lane states, none for "—" (R168). `own`: its
resources belong to the target lane and the lanes it names are present (R157). `busy`: a resource it needs is held, or a
condition its row gives with BUSY does not hold. `skip5`: check 5 does not apply (QUAD-ASSIGN). `bad`: a condition that its row
gives with BAD-STATE. -/
structure Cmd where
  opcode : BitVec 16
  lane0  : Bool
  target0 : Bool := lane0
  rom    : Bool
  early  : Bool
  states : Option (List LaneSt)
  fields : Packet → State → List Field
  own    : Packet → State → Bool
  busy   : Packet → State → Bool
  skip5  : Bool := false
  bad    : Packet → State → Bool := fun _ _ => false

/-- LANE is valid (R157). -/
def laneValid (target0 : Bool) (q : Nat) (p : Packet) (s : State) : Bool :=
  if q = 0 then (if target0 then decide (p.lane = 0) else decide (p.lane.toNat < 16) && s.present p.lane.toNat)
  else decide (p.lane.toNat = q)

/-- The lane state that R168 and R163 ask for. -/
def stateValid (c : Cmd) (p : Packet) (s : State) : Bool :=
  let st := (s.getLane p.lane.toNat).st
  decide (st ≠ .resetting) && (match c.states with | none => true | some l => l.contains st)

/-- Checks 2 to 6 of R156 in order, with the ROM's refusal of R512 first and R526 at check 6: the status and DETAIL of the
first that fails. -/
def Cmd.check (c : Cmd) (q : Nat) (p : Packet) (s : State) : Option (BitVec 16 × Nat) :=
  if !s.imageRuns && !c.rom then some (stBadState, 0)
  else if c.lane0 && decide (q ≠ 0) then some (stBadLane, 0)
  else if !(laneValid c.target0 q p s && c.own p s) then some (stBadLane, 0)
  else match firstBad p (c.fields p s) with
    | some i => some (stBadParam, i)
    | none =>
      if (!c.skip5 && !stateValid c p s) || c.bad p s then some (stBadState, 0)
      else if (!c.early && !s.glb.hwrdy) || c.busy p s then some (stBusy, 0)
      else none

/-- The interpretation of a command: a check that fails answers and changes nothing else (R156). -/
def Cmd.interpret (c : Cmd) (q : LaneIx) (p : Packet) (body : State → State) (s : State) : State :=
  match c.check q.val p s with
  | some (st, d) => s.answer q.val p.tag st d
  | none => body s

/-- A lane 0 command that acts on lane L waits for L's command in interpretation (R162). -/
def State.laneFree (s : State) (q : Nat) (p : Packet) : Bool := decide (q ≠ 0) || decide (p.lane = 0) || !s.marking p.lane.toNat

/-- The command waits under FENCE on queue q, and its wait is over (R161), with that for L's command (R162) and that for a QUAD-ASSIGN under
way (R200). -/
def State.resumes (s : State) (c : Cmd) (q : Nat) (p : Packet) : Bool :=
  match (s.getHost q).fence with
  | none => false
  | some f => decide (f.cmd = some (c.opcode, p)) && s.serves q && s.fenceOver f && s.laneFree q p && s.assign.isNone

/-- A command of queue q: nothing happens while it cannot be taken. With FENCE = 1 and handles outstanding it is taken and waits; the same row
with the handles ended is its interpretation (R161; log entry 68). -/
def Cmd.run (c : Cmd) (q : LaneIx) (p : Packet) (body : State → State) (s : State) : State :=
  if s.resumes c q.val p then c.interpret q p body (s.updHost q.val (HostFn.setFence none))
  else if s.takes q.val && s.laneFree q.val p then
    let t := s.takeHead q.val
    if pfence p && !(s.handlesOf q.val).isEmpty then
      t.updHost q.val (HostFn.setFence (some { cmd := some (c.opcode, p), tag := p.tag, handles := s.handlesOf q.val }))
    else c.interpret q p body t
  else s
/-- A command of queue q, with the packets of no row before and behind it. -/
def command (c : Cmd) (q : LaneIx) (p : Packet) (body : State → State) (s : State) : State :=
  (c.run q p body (s.serveAll q.val)).serveAll q.val

/-- An immediate command: its effect, then its one entry (R159, R161). -/
def immediate (c : Cmd) (q : LaneIx) (p : Packet) (body : State → State × BitVec 16 × Nat) (s : State) : State :=
  command c q p (fun s => let r := body s; r.1.answer q.val p.tag r.2.1 r.2.2) s

/-- A long command: check 7, then ACCEPTED with its handle, then what it starts (R156, R159). -/
def long (c : Cmd) (q : LaneIx) (p : Packet) (kind : State → OpKind) (start : W32 → State → State) (s : State) : State :=
  command c q p (fun s =>
    match s.noHandle q.val with
    | some d => s.answer q.val p.tag stNoHandle d
    | none => start (s.nextHandle q.val) (s.accept q.val p (kind s))) s

/-! ### Common parts of command descriptions -/

/-- Every lane state but RESETTING. -/
abbrev anyState : Option (List LaneSt) := some [.idle, .configured, .print]
abbrev stC : Option (List LaneSt) := some [.configured]
abbrev stP : Option (List LaneSt) := some [.print]
abbrev stIC : Option (List LaneSt) := some [.idle, .configured]
abbrev stCP : Option (List LaneSt) := some [.configured, .print]

/-- A field that takes any value. -/
def fAny (off len : Nat) : Field := ⟨off, len, true⟩
/-- A field whose value is at most m. -/
def fMax (p : Packet) (off len m : Nat) : Field := ⟨off, len, decide (pnum p off len ≤ m)⟩
/-- An epoch number (R168, R452): 0, or at least the current epoch + 2 × LEAD, with LEAD that of the unit's own chain or of the baton
holder's PROBE; bits [63:48] are 0. -/
def fEpoch (p : Packet) (off : Nat) (s : State) : Field :=
  let e := pnum p off 8
  let lead := if s.chn.baton && decide (s.chn.st ≠ .relayOnly) then s.chn.lead.toNat else s.chn.leadAct.toNat
  ⟨off, 8, decide (e < 2 ^ 48) && (decide (e = 0) || decide (s.now / 65536 + 2 * lead ≤ e))⟩
/-- A unit in RELAY-ONLY accepts only epoch 0 (R463). -/
def relayBad (off : Nat) (p : Packet) (s : State) : Bool := decide (s.chn.st = .relayOnly) && decide (pnum p off 8 ≠ 0)

/-- A buffer of n bytes whose layout the spec does not give, written to host memory of function q (log entry 3). -/
def State.freeBuf (q addr n : Nat) (s : State) : State :=
  let k := s.free
  ({ s with free := s.free + 1 }).dma q addr ((List.range n).map (Config.bufferByte k))

end Sys2Proof.Machine
end

