-- ==== Sys2Proof/Machine/Areas.lean ====
section
/-! DEFINITION. What a cell's configuration copy fixes: its areas in the bank, its request-line regions, its admission arithmetic
(R206-R210, R229-R231, R241), and access to the bank that serves a cell. -/

namespace Sys2Proof.Machine

/-- The copy in use (R224), none when no copy is intact or none has been written. -/
def Cell.copy (c : Cell) : Option Copy := c.inUse.bind (fun i => (c.active[i]?).map (fun x => x.body))

/-- The configuration of active cell c's work: the copy in use. While none is intact the cell goes on with the copy that it used last, at level 0
(R224; log entry 70). -/
def State.cfg (s : State) (c : Nat) : Copy := ((s.getCell c).copy).getD (s.getCell c).lastCfg
/-- No copy of a configured cell is intact, so that every one of its positions takes level 0 (R224). -/
def Cell.bare (x : Cell) : Bool := !x.active.isEmpty && x.inUse.isNone

/-- Link i of a copy, and mask k. -/
def linkCfg (x : Copy) (i : Nat) : LinkCfg := if i = 0 then x.link0 else x.link1
def maskCfg (x : Copy) (k : Nat) : MaskCfg :=
  if k = 0 then x.mask0 else if k = 1 then x.mask1 else if k = 2 then x.mask2 else x.mask3

/-- Redundant nozzles of a link (R241): codes 0-3 for 0, 32, 64, 128. -/
def nredOf (l : LinkCfg) : Nat := if l.nred = 0 then 0 else if l.nred = 1 then 32 else if l.nred = 2 then 64 else 128
/-- Column count of a cell (R241). -/
def ccOf (x : Copy) : Nat := 4096 - nredOf x.link0 - nredOf x.link1
/-- Column base of link i (R241). -/
def colBase (x : Copy) (i : Nat) : Nat := if i = 0 then 0 else 2048 - nredOf x.link0

/-- Size of the contone scratch (R206). -/
def scratchSize (x : Copy) : Nat := if x.mode = 1 then 8192 else 0
/-- Size of mask k's area (R206): a mask with EN = 0 takes none. -/
def maskSize (x : Copy) (k : Nat) : Nat := if (maskCfg x k).en then 512 * (maskCfg x k).h else 0
/-- Size of the enabled masks together. -/
def masksSize (x : Copy) : Nat := maskSize x 0 + maskSize x 1 + maskSize x 2 + maskSize x 3
/-- Size of the data area (R206, R252). -/
def dataSize (x : Copy) : Nat := 2048 * x.datasz
/-- Where mask k's area lies in the bank: after the scratch, in ascending mask number (DESIGN CHOICE, log entry 12). -/
def maskBase (x : Copy) (k : Nat) : Nat := scratchSize x + ((List.range k).map (maskSize x)).sum
/-- Where the data area lies: after the masks (log entry 12). -/
def dataBase (x : Copy) : Nat := scratchSize x + masksSize x

/-- Masks of a request line, in ascending number (R229). -/
def masksOn (x : Copy) (line : Nat) : List Nat :=
  (List.range 4).filter (fun k => (maskCfg x k).en && decide ((maskCfg x k).line = line))
/-- Size of the region of a request line (R206, R229): the data area on DATALINE, the areas of the enabled masks that name
the line, else 0. -/
def regionSize (x : Copy) (line : Nat) : Nat :=
  if line = x.dataline then dataSize x else ((masksOn x line).map (maskSize x)).sum
/-- Bank offset of byte w of a mask region: its areas are filled one after another (R229). -/
def maskOff (x : Copy) : List Nat → Nat → Nat
  | [], _ => 0
  | k :: ks, w => if w < maskSize x k then maskBase x k + w else maskOff x ks (w - maskSize x k)
/-- The masks of a request line whose areas are to be written: those that the last commit did not leave as they were (R248, R258). -/
def masksDue (x : Copy) (kept : List Nat) (line : Nat) : List Nat := (masksOn x line).filter (fun k => !kept.contains k)
/-- Bytes that a mask line takes until its areas are written. -/
def masksDueSize (x : Copy) (kept : List Nat) (line : Nat) : Nat := ((masksDue x kept line).map (maskSize x)).sum
/-- Bank offset of byte w, counted since the region was emptied, of a request line's region. -/
def regionOff (x : Copy) (kept : List Nat) (line w : Nat) : Nat :=
  if line = x.dataline then dataBase x + w % dataSize x else maskOff x (masksDue x kept line) w

/-- Key of a request line in the table of request lines. -/
def reqKey (c line : Nat) : Nat := 16 * c + line

/-- Complete data lines of a cell since its region was emptied (R230): 1 KiB each in pass-through, rows of 2 KiB for two
lines in contone. -/
def State.complete (s : State) (c : Nat) : Nat :=
  let x := s.cfg c
  let w := (s.getReq (reqKey c x.dataline)).wptr
  if x.mode = 1 then 2 * (w / 2048) else w / 1024
/-- Bytes of the data region that the cell has released (R231): a contone row when its second line is. -/
def releasedBytes (x : Copy) (relM : Nat) : Nat := if x.mode = 1 then 2048 * (relM / 2) else 1024 * relM
/-- FILL (R231): complete data lines neither fired nor released. -/
def State.fillOf (s : State) (c : Nat) : Nat :=
  s.complete c - ((s.getCell c).relM + (s.getCell c).done.length)
/-- The mask areas of a cell's configuration are all written (R248). -/
def State.masksFull (s : State) (c : Nat) : Bool :=
  let x := s.cfg c
  (List.range 4).all (fun k => !(maskCfg x k).en
    || decide (masksDueSize x (s.getCell c).keptMasks (maskCfg x k).line ≤ (s.getReq (reqKey c (maskCfg x k).line)).wptr))

/-- The quad that carries a cell's work now: its own, or its spare's (R23, R264). -/
def State.workQuad (s : State) (c : Nat) : Nat := quadOf (s.serverOf c)
/-- The cell's work runs: the quad that carries it is clocked and its bank's quadrant is powered. -/
def State.cellOn (s : State) (c : Nat) : Bool :=
  s.on (s.workQuad c) && s.on (dLS (quadrantOf c)) && !(s.getCell c).erased
    && !(decide ((s.getCell c).svc = .retired) && decide ((s.getCell c).server = c))

/-- F of a lane (R42, R231): the smallest FILL over its active cells. -/
def State.laneFill (s : State) (l : Nat) : Nat :=
  match s.cellsOf l with
  | [] => 0
  | c :: cs => cs.foldl (fun m c => min m (s.fillOf c)) (s.fillOf c)

/-- Free room of a request line in bytes: on DATALINE the released space, on a mask line what is still unwritten (R229). -/
def State.roomOf (s : State) (c line : Nat) : Nat :=
  let x := s.cfg c
  let r := s.getReq (reqKey c line)
  if line = x.dataline then
    dataSize x - (r.wptr + r.taken - releasedBytes x (s.getCell c).relM)
  else masksDueSize x (s.getCell c).keptMasks line - (r.wptr + r.taken)
/-- Requests pending on a line for bursts of b bytes (R27, R229): none while the quad is off (R201). -/
def State.requests (s : State) (c line b : Nat) : Nat :=
  if s.on (s.workQuad c) then s.roomOf c line / b else 0

/-! ### Bank bytes -/

/-- Writing bytes into the bank that serves cell c, and into its peer's while a takeover mirrors them (R263). A block that is
overwritten whole is no longer uncorrectable (R217). -/
def State.bankPut (b off : Nat) (bs : List Byte) (s : State) : State :=
  let s := { s with store := s.store.writeBytes (storeKey b off) bs }
  let i := s.flt.hitAddr
  let hit := (s.injHits 0 b || s.injHits 1 b) && decide (off < 64 * i + 64 ∧ 64 * i < off + bs.length)
  let s : State := if hit then { s with flt := { s.flt with injRound := 1 } } else s
  s.updBank b (fun x => { x with poison := x.poison.filter (fun i =>
    decide (¬ (off ≤ 64 * i ∧ 64 * i + 64 ≤ off + bs.length))) })
/-- A takeover or return of cell c mirrors its writes into the peer's bank (R263). -/
def State.mirrors (s : State) (c : Nat) : Bool :=
  (s.getCell c).tkoActive && decide (1 ≤ (s.getCell c).tkoStep.toNat) && decide ((s.getCell c).tkoStep.toNat ≤ 4)
def State.cellPut (c off : Nat) (bs : List Byte) (s : State) : State :=
  let m := s.mirrors c
  let peer := if s.serverOf c = c then (s.getCell c).tkoPeer else c
  let s := s.bankPut (s.serverOf c) off bs
  if m then s.bankPut peer off bs else s
/-- n bytes of the bank that serves cell c. -/
def State.cellRead (s : State) (c off n : Nat) : List Byte := s.store.readBytes (storeKey (s.serverOf c) off) n

/-! ### Admission (R208-R210) -/

/-- Window length W for f_max in 0.01 Hz (R208): floor(600,000,000 ÷ f_max in Hz). -/
def windowLen (fmax : Nat) : Nat := 60000000000 / fmax
/-- Enabled masks of a copy. -/
def maskCount (x : Copy) : Nat := ((List.range 4).filter (fun k => (maskCfg x k).en)).length
/-- P + M + X (R209). -/
def pipeTerm (x : Copy) : Nat := 16 + 8 * maskCount x + (if x.mode = 1 then 256 else 0)
/-- T (R209): ceil(4,096,000 ÷ f_max in Hz). -/
def tkoTerm (fmax : Nat) : Nat := ceilDiv 409600000 fmax
/-- The sum S of a bank's reservations (R209). -/
def admSum (x : Copy) : Nat := pipeTerm x + x.fr + x.dr + 2 + tkoTerm x.fmax
/-- A bank is admitted (R210): S ≤ W − 64, or f_max is 0. -/
def admits (x : Copy) : Bool := decide (x.fmax = 0) || decide (admSum x + 64 ≤ windowLen x.fmax)
/-- The bank's registers under a copy in force (R211, R225): with f_max = 0 nothing is reserved. A value too wide for its field, at a very low f_max,
keeps its low bits (DESIGN CHOICE, log entry 67). -/
def Bank.takeIn (x : Copy) (b : Bank) : Bank :=
  if x.fmax = 0 then { b with adm := false, limit := 0, sum := 0, resFeed := 0, resPipe := 0, resDbg := 0, resTko := 0 }
  else { b with
    adm := true, limit := BitVec.ofNat 20 (windowLen x.fmax - 64), sum := BitVec.ofNat 20 (admSum x)
    resFeed := BitVec.ofNat 16 x.fr, resPipe := BitVec.ofNat 16 (pipeTerm x), resDbg := BitVec.ofNat 16 x.dr
    resTko := BitVec.ofNat 16 (tkoTerm x.fmax) }
/-- Credits of the firing, mask and contone reads in a window (R209): 16 data blocks, 8 for each mask, 256 for contone screening. `pipe` is
P + M + X of the reservation. -/
def creditsOf (x : Copy) : Nat × Nat × Nat := (16, 8 * maskCount x, if x.mode = 1 then 256 else 0)
/-- Some firing, mask or contone read has used a credit of the window. -/
def Bank.pipeUsed (x : Bank) : Bool := decide (x.crData + x.crMask + x.crCont < x.resPipe.toNat)
/-- A bank that reserves nothing (R211). -/
def Bank.unadmit (b : Bank) : Bank :=
  { b with adm := false, limit := 0, sum := 0, resFeed := 0, resPipe := 0, resDbg := 0, resTko := 0 }

/-- Depth of a cell's bank in print lines (R207). -/
def depthOf (x : Copy) : Nat := dataSize x / 1024

end Sys2Proof.Machine
end

