-- ==== Sys2Proof/Machine/Feed.lean ====
section
/-! DEFINITION. Feed engines and feed rings (chapter 6): descriptors, channels, the funnel, write-backs, bus-error stop and restart, and
what resets do to rings. -/

namespace Sys2Proof.Machine

/-- The engine of a ring (R179), its owning lane (R122), its size (R178), its burst size B (R204). -/
def engineOf (r : Nat) : Nat := r / 4096
def State.ringLane (s : State) (r : Nat) : Nat := s.laneOf (s.getRing r).cell.toNat
def Ring.size (r : Ring) : Nat := 2 ^ r.log2.toNat
def burstSize (b : BitVec 2) : Nat := 256 * 2 ^ b.toNat

/-- Bytes of a descriptor's stream (R186), and its bursts. -/
def Desc.total (d : Desc) : Nat := d.span * d.na * d.nb * d.nc

/-- Codes of ERR (R204) and of a descriptor's STATUS (R193). -/
abbrev errNotOwned : BitVec 2 := 1
abbrev errBus : BitVec 2 := 2
abbrev errDoorbell : BitVec 2 := 3
abbrev wbOk : Nat := 0x0000
abbrev wbLaneReset : Nat := 0x0700
abbrev wbBusError : Nat := 0x0B00
abbrev wbBadDesc : Nat := 0x0B01
abbrev wbAbandoned : Nat := 0x0B02

/-- A descriptor from the 64 bytes fetched (R184, R187). -/
def readDesc (s : State) (r idx : Nat) (raw : BitVec 512) : Desc :=
  let n := fun (off len : Nat) => (raw.toNat / 2 ^ (8 * off)) % 2 ^ (8 * len)
  let ring := s.getRing r
  let b := burstSize ring.burst
  let t := n 20 2 * n 22 2 * n 24 2 * n 26 2
  let resv := decide (n 28 4 = 0 ∧ n 50 2 = 0 ∧ n 60 3 = 0 ∧ n 63 1 % 128 = 0)
  { idx := idx, base := BitVec.ofNat 64 (n 0 8), sa := signed 32 (n 8 4), sb := signed 32 (n 12 4), sc := signed 32 (n 16 4)
    span := n 20 2, na := n 22 2, nb := n 24 2, nc := n 26 2, own := decide (128 ≤ n 63 1)
    bad := !resv || decide (t = 0) || decide (t % b ≠ 0)
      || decide (regionSize (s.cfg ring.cell.toNat) ring.line.toNat / b < t / b) }

/-- The start of span (a, b, c) of a descriptor (R186), modulo 2^64. -/
def spanAddr (d : Desc) (a b c : Nat) : W64 :=
  d.base + BitVec.ofInt 64 (c * d.sc + b * d.sb + a * d.sa)
/-- The start of the span of number i in the stream, loop A innermost (R186). -/
def Desc.spanAt (d : Desc) (i : Nat) : W64 := spanAddr d (i % d.na) (i / d.na % d.nb) (i / (d.na * d.nb))

/-- Max_Read_Request_Size in bytes, by the code of Device Control (R117). -/
def mrrsBytes (code : BitVec 3) : Nat := 128 * 2 ^ code.toNat
/-- The next read of a span of which n bytes are left at address a (R188): a head up to a 64-byte boundary, whole 64-byte blocks up to the
largest read and within 4 KiB, or a tail. -/
def readLen (mrrs a n : Nat) : Nat :=
  if a % 64 ≠ 0 then min n (64 - a % 64)
  else if 64 ≤ n then min (n / 64 * 64) (min mrrs (4096 - a % 4096))
  else n
/-- The read that continues a descriptor's stream at byte x: its address and length. -/
def Desc.readAt (d : Desc) (mrrs x : Nat) : Nat × Nat :=
  let a := ((d.spanAt (x / d.span)).toNat + x % d.span) % 2 ^ 64
  (a, readLen mrrs a (d.span - x % d.span))

/-- The two write-backs of a descriptor at address a of function f's memory (R184, R193): bytes 48-59, then bytes 60-63 with OWN = 0. CIDX of
its ring moves on. -/
def State.writeBackAt (f a r idx status done : Nat) (s : State) : State :=
  let s := s.dma f (a + 48) (leBytes status 2 ++ leBytes 0 2 ++ leBytes done 4 ++ leBytes (s.time.toNat % 2 ^ 32) 4)
  let s := s.dma f (a + 60) (leBytes 0 4)
  s.updRing r (fun x => { x with cidx := BitVec.ofNat 12 ((idx + 1) % x.size) })
/-- The write-back of a descriptor of a ring that starts no channel. -/
def State.writeBack (r idx status done : Nat) (s : State) : State :=
  s.writeBackAt (s.ringLane r) ((s.getRing r).base.toNat + 64 * idx) r idx status done

/-- Channels of a ring that its engine has in service. -/
def State.inService (s : State) (r : Nat) : Nat :=
  ((s.getEngine (engineOf r)).chans.filter (fun c => decide (c.ring = r))).length

/-- A bad or unowned descriptor acts when it is its ring's next (R185, R187): BAD-DESC is written back and the ring goes on;
one not owned puts the ring in ERROR. The fuel is the number of prefetched descriptors. -/
def State.settleRing (r : Nat) : Nat → State → State
  | 0, s => s
  | n + 1, s =>
    let ring := s.getRing r
    match ring.pre with
    | [] => s
    | d :: ds =>
      if s.inService r ≠ 0 then s
      else if !d.own then s.updRing r (fun x => { x with st := .error, err := errNotOwned, pre := [] })
      else if d.bad then
        State.settleRing r n ((s.updRing r (fun x => { x with pre := ds })).writeBack r d.idx wbBadDesc 0)
      else s

/-! ### Ending channels -/

/-- Every burst of a channel is acknowledged. -/
def Chan.complete (c : Chan) : Bool := decide (c.total ≤ c.acked * c.burst)
/-- The running channel of an engine: the first that has bursts to come. The ones started after it have moved nothing (R192; log entry 66). -/
def Engine.running (x : Engine) : Option Chan := x.chans.find? (fun c => !c.complete)
/-- Bytes that the bursts begun so far take up: every burst for which a read has been issued (log entry 66). -/
def Chan.begun (c : Chan) : Nat := ceilDiv c.issued c.burst * c.burst
/-- A burst of the channel is on its way (R136 step 2, R197). -/
def Chan.midBurst (c : Chan) : Bool := decide (c.acked * c.burst < c.begun)

/-- Returning the requests that a channel took and did not fill. -/
def State.untake (ch : Chan) (s : State) : State :=
  s.updReq (reqKey ch.cell ch.line) (fun q => { q with taken := q.taken - (ch.total - ch.acked * ch.burst) })

/-- A quadrant whose power-off waits (R201) goes off once no channel in service has bursts for its banks. -/
def State.settleLsOff (s : State) : State :=
  forAll [0, 1, 2, 3] (fun s q =>
    let uses := (List.range 16).any (fun e => (s.getEngine e).chans.any (fun c => decide (quadrantOf c.cell = q)))
    if s.glb.lsOff.contains q && !uses then
      let s := s.setDomain (dLS q) false
      { s with glb := { s.glb with lsOff := s.glb.lsOff.filter (fun i => decide (i ≠ q)) } }
    else s) s

/-- Channels of an engine go; the completions of their reads are discarded as they arrive (R195 step 3). -/
def State.dropChans (e : Nat) (p : Chan → Bool) (s : State) : State :=
  let gone := ((s.getEngine e).chans.filter p).map (fun c => c.id)
  (s.updEngine e (fun x => { x with
    chans := x.chans.filter (fun c => !p c)
    reads := x.reads.map (fun d => if gone.contains d.chan then { d with dead := true } else d) })).settleLsOff

/-- A channel in service ends early (R136, R195, R197): a complete one is written back OK, the running one with the given status and the bursts
kept, and the descriptor of one that has moved nothing stays as it is in memory. -/
def State.endChan (status : Nat) (running : Option Nat) (ch : Chan) (s : State) : State :=
  let s := s.untake ch
  if ch.complete then s.writeBackAt ch.fn ch.at_ ch.ring ch.desc.idx wbOk ch.acked
  else if running = some ch.id then s.writeBackAt ch.fn ch.at_ ch.ring ch.desc.idx status ch.acked
  else s
/-- The channels of an engine that satisfy p end early. Where one of them is written back, the complete ones started before it are written back
first (R192). -/
def State.endChans (e : Nat) (p : Chan → Bool) (status : Nat) (s : State) : State :=
  let x := s.getEngine e
  let run := x.running.map (fun c => c.id)
  let writes := x.chans.any (fun c => p c && (c.complete || decide (run = some c.id)))
  let ends := fun (c : Chan) => p c || (writes && c.complete)
  let mine := x.chans.filter ends
  let s := mine.foldl (fun s c => s.endChan status run c) (s.dropChans e ends)
  forAll ((mine.filter (fun c => !p c)).map (fun c => c.ring)) (fun s r => State.settleRing r 5 s) s

/-! ### Descriptor fetches (R185, R191) -/

/-- Index of the descriptor that ring r fetches next (R185, R191): behind those in service and those prefetched. -/
def State.fetchIdx (s : State) (r : Nat) : Nat :=
  let ring := s.getRing r
  (ring.cidx.toNat + s.inService r + ring.pre.length) % ring.size

/-- Ring r has a descriptor to fetch (R185, R191): it runs, a doorbell covers the descriptor, and the prefetch buffer has room. -/
def State.wantsDesc (s : State) (r : Nat) : Bool :=
  let ring := s.getRing r
  decide (ring.st = .run) && !ring.busy && decide ((s.getLane (s.ringLane r)).st ≠ .resetting) && !(s.getEngine (engineOf r)).stopped
    && decide (s.fetchIdx r ≠ ring.pidx.toNat) && decide (ring.pre.length < 4)
    && decide (((s.rings.filter (fun e => decide (engineOf e.1 = engineOf r))).map (fun e => e.2.pre.length)).sum < 256)
/-- Descriptor fetches of ring r that R191 lets its engine issue. -/
def State.fetchesDue (s : State) (r : Nat) : Nat :=
  let ring := s.getRing r
  if s.wantsDesc r then min (4 - ring.pre.length) ((ring.pidx.toNat + ring.size - s.fetchIdx r) % ring.size) else 0
/-- Outstanding reads of an engine but for the descriptor fetches of some rings: its span reads, and the fetches whose data are to be discarded. -/
def State.readsOut (s : State) (e : Nat) : Nat :=
  (s.getEngine e).reads.length + ((s.rings.filter (fun x => decide (engineOf x.1 = e))).map (fun x => x.2.stale)).sum
/-- Descriptor fetches due in the rings of an engine below ring r. -/
def State.fetchesBefore (s : State) (e r : Nat) : Nat :=
  ((s.rings.filter (fun x => decide (engineOf x.1 = e ∧ x.1 < r))).map (fun x => s.fetchesDue x.1)).sum
/-- Descriptor fetches of ring r that are outstanding: those due, in the order of the rings, as far as the engine's 48 reads allow (R189; log
entry 66). -/
def State.fetchesOut (s : State) (r : Nat) : Nat :=
  min (s.fetchesDue r) (48 - s.readsOut (engineOf r) - s.fetchesBefore (engineOf r) r)
/-- A descriptor fetch of ring r is outstanding. -/
def State.fetches (s : State) (r : Nat) : Bool := decide (s.fetchesOut r ≠ 0)
/-- The prefetched descriptors of a ring are discarded, and those still being fetched when they arrive (R195 step 3, R197). -/
def State.dropPrefetch (r : Nat) (s : State) : State :=
  let n := s.fetchesOut r
  s.updRing r (fun x => { x with pre := [], stale := x.stale + n })

/-! ### Disable and enable (R197, R198) -/

/-- The end of a disable (R197), whose prefetched descriptors have gone: the running channel is written back with ABANDONED, and the ring is DISABLED, or runs anew where EN has been written 1 meanwhile (log entry 66). -/
def State.finishDisable (r : Nat) (s : State) : State :=
  let s := s.endChans (engineOf r) (fun c => decide (c.ring = r)) wbAbandoned
  s.updRing r (fun x =>
    if x.en then { x with st := .run, busy := false, err := 0, pidx := 0, cidx := 0, pre := [] }
    else { x with st := .disabled, busy := false, pre := [] })

/-- A burst of the ring's running channel is on its way (R197). -/
def State.midBurst (s : State) (r : Nat) : Bool :=
  (s.getEngine (engineOf r)).chans.any (fun c => decide (c.ring = r) && decide (c.acked * c.burst < c.limit))

/-- The channels that satisfy p end with the bursts that they have begun (R136 step 2, R197). -/
def State.limitChans (e : Nat) (p : Chan → Bool) (s : State) : State :=
  s.updEngine e (fun x => { x with chans := x.chans.map (fun c => if p c then { c with limit := min c.limit c.begun } else c) })

/-- Writing EN = 0 (R197): BUSY while the running channel finishes the bursts it has begun. Channels of the ring that have moved nothing end
at once. -/
def State.disableRing (r : Nat) (s : State) : State :=
  let ring := s.getRing r
  let s := s.updRing r (fun x => { x with en := false })
  if ring.st = .disabled then s
  else
    let e := engineOf r
    let run := (s.getEngine e).running.map (fun c => c.id)
    let s := s.dropPrefetch r
    let s := s.endChans e (fun c => decide (c.ring = r) && decide (run ≠ some c.id)) wbAbandoned
    let s := s.limitChans e (fun c => decide (c.ring = r))
    if s.midBurst r then s.updRing r (fun x => { x with busy := true }) else s.finishDisable r

/-- Writing EN = 1 (R180, R198). A ring that is still BUSY runs once it has finished (log entry 66). -/
def State.enableRing (r : Nat) (s : State) : State :=
  let ring := s.getRing r
  let clash := s.rings.any (fun e => decide (e.1 ≠ r) && e.2.en && decide (e.2.cell = ring.cell) && decide (e.2.line = ring.line))
  if ring.log2.toNat < 4 ∨ 12 < ring.log2.toNat ∨ clash ∨ (s.getLane (s.ringLane r)).st = .resetting
      ∨ (s.getEngine (engineOf r)).stopped then
    s.updRing r (fun x => { x with refused := true })
  else if ring.busy then s.updRing r (fun x => { x with en := true })
  else s.updRing r (fun x => { x with en := true, st := .run, err := 0, pidx := 0, cidx := 0, pre := [] })

/-- FEED_DOORBELL (R131, R133, R183): a doorbell of function f on ring r with the producer index. -/
def feedDoorbell (f r : Nat) (v : W32) (s : State) : State :=
  if s.ringLane r ≠ f then s.stray f
  else if (s.getLane f).st = .resetting then s
  else
    let ring := s.getRing r
    if ring.st = .run ∨ ring.st = .stopped then
      if v.toNat < ring.size then s.updRing r (fun x => { x with pidx := BitVec.ofNat 12 v.toNat })
      else s.updRing r (fun x => { x with err := errDoorbell })
    else s

/-! ### Channels (R188-R193) -/

/-- Issuing reads of the running channel in stream order while fewer than 48 of the engine are outstanding, its descriptor fetches among them
(R188, R189, R192). -/
def State.issueReads (e : Nat) : Nat → State → State
  | 0, s => s
  | n + 1, s =>
    let x := s.getEngine e
    if x.stopped ∨ 48 ≤ s.readsOut e + s.fetchesBefore e 65536 then s
    else match x.chans.find? (fun c => decide (c.issued < c.limit)) with
      | none => s
      | some c =>
        let r := c.desc.readAt (mrrsBytes (s.getHost c.fn).mrrs) c.issued
        let s := s.updEngine e (fun x => { x with
          reads := x.reads ++ [{ chan := c.id, ring := c.ring, addr := r.1, left := r.2, dead := false }]
          chans := x.chans.map (fun y => if y.id = c.id then { y with issued := y.issued + r.2 } else y) })
        State.issueReads e n (s.send (.feedRead e r.1 r.2 (s.getHost c.fn).relaxed))

/-- DESCRIPTOR_ARRIVAL (R185, R187): the 64 bytes of a fetched descriptor arrive; one fetched before a stop or a disable is discarded (R195
step 3). -/
def descriptorArrival (r : Nat) (raw : BitVec 512) (s : State) : State :=
  whenOn dFEED (fun s =>
    if (s.getRing r).stale ≠ 0 then State.issueReads (engineOf r) 48 (s.updRing r (fun x => { x with stale := x.stale - 1 }))
    else if s.fetches r then
      let d := readDesc s r (s.fetchIdx r) raw
      State.issueReads (engineOf r) 48 (State.settleRing r 5 (s.updRing r (fun x => { x with pre := x.pre ++ [d] })))
    else s) s

/-- A ring's next descriptor can start a channel (R191). -/
def State.qualifies (s : State) (r : Nat) (ring : Ring) : Bool :=
  decide (ring.st = .run) && !ring.busy && decide ((s.getLane (s.ringLane r)).st ≠ .resetting) &&
  (match ring.pre with
   | [] => false
   | d :: _ => d.own && !d.bad
       && decide (d.total / burstSize ring.burst ≤ s.requests ring.cell.toNat ring.line.toNat (burstSize ring.burst)))

/-- The ring an engine starts next: round robin by ring number after the one last started (R191). At reset `last` is 0, so that engine 0 takes
ring 0 after its others (DESIGN CHOICE, log entry 66). -/
def State.nextRing (s : State) (e : Nat) : Option Nat :=
  let q := (s.rings.filter (fun x => decide (engineOf x.1 = e) && s.qualifies x.1 x.2)).map (·.1)
  match q.find? (fun r => decide ((s.getEngine e).last < r)) with
  | some r => some r
  | none => q.head?

/-- CHANNEL_START (R191, R192): once the last read of the channel before it has been issued, the engine takes all requests of the next channel
at once and issues its reads. -/
def channelStart (e : Nat) (s : State) : State :=
  whenOn dFEED (fun s =>
    if (s.getEngine e).stopped || (s.getEngine e).chans.any (fun c => decide (c.issued < c.total)) then s
    else match s.nextRing e with
      | none => s
      | some r =>
        match (s.getRing r).pre with
        | [] => s
        | d :: ds =>
          let ring := s.getRing r
          let s := s.updReq (reqKey ring.cell.toNat ring.line.toNat) (fun q => { q with taken := q.taken + d.total })
          let s := s.updRing r (fun x => { x with pre := ds })
          let c : Chan :=
            { id := (s.getEngine e).nextId, ring := r, fn := s.ringLane r, at_ := ring.base.toNat + 64 * d.idx, cell := ring.cell.toNat
              line := ring.line.toNat, burst := burstSize ring.burst, desc := d, total := d.total, limit := d.total, issued := 0, buf := []
              got := 0, wrote := 0, acked := 0 }
          let s := s.updEngine e (fun x => { x with last := r, nextId := x.nextId + 1, chans := x.chans ++ [c] })
          State.issueReads e 48 s) s

/-- Writing a burst into a region, 64 bytes at a time: its blocks need not lie side by side in the bank (R189, R229). -/
def State.putBlocks (cell line : Nat) : Nat → Nat → List Byte → State → State
  | 0, _, _, s => s
  | n + 1, w, bs, s =>
    State.putBlocks cell line n (w + 64) (bs.drop 64) (s.cellPut cell (regionOff (s.cfg cell) (s.getCell cell).keptMasks line w) (bs.take 64))
/-- Bytes of a request line that the funnels have written and the bank has not acknowledged. A ring that is still BUSY and the one enabled after
it can have them on one line. -/
def State.unacked (s : State) (cell line : Nat) : Nat :=
  ((s.engines.flatMap (fun e => e.2.chans.filter (fun c => decide (c.cell = cell ∧ c.line = line)))).map (fun c => (c.wrote - c.acked) * c.burst)).sum
/-- Writing whole bursts of a channel into the bank (R189): each goes behind the bursts of its line already written. -/
def State.pump (e id : Nat) : Nat → State → State
  | 0, s => s
  | n + 1, s =>
    match (s.getEngine e).chans.find? (fun c => decide (c.id = id)) with
    | none => s
    | some c =>
      if c.buf.length < c.burst ∨ c.burst = 0 then s
      else
        let w := (s.getReq (reqKey c.cell c.line)).wptr + s.unacked c.cell c.line
        let s := State.putBlocks c.cell c.line (c.burst / 64) w (c.buf.take c.burst) s
        State.pump e id n (s.updEngine e (fun x => { x with
          chans := x.chans.map (fun y => if y.id = id then { y with buf := y.buf.drop y.burst, wrote := y.wrote + 1 } else y) }))

/-- Bytes of the oldest outstanding reads (R189, R192): those of a channel that goes on enter its funnel up to its limit, those of a read that
a stop left behind are discarded. -/
def State.takeData (e : Nat) : Nat → List Byte → State → State
  | 0, _, s => s
  | n + 1, bs, s =>
    match (s.getEngine e).reads, bs with
    | [], _ => s
    | _, [] => s
    | d :: ds, bs =>
      let k := min d.left bs.length
      let s := s.updEngine e (fun x => { x with reads := if k = d.left then ds else { d with left := d.left - k } :: ds })
      let s := if d.dead then s else
        let s := s.updEngine e (fun x => { x with chans := x.chans.map (fun y =>
          if y.id = d.chan then
            let m := min k (y.limit - y.got)
            { y with buf := y.buf ++ bs.take m, got := y.got + m }
          else y) })
        State.pump e d.chan (bs.length / 64 + 1) s
      State.takeData e n (bs.drop k) s

/-- READ_COMPLETION (R189, R192): read data arrive, in the order of the reads. The funnel cuts them into bursts and writes each whole burst,
and the engine issues further reads. -/
def readCompletion (e : Nat) (data : List Byte) (s : State) : State :=
  whenOn dFEED (fun s => State.issueReads e 48 (State.takeData e 48 data s)) s

/-- Steps 3 and 4 of R136 in one engine: the channels of lane l end, the running one with LANE-RESET. -/
def State.abandonLane (l e : Nat) (s : State) : State := s.endChans e (fun c => decide (c.fn = l)) wbLaneReset

/-- Channels of lane l in engine e have a burst on its way to the bank (R136 step 2). -/
def State.laneMidBurst (s : State) (l e : Nat) : Bool :=
  (s.getEngine e).chans.any (fun c => decide (c.fn = l) && decide (c.acked * c.burst < c.limit))
/-- Step 2 of R136 begins in engine e: the running channel of lane l ends with the bursts it has begun, those behind it at once. -/
def State.limitLane (l e : Nat) (s : State) : State :=
  let run := (s.getEngine e).running.map (fun c => c.id)
  (s.endChans e (fun c => decide (c.fn = l) && decide (run ≠ some c.id)) wbLaneReset).limitChans e (fun c => decide (c.fn = l))
/-- A lane reset that waited for engine e goes on once its burst has run to its end (R136 steps 2 and 3). -/
def State.resetEngine (e : Nat) (s : State) : State :=
  forAll (List.range 16) (fun s l =>
    match (s.getLane l).reset with
    | none => s
    | some r =>
      if r.engines.contains e && !s.laneMidBurst l e then
        (s.abandonLane l e).updLane l (fun x => { x with reset := some { r with engines := r.engines.filter (fun i => decide (i ≠ e)) } })
      else s) s

/-- Another consumer of the bank (scrub and a row repair among them), or the feed beyond its reservation, presses it in this window (R212-R214). -/
def Bank.pressed (x : Bank) (n : Nat) : Bool :=
  decide (x.crFeed < n) || decide (x.crDbg < x.resDbg.toNat) || decide (x.crTko < x.resTko.toNat) || decide (x.crScrub < 2) || !x.due.isEmpty
    || x.pipeUsed

/-- The feed uses n credits. A write that meets no other access waits for none (R213); else the cycles that it waits (R214) are bank timing, a
free value (log entry 6). -/
def State.feedCredit (b n : Nat) (s : State) : State :=
  if (s.getBank b).pressed n then
    let wait := s.fresh.1.toNat
    s.fresh.2.updBank b (fun x => { x with crFeed := x.crFeed - n, defer := satAdd x.defer wait })
  else s.updBank b (fun x => { x with crFeed := x.crFeed - n })

/-- BURST_ACK (R190, R197, R203): the bank has acknowledged every write of the oldest outstanding burst; the write pointer advances
by B. A lane reset and a disable that waited for the burst go on. -/
def burstAck (e : Nat) (s : State) : State :=
  whenOn dFEED (fun s =>
    match (s.getEngine e).chans.find? (fun c => decide (c.acked < c.wrote)) with
    | none => s
    | some c =>
      let s := s.updEngine e (fun x => { x with
        bursts := x.bursts + 1, chans := x.chans.map (fun y => if y.id = c.id then { y with acked := y.acked + 1 } else y) })
      let s := s.updReq (reqKey c.cell c.line) (fun q => { wptr := q.wptr + c.burst, taken := q.taken - c.burst })
      let s := (s.feedCredit (s.serverOf c.cell) (c.burst / 64)).resetEngine e
      if (s.getRing c.ring).busy && !s.midBurst c.ring then s.finishDisable c.ring else s) s

/-- CHANNEL_COMPLETE (R192, R193): the oldest channel has every burst acknowledged; it is written back OK. -/
def channelComplete (e : Nat) (s : State) : State :=
  whenOn dFEED (fun s =>
    match (s.getEngine e).chans with
    | [] => s
    | ch :: rest =>
      if ch.complete then
        let s := (s.updEngine e (fun x => { x with chans := rest })).settleLsOff
        State.settleRing ch.ring 5 (s.writeBackAt ch.fn ch.at_ ch.ring ch.desc.idx wbOk ch.acked)
      else s) s

/-! ### Bus-error stop and restart (R195, R196) -/

/-- Steps 3 to 6 of R195 for every channel and ring of an engine, which has stopped: outstanding fetches are noted, the running channel ends with BUS-ERROR (LANE-RESET where its lane is
RESETTING, R202), prefetched descriptors go, `bad` enters ERROR, RUN rings enter STOPPED, disables complete (R203), an enable written
since the disable being dropped without REFUSED (DESIGN CHOICE, log entry 66), and lane resets that waited for the engine go on (R139). -/
def State.stopRings (e : Nat) (bad : Option Nat) (s : State) : State :=
  let own := fun (s : State) (c : Chan) => decide ((s.getLane c.fn).st = .resetting)
  let run := (s.getEngine e).running
  let status := match run with | none => wbBusError | some c => if own s c then wbLaneReset else wbBusError
  let mine := (s.rings.filter (fun x => decide (engineOf x.1 = e))).map (fun x => x.1)
  let s := forAll mine.reverse (fun s r => s.dropPrefetch r) s
  let s := s.updEngine e (fun x => { x with stopped := true })
  let s := s.endChans e (fun _ => true) status
  let s : State := { s with rings := tabMap ringReset (fun r (y : Ring) =>
      if engineOf r ≠ e then y
      else if y.busy then { y with st := .disabled, busy := false, en := false }
      else if bad = some r then { y with st := .error, err := errBus }
      else if y.st = .run then { y with st := .stopped } else y) s.rings }
  s.resetEngine e

/-- The code of FEED_EERRe.CAUSE (R204). -/
def causeCode : BusError → Byte
  | .ur => 1 | .ca => 2 | .poisoned => 3 | .timeout => 4

/-- BUS_ERROR_STOP (R195): a read of engine e for ring r at addr ends in an error. An error of a read that a stop or a disable left behind is
discarded (step 3). -/
def busErrorStop (e : Nat) (cause : BusError) (r : Nat) (addr : W64) (s : State) : State :=
  whenOn dFEED (fun s =>
    let x := s.getEngine e
    let of := fun (d : FeedRead) => decide (d.ring = r) && decide (d.addr = addr.toNat)
    if engineOf r ≠ e then s
    else if x.reads.any (fun d => of d && d.dead) then
      s.updEngine e (fun x => { x with reads := x.reads.eraseP (fun d => of d && d.dead) })
    else if x.stopped then s
    else if !x.reads.any of && (s.getRing r).stale ≠ 0 then s.updRing r (fun y => { y with stale := y.stale - 1 })
    else
      let fetch := !x.reads.any of && s.fetches r
      let s := s.updEngine e (fun x => { x with
        cause := causeCode cause, errRing := BitVec.ofNat 16 r, errAddr := addr, stops := satInc x.stops
        reads := x.reads.eraseP of })
      let s := s.aer (s.ringLane r) (aerOf cause)
      let s := s.stopRings e (some r)
      State.raise (68 + e) (if fetch then s.updRing r (fun y => { y with stale := y.stale - 1 }) else s)) s

/-- FEED-RESTART of engine e (R196). -/
def State.restartEngine (e : Nat) (s : State) : State :=
  let s := s.updEngine e (fun x => { x with stopped := false })
  let s := { s with rings := tabMap ringReset (fun r (y : Ring) =>
    if engineOf r = e ∧ y.st = RingSt.stopped then { y with st := .run } else y) s.rings }
  s.raise (68 + e)

/-! ### Resets (R199) -/

/-- The rings bound to a cell of lane l. -/
def State.ringsOf (s : State) (l : Nat) : List Nat :=
  (s.rings.filter (fun e => decide (s.laneOf e.2.cell.toNat = l))).map (·.1)

/-- A ring after the lane reset of its lane (R199): DISABLED, indexes 0; base, size, burst and binding are kept, and with them ERR and REFUSED
(DESIGN CHOICE, log entry 66). -/
def Ring.laneReset (x : Ring) : Ring :=
  { x with st := .disabled, en := false, busy := false, pidx := 0, cidx := 0, pre := [] }

/-- Bursts in flight finish (R199): every burst that a channel has written is acknowledged, and a quadrant that waits goes on. -/
def State.finishBursts (s : State) : State :=
  forAll (List.range 16) (fun s e =>
    let s := (s.getEngine e).chans.foldl (fun s ch =>
      let n := ch.wrote - ch.acked
      let s := (s.updReq (reqKey ch.cell ch.line) (fun q => { wptr := q.wptr + n * ch.burst, taken := q.taken - n * ch.burst })).updEngine e
        (fun x => { x with bursts := x.bursts + BitVec.ofNat 32 n })
      if n = 0 then s else s.feedCredit (s.serverOf ch.cell) (n * (ch.burst / 64))) s
    s.updEngine e (fun x => { x with chans := x.chans.map (fun ch => { ch with acked := ch.wrote }) })) s

/-- Every engine stops as under a bus error, with ERR and FEED_EERRe unchanged (R199). -/
def State.feedStop (s : State) : State :=
  forAll (List.range 16) (fun s e =>
    (s.stopRings e none).raise (68 + e)) s.finishBursts

/-- FEED after a reset that no descriptor survives (R199): every ring at its reset context, FEED_WSEL at 0, every engine running with
no channel. Requests taken return, and lane resets that waited for a burst go on. -/
def State.feedClear (s : State) : State :=
  let s := s.finishBursts
  let s := { s with reqs := tabMap reqReset (fun _ q => { q with taken := 0 }) s.reqs }
  let s : State := { s with rings := [], engines := [], host := tabMap hostReset (fun _ h => { h with wsel := 0 }) s.host }
  forAll (List.range 16) (fun s e => s.resetEngine e) s.settleLsOff

end Sys2Proof.Machine
end

