-- ==== Sys2Proof/Machine/Ecdsa.lean ====
section
/-! DEFINITION. Verification of an ECDSA signature on P-384, which R513 names for firmware images. The curve and the procedure are those of
FIPS 186 (PRESUMED, log entry 5). A point is held in Jacobian coordinates (X, Y, Z), with Z = 0 at infinity. -/

namespace Sys2Proof.Machine

/-- The field of P-384, its coefficient b, the order of its base point, and the base point. -/
def p384 : Nat := 2 ^ 384 - 2 ^ 128 - 2 ^ 96 + 2 ^ 32 - 1
def p384B : Nat := 0xB3312FA7E23EE7E4988E056BE3F82D19181D9C6EFE8141120314088F5013875AC656398D8A2ED19D2A85C8EDD3EC2AEF
def p384N : Nat := 0xFFFFFFFFFFFFFFFFFFFFFFFFFFFFFFFFFFFFFFFFFFFFFFFFC7634D81F4372DDF581A0DB248B0A77AECEC196ACCC52973
def p384X : Nat := 0xAA87CA22BE8B05378EB1C71EF320AD746E1D3B628BA79B9859F741E082542A385502F25DBF55296C3A545E3872760AB7
def p384Y : Nat := 0x3617DE4A96262C6F5D9E98BF9292DC29F8F41DBD289A147CE9DA3113B5F0B8C00A60B1CE1D7E819D7A431D7C90EA0E5F

/-- n is worked out to a numeral before `f` takes it, so that an evaluation does not carry expressions along. -/
def worked {α : Type} (n : Nat) (f : Nat → α) : α :=
  match n with
  | 0 => f 0
  | m + 1 => f (m + 1)

/-- A difference in the field of m; b is below m. -/
def subMod (m a b : Nat) : Nat := (a + (m - b)) % m
/-- x^e in the field of m, for an exponent of k bits. -/
def powMod (m x e : Nat) : Nat → Nat
  | 0 => 1
  | k + 1 => worked (powMod m x (e / 2) k) (fun r => if e % 2 = 1 then r * r % m * x % m else r * r % m)
/-- The inverse of x modulo a prime of 384 bits. -/
def invMod (m x : Nat) : Nat := powMod m x (m - 2) 384

/-- A point in Jacobian coordinates. -/
abbrev Point := Nat × Nat × Nat
/-- A point whose coordinates are worked out. -/
def pointOf (x y z : Nat) (f : Point → Point) : Point := worked x (fun x => worked y (fun y => worked z (fun z => f (x, y, z))))
/-- Twice a point. -/
def Point.double (a : Point) : Point :=
  match a with
  | (x, y, z) =>
    if y = 0 ∨ z = 0 then (1, 1, 0)
    else
      let m := p384
      worked (z * z % m) (fun d => worked (y * y % m) (fun g => worked (x * g % m) (fun b =>
        worked (3 * (subMod m x d) * ((x + d) % m) % m) (fun e =>
          worked (subMod m (e * e % m) (8 * b % m)) (fun x3 =>
            pointOf x3 (subMod m (e * subMod m (4 * b % m) x3 % m) (8 * g * g % m)) (2 * y * z % m) id)))))
/-- The sum of two points. -/
def Point.add (a b : Point) : Point :=
  match a, b with
  | (x1, y1, z1), (x2, y2, z2) =>
    if z1 = 0 then b
    else if z2 = 0 then a
    else
      let m := p384
      worked (z1 * z1 % m) (fun w1 => worked (z2 * z2 % m) (fun w2 =>
        worked (x1 * w2 % m) (fun u1 => worked (subMod m (x2 * w1 % m) u1) (fun h =>
          worked (y1 * z2 * w2 % m) (fun s1 => worked (subMod m (y2 * z1 * w1 % m) s1) (fun r =>
            if h = 0 then (if r = 0 then Point.double a else (1, 1, 0))
            else
              worked (h * h % m) (fun h2 => worked (h * h2 % m) (fun h3 => worked (u1 * h2 % m) (fun v =>
                worked (subMod m (subMod m (r * r % m) h3) (2 * v % m)) (fun x3 =>
                  pointOf x3 (subMod m (r * subMod m v x3 % m) (s1 * h3 % m)) (h * z1 * z2 % m) id))))))))))
/-- u g + v q, from the highest of k bits down. -/
def Point.comb (g q gq : Point) (u v : Nat) : Nat → Point
  | 0 => (1, 1, 0)
  | k + 1 =>
    let t := (Point.comb g q gq (u / 2) (v / 2) k).double
    if u % 2 = 1 then (if v % 2 = 1 then t.add gq else t.add g) else if v % 2 = 1 then t.add q else t

/-- A public key lies on the curve. -/
def onCurve (x y : Nat) : Bool :=
  decide (x < p384 ∧ y < p384 ∧ y * y % p384 = (x * x % p384 * x + (p384 - 3) * x + p384B) % p384)
/-- The signature (r, s) under the public key (x, y) verifies for a digest. -/
def ecdsaOk (x y digest r s : Nat) : Bool :=
  if onCurve x y && decide (0 < r ∧ r < p384N ∧ 0 < s ∧ s < p384N) then
    worked (invMod p384N s) (fun w =>
      worked (digest % p384N * w % p384N) (fun u =>
        worked (r * w % p384N) (fun v =>
          let g : Point := (p384X, p384Y, 1)
          let q : Point := (x, y, 1)
          match Point.comb g q (g.add q) u v 384 with
          | (a, _, z) => decide (z ≠ 0) && decide (worked (invMod p384 z) (fun i => a * (i * i % p384) % p384 % p384N) = r))))
  else false

end Sys2Proof.Machine
end

