-- ==== Sys2Proof/Machine/LineStore.lean ====
section
/-! DEFINITION. Line-store banks at run time (chapter 7): credit windows, ECC, scrub, row repair and the debug windows. -/

namespace Sys2Proof.Machine

/-- The active cell whose work bank b carries: b itself, or the cell a spare stands in for (R23). -/
def State.workOf (s : State) (b : Nat) : Nat :=
  if 256 ≤ b ∧ (s.getCell b).svc = .standingIn then (s.getCell b).server else b

/-- A consumer uses n credits of the window; what it lacks it uses beyond reservation (R208, R212). -/
def useCredit (have_ n : Nat) : Nat := have_ - n

/-- Every consumer's reservation of bank b is refilled at the start of a window (R208). -/
def State.refillCredits (b : Nat) (s : State) : State :=
  s.updBank b (fun x =>
    let c := creditsOf (s.cfg (s.workOf b))
    if x.adm then { x with crFeed := x.resFeed.toNat, crDbg := x.resDbg.toNat, crScrub := 2, crTko := x.resTko.toNat
                           crData := c.1, crMask := c.2.1, crCont := c.2.2 }
    else { x with crFeed := 0, crDbg := 0, crScrub := 0, crTko := 0, crData := 0, crMask := 0, crCont := 0 })

/-- A takeover's copy from bank b in a window (R212, R263): the tables are copied when the first window of the copy begins; from then on the copy
takes its reservation and, beyond it, cycles that no other class claims. How many is bank timing, a free value within the window (log entries
6 and 70). The last block is copied by TAKEOVER_COPY_DONE. -/
def State.copyWindow (b : Nat) (s : State) : State :=
  let c := s.workOf b
  let x := s.getCell c
  if c < 256 ∧ x.tkoActive ∧ s.serverOf c = b then
    if x.tkoStep = 1 then s.updCell c (fun y => { y with tkoStep := 2 })
    else if x.tkoStep = 2 then
      let t := (s.getBank b).crTko
      let more := s.fresh.1.toNat % ((s.getBank b).limit.toNat + 1)
      let s := s.fresh.2.updBank b (fun y => { y with crTko := 0 })
      s.updCell c (fun y => { y with tkoBlocks := BitVec.ofNat 14 (min 8191 (y.tkoBlocks.toNat + t + more)) })
    else s
  else s

/-- Recording an error in GLB_LSECCb and GLB_LSEADDRb (R217, R218, R225). -/
def Bank.logError (ue : Bool) (i : Nat) (x : Bank) : Bank :=
  { x with
    ce := if ue then x.ce else satInc x.ce, ue := if ue then satInc x.ue else x.ue
    eValid := true, eIsUe := ue, eBlock := BitVec.ofNat 13 i }

/-- An uncorrectable block of bank b at a read (R217): it stays uncorrectable, is counted and recorded, raises a DEGRADED fault
of source 1, and its row falls due for repair (R219). -/
def State.blockUe (b i : Nat) (s : State) : State :=
  let s := s.updBank b (fun x => { (x.logError true i) with
    poison := if x.poison.contains i then x.poison else i :: x.poison
    due := if x.due.contains (i / 8) then x.due else i / 8 :: x.due })
  s.faultBy (s.injBlock 1 b i) 1 1 b (BitVec.ofNat 64 i) false

/-- A correctable error of block i of bank b at a read (R216, R218). -/
def State.blockCe (b i : Nat) (s : State) : State :=
  (s.updBank b (fun x => x.logError false i)).faultBy (s.injBlock 0 b i) 0 0 b (BitVec.ofNat 64 i) false
/-- Blocks that an access finds with an error of a kind. -/
def eccOf (k : Ecc) (l : List (BlockIx × Ecc)) : List Nat := (l.filter (fun e => decide (e.2 = k))).map (fun e => e.1.val)
/-- Blocks among `blocks` that a read finds uncorrectable: those already so, those that ECC finds so, and one that an injection broke (R217,
R504). -/
def State.ueAmong (s : State) (b : Nat) (blocks : List Nat) (ecc : List (BlockIx × Ecc)) : List Nat :=
  blocks.filter (fun i => (s.getBank b).poison.contains i || (eccOf .uncorrectable ecc).contains i || s.injBlock 1 b i)
/-- Blocks among `blocks` in which a read corrects an error (R216, R504). -/
def State.ceAmong (s : State) (b : Nat) (blocks : List Nat) (ecc : List (BlockIx × Ecc)) : List Nat :=
  blocks.filter (fun i => !(s.ueAmong b blocks ecc).contains i && ((eccOf .corrected ecc).contains i || s.injBlock 0 b i))
/-- A read of blocks of bank b: corrections are counted, and each uncorrectable block is reported (R216, R217). -/
def State.blocksRead (b : Nat) (blocks : List Nat) (ecc : List (BlockIx × Ecc)) (s : State) : State :=
  let ue := s.ueAmong b blocks ecc
  let ce := s.ceAmong b blocks ecc
  ce.foldl (fun s i => s.blockCe b i) (ue.foldl (fun s i => s.blockUe b i) s)

/-- A corrected error that scrub finds in a row (R218, R219): the row falls due for repair in its third different pass. -/
def Bank.hitRow (row : Nat) (x : Bank) : Bank :=
  let h := tabGet (fun _ => (0, 0)) x.hits row
  let n := if h.1 ≠ 0 ∧ h.2 = x.pass then h.1 else h.1 + 1
  { x with
    hits := tabPut (fun _ => (0, 0)) x.hits row (n, x.pass)
    due := if 3 ≤ n ∧ ¬ x.due.contains row then row :: x.due else x.due }

/-- SCRUB_READ (R216-R218): scrub reads its next block of bank b. -/
def scrubRead (b : Nat) (ecc : Ecc) (s : State) : State :=
  whenOn (dLS (quadrantOf b)) (fun s =>
    let i := (s.getBank b).scrub
    let e := if (s.getBank b).poison.contains i || s.injBlock 1 b i then Ecc.uncorrectable else if s.injBlock 0 b i then Ecc.corrected else ecc
    let s := s.updBank b (fun x => { x with
      scrub := (i + 1) % 8192, pass := if i = 8191 then x.pass + 1 else x.pass, crScrub := useCredit x.crScrub 1 })
    match e with
    | .clean => s
    | .corrected =>
      (s.updBank b (fun x => x.hitRow (i / 8))).blockCe b i
    | .uncorrectable => s.blockUe b i) s

/-- The lowest spare row of a bank that holds no repair. -/
def Bank.freeSpare (x : Bank) : Option Nat :=
  (List.range 8).find? (fun i => !(bit x.soft i || bit x.fused i))

/-- A soft repair of a row that is due (R219): the row's blocks go to a free spare row. -/
def State.softRepair (b row i : Nat) (s : State) : State :=
  let s := s.updBank b (fun x => { x with
    soft := setBit x.soft i true, lastRow := BitVec.ofNat 10 row, remap := (i, row) :: x.remap.filter (fun e => decide (e.2 ≠ row))
    due := x.due.filter (fun r => decide (r ≠ row)), hits := tabPut (fun _ => (0, 0)) x.hits row (0, 0) })
  s.fault 2 0 b (BitVec.ofNat 64 row) false

/-! ### Debug windows (R129, R215) -/

/-- GLB_DBGWINi. -/
def State.dbgWin (s : State) (i : Nat) : Dbg :=
  if i = 0 then s.glb.dbg0 else if i = 1 then s.glb.dbg1 else if i = 2 then s.glb.dbg2 else s.glb.dbg3
/-- The state with another GLB_DBGWINi. -/
def State.setDbgWin (s : State) (i : Nat) (v : Dbg) : State :=
  { s with glb := if i = 0 then { s.glb with dbg0 := v } else if i = 1 then { s.glb with dbg1 := v }
      else if i = 2 then { s.glb with dbg2 := v } else { s.glb with dbg3 := v } }

/-- Blocks that bytes [off, off + n) touch. -/
def blocksOf (off n : Nat) : List Nat := (List.range ((off + n + 63) / 64 - off / 64)).map (· + off / 64)

/-- A debug read that reaches its bank (R215, R217): a UE makes every byte 0xFF and is reported as a poisoned completion. -/
def State.dbgReadNow (i off len : Nat) (ecc : List (BlockIx × Ecc)) (s : State) : State :=
  let w := s.dbgWin i
  if !w.en then s.updHost 0 (fun h => { h with dbgData := List.replicate len 0 })
  else
    let b := w.cell.toNat
    let bad := s.ueAmong b (blocksOf off len) ecc
    let bytes := if bad.isEmpty then s.store.readBytes (storeKey b off) len else List.replicate len 0xFF
    let s := s.updBank b (fun x => { x with crDbg := useCredit x.crDbg (blocksOf off len).length })
    let s := s.blocksRead b (blocksOf off len) ecc
    let s := if bad.isEmpty then s else s.aer 0 .poisoned
    s.updHost 0 (fun h => { h with dbgData := bytes })

/-- The bytes of block i that a write of n bytes from off covers. -/
def coveredIn (off n i : Nat) : Nat := min (off + n) (64 * i + 64) - max off (64 * i)
/-- A debug write that reaches its bank (R129, R215): one credit for each whole block, two for a part, which is read and merged (R216). The merge
with an uncorrectable block counts as a read of it and leaves the block so (log entry 67). A takeover's mirror takes the write too (R263). -/
def State.dbgWriteNow (i off : Nat) (data : List Byte) (ecc : List (BlockIx × Ecc)) (s : State) : State :=
  let w := s.dbgWin i
  if !(w.en && w.wren) then s
  else
    let b := w.cell.toNat
    let parts := (blocksOf off data.length).filter (fun i => decide (coveredIn off data.length i < 64))
    let s := s.updBank b (fun x => { x with crDbg := useCredit x.crDbg ((blocksOf off data.length).length + parts.length) })
    let s := s.blocksRead b parts ecc
    let c := s.workOf b
    if s.serverOf c = b then s.cellPut c off data else s.bankPut b off data

/-- A debug access hangs: the window is open on a bank whose line-store clock is stopped (R77, R129). -/
def State.dbgHangs (s : State) (i : Nat) : Bool :=
  (s.dbgWin i).en && !s.on (dLS (quadrantOf (s.dbgWin i).cell.toNat))

/-! ### Power-up of a quadrant (R83 step 9, R220) -/

/-- Rows of bank b that the entries of fuse region 6 name, in entry order: entry e is bits [20e + 19 : 20e] (R220). The
fuses are read as they stand now (DESIGN CHOICE, log entry 67). -/
def State.fusedRows (s : State) (b : Nat) : List Nat :=
  (List.range 204).filterMap (fun e =>
    let lo := s.getFuse 6 (20 * e / 32)
    let hi := s.getFuse 6 (20 * e / 32 + 1)
    let v := ((hi ++ lo : BitVec 64).toNat / 2 ^ (20 * e % 32)) % 2 ^ 20
    if 2 ^ 19 ≤ v ∧ (v / 2 ^ 10) % 2 ^ 9 = b then some (v % 2 ^ 10) else none)

/-- Bank b after its quadrant's power-up: its counters are cleared, no reservation is in force, and its permanent repairs are applied; LSEADDR
and LASTROW keep their values (R225). Where more than 8 entries of region 6 name one bank, the first 8 take its spare rows (R220; log entry
67), and the fuses are read as they stand at this power-up. -/
def State.bankUp (s : State) (b : Nat) : State :=
  let rows := (s.fusedRows b).take 8
  s.updBank b (fun x => { bankReset b with
    eValid := x.eValid, eIsUe := x.eIsUe, eBlock := x.eBlock, lastRow := x.lastRow
    fused := BitVec.ofNat 8 (2 ^ rows.length - 1), remap := (List.range rows.length).zip rows })
/-- Bank b after a reset of its quadrant's logic with power kept (R85): the store, its uncorrectable blocks, the repairs (R219) and the
registers stay; scrub starts again, and no reservation is in force (log entry 67). -/
def State.bankLogicReset (s : State) (b : Nat) : State :=
  s.updBank b (fun x => { x.unadmit with
    crFeed := 0, crDbg := 0, crScrub := 0, crTko := 0, crData := 0, crMask := 0, crCont := 0, scrub := 0, pass := 0, hits := [], due := [] })

/-- The banks of a quadrant. -/
def banksOf (q : Nat) : List Nat := (List.range 64).map (· + 64 * q) ++ sparesOf q

/-- LSq powers up (R83 step 9): its store is zero, its banks are repaired, its clock and power bits are set. -/
def State.lsUp (q : Nat) (s : State) : State :=
  let keep := fun (a : Nat) => !(banksOf q).contains (a / 524288)
  let s := { s with store := s.store.filter (fun e => keep e.1) }
  ((banksOf q).foldl State.bankUp s).setDomain (dLS q) true

end Sys2Proof.Machine
end

