-- ==== Sys2Proof/Machine/Pipe.lean ====
section
/-! DEFINITION. A cell's pipeline from intake to the output ring (R226-R250): screening, neighbour exchange, nozzle map, concealment,
masks and drop shaping. Nozzles are cell-local: nozzle 2,048 i + j is position j of link i. -/

namespace Sys2Proof.Machine

/-! ### Intake -/

/-- Bank offset of the data read for line m, and its length (R230). -/
def lineOff (x : Copy) (m : Nat) : Nat :=
  dataBase x + (if x.mode = 1 then 2048 * (m / 2) else 1024 * m) % dataSize x
def lineLen (x : Copy) : Nat := if x.mode = 1 then 2048 else 1024
/-- The data blocks of line m. -/
def dataBlocks (x : Copy) (m : Nat) : List Nat := blocksOf (lineOff x m) (lineLen x)
/-- The data blocks of half h of contone row r. -/
def halfBlocks (x : Copy) (r h : Nat) : List Nat := blocksOf (lineOff x (2 * r) + 1024 * h) 1024
/-- The tile line of mask k for data line m, as a bank offset (R247). -/
def tileOff (x : Copy) (k m : Nat) : Nat :=
  maskBase x k + 512 * ((m + (maskCfg x k).phase) % max 1 (maskCfg x k).h)
/-- The enabled masks of a copy. -/
def masksEn (x : Copy) : List Nat := (List.range 4).filter (fun k => (maskCfg x k).en)
/-- The mask blocks of line m. -/
def maskBlocks (x : Copy) (m : Nat) : List Nat := (masksEn x).flatMap (fun k => blocksOf (tileOff x k m) 512)
/-- The scratch blocks (R206). -/
def scratchBlocks (x : Copy) : List Nat := if x.mode = 1 then List.range 128 else []

/-- CELL_STS.MASKWAIT (R248). -/
def State.maskWait (s : State) (c : Nat) : Bool := (s.getCell c).inUse.isSome && !s.masksFull c
/-- CELL_STS.PROC (R273): the pipeline of the cell's work runs. -/
def State.proc (s : State) (c : Nat) : Bool :=
  (s.getCell c).inUse.isSome && s.masksFull c &&
    (decide ((s.getLane (s.laneOf c)).st = .configured) || decide ((s.getLane (s.laneOf c)).st = .print))

/-! ### Missing nozzles (R236, R244, R271) -/

/-- Position i and link of a nozzle. -/
def linkIx (n : Nat) : Nat := n / 2048
def posOf (n : Nat) : Nat := n % 2048
/-- A print nozzle, and a redundant nozzle (R241). -/
def isPrint (x : Copy) (n : Nat) : Bool := decide (posOf n < 2048 - nredOf (linkCfg x (linkIx n)))
def isRedundant (x : Copy) (n : Nat) : Bool := decide (n < 4096) && !isPrint x n

/-- Nozzles with MISS or DET (R244, R253, R254), and those whose entry is uncorrectable (R255), as the status stands at the
cell's last line boundary (R271). -/
def Cell.missing (x : Cell) : List Nat :=
  ((x.noz.filter (fun e => bit e.2 17)).map (·.1) ++ x.detUse ++ x.badNoz).dedup
/-- Links of cell c that are not UP (R358). -/
def State.downLinks (s : State) (c : Nat) : List Nat :=
  (List.range 2).filter (fun i => decide ((s.getLink (2 * c + i)).st ≠ .up))
/-- A nozzle is missing in a line's status. -/
def gone (missing down : List Nat) (n : Nat) : Bool := missing.contains n || down.contains (linkIx n)
/-- The nozzle-table entry of nozzle n. -/
def Cell.entry (x : Cell) (n : Nat) : W32 := tabGet (fun _ => 0) x.noz n
/-- CONC and SUB of a nozzle (R253): a nozzle whose entry is uncorrectable has CONC = NONE (R255). -/
def Cell.concOf (x : Cell) (n : Nat) : Nat := if x.badNoz.contains n then 0 else (fld (x.entry n) 14 2).toNat
def Cell.subOf (x : Cell) (n : Nat) : Nat := (fld (x.entry n) 0 12).toNat
/-- SUB of a nozzle is usable (R244). -/
def subUsable (cell : Cell) (x : Copy) (missing down : List Nat) (n : Nat) : Bool :=
  isRedundant x (cell.subOf n) && !gone missing down (cell.subOf n)
/-- A missing nozzle's method resolves to NEIGHBOUR before levels are known (R244). -/
def neighbourly (cell : Cell) (x : Copy) (missing down : List Nat) (n : Nat) : Bool :=
  decide (cell.concOf n = 2) || (decide (cell.concOf n = 3) && !subUsable cell x missing down n)

/-- The column that print nozzle n prints (R242). -/
def columnOf (x : Copy) (n : Nat) : Int :=
  (colBase x (linkIx n) : Int) + (posOf n : Int) - (linkCfg x (linkIx n)).shift
/-- The print nozzles that print column col, at most one per link (R242). -/
def nozzlesOf (x : Copy) (col : Int) : List Nat :=
  (List.range 2).filterMap (fun i =>
    let j := col - (colBase x i : Int) + (linkCfg x i).shift
    if 0 ≤ j ∧ j < ((2048 - nredOf (linkCfg x i) : Nat) : Int) then some (2048 * i + j.toNat) else none)
/-- Column col is missing in contone screening (R236); of two nozzles that print it, one that is missing is enough (DESIGN CHOICE, log entry 70). -/
def missingColumn (cell : Cell) (x : Copy) (missing down : List Nat) (col : Nat) : Bool :=
  (nozzlesOf x col).any (fun n => gone missing down n && neighbourly cell x missing down n)

/-! ### Screening (R233-R236) -/

/-- Levels of a pass-through line from its bytes, by column, the non-zero ones (R233). -/
def unpackLevels (cc : Nat) (bytes : List Byte) : List (Nat × Nat) :=
  ((List.range bytes.length).zip bytes).flatMap (fun b =>
    (List.range 4).filterMap (fun q =>
      let l := (b.2.toNat / 4 ^ q) % 4
      let x := 4 * b.1 + q
      if l ≠ 0 ∧ x < cc then some (x, l) else none))

/-- An error value within 16 bits (R234). -/
def clamp16 (x : Int) : Int := max (-32768) (min 32767 x)

/-- The level whose target is nearest to u, the lower on a tie (R234), and its target. -/
def nearestLevel (x : Copy) (u : Int) : Nat × Int :=
  [(1, (x.lev1 : Int)), (2, (x.lev2 : Int)), (3, (x.lev3 : Int))].foldl
    (fun b k => if (u - k.2).natAbs < (u - b.2).natAbs then k else b) (0, 0)

/-- A screening pass (R234): the same-line share on its way, the next-line errors of columns x − 1 and x so far, those finished
(last first), the levels chosen (last first), and EL. -/
structure Screen where
  carry  : Int
  prev   : Int
  cur    : Int
  done   : List Int
  levels : List (Nat × Nat)
  el     : Int

/-- Screening of one column (R234-R236): `t` is its tone value, `e0` its error, `miss` says that it is a missing column, `zero` that
its block was uncorrectable (R217). -/
def screenColumn (x : Copy) (col : Nat) (t e0 : Int) (miss zero : Bool) (a : Screen) : Screen :=
  let u := t + clamp16 (e0 + a.carry)
  let k := if miss || zero then (0, 0) else nearestLevel x u
  let e := u - k.2
  let dr := 7 * e / 16
  let ddl := 3 * e / 16
  let dd := 5 * e / 16
  let ddr := e - dr - ddl - dd
  { carry := if miss then dr + dd else dr
    prev := clamp16 (a.cur + (if miss then 0 else dd))
    cur := clamp16 ddr
    done := if col = 0 then a.done else clamp16 (a.prev + ddl) :: a.done
    levels := if k.1 = 0 then a.levels else (col, k.1) :: a.levels
    el := if col = 0 then ddl else a.el }

/-- Screening of a whole contone line: levels, the errors of the next line, ER and EL (R234, R235). -/
def screenLine (x : Copy) (tones errs : Nat → Int) (miss zero : Nat → Bool) :
    List (Nat × Nat) × List Int × Int × Int :=
  let a := (List.range (ccOf x)).foldl (fun a col => screenColumn x col (tones col) (errs col) (miss col) (zero col) a)
    { carry := 0, prev := 0, cur := 0, done := [], levels := [], el := 0 }
  (a.levels.reverse, (a.prev :: a.done).reverse, a.carry + a.cur, a.el)

/-- A 16-bit error of the scratch row. -/
def scratchErr (row : List Byte) (col : Nat) : Int :=
  signed 16 (ofLe ((row.drop (2 * col)).take 2))

/-! ### Neighbour exchange (R237-R240) -/

/-- The partner of cell c on a side, where its copy names one (R237). -/
def State.partner (s : State) (c : Nat) (side : Side) : Option Nat :=
  match side with
  | .left => if (s.cfg c).nbrL && decide (0 < c) then some (c - 1) else none
  | .right => if (s.cfg c).nbrR && decide (c < 255) then some (c + 1) else none
/-- The exchange value of a side and line that cell c holds (R239). -/
def Cell.xval (x : Cell) (side : Side) (m : Nat) : Option XVal :=
  x.xin.find? (fun v => v.here && decide (v.side = side) && decide (v.m = m))
/-- Cell c holds all the exchange values that it expects of line m. -/
def State.xchgHeld (s : State) (c m : Nat) : Bool :=
  [Side.left, Side.right].all (fun d => (s.partner c d).isNone || ((s.getCell c).xval d m).isSome)
/-- A value on its way to a partner: levels of the 64 columns next to it, by distance from the edge. -/
def edgeOf (cc : Nat) (side : Side) (levels : List (Nat × Nat)) : List (Nat × Nat) :=
  levels.filterMap (fun e => match side with
    | .left => if cc ≤ e.1 + 64 then some (cc - 1 - e.1, e.2) else none
    | .right => if e.1 < 64 then some (e.1, e.2) else none)
/-- Sending cell c's value of line m to its partner on a side; the partner sees it from the other side. -/
def State.sendEdge (c m : Nat) (toSide : Side) (err : Int) (levels : List (Nat × Nat)) (s : State) : State :=
  match s.partner c toSide with
  | none => s
  | some d =>
    let from_ : Side := match toSide with | .left => .right | .right => .left
    let v : XVal := { here := false, side := from_, m := m, err := err, edge := edgeOf (ccOf (s.cfg c)) from_ levels }
    s.updCell d (fun x => { x with xin := x.xin ++ [v] })

/-- EXCHANGE_ARRIVAL (R238): the value of line m from a side arrives at cell c. A value that came too late for R240 is discarded. -/
def exchangeArrival (c : Nat) (side : Side) (m : Nat) (s : State) : State :=
  if !s.cellOn c then s
  else
    let x := s.getCell c
    let waits := fun (v : XVal) => !v.here && decide (v.side = side) && decide (v.m = m)
    if (x.xval side m).isSome then s.updCell c (fun x => { x with xin := x.xin.filter (fun v => !waits v) })
    else s.updCell c (fun x => { x with xin := x.xin.map (fun v => if waits v then { v with here := true } else v) })

/-- The value of a side has not come by the speculation point of line m (R240): it is taken as level 0 and share 0. That is a miss where the cell
maps the line; a starved line is not mapped, and no miss is counted for it (log entry 70). -/
def State.missEdge (c m : Nat) (mapped : Bool) (side : Side) (s : State) : State :=
  if (s.partner c side).isNone || ((s.getCell c).xval side m).isSome then s
  else
    let s := s.updCell c (fun x => { x with
      xin := { here := true, side := side, m := m, err := 0, edge := [] : XVal } :: x.xin
      lmiss := if mapped ∧ side = .left then satInc x.lmiss else x.lmiss
      rmiss := if mapped ∧ side = .right then satInc x.rmiss else x.rmiss })
    if mapped then s.cellEvt c evXchgMiss else s

/-! ### DATA_LINE_START (R228) -/

/-- The first data line from m on that was not starved before it entered (R43). -/
def skipStarved (skip : List Nat) : Nat → Nat → Nat
  | 0, m => m
  | n + 1, m => if skip.contains m then skipStarved skip n (m + 1) else m

/-- Columns that uncorrectable blocks of a line zero (R217), each block by its place in the line or row. -/
def zeroedCols (x : Copy) (blocks : List Nat) : List Nat :=
  let w := if x.mode = 1 then 128 else 256
  blocks.flatMap (fun i => (List.range w).map (· + w * i))

/-- The first data line from m on that still has to start: starved ones are passed over (R43). -/
def Cell.lineFrom (x : Cell) (m : Nat) : Nat := skipStarved x.skipM (x.skipM.length + 1) m
/-- The next data line of a cell to enter its pipeline (R43, R228). -/
def Cell.nextLine (x : Cell) : Nat := x.lineFrom x.nextM
/-- The two contone rows that intake wants in its buffers (R232): that of the next line to start, and the next one with a line to start. -/
def Cell.wantedRows (x : Cell) : List Nat :=
  let r := x.nextLine / 2
  [r, x.lineFrom (2 * r + 2) / 2]
/-- The half row that intake reads next (R232): the first that is missing of the rows wanted. -/
def Cell.intakeRow (x : Cell) : Option (Nat × Nat) :=
  x.wantedRows.findSome? (fun r => match x.rows.find? (fun y => decide (y.row = r)) with
    | none => some (r, 0)
    | some y => if y.halves < 2 then some (r, y.halves) else none)
/-- Half h of row r has been read into its buffer; a buffer whose row is wanted no more is free for it. -/
def Cell.takeHalf (r h : Nat) (bytes : List Byte) (bad : List Nat) (x : Cell) : Cell :=
  if h = 0 then { x with
    rows := x.rows.filter (fun y => x.wantedRows.contains y.row) ++ [{ row := r, halves := 1, bytes := bytes, bad := bad, lost := false }] }
  else { x with rows := x.rows.map (fun y => if y.row = r then { y with halves := 2, bytes := y.bytes ++ bytes, bad := y.bad ++ bad } else y) }
/-- Intake reads one half of a contone row of cell c, once the row is complete in the bank (R228, R230, R232). -/
def State.intakeHalf (c : Nat) (ecc : List (BlockIx × Ecc)) (s : State) : State :=
  let x := s.cfg c
  match (s.getCell c).intakeRow with
  | none => s
  | some (r, h) =>
    if decide (x.mode = 1) && s.cellOn c && s.proc c && decide (2 * r + 1 < s.complete c) then
      let b := s.serverOf c
      let blocks := halfBlocks x r h
      let bad := (s.ueAmong b blocks ecc).map (fun i => i - lineOff x (2 * r) / 64)
      let s := s.updCell c (Cell.takeHalf r h (s.cellRead c (lineOff x (2 * r) + 1024 * h) 1024) bad)
      (s.updBank b (fun y => { y with crData := useCredit y.crData 16 })).blocksRead b blocks ecc
    else s
/-- CREDIT_WINDOW (R208, R232): every consumer's reservation of bank b is refilled, a copy of the bank goes on, and contone intake reads its half
row of the window. -/
def creditWindow (b : Nat) (ecc : List (BlockIx × Ecc)) (s : State) : State :=
  whenOn (dLS (quadrantOf b)) (fun s =>
    let s := (s.refillCredits b).copyWindow b
    let c := s.workOf b
    if c < 256 ∧ s.serverOf c = b ∧ (s.getBank b).adm then s.intakeHalf c ecc else s) s
/-- The row buffer of a contone line. -/
def Cell.rowOf (x : Cell) (m : Nat) : Option RowBuf := x.rows.find? (fun r => decide (r.row = m / 2) && decide (r.halves = 2))

/-- Contone screening of line m of cell c from its row buffer (R232, R234-R236): the pixel values of a block that was uncorrectable are not
stated, a free value (log entry 6); those of a buffer that failed read as 0, and its lines have level 0 (R255). `bad` are the uncorrectable
scratch blocks. Each side adds the shares of the lines since the last that was screened (R239). The scratch row takes the errors of the next
line. -/
def State.screenContone (c m : Nat) (row : RowBuf) (bad missing down : List Nat) (s : State) : (List (Nat × Nat) × Int × Int) × State :=
  let x := s.cfg c
  let cell := s.getCell c
  let lost := (s.fresh.1.toNat % 4096 : Int)
  let zeroed := zeroedCols x row.bad
  let s := if zeroed.isEmpty then s else s.fresh.2
  let scratch := s.cellRead c 0 8192
  let share := fun (side : Side) =>
    ((cell.xin.filter (fun v => v.here && decide (v.side = side) && decide (v.m < m))).map (fun v => v.err)).sum
  let tones := fun (col : Nat) => if zeroed.contains col then lost
    else ((tabGet (fun _ => 0) x.tone (if row.lost then 0 else ((row.bytes[col / 2]?).getD 0).toNat) : Nat) : Int)
  let errs := fun (col : Nat) =>
    let e := if bad.contains (col / 32) then 0 else scratchErr scratch col
    let e := if col = 0 then clamp16 (e + share .left) else e
    if col + 1 = ccOf x then clamp16 (e + share .right) else e
  let r := screenLine x tones errs (missingColumn cell x missing down) (fun col => row.lost || zeroed.contains col)
  let bytes := r.2.1.flatMap (fun e => leBytes (ofInt 16 e).toNat 2)
  ((r.1, r.2.2.1, r.2.2.2), s.cellPut c 0 bytes)

/-- Line m can start (R228, R239, R250): it is complete, its predecessor has left stage 8, slot m mod 48 of the output ring is free, its reads are
within the window's, and a contone line has its row buffer and both partners' shares of the line before. A bank with no reservation has no
window, and limits no intake (R210, R211). -/
def State.canStart (s : State) (c m : Nat) : Bool :=
  let x := s.cfg c
  let cell := s.getCell c
  let bank := s.getBank (s.serverOf c)
  s.cellOn c && s.proc c && cell.pipe.isNone && !cell.slots.any (fun r => decide (r.m % 48 = m % 48)) && decide (m < s.complete c)
    && (if x.mode = 1 then (cell.rowOf m).isSome && (decide (m = 0) || s.xchgHeld c (m - 1)) else !bank.adm || decide (16 ≤ bank.crData))
/-- Both halves of a row are read at once where the bank has no credit window. -/
def State.intakeNow (c m : Nat) (ecc : List (BlockIx × Ecc)) (s : State) : State :=
  if (s.cfg c).mode = 1 ∧ !(s.getBank (s.serverOf c)).adm ∧ ((s.getCell c).rowOf m).isNone then (s.intakeHalf c ecc).intakeHalf c ecc else s

/-- DATA_LINE_START (R228, R233-R239): the next data line enters the pipeline of cell c. `ecc` says what ECC finds in the blocks read. A spare
whose copy is complete starts in step with the cell (step 4 of R263). -/
def dataLineStart (c : Nat) (ecc : List (BlockIx × Ecc)) (s0 : State) : State :=
  let x := s0.cfg c
  let m := (s0.getCell c).nextLine
  let s := s0.intakeNow c m ecc
  let cell := s.getCell c
  if s.canStart c m then
    let b := s.serverOf c
    let reads := (if x.mode = 1 then [] else dataBlocks x m) ++ scratchBlocks x ++ maskBlocks x m
    let bad := s.ueAmong b reads ecc
    let s := s.updBank b (fun y => { y with
      crData := if x.mode = 1 then y.crData else useCredit y.crData 16
      crMask := useCredit y.crMask (8 * maskCount x), crCont := useCredit y.crCont (creditsOf x).2.2 })
    let s := s.blocksRead b reads ecc
    let missing := cell.missing
    let down := s.downLinks c
    let row := (cell.rowOf m).getD { row := m / 2, halves := 2, bytes := [], bad := [], lost := false }
    let own := (bad.filter (fun i => (dataBlocks x m).contains i)).map (fun i => i - lineOff x m / 64)
    let zeroed := zeroedCols x (if x.mode = 1 then (if row.lost then List.range 32 else row.bad) else own)
    let r := if x.mode = 1 then s.screenContone c m row bad missing down
      else (((unpackLevels (ccOf x) (s.cellRead c (lineOff x m) 1024)).filter (fun e => !zeroed.contains e.1), 0, 0), s)
    let levels := r.1.1
    let s := r.2.updCell c (fun y => { y with
      tkoStep := if y.tkoActive ∧ y.tkoStep = 3 then 4 else y.tkoStep
      nextM := m + 1, skipM := y.skipM.filter (fun k => decide (m < k))
      rows := y.rows.filter (fun r => decide (m < 2 * r.row + 1))
      xin := y.xin.filter (fun v => decide (m ≤ v.m))
      pipe := some { m := m, levels := levels, missing := missing, down := down, zeroed := zeroed,
                     maskUe := bad.filter (fun i => (maskBlocks x m).contains i) } })
    (s.sendEdge c m .right r.1.2.1 levels).sendEdge c m .left r.1.2.2 levels
  else s0

/-! ### Nozzle map, concealment, masks (R242-R247) -/

/-- The levels of line m by print nozzle, before concealment (R242). -/
def mapNozzles (x : Copy) (cell : Cell) (p : Pipe) : List (Nat × Nat) :=
  let cc : Int := ccOf x
  let own := p.levels.map (fun e => ((e.1 : Int), e.2))
  let lefts := match cell.xval .left p.m with
    | none => [] | some v => v.edge.map (fun e => (-1 - (e.1 : Int), e.2))
  let rights := match cell.xval .right p.m with
    | none => [] | some v => v.edge.map (fun e => (cc + (e.1 : Int), e.2))
  (lefts ++ own ++ rights).flatMap (fun e => (nozzlesOf x e.1).map (fun n => (n, e.2)))

/-- Level of a nozzle in a list of levels. -/
def levelOf (l : List (Nat × Nat)) (n : Nat) : Nat := tabGet (fun _ => 0) l n

/-- The level of nozzle n after the masks (R247). -/
def State.masked (s : State) (c m : Nat) (maskUe : List Nat) (n l : Nat) : Nat :=
  let x := s.cfg c
  if (masksEn x).any (fun k =>
      let mk := maskCfg x k
      let on := if l = 1 then mk.lv1 else if l = 2 then mk.lv2 else if l = 3 then mk.lv3 else false
      let a := tileOff x k m + n / 8
      let raw := bit (s.store.read (storeKey (s.serverOf c) a)) (n % 8)
      on && (maskUe.contains (a / 64) || (raw == mk.inv)))
  then 0 else l

/-- The nozzles that claim substitute sub in a line, with their levels after masks (R244). -/
def claimants (cell : Cell) (x : Copy) (p : Pipe) (lv : Nat → Nat) : List (Nat × Nat × Nat) :=
  let all := p.missing ++ p.down.flatMap (fun i => (List.range 2048).map (· + 2048 * i))
  (all.dedup.filter (fun n => isPrint x n && (decide (cell.concOf n = 1) || decide (cell.concOf n = 3))
      && subUsable cell x p.missing p.down n)).map (fun n => (cell.subOf n, n, lv n))

/-- The claimant that a substitute serves: the largest level, the lowest nozzle among equals (R244, DEDUCED, log entry 13). -/
def winner (cs : List (Nat × Nat × Nat)) (sub : Nat) : Option (Nat × Nat × Nat) :=
  (cs.filter (fun e => decide (e.1 = sub))).foldl (fun b e => match b with
    | none => some e
    | some w => if w.2.2 < e.2.2 ∨ (w.2.2 = e.2.2 ∧ e.2.1 < w.2.1) then some e else some w) none

/-- What level raising adds to print nozzle n of the same link (R245). -/
def raiseAt (x : Copy) (raisers : List (Nat × Nat)) (n : Nat) : Nat :=
  (raisers.map (fun r =>
    if linkIx r.1 = linkIx n ∧ isPrint x n then
      (if posOf n + 1 = posOf r.1 then (r.2 + 1) / 2 else if posOf n = posOf r.1 + 1 then r.2 / 2 else 0)
    else 0)).sum

/-- The wire code of a level on a link (R249). -/
def codeOf (l : LinkCfg) (lvl : Nat) : Nat := if lvl = 1 then l.lv1 else if lvl = 2 then l.lv2 else if lvl = 3 then l.lv3 else 0

/-- The drops of a line as stage 8 writes them (R242-R249). In contone mode a nozzle that loses its shared substitute raises its neighbours' levels
(R245; DESIGN CHOICE, log entry 76). -/
def State.shapeLine (s : State) (c : Nat) (p : Pipe) : List Drop :=
  let x := s.cfg c
  let cell := s.getCell c
  let lv := mapNozzles x cell p
  let cs := claimants cell x p (fun n => s.masked c p.m p.maskUe n (levelOf lv n))
  let raisers := lv.filter (fun e => gone p.missing p.down e.1 && (
    neighbourly cell x p.missing p.down e.1 ||
      (decide (cell.concOf e.1 = 3) && (match winner cs (cell.subOf e.1) with | none => false | some w => decide (w.2.1 ≠ e.1)))))
  let near := raisers.flatMap (fun r => [r.1 - 1, r.1 + 1])
  let targets := ((lv.map (·.1)) ++ near).dedup
  let prints := targets.filterMap (fun n =>
    if isPrint x n && decide (n < 4096) && !gone p.missing p.down n then
      some (n, s.masked c p.m p.maskUe n (min 3 (levelOf lv n + raiseAt x raisers n)))
    else none)
  let subs := ((cs.map (·.1)).dedup).filterMap (fun sub => (winner cs sub).map (fun w => (sub, w.2.2)))
  (prints ++ subs).filterMap (fun e =>
    let code := codeOf (linkCfg x (linkIx e.1)) e.2
    if code = 0 then none else some { noz := e.1, lvl := e.2, code := code })

/-- The print nozzles that a line counts as concealed (R246): missing, or on a link that is down. Those that an uncorrectable mask block silences
(R217) are not counted (DESIGN CHOICE, log entry 70). -/
def concealedOf (x : Copy) (p : Pipe) : List Nat :=
  ((p.missing.filter (isPrint x)) ++ p.down.flatMap (fun i => ((List.range 2048).map (· + 2048 * i)).filter (isPrint x))).dedup
/-- The columns that uncorrectable blocks zero and that count too, each once (R217, R246): 256 for a block of a pass-through line, 128 for one of a
contone row, less those whose nozzle is counted already (log entry 70). -/
def zeroedOf (x : Copy) (p : Pipe) : List Nat :=
  p.zeroed.dedup.filter (fun col => !(nozzlesOf x col).any (fun n => (concealedOf x p).contains n))

/-- DATA_LINE_PROCESSED (R239, R250): the line in the pipeline leaves stage 8 into its output-ring slot, once it holds both partners'
edge levels. -/
def dataLineProcessed (c : Nat) (s : State) : State :=
  match (s.getCell c).pipe with
  | none => s
  | some p =>
    if s.cellOn c && s.proc c && s.xchgHeld c p.m then
      let slot : RingSlot := { m := p.m, drops := s.shapeLine c p, conc := concealedOf (s.cfg c) p, cols := zeroedOf (s.cfg c) p }
      s.updCell c (fun x => { x with pipe := none, outM := p.m + 1, slots := x.slots ++ [slot] })
    else s

end Sys2Proof.Machine
end

