-- ==== Sys2Proof/Machine/Govern.lean ====
section
/-! DEFINITION. What a strobe fires on a link (R243, R346, R382) and the energy governor (R363-R371). -/

namespace Sys2Proof.Machine

/-! ### Lanes and Pacers -/

/-- The configuration copy that a lane has in force, if any (R258, R260). -/
def Lane.copy (l : Lane) : Option Copy := l.inForce.head?
/-- The Pacer that a lane is bound to (R30). -/
def Lane.pacer (l : Lane) : Option Nat := l.copy.map (fun x => x.pacer)
/-- Lanes bound to Pacer p, and those of them in PRINT. -/
def State.boundLanes (s : State) (p : Nat) : List Nat :=
  (List.range 16).filter (fun l => decide ((s.getLane l).pacer = some p))
def State.printLanes (s : State) (p : Nat) : List Nat :=
  (s.boundLanes p).filter (fun l => decide ((s.getLane l).st = .print))
/-- f_max of a lane in 0.01 Hz, and SPACING in ticks (R322). -/
def Lane.fmax (l : Lane) : Nat := match l.copy with | none => 0 | some x => x.fmax
def Lane.spacing (l : Lane) : Nat := if l.fmax = 0 then 0 else 120000000000 / l.fmax

/-! ### What a strobe fires -/

/-- Drops of data line m at link i of cell c: those of its print nozzles (red = false) or of its redundant nozzles. -/
def State.dropsOf (s : State) (c i : Nat) (m : Option Nat) (red : Bool) : List (Nat × Nat × Nat) :=
  match m with
  | none => []
  | some m =>
    match (s.getCell c).slots.find? (fun x => decide (x.m = m)) with
    | none => []
    | some x => x.drops.filterMap (fun d =>
        if linkIx d.noz = i ∧ isPrint (s.cfg c) d.noz ≠ red then some (posOf d.noz, d.lvl, d.code) else none)

/-- The positions of link l that a strobe fires: (position, level, code), cuts included as fired (R243, R346). A test strobe fires its
nozzle at TESTLVL (R382), a purge line every nozzle with MISS = 0 at the level-3 code (R380), a muted one nothing. -/
def State.rawCodes (s : State) (l : Nat) (b : Strobe) : List (Nat × Nat × Nat) :=
  if b.dark || b.mute || (s.getCell (l / 2)).bare then []
  else match b.test with
    | some t =>
      let code := codeOf (linkCfg (s.cfg (l / 2)) (l % 2)) (t / 2048 % 4)
      if code = 0 then [] else [(t % 2048, t / 2048 % 4, code)]
    | none =>
      if b.purge then ((List.range 2048).filter (fun j => !bit ((s.getCell (l / 2)).entry (2048 * (l % 2) + j)) 17)).filterMap (fun j =>
        let code := codeOf (linkCfg (s.cfg (l / 2)) (l % 2)) 3
        if code = 0 then none else some (j, 3, code))
      else if b.load.starved then [] else s.dropsOf (l / 2) (l % 2) b.load.pm false ++ s.dropsOf (l / 2) (l % 2) b.load.rm true
/-- The positions that it does fire: the cuts carry code 0 (R367). -/
def State.codes (s : State) (l : Nat) (b : Strobe) : List (Nat × Nat × Nat) :=
  (s.rawCodes l b).filter (fun e => !b.cuts.contains e.1)

/-! ### Energies (R363) -/

/-- SP, PERSIST, RELEASE of a link's cell, and WSET of a link. -/
def State.govSpOf (s : State) (l : Nat) : Nat := (s.getCell (l / 2)).govSp.toNat
def State.wsetOf (s : State) (l : Nat) : Nat := (linkCfg (s.cfg (l / 2)) (l % 2)).wset

/-- The trim of nozzle n: AMP + SOFS, clamped to 0-63 (R249). -/
def Cell.trimOf (x : Cell) (n : Nat) : Nat :=
  let sofs := signed 6 (tabGet (fun _ => 0) x.servo n).toNat
  (max 0 (min 63 (((fld (x.entry n) 26 6).toNat : Int) + sofs))).toNat
/-- The target trim of position j of a link (R249). -/
def State.targetTrim (s : State) (l j : Nat) : Nat := (s.getCell (l / 2)).trimOf (2048 * (l % 2) + j)
/-- A_j (R363): the largest of the target and any trim that the head can still use. -/
def State.ratedTrim (s : State) (l j : Nat) : Nat :=
  let target := s.targetTrim l j
  let t := tabGet (fun _ => (target, target)) (s.getLink l).trims j
  max target (max t.1 t.2)

/-- No STATUS within the last 1 ms (R363, HL_HEADi.STALE). -/
def State.stale (s : State) (l : Nat) : Bool := (s.getLink l).stale || decide ((s.getLink l).stsAt + msTicks < s.now)
/-- T in whole °C for a coefficient (R363). -/
def State.headTemp (s : State) (l : Nat) (tcoef : Int) : Int :=
  let k := s.getLink l
  if s.stale l || bit k.hflt 3 || decide (k.st ≠ .up) then (if 0 ≤ tcoef then 125 else -40)
  else if 0 ≤ tcoef then -((-k.temp) / 16) else k.temp / 16
/-- E_T(c) of a slot of wave set `wset` (R363). -/
def State.energyT (s : State) (l wset code : Nat) : Nat :=
  let w := tabGet waveReset (s.getCell (l / 2)).waves (4 * wset + code)
  let f : Int := (w.energy : Int) * (65536 + w.tcoef * (s.headTemp l w.tcoef - 25))
  (-((-f) / 65536)).toNat
/-- G[A] (R363). -/
def gainOf (a : Nat) : Nat := (roundDiv (1024 * ((a : Int) + 168) ^ 2) 40000).toNat
/-- e_j of position j with code c (R363). -/
def State.energyAt (s : State) (l wset j code : Nat) : Nat := ceilDiv (s.energyT l wset code * gainOf (s.ratedTrim l j)) 1024

/-- The energies of a strobe's positions, the cut ones at 0 (R363); code-0 positions count while TICKLE_EN is 1. -/
def State.energies (s : State) (l : Nat) (b : Strobe) : List (Nat × Nat) :=
  let fires := s.rawCodes l b
  let lit := fires.map (fun e => (e.1, s.energyAt l b.wset e.1 e.2.2))
  let idle := if (s.getLink l).tickle && !b.dark then
      ((List.range 2048).filter (fun j => !fires.any (fun e => decide (e.1 = j)))).map (fun j => (j, s.energyAt l b.wset j 0))
    else []
  (lit ++ idle).filter (fun e => !b.cuts.contains e.1 && decide (e.2 ≠ 0))

/-- E_s of sub-strobe i of k (R364). -/
def subEnergy (es : List (Nat × Nat)) (k i : Nat) : Nat := ((es.filter (fun e => decide (e.1 % k = i))).map (·.2)).sum

/-- Cutting positions of one sub-strobe in descending order until at least `excess` is cut: the positions cut (R364, R365). -/
def cutDown : List (Nat × Nat) → Nat → List Nat
  | [], _ => []
  | e :: es, excess => if excess = 0 then [] else e.1 :: cutDown es (excess - e.2)
/-- The positions of sub-strobe i of k, in descending order. -/
def subDesc (es : List (Nat × Nat)) (k i : Nat) : List (Nat × Nat) :=
  (es.filter (fun e => decide (e.1 % k = i))).mergeSort (fun a b => decide (b.1 ≤ a.1))

/-- The smallest k for which every sub-strobe is within ESTROBE, or 4 (R364). -/
def chooseK (es : List (Nat × Nat)) (limit : W32) : Nat :=
  if limit = 0xFFFFFFFF then 1
  else (([1, 2, 3].find? (fun k => (List.range k).all (fun i => decide (subEnergy es k i ≤ limit.toNat)))).getD 4)

/-- Cuts under ESTROBE (R364). -/
def cutsStrobe (es : List (Nat × Nat)) (k : Nat) (limit : W32) : List Nat :=
  if limit = 0xFFFFFFFF then []
  else (List.range k).flatMap (fun i => cutDown (subDesc es k i) (subEnergy es k i - limit.toNat))

/-- Offset of sub-strobe i of k from the line's tick (R319), and from the strobe tick. -/
def subOff (k sp i : Nat) : Int := ((2 * (i : Int) - k + 1) * sp) / 2
def subTick (ts1 : Int) (k sp i : Nat) : Int := ts1 + subOff k sp i - subOff k sp 0

/-- Sub-strobes of the link's other undecided strobes and of those committed: tick and energy (R365). -/
def State.otherSubs (s : State) (l : Nat) (n : Int) : List (Int × Nat) :=
  (s.getLink l).fired.map (fun f => (f.tick, f.e)) ++
  ((s.getLink l).strobes.filter (fun b => decide (b.n ≠ n) && decide (b.st ≠ .squashed))).flatMap (fun b =>
    let es := s.energies l b
    (List.range b.k).map (fun i => (subTick b.ts1 b.k b.sp i, subEnergy es b.k i)))

/-- Window energy at tick t (R365): sub-strobes in (t - 12,000, t]. -/
def windowAt (subs : List (Int × Nat)) (t : Int) : Nat :=
  ((subs.filter (fun e => decide (t - 12000 < e.1 ∧ e.1 ≤ t))).map (·.2)).sum
/-- The largest energy of a window that holds the sub-strobe at tick t. -/
def worstWindow (subs : List (Int × Nat)) (t : Int) : Nat :=
  ((subs.filter (fun e => decide (t ≤ e.1 ∧ e.1 < t + 12000))).map (fun e => windowAt subs e.1)).foldl max 0

/-- Cuts under EWIN, from the latest sub-strobe back (R365). -/
def cutsWindow (others : List (Int × Nat)) (ts1 : Int) (k sp : Nat) (limit : Nat) : Nat → List (Nat × Nat) → List Nat
  | 0, _ => []
  | i + 1, es =>
    let mine := (List.range k).map (fun q => (subTick ts1 k sp q, subEnergy es k q))
    let excess := worstWindow (mine ++ others) (subTick ts1 k sp i) - limit
    let cut := cutDown (subDesc es k i) excess
    cut ++ cutsWindow others ts1 k sp limit i (es.filter (fun e => !cut.contains e.1))

/-- The governor's cuts of a strobe with its k and SP (R364-R366), on top of none. -/
def State.govCuts (s : State) (l : Nat) (b : Strobe) : List Nat :=
  let k := s.getLink l
  let es := s.energies l { b with cuts := [] }
  let c1 := cutsStrobe es b.k k.estrobe
  let es := es.filter (fun e => !c1.contains e.1)
  if k.ewin = 0xFFFFFFFF then c1
  else c1 ++ cutsWindow (s.otherSubs l b.n) b.ts1 b.k b.sp k.ewin.toNat b.k es

/-- Cuts that the check at commit adds to those that stand (R366). -/
def State.moreCuts (s : State) (l : Nat) (b : Strobe) : List Nat :=
  let k := s.getLink l
  let es := s.energies l b
  let c1 := cutsStrobe es b.k k.estrobe
  let es := es.filter (fun e => !c1.contains e.1)
  if k.ewin = 0xFFFFFFFF then c1
  else c1 ++ cutsWindow (s.otherSubs l b.n) b.ts1 b.k b.sp k.ewin.toNat b.k es

/-- The governor at a speculation point or recompute (R364): k and SP anew, ts1 moved with the split, and the cuts. `base` is the
line's tick before the split term. -/
def State.govern (s : State) (l : Nat) (base : Int) (b : Strobe) : Strobe :=
  let k := chooseK (s.energies l { b with cuts := [] }) (s.getLink l).estrobe
  let sp := s.govSpOf l
  let b := { b with k := k, sp := sp, ts1 := base + subOff k sp 0 }
  { b with cuts := s.govCuts l b }

/-! ### Derate (R368-R370) -/

/-- PACER_GOVp: the lowest f_gov of the links of the bound lanes; a change raises event 370 (R369). -/
def State.updateGov (p : Nat) (s : State) : State :=
  let v := (s.boundLanes p).foldl (fun m l => (s.cellsOf l).foldl (fun m c =>
    (linksOf c).foldl (fun m i => if (s.getLink i).fgov.toNat < m then (s.getLink i).fgov.toNat else m) m) m) 0xFFFFFFFF
  if (s.getPacer p).gov.toNat = v then s
  else (s.updPacer p (fun x => { x with gov := BitVec.ofNat 32 v })).raise 370

/-- The Pacer that a link's lane is bound to. -/
def State.linkPacer (s : State) (l : Nat) : Option Nat := (s.getLane (s.laneOf (l / 2))).pacer

/-- The governor's record of a committed strobe (R367, R368): its sub-strobes join the window history, its cuts are counted, and a run
of PERSIST lines in excess raises or lowers the derate request. A dark line drives nothing, and no STROBE of it executes. -/
def State.govCommit (l : Nat) (b : Strobe) (s : State) : State :=
  let k := s.getLink l
  let es := s.energies l b
  let mine := (List.range b.k).map (fun i => ({ tick := subTick b.ts1 b.k b.sp i, line := b.n, e := subEnergy es b.k i } : Fired))
  let all := mine ++ k.fired.filter (fun f => decide (b.ts1 - 24000 < f.tick))
  let pairs := all.map (fun f => (f.tick, f.e))
  let wl := (mine.map (fun f => windowAt pairs f.tick)).foldl max 0
  let shared := mine.any (fun f => decide (windowAt pairs f.tick = wl) &&
    all.any (fun g => decide (g.line ≠ b.n) && decide (f.tick - 12000 < g.tick ∧ g.tick ≤ f.tick)))
  let excess := decide (k.ewin ≠ 0xFFFFFFFF) && decide (7 * k.ewin.toNat < 8 * wl)
  let line := (mine.map (·.e)).sum
  let calm := (decide (k.ewin = 0xFFFFFFFF) || decide (16 * line ≤ 7 * k.ewin.toNat)) && b.cuts.isEmpty
  let persist := (s.getCell (l / 2)).govPers.toNat
  let run := if excess || !b.cuts.isEmpty then k.exRun ++ [(b.k, excess && !shared)] else []
  let full := decide (persist ≤ run.length)
  let kmax := (run.map (·.1)).foldl max 1
  let f : Nat := 120000000000 / (12000 + (kmax - 1) * s.govSpOf l)
  let s := s.updLink l (fun x => { x with
    fired := if b.dark then x.fired else all, klast := BitVec.ofNat 2 (b.k - 1), wls := (wl :: x.wls).take persist
    gcut := satAdd x.gcut b.cuts.length, exRun := if full then [] else run
    calmFrom := if calm then x.calmFrom else s.now
    derate := x.derate || full, single := x.single || (full && run.any (·.2))
    fgov := if full ∧ f < x.fgov.toNat then BitVec.ofNat 32 f else x.fgov })
  let s := if b.cuts.isEmpty then s else s.hlEvt l 5
  let s := if full && !k.derate then s.hlEvt l 6 else s
  if full then (match s.linkPacer l with | none => s | some p => s.updateGov p) else s

/-- GOVERNOR_RELEASE (R370): RELEASE × 10 ms have passed without excess since `calmFrom`; the request is released. -/
def governorRelease (l : Nat) (s : State) : State :=
  if !s.fire || !s.cellOn (l / 2) then s
  else
    let k := s.getLink l
    if k.derate then
      let s := s.at_ (k.calmFrom + (s.getCell (l / 2)).govRel.toNat * 10 * msTicks)
      let s := s.updLink l (fun x => { x with derate := false, single := false, fgov := 0xFFFFFFFF, exRun := [] })
      let s := s.hlEvt l 6
      match s.linkPacer l with | none => s | some p => s.updateGov p
    else s

end Sys2Proof.Machine
end

