-- ==== Sys2Proof/Machine/Windows.lean ====
section
/-! DEFINITION. A Pacer's prediction arithmetic (R308-R312) and its print windows and product records (R286-R299, R326-R329). Positions
are in 1/65,536 count. -/

namespace Sys2Proof.Machine

/-! ### Prediction (R309, R312) -/

/-- Boundary position b_n of Pacer line n (R309). -/
def Pacer.bpos (p : Pacer) (n : Int) : Int := n * p.lpitch.toNat
/-- The predicted tick of position x (R312). -/
def Pacer.tickAt (p : Pacer) (x : Int) : Int := p.seedT + roundDiv ((x - p.seedX) * p.q.toNat) 16777216
/-- The first line whose boundary lies beyond position x. -/
def Pacer.lineAfter (p : Pacer) (x : Int) : Int := x / p.lpitch.toNat + 1
/-- The first line whose boundary lies at or beyond position x. -/
def Pacer.lineFrom (p : Pacer) (x : Int) : Int := -((-x) / p.lpitch.toNat)
/-- LATEMAX (R322). -/
def Pacer.lateMax (p : Pacer) : Int := p.late.toNat * p.q.toNat * p.lpitch.toNat / 268435456
/-- PACER_RATEp in 0.01 Hz (R309, R338). -/
def Pacer.rate (p : Pacer) : Nat :=
  if p.q = 0 then 0 else min 0xFFFFFFFE (120000000000 * 16777216 / (p.q.toNat * p.lpitch.toNat))

/-- The position of the Pacer at a tick: on dead reckoning the predicted one (R288, R308). -/
def Pacer.posAt (x : Pacer) (t : Nat) : Int :=
  if x.st = .dead ∧ x.q ≠ 0 then x.seedX + ((t : Int) - x.seedT) * 16777216 / x.q.toNat else x.x

/-- The links of a lane's cells. -/
def State.linksOfLane (s : State) (l : Nat) : List Nat := (s.cellsOf l).flatMap linksOf
/-- The cells of a lane that have not stopped yet for a lane reset (R136 step 1). -/
def Lane.leaving (x : Lane) : List Nat := match x.reset with | none => [] | some r => r.cells
/-- The links that Pacer p serves: those of its lanes in PRINT, and those of cells that a lane reset has still to stop. -/
def State.pacerLinks (s : State) (p : Nat) : List Nat :=
  (s.boundLanes p).flatMap (fun l => if (s.getLane l).st = .print then s.linksOfLane l else (s.getLane l).leaving.flatMap linksOf)
/-- The first line of Pacer p that no link has decided (R293). -/
def State.firstUndecided (s : State) (p : Nat) : Int :=
  let d := (s.pacerLinks p).filterMap (fun l => (s.getLink l).decided)
  match d with
  | [] => (s.getPacer p).lineAfter ((s.getPacer p).posAt s.now)
  | a :: t => t.foldl max a + 1

/-! ### Windows -/

/-- FLAGS bits of R299. -/
abbrev flLaneReset : Nat := 0
abbrev flStopForced : Nat := 1
abbrev flByStop : Nat := 2
abbrev flByLength : Nat := 3
abbrev flTruncated : Nat := 4
abbrev flEdgeLate : Nat := 5
abbrev flQuadForced : Nat := 10
abbrev flEpoch : Nat := 11
abbrev flEpochMissed : Nat := 12
abbrev flReversal : Nat := 13
abbrev flRefSwitch : Nat := 14
abbrev flDead : Nat := 15
abbrev flDerate : Nat := 16
abbrev flSegment : Nat := 17

/-- A window's first boundary. -/
def Pacer.firstOf (x : Pacer) (w : Window) : Int := x.bpos (x.lineFrom w.po)
/-- A window's range holds no boundary (R291). -/
def Pacer.holdsNone (x : Pacer) (w : Window) : Bool := match w.pc with | none => false | some c => decide (c ≤ x.firstOf w)
/-- Window y starts after window w: of two that start at one boundary, the later armed counts as the later (log entry 72). -/
def Pacer.startsAfter (x : Pacer) (w y : Window) : Bool :=
  decide (y.st ≠ .armed) && !x.holdsNone y &&
    (decide (x.firstOf w < x.firstOf y) || (decide (x.firstOf w = x.firstOf y) && decide (w.id < y.id)))
/-- The close of a window as far as it is known: its Pc, or the first boundary of a window that starts after it (R289, R292). -/
def Pacer.closeOf (x : Pacer) (w : Window) : Option Int :=
  ((x.windows.filter (x.startsAfter w)).map x.firstOf).foldl (fun m b => match m with | none => some b | some c => some (min c b)) w.pc
/-- A window holds the line whose boundary is b (R289): it is PENDING or OPEN and Po ≤ b < its close. -/
def Pacer.holds (x : Pacer) (b : Int) (w : Window) : Bool :=
  decide (w.st ≠ .armed) && decide (w.po ≤ b) && (match x.closeOf w with | none => true | some c => decide (b < c))
/-- The window of a line. -/
def Pacer.windowOf (x : Pacer) (n : Int) : Option Window := x.windows.find? (x.holds (x.bpos n))

/-- The close of a window has been reached. -/
def Pacer.closed (x : Pacer) (w : Window) : Bool :=
  decide (w.st = .opened) && (match x.closeOf w with | none => false | some c => decide (c ≤ x.bpos x.lineN))
/-- The window is OPEN (R289): its first boundary has been reached, and its close has not. -/
def Window.openAt (x : Pacer) (w : Window) : Bool := decide (w.st = .opened) && !x.closed w
/-- A window of the Pacer is OPEN. -/
def Pacer.isOpen (x : Pacer) : Bool := x.windows.any (Window.openAt x)
/-- The windows that are ARMED, PENDING or OPEN (R287). -/
def Pacer.live (x : Pacer) : List Window := x.windows.filter (fun w => !x.closed w)
/-- Lane l is served by a window: it has not asked to stop before the window was armed or placed (R294). -/
def State.inWin (s : State) (w : Window) (l : Nat) : Bool := !((s.getLane l).stopping && decide ((s.getLane l).stopWin ≤ w.id))
/-- The lanes in PRINT that a window serves: one whose f_max is 0 decides no line (R535). -/
def State.servedBy (s : State) (p : Nat) (w : Window) : List Nat :=
  (s.printLanes p).filter (fun l => s.inWin w l && decide ((s.getLane l).fmax ≠ 0))

/-- Changing the windows of Pacer p that satisfy q. -/
def State.updWindows (p : Nat) (q : Window → Bool) (u : Window → Window) (s : State) : State :=
  s.updPacer p (fun x => { x with windows := x.windows.map (fun w => if q w then u w else w) })
/-- A flag for every lane of a window. -/
def Window.flag (b : Nat) (w : Window) : Window := { w with flags := setBit w.flags b true }
/-- A flag for one lane of a window. -/
def Window.laneFlag (lane b : Nat) (w : Window) : Window :=
  { w with laneFlags := tabPut (fun _ => 0) w.laneFlags lane (setBit (tabGet (fun _ => 0) w.laneFlags lane) b true) }
/-- The flags that say what a window's Pc came from are taken back (R299). -/
def Window.unclosed (w : Window) : Window := { w with flags := setBit (setBit w.flags flByStop false) flByLength false }
/-- A window is cut at position b by a later one (R292). -/
def Window.truncate (b : Int) (w : Window) : Window := ({ w with pc := some b }.unclosed).flag flTruncated
/-- A window is closed at position b under R294, unless it closes before. -/
def Window.force (b : Int) (w : Window) : Window :=
  if (match w.pc with | none => true | some c => decide (b < c)) then ({ w with pc := some b, closing := true }.unclosed).flag flStopForced else w
/-- The window of a number. -/
def State.updWindow (p id : Nat) (u : Window → Window) (s : State) : State := s.updWindows p (fun w => decide (w.id = id)) u
/-- A flag in the OPEN windows of Pacer p. -/
def State.flagOpen (p b : Nat) (s : State) : State := s.updWindows p (Window.openAt (s.getPacer p)) (Window.flag b)
/-- A flag in one lane's record of the OPEN windows of its Pacer. -/
def State.flagLane (lane b : Nat) (s : State) : State :=
  match (s.getLane lane).pacer with
  | none => s
  | some p => s.updWindows p (fun w => w.openAt (s.getPacer p) && s.inWin w lane) (Window.laneFlag lane b)

/-- How one strobe of a line was decided for the records (R326). -/
structure Verdict where
  dropped : Bool
  late    : Bool
  starved : Bool
  conc    : Nat

/-- A lane's line in a window, joined by one more strobe's verdict. -/
def Window.mark (lane : Nat) (n : Int) (first : Bool) (t : Tick) (v : Verdict) (w : Window) : Window :=
  let same := fun (m : LineMark) => decide (m.lane = lane) && decide (m.n = n)
  let joined := if w.marks.any same then
      w.marks.map (fun m => if same m then { m with
        dropped := m.dropped || v.dropped, late := m.late || v.late, starved := m.starved || v.starved, conc := m.conc + v.conc } else m)
    else w.marks ++ [{ lane := lane, n := n, dropped := v.dropped, late := v.late, starved := v.starved, conc := v.conc }]
  { w with marks := joined, lanes := if w.lanes.contains lane then w.lanes else w.lanes ++ [lane]
           tOpen := if first ∧ w.tOpen = none then some t else w.tOpen }

/-- The decision of a strobe of line n of a lane, in the window that holds the line (R326, R328). -/
def State.markLine (p lane : Nat) (n : Int) (v : Verdict) (s : State) : State :=
  let x := s.getPacer p
  match x.windowOf n with
  | none => s
  | some w => if s.inWin w lane then s.updWindow p w.id (Window.mark lane n (decide (x.lineFrom w.po = n)) s.now v) else s

/-- EMPTY, STRAYSTOP, NOARM, TRUNC of POS_WCNTp. -/
def State.countEmpty (p : Nat) (s : State) : State := s.updPacer p (fun x => { x with empty := satInc x.empty })

/-! ### The data lines of Pacer lines (R286, R295, R316, R317) -/

/-- The assignment of a Pacer line in a cell. -/
def Cell.assigned (x : Cell) (n : Int) : Option Assign := x.assign.find? (fun a => decide (a.n = n))
/-- The lowest window slot of Pacer p that is free (R298); the segments of continuous mode beyond eight take the slots in turn (log entry 72). -/
def Pacer.freeSlot (x : Pacer) : Nat :=
  ((List.range 8).find? (fun i => !x.live.any (fun w => decide (w.slot = i)))).getD (x.nextWin % 8)
/-- An empty window with its number and slot. -/
def newWindow (id slot : Nat) (st : WinSt) : Window :=
  { id := id, slot := slot, st := st, start := 0, stop := 0xFF, offset := 0, length := 0, po := 0, pc := none, byStop := false,
    stopSeen := false, flags := 0, laneFlags := [], lanes := [], marks := [], fstart := 0, tOpen := none, tClose := 0,
    closing := false, recorded := false }
/-- The continuous-mode segment that starts at line n (R295): SEGLEN lines, or all that follow when SEGLEN is 0. -/
def State.openSegment (p : Nat) (n : Int) (s : State) : State :=
  s.updPacer p (fun x =>
    let w := (newWindow x.nextWin x.freeSlot .pending).flag flSegment
    let pc := if x.segLen = 0 then none else some (x.bpos (n + x.segLen.toNat))
    { x with windows := x.windows ++ [{ w with po := x.bpos n, pc := pc }], nextWin := x.nextWin + 1 })
/-- In continuous mode the next segment is placed with the first line beyond the segments so far, for a lane that goes on printing (R295). -/
def State.ensureSegment (p lane : Nat) (n : Int) (s : State) : State :=
  let x := s.getPacer p
  if x.cont && !(s.getLane lane).stopping && (x.windowOf n).isNone then s.openSegment p n else s

/-- The data line that line n takes, if any: the next one, where a window that serves the lane holds the line (R286, R295, R317). -/
def State.takesData (s : State) (c p : Nat) (n : Int) : Option Nat :=
  match (s.getPacer p).windowOf n with
  | none => none
  | some w => if s.inWin w (s.laneOf c) then some (s.getCell c).nextA else none
/-- A line that takes data line v starves (R43). -/
def State.starves (s : State) (c v : Nat) : Bool := s.cellOn c && (!s.masksFull c || decide (s.complete c ≤ v))
/-- What partners have not sent of line v by its speculation point is taken as missing (R240). -/
def State.settleEdges (c v : Nat) (mapped : Bool) (s : State) : State :=
  if !s.cellOn c || (s.getCell c).slots.any (fun r => decide (r.m = v)) then s
  else (s.missEdge c v mapped .left).missEdge c v mapped .right
/-- Line n of cell c takes its data line, if it takes one (R43, R240, R316, R317). A line that had the same one in `old` keeps its verdict. -/
def State.assignLine (c p : Nat) (old : List Assign) (n : Int) (s : State) : State :=
  match s.takesData c p n with
  | none => s.updCell c (fun y => { y with assign := y.assign ++ [{ n := n, m := none, starved := false }] })
  | some v =>
    let st : Bool := match old.find? (fun a => decide (a.n = n ∧ a.m = some v)) with | none => s.starves c v | some a => a.starved
    let s := s.updCell c (fun y => { y with
      assign := y.assign ++ [{ n := n, m := some v, starved := st }], nextA := v + 1
      skipM := if st && decide (y.nextM ≤ v) then y.skipM ++ [v] else y.skipM })
    s.settleEdges c v (!st && !(s.getCell c).bare)
/-- How many Pacer lines before the strobe's own the data line of a link's redundant nozzles was assigned, where it has any (R243). -/
def redLagOf (k : LinkCfg) : Option Nat := if nredOf k = 0 then none else some (k.ldly + k.redofs)
/-- What the strobe of line n on link l carries under the copy in use (R243). -/
def State.strobeData (s : State) (l : Nat) (n : Int) : Load :=
  let cell := s.getCell (l / 2)
  let k := linkCfg (s.cfg (l / 2)) (l % 2)
  let dataAt := fun (d : Nat) => (cell.assigned (n - d)).bind (fun a => if a.starved then none else a.m)
  { pm := dataAt k.ldly, rm := (redLagOf k).bind dataAt, lag := k.ldly, rlag := redLagOf k
    starved := match cell.assigned (n - k.ldly) with | none => false | some a => a.starved }

/-- A line of cell c that neither of its links has decided. -/
def State.undecided (s : State) (c : Nat) (n : Int) : Bool :=
  (linksOf c).all (fun l => match (s.getLink l).decided with | none => true | some d => decide (d < n))
/-- A strobe that fires no test nozzle any more (R383): its line stays at level 0. -/
def Strobe.untest (b : Strobe) : Strobe :=
  if b.test.isSome || b.purge then { b with test := none, purge := false, mute := true, sent := false, acked := false, resent := false } else b
/-- What a strobe carries now: one that carries something else is loaded anew. `own` says that its line takes a data line itself, and is no test
line; `lost` that the line lost it while the Pacer was in WAIT, so that a drop of it is not counted (R293, R329). -/
def Strobe.carry (d : Load) (own lost : Bool) (b : Strobe) : Strobe :=
  let b := { b with quiet := !own && (b.quiet || lost) }
  let b := if own && (b.test.isSome || b.purge || b.mute) then
      { b with test := none, purge := false, mute := false, sent := false, acked := false, resent := false } else b
  if b.load = d then b else { b with load := d, sent := false, acked := false, resent := false }
/-- The windows have changed (R293, R317, R329): the undecided lines of cell c take their data lines anew, in order. -/
def State.reassignCell (p c : Nat) (s : State) : State :=
  let old := (s.getCell c).assign.filter (fun a => s.undecided c a.n)
  let low := (old.filterMap (·.m)).foldl min (s.getCell c).nextA
  let s := s.updCell c (fun y => { y with
    assign := y.assign.filter (fun a => !old.contains a), nextA := low, skipM := y.skipM.filter (fun k => decide (k < low)) })
  let s := old.foldl (fun s a => (s.ensureSegment p (s.laneOf c) a.n).assignLine c p old a.n) s
  let takes := fun (l : List Assign) (n : Int) => l.any (fun a => decide (a.n = n) && a.m.isSome)
  forAll (linksOf c) (fun s l => s.updLink l (fun k => { k with
    strobes := k.strobes.map (fun b =>
      let own := takes (s.getCell c).assign b.n
      b.carry (s.strobeData l b.n) own (decide ((s.getPacer p).st = .wait) && takes old b.n && !own)) })) s
/-- Every cell that Pacer p serves in PRINT takes its data lines anew. -/
def State.reassign (p : Nat) (s : State) : State :=
  forAll ((s.printLanes p).flatMap (fun l => s.cellsOf l)) (fun s c => s.reassignCell p c) s

/-! ### Window edges (R288-R294) -/

/-- A window edge that becomes known after the first uncommitted boundary has passed it moves there (R293). -/
def State.lateEdge (s : State) (p : Nat) (e : Int) : Bool × Int :=
  let fu := (s.getPacer p).bpos (s.firstUndecided p)
  if e < fu then (true, fu) else (false, e)
/-- Removing the windows of Pacer p that satisfy q, without records. -/
def State.discardWindows (p : Nat) (q : Window → Bool) (s : State) : State :=
  s.updPacer p (fun x => { x with windows := x.windows.filter (fun w => !q w) })
/-- PENDING windows whose range is known to hold no boundary are discarded and counted (R291). -/
def State.dropEmpty (p : Nat) (s : State) : State :=
  let q := fun (w : Window) => decide (w.st = .pending) && (s.getPacer p).holdsNone w
  forAll (((s.getPacer p).windows.filter q).map (·.id)) (fun s i => (s.discardWindows p (fun w => decide (w.id = i))).countEmpty p) s
/-- Pc becomes known for a window; the earlier of two stands (R289, R293). -/
def State.putClose (p id : Nat) (pc : Int) (u : Window → Window) (s : State) : State :=
  let e := s.lateEdge p pc
  s.updWindow p id (fun w =>
    if match w.pc with | none => true | some c => !w.recorded && decide (e.2 < c) then
      let w := u { w with pc := some e.2 }
      if e.1 then w.flag flEdgeLate else w
    else w)
/-- The close of a window by its stop edge (R289, R293). -/
def State.closeAt (p id : Nat) (pc : Int) (u : Window → Window) (s : State) : State :=
  ((s.putClose p id pc u).dropEmpty p).reassign p

/-- The window of a start edge (R288, R289, R293): it becomes PENDING at Po, with Pc from LENGTH, which counts from the Po of the edge and not
from where a late one moved to (DESIGN CHOICE, log entry 72). -/
def State.startWindow (p id : Nat) (pt : Int) (s : State) : State :=
  match (s.getPacer p).windows.find? (fun w => decide (w.id = id)) with
  | none => s
  | some w =>
    let po := pt + w.offset * 65536
    let e := s.lateEdge p po
    let s := s.updWindow p id (fun y =>
      let y := { y with st := .pending, po := e.2 }
      if e.1 then y.flag flEdgeLate else y)
    let s := if w.length = 0 then s else s.putClose p id (po + w.length * 65536) (Window.flag flByLength)
    (s.dropEmpty p).reassign p

/-- OPEN windows close with STOP-FORCED at the first undecided boundary, and all others are discarded (R294). -/
def State.forceWindows (p : Nat) (s : State) : State :=
  let s := s.discardWindows p (fun w => decide (w.st ≠ .opened))
  let fu := (s.getPacer p).bpos (s.firstUndecided p)
  (s.updWindows p (fun w => !w.recorded) (Window.force fu)).reassign p

/-! ### Window events at a Pacer line boundary (R289-R292) -/

/-- A PENDING window of Pacer p opens at boundary n; an earlier OPEN window closes before it, and TRUNC counts it (R289, R292). One whose record
was written with that close counts too. -/
def State.openWindow (p : Nat) (n : Int) (w : Window) (s : State) : State :=
  let x := s.getPacer p
  let b := x.bpos n
  let cut := fun (y : Window) => decide (y.st = .opened) && decide (y.id ≠ w.id) && decide (y.po ≤ b) &&
    (if y.recorded then decide (y.pc = some b) && bit y.flags flTruncated
     else match y.pc with | none => true | some c => decide (b < c))
  let s := forAll ((x.windows.filter cut).map (·.id)) (fun s i =>
    (s.updWindow p i (fun y => if y.recorded then y else y.truncate b)).updPacer p (fun x => { x with trunc := satInc x.trunc })) s
  s.updWindow p w.id (fun y =>
    let lanes := s.servedBy p w
    (lanes.filter (fun l => (s.getLane l).derate)).foldl (fun y l => y.laneFlag l flDerate) { y with st := .opened, lanes := (y.lanes ++ lanes).dedup })

/-- Windows at boundary n of Pacer p (R289): those whose first boundary it is open, and those that have given their records and close go. -/
def State.windowsAt (p : Nat) (n : Int) (s : State) : State :=
  let x := s.getPacer p
  let b := x.bpos n
  let s := (x.windows.filter (fun w => decide (w.st = .pending) && decide (w.po ≤ b))).foldl (fun s w => s.openWindow p n w) s
  s.discardWindows p (fun w => w.recorded && (match w.pc with | none => false | some c => decide (c ≤ b)))

/-! ### Product records (R296-R299) -/

/-- The lines of a window that a lane has decided, and their sums. -/
def Window.marksOf (w : Window) (lane : Nat) : List LineMark := w.marks.filter (fun m => decide (m.lane = lane))

/-- FLAGS of a lane's record (R299). -/
def Window.flagsOf (w : Window) (lane : Nat) : BitVec 32 :=
  let ms := w.marksOf lane
  let f := w.flags ||| tabGet (fun _ => 0) w.laneFlags lane
  let f := if ms.any (fun m => m.late && !m.dropped) then setBit f 6 true else f
  let f := if ms.any (fun m => m.dropped) then setBit f 7 true else f
  let f := if ms.any (fun m => m.starved && !m.dropped) then setBit f 8 true else f
  if ms.any (fun m => decide (m.conc ≠ 0)) then setBit f 9 true else f

/-- The 64 bytes of a product record (R298). -/
def recordBytes (p lane : Nat) (h : HostFn) (w : Window) (tClose : Nat) : List Byte :=
  let ms := w.marksOf lane
  let count := fun (q : LineMark → Bool) => (ms.filter q).length
  leBytes h.prSeq.toNat 4 ++ [BitVec.ofNat 8 p, BitVec.ofNat 8 lane, BitVec.ofNat 8 w.slot, BitVec.ofNat 8 (b2n h.prPhase)]
    ++ leBytes (w.flagsOf lane).toNat 4 ++ leBytes (count (fun m => !m.dropped)) 4
    ++ leBytes (count (fun m => m.late && !m.dropped)) 4 ++ leBytes (count (fun m => m.dropped)) 4
    ++ leBytes (count (fun m => m.starved && !m.dropped)) 4 ++ leBytes w.fstart 4 ++ leBytes ((ms.map (·.conc)).sum) 8
    ++ leBytes (ofInt 32 (w.po / 65536)).toNat 4 ++ leBytes (ofInt 32 (w.pc.getD 0 / 65536)).toNat 4
    ++ leBytes (w.tOpen.getD tClose) 8 ++ leBytes tClose 8

/-- One lane's record of a window (R296, R297): written at TAIL with PHASE, or lost while EN = 0; SEQ advances either way. -/
def State.writeProduct (p : Nat) (w : Window) (s : State) (lane : Nat) : State :=
  let h := s.getHost lane
  let x := s.getPacer p
  let tClose := (x.tickAt (x.bpos (x.lineFrom (w.pc.getD 0)))).toNat
  if h.prEn then
    let s := s.dma lane (h.prBase.toNat + 64 * h.prTail.toNat) (recordBytes p lane h w tClose)
    s.updHost lane (fun h =>
      let t := (h.prTail.toNat + 1) % 2 ^ h.prLog.toNat
      { h with prTail := BitVec.ofNat 16 t, prPhase := if t = 0 then !h.prPhase else h.prPhase, prSeq := h.prSeq + 1 })
  else s.updHost lane (fun h => { h with prSeq := h.prSeq + 1, prLost := satInc h.prLost })

/-- Every line of a window is decided on every link of the lanes that it serves in PRINT (R297). -/
def State.windowDone (s : State) (p : Nat) (w : Window) : Bool :=
  let x := s.getPacer p
  match x.closeOf w with
  | none => false
  | some c =>
    !w.recorded && (decide (w.st = .opened) || (decide (w.st = .pending) && !x.holdsNone w)) &&
      ((s.servedBy p w).flatMap (fun l => s.linksOfLane l)).all
        (fun l => match (s.getLink l).decided with | none => false | some d => decide (x.lineFrom c - 1 ≤ d))
/-- A window as its records show it: cut by the window that starts after it, where that one closes it (R292). -/
def Pacer.settled (x : Pacer) (w : Window) : Window :=
  match x.closeOf w with
  | none => w
  | some c => if w.pc = some c then w else w.truncate c

/-- PRODUCT_RECORD (R297): the oldest window of Pacer p whose lines are all decided gives its records; event 376 + p follows. A window whose close
is still to come is OPEN until then. -/
def productRecord (p : Nat) (s : State) : State :=
  if !s.on dCHN then s
  else
    match (s.getPacer p).windows.find? (s.windowDone p) with
    | none => s
    | some w =>
      let x := s.getPacer p
      let v := x.settled w
      let s := v.lanes.foldl (State.writeProduct p v) s
      let s := if x.closed w then s.discardWindows p (fun y => decide (y.id = w.id))
        else s.updWindow p w.id (fun _ => { v with recorded := true })
      let s := s.updPacer p (fun x => { x with evt := setBit x.evt 0 true, lastPc := v.pc })
      s.raise (376 + p)

end Sys2Proof.Machine
end

