-- ==== Sys2Proof/Machine/Cells.lean ====
section
/-! DEFINITION. A cell's configuration sets (R222-R224), its trims on the wire (R249, R361-R363, R395), the release of data lines (R231,
R318) and ring slots (R250), and the meters (R516). -/

namespace Sys2Proof.Machine

/-! ### Configuration sets -/

/-- Copies of a set: (index, body) of the intact ones. -/
def intactOf (set : List StoredCopy) : List (Nat × Copy) :=
  ((List.range set.length).zip set).filterMap (fun e => if e.2.intact then some (e.1, e.2.body) else none)

/-- The copy of highest generation, the lowest-numbered among equals (R224). -/
def highestGen (l : List (Nat × Copy)) : Option (Nat × Copy) :=
  l.foldl (fun b e => match b with
    | none => some e
    | some w => if w.2.gen.toNat < e.2.gen.toNat then some e else some w) none

/-- What R224 resolves of a set: the copy to use, the body an agreeing pair gives to a rewrite (if one is needed), whether the set
diverges, and whether its divergence is a DEGRADED fault. -/
structure Resolved where
  use      : Option Nat
  rewrite  : Option Copy
  diverges : Bool
  degraded : Bool

/-- The resolution of R224. -/
def resolveSet (set : List StoredCopy) : Resolved :=
  let l := intactOf set
  let pair := l.find? (fun e => l.any (fun f => decide (f.1 ≠ e.1) && decide (f.2 = e.2)))
  match l with
  | [] => { use := none, rewrite := none, diverges := true, degraded := true }
  | [e] => { use := some e.1, rewrite := none, diverges := true, degraded := true }
  | _ => match pair with
    | some e =>
      let all := decide (l.length = 3) && l.all (fun f => decide (f.2 = e.2))
      { use := some e.1, rewrite := if all then none else some e.2, diverges := false, degraded := false }
    | none => { use := (highestGen l).map (·.1), rewrite := none, diverges := true, degraded := false }

/-- Three copies of one body. -/
def threeCopies (x : Copy) : List StoredCopy := [⟨x, true⟩, ⟨x, true⟩, ⟨x, true⟩]
/-- CELL_CFGSTS.SHADOWOK. -/
def shadowOk (set : List StoredCopy) : Bool :=
  match set with
  | [a, b, c] => a.intact && b.intact && c.intact && decide (a.body = b.body) && decide (b.body = c.body)
  | _ => false
/-- Writing a new shadow set of a cell (R223). -/
def State.writeShadow (c : Nat) (body : Copy) (s : State) : State :=
  s.updCell c (fun x => { x with shadow := threeCopies { body with gen := x.gen + 1 } })
/-- The shadow set that is applied at a line boundary: of the two ways that R223 gives for a set that does not hold three agreeing intact copies,
Thinis rewrites it from what it compiled (DESIGN CHOICE, log entry 84). -/
def Cell.readyShadow (body : Copy) (x : Cell) : List StoredCopy :=
  if shadowOk x.shadow then x.shadow else threeCopies { body with gen := x.gen + 1 }
/-- The swap of the sets (R223); `body` is what Thinis compiled for the cell. The cell uses the new set, and its generation rises by 1 (R222). -/
def Cell.swap (body : Copy) (x : Cell) : Cell :=
  { x with active := x.readyShadow body, shadow := x.active, inUse := some 0, gen := x.gen + 1, divergent := false, saved := none
           lastCfg := (((x.readyShadow body).head?).map (·.body)).getD body
           nozNext := [], nozPend := x.nozPend ++ x.nozNext }
/-- The copy in use follows the last check at a line boundary (R224). Before the first commit there is none. -/
def Cell.adopt (x : Cell) : Cell :=
  if x.active.isEmpty then x
  else
    let u := (resolveSet x.active).use
    { x with inUse := u, lastCfg := ((u.bind (fun i => x.active[i]?)).map (·.body)).getD x.lastCfg }
/-- The admission of a cell's bank under the configuration in force (R211, R225): nothing where its lane has no committed one (R124). -/
def State.admitCell (c : Nat) (s : State) : State :=
  s.updBank (s.serverOf c) (fun b => if (s.getLane (s.laneOf c)).st = .idle then b.unadmit else b.takeIn (s.cfg c))
/-- The reservation of bank a goes over to bank b (R211). -/
def Bank.carry (a b : Bank) : Bank :=
  { b with
    adm := a.adm, limit := a.limit, sum := a.sum, resFeed := a.resFeed, resPipe := a.resPipe, resDbg := a.resDbg, resTko := a.resTko }
def State.moveReservation (a b : Nat) (s : State) : State := (s.updBank b (Bank.carry (s.getBank a))).updBank a Bank.unadmit

/-- A CONFIG or WAVE-LOAD frame with the next SEQ, kept until the head's CFGSEQ shows it accepted (R345, R361). -/
def State.sendSeq (l : Nat) (frame : Byte → List Byte) (s : State) : State :=
  let k := s.getLink l
  let f := frame (k.seq + 1)
  (s.updLink l (fun k => { k with
    seq := k.seq + 1, unacked := k.unacked ++ [f], cfgAt := if k.unacked.isEmpty then s.now else k.cfgAt })).send (.head l f)
/-- CONFIG of some bytes from an address; of the trims of positions from j; and of HEAD_CTL and STSPER (R361). -/
def State.sendConfig (l addr : Nat) (data : List Byte) (s : State) : State := s.sendSeq l (fun seq => configFrame seq addr data)
def State.sendTrims (l j : Nat) (v : List Nat) (s : State) : State := s.sendConfig l (0x1000 + j) (v.map (fun t => BitVec.ofNat 8 t))
def State.sendCtl (l : Nat) (drive : Bool) (s : State) : State :=
  let k := s.getLink l
  s.sendConfig l 0 (leBytes (b2n drive + 2 * b2n k.tickle) 4 ++ leBytes k.stsper.toNat 4)
/-- WAVE-LOAD of a slot (R360). -/
def State.sendWave (l slot : Nat) (s : State) : State :=
  let w := tabGet waveReset (s.getCell (l / 2)).waves slot
  s.sendSeq l (fun seq => waveFrame seq slot w)

/-- WAVE-LOAD frames of the definitions of cell c named, on its UP links (R360). -/
def State.sendWaves (c : Nat) (ws : List Nat) (s : State) : State :=
  forAll ws (fun s w => forAll (linksOf c) (fun s l => if (s.getLink l).st = .up then s.sendWave l w else s) s) s
/-- Many trims of a cell change at once, where u is applied to it: what the heads may have is kept, and the new targets are sent later, whole
(R361, R363). -/
def State.retrim (c : Nat) (u : Cell → Cell) (s : State) : State :=
  let old := s.getCell c
  let s := s.updCell c u
  let new := s.getCell c
  let ns := ((old.noz ++ new.noz).map (·.1) ++ (old.servo ++ new.servo).map (·.1)).dedup.filter (fun n => decide (old.trimOf n ≠ new.trimOf n))
  ns.foldl (fun s n => s.updLink (2 * c + linkIx n) (fun k => { k with
    trims := tabPut (fun _ => (64, 64)) k.trims (posOf n) (tabGet (fun _ => (old.trimOf n, old.trimOf n)) k.trims (posOf n)) })) s
/-- A configuration is refused whole (R49, R258, R259): cell c has again what it held before it was written. -/
def State.restoreCell (c : Nat) (s : State) : State :=
  let s := s.updCell c (fun x => { x with nozNext := [] })
  match (s.getCell c).saved with
  | none => s
  | some v =>
    let now := (s.getCell c).waves
    let s := s.retrim c (fun x =>
      let x := { x with waves := v.waves, saved := none }
      if v.whole then { x with noz := v.noz, servo := v.servo, det := v.det, badNoz := v.badNoz, erased := v.erased } else x)
    if v.whole then s else s.sendWaves c ((List.range 16).filter (fun w => decide (tabGet waveReset now w ≠ tabGet waveReset v.waves w)))

/-! ### Trims on the wire -/

/-- The trims of a link after a line, or while none runs (R363, R395): each moves toward its target, by one step in PRINT. After a line whose
STROBE executes (`ran`) the trim sent before is what the head has; else the head may still have an older one. Positions at their target in both
are no longer listed. -/
def State.stepTrims (l : Nat) (ran : Bool) (s : State) : State :=
  let k := s.getLink l
  let printing := decide ((s.getLane (s.laneOf (l / 2))).st = .print)
  let next := fun (j v : Nat) =>
    let t := s.targetTrim l j
    if !printing then t else if v < t then v + 1 else if t < v then v - 1 else v
  let moved := k.trims.map (fun e => (e.1, (next e.1 e.2.1, if ran then e.2.1 else max e.2.1 e.2.2)))
  let s := (moved.filter (fun e => decide (e.2.1 ≠ (tabGet (fun _ => e.2) k.trims e.1).1))).foldl (fun s e => s.sendTrims l e.1 [e.2.1]) s
  s.updLink l (fun k => { k with trims := moved.filter (fun e =>
    decide (e.2.1 ≠ s.targetTrim l e.1) || decide (e.2.2 ≠ s.targetTrim l e.1)) })

/-- Noting that the target of a position was `old` (R362): outside PRINT the new one is sent at once, unless a committed strobe that
has not executed was rated lower (R363), or the link is not UP: training then sends it (R356). -/
def State.noteTrim (l j old : Nat) (s : State) : State :=
  let k := s.getLink l
  if old = s.targetTrim l j then s
  else
    let e := tabGet (fun _ => (old, old)) k.trims j
    let waits := decide (k.st ≠ .up) || decide ((s.getLane (s.laneOf (l / 2))).st = .print)
      || k.fired.any (fun f => decide ((s.now : Int) < f.tick))
    if waits then s.updLink l (fun k => { k with trims := tabPut (fun _ => (64, 64)) k.trims j e })
    else
      let t := s.targetTrim l j
      (s.updLink l (fun k => { k with trims := tabPut (fun _ => (64, 64)) k.trims j (t, max e.1 e.2) })).sendTrims l j [t]

/-- Changing a nozzle's table entry or servo byte: the trim and the offset follow (R361, R362). -/
def State.updNozzle (c n : Nat) (u : Cell → Cell) (s : State) : State :=
  let l := 2 * c + linkIx n
  let j := posOf n
  let old := s.targetTrim l j
  let dly : Byte := fld ((s.getCell c).entry n) 18 8
  let s := (s.updCell c u).noteTrim l j old
  let dly' : Byte := fld ((s.getCell c).entry n) 18 8
  if dly ≠ dly' ∧ (s.getLink l).st = .up then s.sendConfig l (0x1800 + j) [dly'] else s

/-- HEAD_CTL with DRIVE_EN as given on each UP link of a cell (R530). -/
def State.sendDrive (on : Bool) (c : Nat) (s : State) : State :=
  forAll (linksOf c) (fun s l =>
    let s := s.updLink l (fun k => { k with drive := on })
    if (s.getLink l).st = .up then s.sendCtl l on else s) s

/-- The head's whole configuration from the cell's tables (R356 step 6, R530): trims, offsets and the 16 waveform slots. -/
def State.loadHead (l : Nat) (s : State) : State :=
  let cell := s.getCell (l / 2)
  let block := fun (i : Nat) => (List.range 256).map (· + 256 * i)
  let s := (List.range 8).foldl (fun s i => s.sendTrims l (256 * i) ((block i).map (s.targetTrim l))) s
  let s := (List.range 8).foldl (fun s i => s.sendConfig l (0x1800 + 256 * i)
    ((block i).map (fun j => fld (cell.entry (2048 * (l % 2) + j)) 18 8))) s
  let s := (List.range 16).foldl (fun s w => s.sendWave l w) s
  s.updLink l (fun k => { k with
    trims := (k.trims.map (fun e => (e.1, (s.targetTrim l e.1, max e.2.1 e.2.2)))).filter (fun e => decide (e.2.1 ≠ e.2.2)) })

/-! ### Data lines and ring slots -/

/-- The Pacer line that data line m was assigned to. -/
def Cell.lineOfData (x : Cell) (m : Nat) : Option Int := (x.assign.find? (fun a => decide (a.m = some m))).map (·.n)

/-- relM moves over released data lines, in order (R231). -/
def advanceRel : Nat → List Nat → Nat → List Nat × Nat
  | 0, done, rel => (done, rel)
  | k + 1, done, rel => if done.contains rel then advanceRel k (done.filter (fun m => decide (m ≠ rel))) (rel + 1) else (done, rel)

/-- Data line m is fired or released (R231, R318): it leaves FILL. -/
def State.markDone (c m : Nat) (s : State) : State :=
  s.updCell c (fun x =>
    if m < x.relM ∨ x.done.contains m then x
    else
      let r := advanceRel (x.done.length + 1) (m :: x.done) x.relM
      { x with done := r.1, relM := r.2 })

/-- A strobe carries the data line that line n was assigned (R243). -/
def Strobe.carries (n : Int) (b : Strobe) : Bool :=
  decide (b.n - b.load.lag = n) || (match b.load.rlag with | none => false | some r => decide (b.n - r = n))
/-- Every strobe that carries data line m has been decided (R243, R318): none of those that wait, and none that is still to be speculated. -/
def State.carriersDecided (s : State) (c m : Nat) : Bool :=
  match (s.getCell c).lineOfData m with
  | none => true
  | some n => (List.range 2).all (fun i =>
      let k := linkCfg (s.cfg c) i
      decide (n + k.ldly < (s.getCell c).specN) && (match redLagOf k with | none => true | some r => decide (n + r < (s.getCell c).specN))
        && (s.getLink (2 * c + i)).strobes.all (fun b => !b.carries n))
/-- The copy in use of cell c has changed (R231, R318): of the lines that a link has decided, those that no strobe will carry are released. -/
def State.settleCarried (c : Nat) (s : State) : State :=
  let ms := ((s.getCell c).assign.filter (fun a => !s.undecided c a.n)).filterMap (·.m)
  ms.foldl (fun s m => if s.carriersDecided c m then s.markDone c m else s) s

/-- The lowest line decided on both links of a cell. -/
def State.decidedBoth (s : State) (c : Nat) : Option Int :=
  match (s.getLink (2 * c)).decided, (s.getLink (2 * c + 1)).decided with
  | some a, some b => some (min a b)
  | _, _ => none

/-- Ring slots and assignments that no strobe can need any more go (R250). -/
def State.pruneSlots (c : Nat) (s : State) : State :=
  match s.decidedBoth c with
  | none => s
  | some d => s.updCell c (fun x => { x with
      slots := x.slots.filter (fun r => match x.lineOfData r.m with | none => decide (x.relM ≤ r.m) | some n => decide (d < n + 15))
      assign := x.assign.filter (fun a => decide (d < a.n + 15)) })

/-! ### Emptying a cell's data (R138, R226, R258) -/

/-- The data region of a cell is emptied: data lines number from 0 again, nothing is in its pipeline, and its request lines but for `keepLines`
start anew; the areas of the masks `kept` count as written. The contone scratch row keeps the errors that lie in it (log entry 71). -/
def State.emptyData (c : Nat) (keepLines kept : List Nat) (s : State) : State :=
  let s := s.updCell c (fun x => { x with
    nextM := 0, outM := 0, pipe := none, slots := [], xin := [], nextA := 0, assign := [], done := [], relM := 0, skipM := [], rows := []
    keptMasks := kept })
  forAll ((List.range 16).filter (fun j => !keepLines.contains j)) (fun s j =>
    s.updReq (reqKey c j) (fun _ => { taken := 0, wptr := 0 })) s

/-- A request line whose mask areas no field of the new copy changes (R258 step 5). -/
def lineSame (old new : Copy) (j : Nat) : Bool :=
  decide (masksOn old j = masksOn new j) && decide (j ≠ old.dataline) && decide (j ≠ new.dataline)
    && (masksOn new j).all (fun k => decide (maskCfg old k = maskCfg new k))
/-- Mask area k has been written in full: it lies before the line's write pointer, or the last commit left it as it was (R248). -/
def State.maskWritten (s : State) (c k : Nat) : Bool :=
  let x := s.cfg c
  let cell := s.getCell c
  let line := (maskCfg x k).line
  let before := (masksDue x cell.keptMasks line).takeWhile (fun i => decide (i ≤ k))
  cell.keptMasks.contains k || decide (((before.map (maskSize x)).sum) ≤ (s.getReq (reqKey c line)).wptr)
/-- The masks whose areas keep their contents under a new copy (R248, R258): no field of theirs changes, and they are written in full, or
their whole request line stays as it is. -/
def State.masksStay (s : State) (c : Nat) (new : Copy) : List Nat :=
  let old := s.cfg c
  (List.range 4).filter (fun k => (maskCfg old k).en && decide (maskCfg old k = maskCfg new k)
    && (lineSame old new (maskCfg new k).line || s.maskWritten c k))
/-- Contents and uncorrectable blocks of a mask area move to its place under the new copy. -/
def State.moveMask (c : Nat) (old new : Copy) (m : Memory) (poison : List Nat) (s : State) (k : Nat) : State :=
  let a := maskBase old k
  let b := maskBase new k
  if a = b then s
  else
    let s := s.cellPut c b (m.readBytes (storeKey (s.serverOf c) a) (maskSize old k))
    s.updBank (s.serverOf c) (fun x => { x with
      poison := (poison.filter (fun i => decide (a ≤ 64 * i ∧ 64 * i < a + maskSize old k))).map (fun i => i - a / 64 + b / 64) ++ x.poison })
/-- The data and mask areas of a cell at the application of a commit (R226, R248, R258): the data region is emptied, mask areas whose fields
change are to be written again, and the others keep their contents. -/
def State.applyAreas (c : Nat) (new : Copy) (s : State) : State :=
  match (s.getCell c).copy with
  | none => s.emptyData c [] []
  | some old =>
    let stay := s.masksStay c new
    let kept := stay.filter (fun k => !lineSame old new (maskCfg new k).line || (s.getCell c).keptMasks.contains k)
    let t := stay.foldl (State.moveMask c old new s.store (s.getBank (s.serverOf c)).poison) s
    t.emptyData c ((List.range 16).filter (lineSame old new)) kept

/-! ### Meters (R516) -/

/-- VOL of a plane and level (R524). -/
def State.volOf (s : State) (lane plane lvl : Nat) : Nat :=
  (tabGet (fun _ => 0) (s.getMeter lane).vpl (3 * plane + (lvl - 1))).toNat

/-- The drops of one committed strobe join the meters of its lane and plane. -/
def State.meterCount (lane plane : Nat) (fires : List (Nat × Nat × Nat)) (s : State) : State :=
  if fires.isEmpty || !s.on dMETA then s
  else
    let vol := (fires.map (fun e => s.volOf lane plane e.2.1)).sum
    s.updMeter lane (fun m => { m with
      drops := tabPut (fun _ => 0) m.drops plane (tabGet (fun _ => 0) m.drops plane + BitVec.ofNat 64 fires.length)
      vols := tabPut (fun _ => 0) m.vols plane (tabGet (fun _ => 0) m.vols plane + BitVec.ofNat 64 vol) })

end Sys2Proof.Machine
end

