-- ==== Sys2Proof/Machine/Speculate.lean ====
section
/-! DEFINITION. Speculation (R316-R320, R240, R43), the commit conditions of R321 and t_ok of R322, and where SPIT-TEST places its test
nozzles (R380-R383). -/

namespace Sys2Proof.Machine

abbrev leadTicks : Int := 720

/-- The gate that serves a cell (R375): its SERVE names the cell's quad. -/
def State.gateFor (s : State) (c : Nat) : Option Nat :=
  (List.range 16).find? (fun g => decide (g / 4 = quadrantOf c) && bit (s.getGate g).serve (quadOf c % 16))
/-- The cells that gate g serves. -/
def State.servedCells (s : State) (g : Nat) : List Nat :=
  ((List.range 16).filter (fun j => bit (s.getGate g).serve j)).flatMap (fun j => cellsOfQuad (16 * (g / 4) + j))

/-! ### Commit conditions (R321) -/

/-- (d): the reference is qualified. -/
def State.refOk (s : State) (x : Pacer) : Bool :=
  match x.cur with
  | .primary => decide (x.priSt = .qualified) && !x.newRef
  | .secondary => decide (x.secSt = .qualified) && !x.newRef
  | .dead => decide (x.drlim = 0) || decide (s.now < x.drFrom + x.drlim.toNat * msTicks)
  | .none => false
/-- (b): the firing position of strobe tick t is within DMAX counts of the latest learned edge. -/
def Pacer.near (x : Pacer) (t : Int) : Bool :=
  decide (x.st = .dead) || decide ((t - x.seedT) * 16777216 ≤ (x.lastX + x.dmax.toNat * 65536 - x.seedX) * x.q.toNat)
/-- (a) to (d), and a schedule in force. -/
def State.pacerOk (s : State) (x : Pacer) (t : Int) : Bool :=
  (decide (x.st = .track) || decide (x.st = .dead)) && x.near t && !x.revPend && s.refOk x && x.schedule
/-- All conditions of R321 for a strobe of a link, in PRINT and until the cell has stopped for a lane reset (R136 step 1). A test strobe on the
test clock, and one that a test line holds at level 0, needs only its LATCH-LOAD (R381, R382); a strobe under the link-down rule, or of a cell with no intact copy, has none (R224, R358). -/
def State.canCommit (s : State) (l : Nat) (b : Strobe) : Bool :=
  let lane := s.getLane (s.laneOf (l / 2))
  (b.dark || b.acked || (s.getCell (l / 2)).bare) &&
  (if lane.st = .print ∨ lane.leaving.contains (l / 2) then
    match lane.pacer with
    | none => false
    | some p => s.pacerOk (s.getPacer p) b.ts1 && decide ((s.getPacer p).schedAt ≤ s.now)
  else (b.test.isSome || b.purge || b.mute) && decide (lane.st = .configured))

/-- The tick at which a strobe falls due (R320). -/
def Strobe.tc (b : Strobe) : Int := b.ts1 - leadTicks

/-- t_ok of the strobes of a link whose commit tick has come and whose conditions hold (R322): `since` is the tick before which
they did not all hold. -/
def State.touchLink (since : Int) (l : Nat) (s : State) : State :=
  s.updLink l (fun k => { k with strobes := k.strobes.map (fun b =>
    if b.ok.isNone ∧ b.tc ≤ (s.now : Int) ∧ b.st ≠ .squashed ∧ s.canCommit l b then
      { b with ok := some (max since (max b.tc (b.from_ : Int))).toNat } else b) })
/-- A change of what R321 asks, on the links given: t_ok is settled under the state before it and under the state after it. -/
def touching (links : List Nat) (u : State → State) (s : State) : State :=
  let s := forAll links (fun s l => s.touchLink 0 l) s
  let s := u s
  forAll links (fun s l => s.touchLink s.now l) s

/-! ### Test nozzles (R380-R383) -/

/-- Test strobes that a gate has placed and that are undecided: (link, strobe). -/
def State.placedTests (s : State) (g : Nat) : List (Nat × Strobe) :=
  ((s.servedCells g).flatMap linksOf).flatMap (fun l => ((s.getLink l).strobes.filter (fun b => b.test.isSome)).map (fun b => (l, b)))

/-- The test nozzle that link l carries in a test line n with strobe tick ts1: the gate's next nozzle, if it lies on the link, no other
is placed in the line, and 2 × GWIN have passed since the previous test (R382, R403). -/
def State.testFor (s : State) (l : Nat) (n ts1 : Int) : Option Nat :=
  match s.gateFor (l / 2) with
  | none => none
  | some g =>
    let x := s.getGate g
    match x.spit with
    | none => none
    | some t => if x.st ≠ .test then none else
      let placed := s.placedTests g
      let taken := placed.map (fun e => 2048 * e.1 + (e.2.test.getD 0) % 2048)
      match t.todo.find? (fun z => !taken.contains z && !bit ((s.getCell (z / 4096)).entry (z % 4096)) 17) with
      | none => none
      | some z =>
        let clear := 2 * (x.gwin.toNat : Int)
        let free := placed.all (fun e => decide (e.2.n ≠ n) && decide (e.2.ts1 + clear ≤ ts1))
          && (match x.lastTx with | none => true | some tx => decide ((tx : Int) + clear ≤ ts1))
        if z / 2048 = l ∧ free ∧ (s.laneOf (l / 2)) = t.lane then some (z % 2048 + 2048 * x.testLvl.toNat) else none

/-- GUARD for a cell (R381). -/
def State.guardOf (s : State) (c : Nat) : Nat := match s.gateFor c with | none => 16 | some g => (s.getGate g).guard.toNat
/-- Line n is a spit line of Pacer p with a guard of `guard` lines (R381). -/
def Pacer.spitLine (x : Pacer) (guard : Nat) (n : Int) : Bool :=
  !x.cont && (x.windowOf n).isNone
    && (match x.lastPc with | none => true | some c => decide (x.lineFrom c - 1 + guard ≤ n))
    && x.windows.all (fun w => decide (w.st = .armed) || decide (n + guard ≤ x.lineFrom w.po)
        || (match w.pc with | none => false | some c => decide (x.lineFrom c - 1 + guard ≤ n)))
    && (decide (x.st = .track) || decide (x.st = .dead) || decide (x.st = .reversed))

/-- A purge line of a cell is due: its SPIT-TEST still has lines that are not placed (R380). A line counts with its strobe on the second link. -/
def State.purgeDue (s : State) (c : Nat) : Bool :=
  decide (((s.getLink (2 * c + 1)).strobes.filter (fun b => b.purge)).length < ((s.getCell c).purge.map (·.2)).sum)

/-! ### Speculation (R316, R317) -/

/-- The line's tick on a link before the split term (R319). -/
def State.baseTick (s : State) (l : Nat) (x : Pacer) (n : Int) : Int :=
  x.tickAt (x.bpos n) - (s.getLink l).tf.toNat + (linkCfg (s.cfg (l / 2)) (l % 2)).tdly

/-- A strobe of link l that is speculated now is dark: the link is not UP (R358), its cell does not run, or has no intact copy (R224), or the zone
of its quad calibrates (R396). -/
def State.speculatesDark (s : State) (l : Nat) : Bool :=
  decide ((s.getLink l).st ≠ .up) || !s.cellOn (l / 2) || (s.getCell (l / 2)).bare
    || (match (s.getQuad (s.workQuad (l / 2))).job with | .calibrating _ => true | _ => false)
/-- A strobe of line n on link l as it is speculated, before its ticks (R316, R362). -/
def State.blankStrobe (s : State) (l : Nat) (n : Int) (load : Load) (test : Option Nat) (purge mute : Bool) : Strobe :=
  let dark := s.speculatesDark l
  { n := n, ts1 := 0, k := 1, sp := s.govSpOf l, st := .computed, wset := s.wsetOf l, load := load, cuts := [], sent := false, acked := false
    resent := false, sentAt := 0, from_ := 0, ok := none, dark := dark
    forced := dark && ((s.getLink l).forced || (s.getQuad (s.workQuad (l / 2))).forced)
    test := test, purge := purge, mute := mute, quiet := false }
/-- Cell c is served by a gate that has a test nozzle in line n of Pacer p (R382). -/
def State.testsLine (s : State) (c p : Nat) (n : Int) : Bool :=
  match s.gateFor c with
  | none => false
  | some g => (s.placedTests g).any (fun e => decide (e.2.n = n) && decide (s.linkPacer e.1 = some p))
/-- Line n of Pacer p is a test line of the gate that serves cell c: its cells fire nothing else in it (R382). -/
def State.muteLine (c p : Nat) (n : Int) (s : State) : State :=
  match s.gateFor c with
  | none => s
  | some g => forAll ((s.servedCells g).flatMap linksOf) (fun s l => s.updLink l (fun k => { k with
      strobes := k.strobes.map (fun b =>
        if b.n = n ∧ b.test.isNone ∧ ¬ b.mute ∧ s.linkPacer l = some p then { b with mute := true, sent := false, acked := false, resent := false } else b) })) s
/-- The strobe of line n on link l at its speculation point, with what it carries (R243), k, SP and cuts. -/
def State.newStrobe (s : State) (l : Nat) (x : Pacer) (n : Int) (test : Option Nat) (purge mute : Bool) : Strobe :=
  s.govern l (s.baseTick l x n)
    { s.blankStrobe l n (s.strobeData l n) test purge mute with st := if x.schedule then .computed else .squashed }

/-- The speculation point of line n in cell c: assignment, starvation, exchange misses, and both links' strobes (R316). A line
counts as starved for the strobes that carry it as their print line. The lines of a cell that does not run are dark (R358, R261, log entry
19) and are never starved. -/
def State.speculateLine (c : Nat) (p : Nat) (n : Int) (s : State) : State :=
  let s := s.ensureSegment p (s.laneOf c) n
  let x := s.getPacer p
  let spit := (s.takesData c p n).isNone && x.spitLine (s.guardOf c) n
  let s := (s.assignLine c p [] n).updCell c (fun y => { y with specN := n + 1 })
  let purge := spit && s.purgeDue c
  forAll (linksOf c) (fun s l =>
    let test := if spit && !purge then s.testFor l n (s.baseTick l x n) else none
    let b := s.newStrobe l x n test purge (!purge && test.isNone && s.testsLine c p n)
    let s := s.updLink l (fun k => { k with strobes := k.strobes ++ [b] })
    if test.isSome then s.muteLine c p n else s) s

/-- Every line of cell c whose speculation point has come (R316): at most D undecided lines are held. A lane whose f_max is 0 has none (R535). -/
def State.speculate (c : Nat) : Nat → State → State
  | 0, s => s
  | k + 1, s =>
    let lane := s.getLane (s.laneOf c)
    match lane.pacer, s.decidedBoth c with
    | some p, some d =>
      let x := s.getPacer p
      if lane.st = .print ∧ lane.fmax ≠ 0 ∧ x.q ≠ 0 ∧ s.on dCHN ∧ (s.getCell c).specN ≤ d + (s.cfg c).depth then
        State.speculate c k (s.speculateLine c p (s.getCell c).specN)
      else s
    | _, _ => s

/-- Speculation of a cell, of all cells of a lane, and of all that Pacer p serves. -/
def State.speculateCell (s : State) (c : Nat) : State := State.speculate c 33 s

/-- Cell c starts to decide lines at line `first` (R531): lines before it are skipped. -/
def State.startLines (first : Int) (c : Nat) (s : State) : State :=
  let s := forAll (linksOf c) (fun s l => s.updLink l (fun k => { k with decided := some (first - 1), strobes := [] })) s
  (s.updCell c (fun x => { x with specN := first, assign := [] })).speculateCell c

/-- The first line of Pacer p that a lane entering PRINT decides: the first boundary beyond the Pacer's position (DEDUCED, log
entry 14). -/
def State.firstLine (s : State) (p : Nat) : Int := (s.getPacer p).lineAfter ((s.getPacer p).posAt s.now)

/-- Recomputing the undecided strobes of a link (R314, R315). `all` recomputes every one and puts it under the release rule from
tick `from_`; else a strobe takes its new tick only when both commit ticks fall after that tick. -/
def State.recompute (all : Bool) (from_ : Nat) (l : Nat) (s : State) : State :=
  match s.linkPacer l with
  | none => s
  | some p =>
    let x := s.getPacer p
    let k := s.getLink l
    let renew := fun (s : State) (b : Strobe) =>
      if b.st = .release ∧ !all then b
      else
        let b' := s.govern l (s.baseTick l x b.n) b
        let b' := if b.cuts = b'.cuts then b' else { b' with sent := false, acked := false, resent := false }
        if all then { b' with st := .waiting, from_ := from_, ok := none }
        else if (from_ : Int) < b.tc ∧ (from_ : Int) < b'.tc then b' else b
    k.strobes.foldl (fun s b =>
      s.updLink l (fun k => { k with strobes := k.strobes.map (fun y => if y.n = b.n then renew s y else y) })) s

/-- The copy in use of cell c has changed (R310): its undecided lines carry and fire what the new one says, at its ticks. WSET stays what it was at
their speculation points (R362). -/
def State.applyCopy (c : Nat) (tdly : List Nat) (s : State) : State :=
  match (s.getLane (s.laneOf c)).pacer with
  | none => s
  | some p =>
    if (s.getLane (s.laneOf c)).st ≠ .print then s
    else
      let x := s.getPacer p
      let s := forAll (linksOf c) (fun s l =>
        let s := s.updLink l (fun k => { k with strobes := k.strobes.map (fun b => b.carry (s.strobeData l b.n) false false) })
        if x.schedule ∧ tdly[l % 2]? ≠ some (linkCfg (s.cfg c) (l % 2)).tdly then s.recompute true (max s.now x.schedAt) l else s) s
      s.settleCarried c

end Sys2Proof.Machine
end

