-- ==== Sys2Proof/Machine/Rounds.lean ====
section
/-! DEFINITION. The flight time to the medium and the targets that follow from it (R390, R391, R395), and the rounds of a SPIT-TEST on a
gate (R380, R384, R390). -/

namespace Sys2Proof.Machine

/-! ### Flight time (R390, R391) -/

/-- VT of the plane that a cell serves (R385, CELL_SVVT): 0 where no configuration is in use. -/
def State.servoOf (s : State) (c : Nat) : Servo :=
  match (s.getCell c).copy with
  | none => servoReset 0
  | some x => tabGet servoReset (s.getLane (s.laneOf c)).servos x.plane

/-- FL_i with its source (R390). -/
def State.flight (s : State) (l : Nat) : BitVec 2 × Int :=
  let k := s.getLink l
  let vt := (s.servoOf (l / 2)).vt.toNat
  match k.flMeas with
  | some f => (3, f)
  | none =>
    if k.tfnom ≠ 0 then (2, k.tfnom)
    else if vt ≠ 0 then (1, ((s.getCell (l / 2)).throw.toNat * 1200000 / vt : Nat))
    else (0, 0)

/-- The lane of a link's work is in PRINT. -/
def State.linkPrints (s : State) (l : Nat) : Bool := decide ((s.getLane (s.laneOf (l / 2))).st = .print)

/-- The target of TF_i follows FL_i and the delay trims (R391); outside PRINT, TF_i takes it at once (R395). -/
def State.retarget (l : Nat) (s : State) : State :=
  let fl := s.flight l
  let t : BitVec 20 := BitVec.ofNat 20 (max 0 (min 1048575 (fl.2 - (s.getCell (l / 2)).cdly - (s.getLink l).hdly))).toNat
  let printing := s.linkPrints l
  s.updLink l (fun k => { k with flSrc := fl.1, tgt := t, tf := if printing then k.tf else t })

/-- TF_i takes its target at once: in head-link training (R395). -/
def State.retargetNow (l : Nat) (s : State) : State := (s.retarget l).updLink l (fun k => { k with tf := k.tgt })

/-- Trims that wait go out where the lane does not print and no committed strobe is still to execute (R363, R395). -/
def State.flushTrims (l : Nat) (s : State) : State :=
  let k := s.getLink l
  if k.st = .up ∧ !s.linkPrints l ∧ !k.fired.any (fun f => decide ((s.now : Int) < f.tick)) then s.stepTrims l false else s

/-- Every target of a link applied at once where its lane state allows (R395). -/
def State.applyTargets (l : Nat) (s : State) : State := (s.retarget l).flushTrims l

/-! ### Rounds of a SPIT-TEST (R380, R384, R403) -/

/-- The gate's cells that carry a plane of a lane. -/
def State.planeCells (s : State) (lane plane : Nat) (cells : List Nat) : List Nat :=
  cells.filter (fun c => decide (s.laneOf c = lane) && (match (s.getCell c).copy with
    | none => false
    | some x => decide (x.plane = plane)))

/-- MISS of a physical nozzle (R253). -/
def State.missOf (s : State) (z : Nat) : Bool := bit ((s.getCell (z / 4096)).entry (z % 4096)) 17

/-- The nozzles of one round of gate g, ascending (R380). -/
def State.roundNozzles (s : State) (g lane plane : Nat) : List Nat :=
  ((s.planeCells lane plane (s.servedCells g)).flatMap (fun c => (List.range 4096).map (· + 4096 * c))).filter (fun z => !s.missOf z)

/-- The measured flight time of a link at the end of a round with at least 16 hits of its print nozzles (R390). -/
def State.measureFlight (g l : Nat) (s : State) : State :=
  let k := s.getLink l
  let s := if 16 ≤ k.tfbCnt then
      let mean := k.tfbSum.fdiv k.tfbCnt
      let h := (s.getGate g).hgate.toNat
      s.updLink l (fun k => { k with flMeas := some (roundDiv (mean * (s.getCell (l / 2)).throw.toNat) h) })
    else s
  (s.updLink l (fun k => { k with tfbSum := 0, tfbCnt := 0 })).retarget l

/-- The state that a gate has while it serves no SPIT-TEST (R378): what its last calibration found. -/
def Gate.rest (x : Gate) : GateSt := if x.blocked then .blocked else if x.calOk then .idle else .uncal
/-- Gate g serves its SPIT-TEST no longer (R378, R384). -/
def Gate.leaveTest (x : Gate) : Gate := { x with spit := none, st := if x.st = .test then x.rest else x.st }
/-- Strobes that q names fire no test nozzle and no purge any more (R383). -/
def State.untest (links : List Nat) (q : Nat → Strobe → Bool) (s : State) : State :=
  forAll links (fun s l => s.updLink l (fun k => { k with strobes := k.strobes.map (fun b => if q l b then b.untest else b) })) s
/-- MISS of nozzle n of cell c may have changed: one that is marked is not fired again in the round (R403), and purge lines under way are loaded
anew (R380). -/
def State.settleMiss (c n : Nat) (s : State) : State :=
  let l := 2 * c + linkIx n
  let s := s.updLink l (fun k => { k with strobes := k.strobes.map (fun b =>
    if b.purge then { b with sent := false, acked := false, resent := false } else b) })
  if !s.missOf (4096 * c + n) then s
  else
    let s := s.untest [l] (fun _ b => match b.test with | none => false | some t => decide (t % 2048 = posOf n))
    forAll (List.range 16) (fun s g => match (s.getGate g).spit with
      | none => s
      | some t => s.updGate g (fun x => { x with spit := some { t with todo := t.todo.filter (fun z => decide (z ≠ 4096 * c + n)) } })) s

/-- The SPIT-TEST of a handle ends when no gate serves it any more (R384). -/
def State.spitOver (h : W32) (s : State) : State :=
  if s.gates.any (fun e => match e.2.spit with | none => false | some t => decide (t.handle = h)) then s else s.finish h stOk 0

/-- Rounds of gate g that have no nozzle left to test and no test open are completed, and the next one starts; after the last round the
gate leaves the test (R384). -/
def State.checkRound (g : Nat) : Nat → State → State
  | 0, s => s
  | n + 1, s =>
    let x := s.getGate g
    match x.spit with
    | none => s
    | some t =>
      if x.open_.isEmpty && t.todo.all s.missOf then
        let cells := s.planeCells t.lane t.plane (s.servedCells g)
        let s := forAll (cells.flatMap linksOf) (fun s l => s.measureFlight g l) s
        let s := s.updGate g (fun x => { x with rounds := x.rounds + 1 })
        let s := s.gateEvt g 0
        if t.left ≤ 1 then
          (s.updGate g Gate.leaveTest).spitOver t.handle
        else
          State.checkRound g n (s.updGate g (fun x => { x with
            spit := some { t with left := t.left - 1, todo := s.roundNozzles g t.lane t.plane } }))
      else s

/-- Rounds of gate g completed now: at most 65,535 can be left (R380). -/
def State.settleRounds (g : Nat) (s : State) : State :=
  match (s.getGate g).spit with
  | none => s
  | some t => State.checkRound g t.left s

end Sys2Proof.Machine
end

