-- ==== Sys2Proof/Machine/Clocking.lean ====
section
/-! DEFINITION. Quad clock and supply (R63-R68): what is asked of each quad by the host and by the thermal ladder (R473, R72), the limits
between neighbours, and the order in which changes are made. The end of a change in flight stands in Machine/Power.lean. -/

namespace Sys2Proof.Machine

/-- The active quads that a spare quad's cells stand in for. -/
def State.standsFor (s : State) (k : Nat) : List Nat :=
  ((sparesOf (k - 64)).filter (fun c => decide ((s.getCell c).svc = .standingIn))).map (fun c => quadOf (s.getCell c).server)
/-- The active quads that a spare quad's cells stand in for, or will once their takeover swaps the links (R263). -/
def State.willStandFor (s : State) (k : Nat) : List Nat :=
  ((sparesOf (k - 64)).filter (fun c => decide ((s.getCell c).svc = .standingIn) || decide ((s.getCell c).svc = .copying))).map
    (fun c => quadOf (s.getCell c).server)
/-- The active quads next to an active quad. -/
def besides (k : Nat) : List Nat := ((List.range 64).filter (fun j => decide (j + 1 = k ∨ k + 1 = j)))
/-- Neighbours of active quad k (R63), where `stands` gives the quads that a spare quad stands in for: the quads next to it, and the spare quads
that stand in for k or for one of those. -/
def nearActive (stands : Nat → List Nat) (k : Nat) : List Nat :=
  besides k ++ [64, 65, 66, 67].filter (fun j => (stands j).any (fun q => decide (q = k ∨ k ∈ besides q)))
/-- Neighbours of a quad (R63): those of a spare quad are the active quads that it stands in for, and every neighbour of such a quad, another spare
quad too. -/
def neighboursBy (stands : Nat → List Nat) (k : Nat) : List Nat :=
  if k < 64 then nearActive stands k
  else (((stands k).flatMap (fun q => q :: nearActive stands q)).filter (fun j => decide (j ≠ k))).dedup
/-- A quad has power, or is about to start at ÷4 (R86 step 5). -/
def State.powered (s : State) (k : Nat) : Bool :=
  bit s.glb.pwr k || (match (s.getQuad k).job with | .starting _ => true | _ => false)
/-- The powered neighbours: two quads are compared only while both are powered. -/
def State.livePeers (s : State) (k : Nat) : List Nat := (neighboursBy s.standsFor k).filter (fun j => bit s.glb.pwr j)
/-- The quads that a change of quad k is made ready beside: its powered neighbours, those about to start, and those that a takeover under
way will make neighbours (R63, R66; log entry 64). -/
def State.comingPeers (s : State) (k : Nat) : List Nat := (neighboursBy s.willStandFor k).filter s.powered

/-- Effective CELLCLK rate of a divider code and a skip code (R64), in units of 600 MHz ÷ 64. -/
def clkRate (div skip : Nat) : Nat := (16 / 2 ^ div) * (4 - skip)
/-- Lowest supply code of a divider code (R65). -/
def minSupply (div : Nat) : Nat := if div = 0 then 10 else if div = 1 then 5 else 0
/-- Divider and skip codes of a rung (R473). -/
def rungOf (r : Nat) : Nat × Nat :=
  match r with
  | 0 => (0, 0) | 1 => (1, 0) | 2 => (1, 1) | 3 => (2, 0) | _ => (2, 2)
/-- The thermal rung in force: 3 until the power-up calibration ends (R486). -/
def Quad.step (x : Quad) : Nat := if x.calib then x.rung.toNat else 3

/-- A quad whose clock is about to start, or whose cells are being restored, stays at ÷4 (R86 steps 5 and 8). -/
def Quad.heldDown (x : Quad) : Bool := match x.job with | .starting _ => true | .restoring .. => true | _ => false
/-- What the host and the thermal block ask of a quad together (R67): the slower divider and the larger skip. -/
def Quad.asked (x : Quad) (divReq skip : Nat) : Nat × Nat :=
  let r := rungOf x.step
  (max (max divReq r.1) (if x.hotter || x.heldDown then 2 else 0), max skip r.2)

/-- One pass that slows quads down as far as R64 asks beside their neighbours (R66 step 1, R473). -/
def State.relax (s : State) (want : List (Nat × Nat × Nat)) : List (Nat × Nat × Nat) :=
  want.map (fun e =>
    let near := want.filter (fun n => (s.comingPeers e.1).contains n.1)
    let ok := fun (d : Nat) => near.all (fun n => decide (clkRate d e.2.2 ≤ 2 * clkRate n.2.1 n.2.2))
    (e.1, ((List.range 3).find? (fun d => decide (e.2.1 ≤ d) && ok d)).getD 2, e.2.2))
/-- The divider and skip that each powered quad shall have. A slow quad slows quads at most five places away: the rates of a chain double
from 8 units to 64. -/
def State.targets (s : State) : List (Nat × Nat × Nat) :=
  let want := ((List.range 68).filter s.powered).map (fun k =>
    let x := s.getQuad k
    (k, x.asked x.divReq.toNat x.skip.toNat))
  s.relax (s.relax (s.relax (s.relax (s.relax want))))

/-- The rates that a quad can have now: in force, and of the change in flight. -/
def Quad.ratesNow (x : Quad) : List Nat :=
  clkRate x.divAct.toNat x.skipAct.toNat :: (match x.goDiv with | none => [] | some g => [clkRate g.1.toNat g.2.toNat])
/-- Every powered neighbour keeps within a factor of 2 of a rate (R64). -/
def State.rateFits (s : State) (k r : Nat) : Bool :=
  (s.livePeers k).all (fun j => (s.getQuad j).ratesNow.all (fun n => decide (n ≤ 2 * r ∧ r ≤ 2 * n)))

/-- One step from code a toward code b. -/
def oneToward (a b : Nat) : Nat := if a < b then a + 1 else if b < a then a - 1 else a
/-- The changes that bring a clock nearer to (div, skip), the whole change first, then single steps of the divider and of the skip. -/
def Quad.ways (x : Quad) (div skip : Nat) : List (Nat × Nat) :=
  let d := x.divAct.toNat
  let k := x.skipAct.toNat
  [(div, skip), (oneToward d div, skip), (div, oneToward k skip), (oneToward d div, oneToward k skip), (oneToward d div, k),
   (d, skip), (d, oneToward k skip)]

/-- The supply that a quad heading for (div, skip) shall have (R65-R67): what the host asks and no less than its dividers need. It does
not fall before the clock has been lowered (R66 step 3). -/
def Quad.wantedSupply (x : Quad) (div skip : Nat) : Nat :=
  let low := min div (min x.divAct.toNat (match x.goDiv with | none => 2 | some g => g.1.toNat))
  let v := max x.vset.toNat (minSupply low)
  let slowing := x.goDiv.isSome || decide (clkRate div skip < clkRate x.divAct.toNat x.skipAct.toNat)
  if slowing && decide (v < x.vact.toNat) then x.vact.toNat else v
/-- The supply that quad k goes to: the wanted one, as near to it as 120 mV from every powered neighbour allows (R65; log entry 64). -/
def State.supplyFor (s : State) (k div skip : Nat) : Nat :=
  (s.comingPeers k).foldl (fun v j => max ((s.getQuad j).vact.toNat - 12) (min v ((s.getQuad j).vact.toNat + 12)))
    ((s.getQuad k).wantedSupply div skip)

/-- The change that quad k can start toward (div, skip), if any (R66): a slower clock once the neighbours are within a factor of 2, a
faster one when its supply has been raised too. -/
def State.stepToward (s : State) (k div skip : Nat) : Option (Nat × Nat) :=
  let x := s.getQuad k
  let now := (x.divAct.toNat, x.skipAct.toNat)
  if x.goDiv.isSome then none
  else (x.ways div skip).find? (fun t =>
    decide (t ≠ now) && s.rateFits k (clkRate t.1 t.2) && decide (minSupply t.1 ≤ x.vact.toNat)
      && (decide (clkRate t.1 t.2 ≤ clkRate now.1 now.2) || decide (s.supplyFor k div skip ≤ x.vact.toNat)))

/-- Starting every change that R66 lets start now. -/
def State.settleClocks (s : State) : State :=
  s.targets.foldl (fun s e =>
    let k := e.1
    let s := match s.stepToward k e.2.1 e.2.2 with
      | none => s
      | some t => s.updQuad k (fun x => { x with goDiv := some (BitVec.ofNat 2 t.1, BitVec.ofNat 3 t.2) })
    let v := s.supplyFor k e.2.1 e.2.2
    s.updQuad k (fun x => { x with vWait := x.vWait || decide (v ≠ x.vact.toNat) })) s

/-- The target divider and skip of quad k. -/
def State.targetOf (s : State) (k : Nat) : Nat × Nat := ((s.targets.find? (fun e => decide (e.1 = k))).map (fun e => e.2)).getD (2, 0)

/-- The regulator of a running quad has reached its new voltage (R66). -/
def State.supplyReached (k : Nat) (s : State) : State :=
  let t := s.targetOf k
  let v := s.supplyFor k t.1 t.2
  (s.updQuad k (fun x => { x with vact := BitVec.ofNat 5 v, vWait := false })).settleClocks

/-- The rates and supplies of quads that a takeover makes neighbours keep R64 and R65 (R63, R263). -/
def State.swapFits (s : State) (c spare : Nat) : Bool :=
  let k := quadOf spare
  let y := s.getQuad k
  ((quadOf c :: nearActive s.standsFor (quadOf c)).filter (fun j => decide (j ≠ k) && bit s.glb.pwr j)).all (fun j =>
    let x := s.getQuad j
    x.ratesNow.all (fun n => y.ratesNow.all (fun r => decide (n ≤ 2 * r ∧ r ≤ 2 * n)))
      && decide (x.vact.toNat ≤ y.vact.toNat + 12 ∧ y.vact.toNat ≤ x.vact.toNat + 12))

/-! ### Requests of the host (R67) -/

/-- A supply request keeps R65 beside quad k's divider and its neighbours: the supply each of them has, and the one it goes to (log entry
64). -/
def State.supplyFits (s : State) (k code : Nat) : Bool :=
  let x := s.getQuad k
  let near := fun (v : Nat) => decide (code ≤ v + 12 ∧ v ≤ code + 12)
  decide (code ≤ 20) && (!bit s.glb.pwr k || (decide (minSupply x.divAct.toNat ≤ code) &&
    (s.livePeers k).all (fun j => near (s.getQuad j).vact.toNat && near (s.getQuad j).vset.toNat)))
/-- A divider and skip request keeps R64 and R65. -/
def State.clockFits (s : State) (k div skip vset : Nat) : Bool :=
  let t := (s.getQuad k).asked div skip
  decide (div ≤ 2) && decide (skip ≤ 2) && (!bit s.glb.pwr k || (s.rateFits k (clkRate t.1 t.2) && decide (minSupply t.1 ≤ vset)))

/-- A write of VSET, DIVREQ and SKIP of quad k (R67): a field that keeps its value asks for nothing; a request that does not fit is
refused whole. -/
def State.requestQuad (k vset div skip : Nat) (s : State) : State :=
  let x := s.getQuad k
  let sameV := decide (vset = x.vset.toNat)
  let sameC := decide (div = x.divReq.toNat) && decide (skip = x.skip.toNat)
  if (sameV || s.supplyFits k vset) && (sameC || s.clockFits k div skip vset) then
    (s.updQuad k (fun x => { x with
      vset := BitVec.ofNat 5 vset, divReq := BitVec.ofNat 2 div, skip := BitVec.ofNat 3 skip })).settleClocks
  else s.updQuad k (fun x => { x with refused := true })

end Sys2Proof.Machine
end

