-- ==== Sys2Proof/Machine/Spares.lean ====
section
/-! DEFINITION. Spare cells: which spare can stand in (R262), the cause SPARES (R48, R503), the start of a takeover (R263) and of the self-test
of a spare (R266), and the end of a self-test (R266, R268). -/

namespace Sys2Proof.Machine

/-- The last self-test of a cell passed (R262, CELL_BIST). -/
def Cell.passed (x : Cell) : Bool := x.bistV && x.bistP

/-- Spares of a quadrant that can take a cell over (R262), lowest first. -/
def State.freeSpares (s : State) (q : Nat) : List Nat :=
  (sparesOf q).filter (fun k => decide ((s.getCell k).svc = .free) && (s.getCell k).passed && s.on (quadOf k))

/-- A quadrant has a spare in FREE (R48). -/
def State.hasFree (s : State) (q : Nat) : Bool := (sparesOf q).any (fun k => decide ((s.getCell k).svc = .free))

/-- The cause SPARES of SVCREQ follows the spares (R503). -/
def State.settleSpares (s : State) : State := s.setCause 0 (!(List.range 4).all s.hasFree)

/-- Every spare of a quadrant stands in for a failed cell or has failed itself (R48): one that serves a self-test comes back. -/
def State.sparesUsed (s : State) (q : Nat) : Bool :=
  (sparesOf q).all (fun k => decide ((s.getCell k).svc = .spareRetired)
    || (decide ((s.getCell k).svc = .standingIn) && decide ((s.getCell (s.getCell k).server).svc ≠ .underTest)))
/-- No spare of quadrant q is free for a cell that needs one (R48, R267). -/
def State.sparesOut (q : Nat) (s : State) : State :=
  if s.hasFree q then s.settleSpares
  else
    let waiting := (s.cells.filter (fun e => decide (quadrantOf e.1 = q) && e.2.testHold)).map (·.1)
    let s := forAll waiting (fun s c => s.updCell c (fun x => { x with testHold := false })) s
    ((s.updTest q (fun t => { t with on := false })).settleSpares).raise 346

/-- A spare of quadrant q has come to stand in for good, or is as it was: rolling self-test stops once every spare does (R48). -/
def State.spareStays (q : Nat) (stays : Bool) (s : State) : State := if stays && s.sparesUsed q then s.sparesOut q else s.settleSpares

/-- The takeover of active cell c by spare k begins (steps 1 and 2 of R263). -/
def State.beginTakeover (c k : Nat) (s : State) : State :=
  let s := s.updCell c (fun x => { x with tkoActive := true, tkoStep := 1, tkoPeer := k, tkoBlocks := 0 })
  ((s.updCell k (fun y => { y with svc := .copying, server := c, tkoPeer := c })).settleSpares).settleClocks

/-- A refill of cell c begins, or joins the one that waits (R255, R261, R393). -/
def State.beginRefill (c : Nat) (image test : Bool) (sets : List Nat) (s : State) : State :=
  s.updCell c (fun x => match x.refill with
    | none => { x with refill := some { image := image, sets := sets, test := test, failed := false } }
    | some r => { x with refill := some { r with image := r.image || image, sets := (r.sets ++ sets).dedup, test := r.test || test } })
/-- The return of active cell c from its spare begins (R264). -/
def State.beginReturn (c : Nat) (s : State) : State :=
  s.updCell c (fun x => { x with tkoActive := true, tkoStep := 1, tkoPeer := x.server, tkoBlocks := 0 })

/-- A march test has erased bank b (R266): it reads as 0, and no block of it is uncorrectable any more (log entry 70). -/
def State.eraseBank (b : Nat) (s : State) : State :=
  ({ s with store := s.store.filter (fun e => decide (e.1 / 524288 ≠ b)) } : State).updBank b (fun x => { x with poison := [] })
/-- A FREE spare is tested in place (R266); PEER shows the spare itself (DESIGN CHOICE, log entry 17). -/
def State.testSpare (q k : Nat) (s : State) : State :=
  let s := (s.eraseBank k).updCell k (fun x => { x with svc := .spareTest, tkoActive := true, tkoStep := 5, tkoPeer := k })
  (s.updTest q (fun t => { t with cell := some k })).settleSpares

/-- The FREE spare of a quadrant with the fewest completed self-tests, the lowest among equals (the order is a choice, log entry 17). -/
def State.leastTested (s : State) (q : Nat) : Option Nat :=
  ((sparesOf q).filter (fun k => decide ((s.getCell k).svc = .free) && s.on (quadOf k))).foldl (fun b k => match b with
    | none => some k
    | some j => if (s.getCell k).bistRuns.toNat < (s.getCell j).bistRuns.toNat then some k else some j) none

/-- A cell that waits for a spare which an abandoned self-test has freed (R268). -/
def State.serveWaiting (q : Nat) (s : State) : State :=
  let waits := fun (x : Cell) => x.testHold && decide (x.svc = .inService) && !x.tkoActive
  match (s.cells.filter (fun e => decide (quadrantOf e.1 = q) && waits e.2)).map (·.1), s.freeSpares q with
  | c :: _, k :: _ => (s.updCell c (fun x => { x with testHold := false })).beginTakeover c k
  | _, _ => s

/-- The test of an active cell of quadrant q has ended: a spare is tested in place while rolling self-test is on (R266). -/
def State.endTest (q : Nat) (s : State) : State :=
  let s := (s.updTest q (fun t => { t with cell := none })).serveWaiting q
  if (s.getTest q).on then (match s.leastTested q with | none => s | some k => s.testSpare q k) else s

end Sys2Proof.Machine
end

