-- ==== Sys2Proof/Machine/Power.lean ====
section
/-! DEFINITION. Taking a quad out of service and back (R76, R81, R86, R87, R477, R478): link down (R357, R358), failed takeovers (R265), gates
(R379, R400), and the steps of a power cycle or a reset of a quad. -/

namespace Sys2Proof.Machine

/-! ### Links (R357, R358) -/

/-- A strobe that is not committed yet falls under the link-down rule (R358); one in release is decided at once (DEDUCED, log entry 74). `forced`
says that its quad is forced down (R85). -/
def Strobe.darken (now : Tick) (forced : Bool) (b : Strobe) : Strobe :=
  { b with
    dark := true, forced := b.forced || forced, st := if b.st = .release then .waiting else b.st
    from_ := if b.st = .release then now else b.from_ }
/-- The undecided lines of a link are dark from now on. -/
def Link.darken (now : Tick) (forced : Bool) (k : Link) : Link :=
  { k with forced := k.forced || forced, strobes := k.strobes.map (Strobe.darken now (k.forced || forced)) }
/-- Link l goes DOWN. An UP link counts the event, reports it, and its undecided lines are decided under the link-down rule. -/
def State.linkGoesDown (l : Nat) (s : State) : State :=
  let k := s.getLink l
  let s := s.updLink l (fun k => { k.darken s.now (s.getQuad (s.workQuad (l / 2))).forced with st := .down })
  if k.st ≠ .up then s
  else
    let s := s.skipTests (fun t => decide (t.noz / 2048 = l))
    let s := s.updLink l (fun k => { k with conceal := true, downs := satInc k.downs, drive := false, unacked := [] })
    let s := s.hlEvt l 1
    if k.en then s.fault 6 1 l (BitVec.ofNat 64 l) true else s


/-! ### Gates (R376, R379, R400) -/

/-- The cell that times gate g is clocked (R376, R378): its own, or the spare that stands in for it. -/
def State.gateOn (s : State) (g : Nat) : Bool := s.on (s.workQuad (4 * (s.getGate g).owner.toNat))

/-- A gate's test state after a change of its availability: TEST while a SPIT-TEST holds it (R400). -/
def Gate.served (x : Gate) : Gate := { x with st := if x.spit.isSome then .test else x.st }

/-- The length of idle calibration, 32 ms (R379). -/
abbrev calTicks : Nat := 32 * msTicks
/-- Idle calibration of gate g begins (R379): the gate may be high already. -/
def Gate.beginCal (now : Tick) (x : Gate) : Gate :=
  { x with st := .cal, calFrom := now, idle := 0, maxBin := none, high := min calTicks (x.highTo - now), calOk := false, blocked := false }

/-- Every open test of gate g is skipped (R389, R399, R400). -/
def Gate.skipOpen (x : Gate) : Gate := { x with open_ := x.open_.map (fun t => { t with skip := true }) }

/-- The timing cell's quad goes off with no spare standing in (R400). -/
def State.gateDown (g : Nat) (s : State) : State := s.updGate g (fun x => { x.skipOpen with st := .unavailable })

/-- The timing cell's quad has powered up (R379, R406): the gate's registers are at reset and its calibration begins. A SPIT-TEST that
holds it goes on (R400). -/
def State.gateUp (g : Nat) (s : State) : State :=
  s.updGate g (fun x => { ({ gateReset g with highTo := x.highTo } : Gate).beginCal s.now with
    refused := x.refused, owner := x.owner, serve := x.serve, spit := x.spit, open_ := x.open_, lastTx := x.lastTx })

/-- The calibration of quad k has ended (R396, R400): its gates return to a SPIT-TEST that holds them. -/
def State.gatesCalibrated (k : Nat) (s : State) : State :=
  forAll (List.range 16) (fun s g =>
    if s.workQuad (4 * (s.getGate g).owner.toNat) = k ∧ ((s.getGate g).st = .idle ∨ (s.getGate g).st = .blocked) then
      s.updGate g Gate.served else s) s


/-! ### Beginning to stop a quad -/

/-- The active cells whose work runs in quad k. -/
def State.workCells (s : State) (k : Nat) : List Nat := (List.range 256).filter (fun c => decide (s.workQuad c = k))
/-- The gates that quad k times. -/
def State.gatesOf (s : State) (k : Nat) : List Nat :=
  (List.range 16).filter (fun g => decide (s.workQuad (4 * (s.getGate g).owner.toNat) = k))
/-- Cells that have a boundary to reach before quad k stops (R86 step 1, R477): those whose work it carries, and for a shutdown by a head
pin those whose links are held. -/
def State.stopList (s : State) (k : Nat) : List Nat :=
  let held := if (s.getQuad k).shead && decide (k < 64) then (cellsOfQuad k).filter (fun c => decide (s.workQuad c ≠ k)) else []
  s.workCells k ++ held
/-- Quad k begins to stop. -/
def State.beginStop (k : Nat) (why : StopWhy) (s : State) : State := s.updQuad k (fun x => { x with job := .stopping (s.stopList k) why })

/-- A failed takeover has a spare quad with no cell standing in power-cycled by the part itself (R498). -/
def State.recycleSpares (out : Bool) (spare : Nat) (s : State) : State :=
  let k := quadOf spare
  if out && s.on k && (sparesOf (k - 64)).all (fun c => decide ((s.getCell c).svc ≠ .standingIn)) && decide ((s.getQuad k).job = .none) then
    s.beginStop k (.cycle none)
  else s

/-! ### Failed takeovers (R265) -/

/-- The self-test of a quadrant that concerns cell c. -/
def State.underSelfTest (s : State) (c : Nat) : Bool := decide ((s.getTest (quadrantOf c)).cell = some c)


/-- A takeover or return of cell c fails before its link swap (R265): the cell keeps its work where it is, the spare of a takeover is FREE. A cell
whose return from a self-test fails is STOOD-IN from then on (DESIGN CHOICE, log entry 17). -/
def State.failTakeover (c : Nat) (s : State) : State :=
  let x := s.getCell c
  let spare := x.tkoPeer
  let out := decide (s.serverOf c = c)
  let selfT := s.underSelfTest c
  let s := s.updCell c (fun x => { x with
    tkoActive := false, tkoStep := 0, svc := if selfT ∧ !out then .stoodIn else x.svc
    refill := if selfT then none else x.refill })
  let s := if out then s.updCell spare (fun y => { y with svc := .free, server := spare }) else s
  let s := (s.cellEvt c evTkoFail).fault 17 1 c 0 false
  let s := if selfT then s.updTest (quadrantOf c) (fun t => { t with cell := none }) else s
  let s := s.spareStays (quadrantOf c) (selfT && !out)
  let s := s.recycleSpares out spare
  s.finishAll (fun o => match o.kind with | .spareTakeover a _ => decide (a = c) | .spareReturn a _ => decide (a = c) | _ => false) stHwFault 0


/-- Takeovers and self-tests that quad k takes part in end with its loss (R265, R266). -/
def State.quadLosesWork (k : Nat) (s : State) : State :=
  let tko := (s.cells.filter (fun e => e.2.tkoActive && decide (e.2.tkoStep.toNat ≤ 4) && (decide (quadOf e.1 = k) || decide (quadOf e.2.tkoPeer = k)))).map (·.1)
  let s := forAll tko (fun s c => s.failTakeover c) s
  forAll [0, 1, 2, 3] (fun s q =>
    match (s.getTest q).cell with
    | none => s
    | some t =>
      if quadOf t = k then
        let x := s.getCell t
        let s := s.updCell t (fun x => { x with
          svc := if 256 ≤ t then .free else if x.server = t then .inService else .stoodIn, tkoActive := false, tkoStep := 0, refill := none })
        (s.updTest q (fun y => { y with cell := none })).spareStays q (decide (t < 256 ∧ x.server ≠ t))
      else s) s

/-! ### Off and on (R86, R87) -/

/-- Exchange values on their way from the cells of quad k are discarded (R76): its partners' crossings are clamped. -/
def State.dropExchange (k : Nat) (s : State) : State :=
  forAll (s.workCells k) (fun s c =>
    let s := if c = 0 then s else s.updCell (c - 1) (fun x => { x with xin := x.xin.filter (fun v => v.here || decide (v.side = .left)) })
    s.updCell (c + 1) (fun x => if c + 1 < 256 then { x with xin := x.xin.filter (fun v => v.here || decide (v.side = .right)) } else x)) s

/-- Quad k loses power (R86 steps 2 and 3): its links go DOWN under R358, its gates are UNAVAILABLE, its clock and power bits are 0. -/
def State.quadOff (k : Nat) (s : State) : State :=
  let s := s.quadLosesWork k
  let s := forAll ((s.workCells k).flatMap linksOf) (fun s l => s.linkGoesDown l) s
  let s := forAll (s.gatesOf k) (fun s g => s.gateDown g) s
  (s.dropExchange k |>.setDomain k false).updQuad k (fun x => { x with goDiv := none, vWait := false, calib := false })

/-- A cell whose serving quad has powered up (R87, R273): table memory is empty and the registers are at reset. What lies outside the quad
stays: the service state, the data lines still to come, and commands that wait. A cell whose lane has a committed image keeps every
nozzle at level 0 until it is restored (R261). -/
def Cell.poweredUp (c : Nat) (erased : Bool) (x : Cell) : Cell :=
  { cellReset c with
    svc := x.svc, server := x.server
    testHold := x.testHold, gen := x.gen, lastCfg := x.lastCfg, refill := x.refill, nozNext := x.nozNext, keptMasks := x.keptMasks
    marks := x.marks, nextM := x.nextA, outM := x.nextA, nextA := x.nextA, assign := x.assign, done := x.done
    relM := x.relM, specN := x.specN, idleAt := x.idleAt, counted := x.counted, purge := x.purge, erased := erased }
/-- A cell whose quad has been reset with power kept (R85): table memory stays. -/
def Cell.resetLogic (c : Nat) (x : Cell) : Cell :=
  { Cell.poweredUp c x.erased x with
    active := x.active, shadow := x.shadow, inUse := x.inUse, divergent := x.divergent, noz := x.noz, waves := x.waves, tsets := x.tsets
    servo := x.servo, det := x.det, detUse := x.detUse, badNoz := x.badNoz, nozPend := x.nozPend, saved := x.saved }
/-- A link whose serving quad has powered up or been reset: the registers are at reset, and lines under way go on. -/
def Link.restarted (l : Nat) (now : Tick) (k : Link) : Link :=
  { linkReset l with
    forced := k.forced, held := k.held, strobes := k.strobes, decided := k.decided, rPrev := k.rPrev, fired := k.fired, trims := k.trims, calmFrom := now }

/-- The limits of a cell and of a link that are locked for their lane stay what they were, until the lane's next reset (R15, R371, R372; log entry
44). -/
def Cell.keepLimits (old x : Cell) : Cell := { x with govSp := old.govSp, govPers := old.govPers, govRel := old.govRel }
def Link.keepLimits (old k : Link) : Link := { k with estrobe := old.estrobe, ewin := old.ewin }
/-- The cells and links whose work quad k carries start again, changed by u. The governor's requests of these links are gone (R369). -/
def State.restartWork (k : Nat) (u : Nat → Cell → Cell) (s : State) : State :=
  let s := forAll (s.workCells k) (fun s c =>
    let locked := (s.getLane (s.laneOf c)).locked
    let s := s.retrim c (fun x => if locked then x.keepLimits (u c x) else u c x)
    forAll (linksOf c) (fun s l => s.updLink l (fun x =>
      let y := (x.restarted l s.now).darken s.now false
      if locked then x.keepLimits y else y)) s) s
  forAll (List.range 8) (fun s p => s.updateGov p) s

/-- The clock of quad k starts at ÷4 (R83 step 10, R86 step 5), and its calibration begins (R396). A latched shutdown ends (R477), and with it
the conditions of its sensors (R489). -/
def State.quadUp (k : Nat) (h : Option W32) (s : State) : State :=
  let s := s.updQuad k (fun x => { x with vact := x.vset, divAct := 2, skipAct := 0, goDiv := none })
  let v := s.supplyFor k 2 0
  let s := (s.setDomain k true).updQuad k (fun x => { x with
    vact := BitVec.ofNat 5 v, vWait := false, rung := 0, shutdown := false, shead := false, sdie := false
    calib := false, coolFrom := none, upAt := s.now, job := .calibrating h })
  let held := if k < 64 then (cellsOfQuad k).flatMap linksOf else []
  let s := forAll held (fun s l => s.updLink l (fun x => { x with held := false })) s
  let s := s.restartWork k (fun c x => x.poweredUp c (s.getLane (s.laneOf c)).image.isSome)
  let pins := (List.range 128).filter (fun n => decide (k < 64) && decide ((s.getPin n).zone.toNat = k) && decide ((s.getPin n).level.toNat < 2))
  let s := forAll pins (fun s n => s.endCond 12 n) s
  let d := if k < 64 then k / 2 else 8 * (k - 64) + 7
  let s := if (s.getDie d).level.toNat < 2 then s.endCond 13 d else s
  let own := if k < 64 then cellsOfQuad k else sparesOf (k - 64)
  let s := forAll own (fun s c => (s.updCell c (fun x =>
    if c < 256 then { x with bistV := false, bistP := false } else x.poweredUp c false)).endCond 3 c) s
  (forAll (s.gatesOf k) (fun s g => s.gateUp g) s).settleClocks

/-- The rate ÷4 fits beside the powered neighbours of quad k (R64). -/
def State.startFits (s : State) (k : Nat) : Bool := s.rateFits k (clkRate 2 0)
/-- Quads whose clocks wait start: for their neighbours (R66 step 1, R86 step 5), and for the domain of their quadrant's line store (R81). -/
def State.settleStarts (s : State) : State :=
  forAll (List.range 68) (fun s k => match (s.getQuad k).job with
    | .starting h =>
      if s.startFits k && s.on (dLS (quadrantOfQuad k)) && !s.glb.lsOff.contains (quadrantOfQuad k) then s.quadUp k h else s
    | _ => s) s
/-- The regulator of a quad in a cycle has its voltage: the clock starts at ÷4 once its neighbours are within a factor of 2 (R64, R66). -/
def State.quadStart (k : Nat) (h : Option W32) (s : State) : State :=
  (s.updQuad k (fun x => { x with job := .starting h })).settleClocks.settleStarts

/-- DIVIDER_CHANGE_DONE (R66): the change in flight takes effect, and the next ones start. -/
def dividerChangeDone (k : Nat) (s : State) : State :=
  match (s.getQuad k).goDiv with
  | none => s
  | some g =>
    if s.fire ∧ bit s.glb.pwr k then
      (s.updQuad k (fun x => { x with divAct := g.1, skipAct := g.2, goDiv := none })).settleClocks.settleStarts
    else s

/-- The logic of quad k is reset with power and clock kept (R85). Its gates are not calibrated again. -/
def State.quadReset (k : Nat) (s : State) : State :=
  let s := s.quadLosesWork k
  let s := forAll ((s.workCells k).flatMap linksOf) (fun s l => s.linkGoesDown l) s
  let s := (s.dropExchange k).restartWork k (fun c x => x.resetLogic c)
  let s := forAll (s.gatesOf k) (fun s g =>
    (s.gateUp g).updGate g (fun x => Gate.served { x.skipOpen with st := .uncal })) s
  (s.updQuad k (fun x => { x with goDiv := none, vWait := false })).settleClocks

/-- A cause bit of GLB_RSTCAUSE (R90). -/
def State.setRstCause (b : Nat) (s : State) : State := { s with glb := { s.glb with rstCause := setBit s.glb.rstCause b true } }

/-- Quad k has stopped, for its reason. -/
def State.quadStopped (k : Nat) (why : StopWhy) (s : State) : State :=
  match why with
  | .shutdown => (s.quadOff k).updQuad k (fun x => { x with job := .none })
  | .cycle h => (s.quadOff k).updQuad k (fun x => { x with job := .ramping h })
  | .reset h =>
    let s := ((s.quadReset k).updQuad k (fun x => { x with job := .none, forced := false })).setRstCause 5
    match h with | none => s | some h => s.finish h stOk 0

/-- A quad that has no cell left to stop stops now. -/
def State.settleStop (k : Nat) (s : State) : State :=
  match (s.getQuad k).job with
  | .stopping [] why => s.quadStopped k why
  | _ => s

/-- Quad k stops for a reason, at the next line boundaries of its cells; a quad that is off has none (R86 step 1). -/
def State.stopQuad (k : Nat) (why : StopWhy) (s : State) : State :=
  if s.on k then (s.beginStop k why).settleStop k else s.quadStopped k why

/-- A line boundary of cell c: quads that wait for it go on stopping. Links of a zone that a head pin has shut down are held DOWN from here on
(R477). -/
def State.boundaryStop (c : Nat) (s : State) : State :=
  let waiting := (s.quads.filter (fun e => match e.2.job with | .stopping l _ => l.contains c | _ => false)).map (·.1)
  forAll waiting (fun s k =>
    match (s.getQuad k).job with
    | .stopping l why =>
      let hold := (s.getQuad k).shead && decide (quadOf c = k)
      let s := forAll (linksOf c) (fun s i => (if hold then s.updLink i (fun x => { x with held := true }) else s).linkGoesDown i) s
      (s.updQuad k (fun x => { x with job := .stopping (l.filter (fun i => decide (i ≠ c))) why })).settleStop k
    | _ => s) s

/-! ### Restoring (R86 steps 7 and 8) -/

/-- A DOMAIN-CYCLE of quad k ends once nothing is left to be read and no return of its cells is under way (R86 step 8). -/
def State.settleCycle (k : Nat) (s : State) : State :=
  match (s.getQuad k).job with
  | .restoring h false [] =>
    if k < 64 ∧ (cellsOfQuad k).any (fun c => (s.getCell c).tkoActive) then s
    else
      let s := ((s.updQuad k (fun x => { x with job := .none, forced := false })).setRstCause 5).settleClocks
      match h with | none => s | some h => s.finish h stOk 0
  | _ => s

end Sys2Proof.Machine
end

