-- ==== Sys2Proof/Machine/Boundary.lean ====
section
/-! DEFINITION. What takes effect at a line boundary of a cell (R310): nozzle marks and patch entries (R254, R259), missing status (R271),
set swaps and the other changes of R452, print start and stop, takeover swaps (R263, R264), and lane reset (R136 step 1). -/

namespace Sys2Proof.Machine

/-! ### Entering and leaving PRINT -/

/-- The undecided lines of a cell are given up (R136, R294): their data lines go back to be assigned again, and nothing is counted. A data line whose
own line a link has decided goes back no more, and is released (R318). -/
def State.giveUpLines (c : Nat) (s : State) : State :=
  let cell := s.getCell c
  let undecided := fun (a : Assign) => (linksOf c).all (fun l => match (s.getLink l).decided with | none => true | some d => decide (d < a.n))
  let back := (cell.assign.filter undecided).filterMap (fun a => a.m)
  let low := back.foldl min cell.nextA
  let s := s.updCell c (fun x => { x with
    assign := x.assign.filter (fun a => !undecided a), nextA := low, skipM := x.skipM.filter (fun m => decide (m < low)) })
  let s := forAll (linksOf c) (fun s l => s.updLink l (fun k => { k with strobes := [], decided := none })) s
  ((cell.assign.filter (fun a => !undecided a)).filterMap (fun a => a.m)).foldl (fun s m => s.markDone c m) s

/-- Lane l enters PRINT (R168, R295, R401, R531): its cells decide lines from the first one beyond the Pacer's position, or from the
first reseed while Q is 0. -/
def State.enterPrint (l : Nat) (s : State) : State :=
  match (s.getLane l).pacer with
  | none => s
  | some p =>
    let s := s.updLane l (fun x => { x with st := .print, stopping := false })
    let first := s.firstLine p
    let x := s.getPacer p
    let s := s.updateGov p
    forAll (s.cellsOf l) (fun s c =>
      let s := s.giveUpLines c
      if x.q = 0 then s else s.startLines first c) s

/-- Lane l takes part in no window that is placed from now on: in continuous mode no further segment opens for it (R294, R295). -/
def State.endSegments (p l : Nat) (s : State) : State :=
  if (s.getLane l).stopping then s else s.updLane l (fun y => { y with stopping := true, stopWin := (s.getPacer p).nextWin })
/-- Lane l leaves PRINT for state st (R294, R288). When it is the last lane of its Pacer that printed, every remaining window is closed or
discarded and the sets of start and stop edges are emptied. -/
def State.leavePrint (l : Nat) (st : LaneSt) (printed : Bool) (s : State) : State :=
  match (s.getLane l).pacer with
  | none => s.updLane l (fun x => { x with st := st, stopping := false, hold := false })
  | some p =>
    let links := (s.cellsOf l).flatMap linksOf
    let last := printed && (s.printLanes p).all (fun i => decide (i = l))
    let s := if last then (s.endSegments p l).forceWindows p else s
    let s := s.updLane l (fun x => { x with st := st, stopping := false, hold := false })
    let s := if last then s.updPacer p (fun x => { x with starts := [], stops := [] }) else s
    let s := forAll (s.cellsOf l) (fun s c => s.giveUpLines c) s
    let s := forAll links (fun s i => s.applyTargets i) s
    s.updateGov p

/-! ### Nozzle entries -/

/-- A nozzle mark is written (R254); a test of the nozzle that is under way is skipped (R389). -/
def State.applyMark (c : Nat) (m : Mark) (s : State) : State :=
  ((s.skipTests (fun t => decide (t.noz = 4096 * c + m.noz))).updNozzle c m.noz (fun x =>
    let e := setBit (x.entry m.noz) 17 (!m.clear)
    let x := { x with noz := tabPut (fun _ => 0) x.noz m.noz e }
    if m.clear then { x with
      det := x.det.filter (fun n => decide (n ≠ m.noz)), servo := tabPut (fun _ => 0) x.servo m.noz 0 } else x)).settleMiss c m.noz

/-- A patch entry is written; SOFS of the nozzle is reset to 0 (R259). -/
def State.applyEntry (c : Nat) (e : Nat × W32) (s : State) : State :=
  (s.updNozzle c e.1 (fun x => { x with
    noz := tabPut (fun _ => 0) x.noz e.1 e.2
    servo := tabPut (fun _ => 0) x.servo e.1 ((tabGet (fun _ => 0) x.servo e.1) &&& 0xC0)
    badNoz := x.badNoz.filter (fun n => decide (n ≠ e.1)) })).settleMiss c e.1

/-- Marks and up to 256 patch entries, then the missing status of the lines that enter stage 5 from here on (R254, R259, R271). The
entries of NOZZLE-MARK commands are posted after the write (R161). A core swap's pause holds the entries of a patch (R172). -/
def State.boundaryNozzles (c : Nat) (s : State) : State :=
  let marks := (s.getCell c).marks
  let s := marks.foldl (fun s m => s.applyMark c m) s
  let s := s.updCell c (fun x => { x with marks := [] })
  let s := if marks.isEmpty then s else match s.gateFor c with | none => s | some g => s.settleRounds g
  let s := marks.foldl (fun s m => (s.answer m.queue m.tag stOk 0).serveAll m.queue) s
  let waits := s.changes.any (fun ch => ch.cells.contains c && (match ch.kind with | .patch _ => true | _ => false))
  let now := if waits || s.thn.paused then [] else (s.getCell c).nozPend.take 256
  let s := now.foldl (fun s e => s.applyEntry c e) s
  s.updCell c (fun x => { x with nozPend := x.nozPend.drop now.length, detUse := x.det })

/-! ### Changes (R170, R452) -/

/-- The tick at which cell c's next line falls due: the first commit tick of its undecided strobes, else now. -/
def State.nextDue (s : State) (c : Nat) : Int :=
  match (linksOf c).filterMap (fun l => ((s.getLink l).strobes.head?).map Strobe.tc) with
  | [] => s.now
  | a :: t => t.foldl min a

/-- A change falls due in cell c at this boundary (R452). -/
def State.changeDue (s : State) (c : Nat) (ch : Change) : Bool :=
  ch.cells.contains c && ch.ready &&
    (decide (ch.ep = 0) || (ch.committed && decide ((ch.ep * 65536 : Int) ≤ s.nextDue c))) &&
    (match ch.kind with | .printStop _ => ch.windows | _ => true)

/-- A slot of a lane. -/
def Lane.slot (x : Lane) (n : Nat) : Option Slot := if n = 0 then x.slot0 else x.slot1
def Lane.setSlot (x : Lane) (n : Nat) (v : Option Slot) : Lane := if n = 0 then { x with slot0 := v } else { x with slot1 := v }
/-- What a list of copies holds for cell c. -/
def copyFor (c : Nat) (l : List Copy) : Option Copy := l.find? (fun x => decide (x.cell = c))
/-- The copies of a configuration in force with those of the cells in `new` replaced (R260). -/
def mergeCopies (old new : List Copy) : List Copy := old.map (fun x => (copyFor x.cell new).getD x)
/-- A copy with SHIFT, LDLY and TDLY of link l replaced (R260). -/
def alignCopy (l : Nat) (shift : Int) (ldly tdly : Nat) (x : Copy) : Copy :=
  let u := fun (k : LinkCfg) => { k with shift := shift, ldly := ldly, tdly := tdly }
  if l % 2 = 0 then { x with link0 := u x.link0 } else { x with link1 := u x.link1 }

/-- The link, SHIFT, LDLY and TDLY of the ALIGN-SET of a handle. -/
def State.alignOf (s : State) (h : W32) : Option (Nat × Int × Nat × Nat) :=
  s.ops.findSome? (fun o => if o.handle = h then (match o.kind with | .alignSet l sh ld td _ => some (l, sh, ld, td) | _ => none) else none)

/-- The copy that a change brings to cell c, as Thinis compiled it: none where it names no copy for the cell. -/
def State.bodyOf (s : State) (c : Nat) (ch : Change) : Option Copy :=
  let lane := s.getLane ch.lane
  match ch.kind with
  | .commit n | .patch n => (lane.slot n).bind (fun v => copyFor c v.copies)
  | .align => (s.alignOf ch.handle).bind (fun e => (copyFor c lane.inForce).map (alignCopy e.1 e.2.1 e.2.2.1 e.2.2.2))
  | .printStart | .printStop _ | .level _ => none

/-- What a change does in one cell: its sets swap (R223), and the nozzle entries of a patch follow the swap (R259). -/
def State.changeCell (c : Nat) (ch : Change) (s : State) : State :=
  match s.bodyOf c ch with
  | none => s.updCell c (fun x => { x with nozNext := [], nozPend := x.nozPend ++ x.nozNext, saved := none })
  | some body => match ch.kind with
    | .commit _ =>
      let s := ((s.sendDrive false c).applyAreas c body).updCell c (Cell.swap body)
      let s := s.updBank (s.serverOf c) (Bank.takeIn body)
      let s := forAll (linksOf c) (fun s l => (if (s.getLink l).st = .up then s.loadHead l else s).retarget l) s
      s.sendDrive true c
    | _ => (s.updCell c (Cell.swap body)).admitCell c

/-- What a change does once every cell has made it. A held lane is released by a later change (R457). -/
def State.changeLane (ch : Change) (s : State) : State :=
  let s := s.updLane ch.lane (fun x => { x with hold := false })
  let s := if ch.ep = 0 then s else s.flagLane ch.lane flEpoch
  match ch.kind with
  | .commit n =>
    match (s.getLane ch.lane).slot n with
    | none => s
    | some v =>
      let was := (s.getLane ch.lane).pacer
      let s := s.updLane ch.lane (fun x => { x with
        st := .configured, locked := true, comSlot := some n, image := some v.ref, inForce := v.copies, patches := [] })
      forAll (was.toList ++ (s.getLane ch.lane).pacer.toList) (fun s p => s.updateGov p) s
  | .patch n =>
    match (s.getLane ch.lane).slot n with
    | none => s
    | some v => s.updLane ch.lane (fun x => { x with
        inForce := mergeCopies x.inForce v.copies, patches := x.patches ++ [v.ref] })
  | .align => match s.alignOf ch.handle with
    | none => s
    | some (l, sh, ld, td) => s.updLane ch.lane (fun x => { x with
        inForce := x.inForce.map (fun y => if y.cell = l / 2 then alignCopy l sh ld td y else y) })
  | .printStart => if (s.getLane ch.lane).fmax = 0 then s else s.enterPrint ch.lane
  | .printStop _ => s.leavePrint ch.lane .configured true
  | .level _ => s

/-- The final entry of a change may be posted: for a patch, after the last nozzle entry (R259). -/
def State.changeOver (s : State) (ch : Change) : Bool :=
  ch.cells.isEmpty && (match ch.kind with
    | .patch _ => (s.cellsOf ch.lane).all (fun c => (s.getCell c).nozPend.isEmpty)
    | .level _ => false
    | _ => true)

/-- The status of the final entry of a change that every cell has made: a lane whose f_max has become 0 enters no PRINT (R535). -/
def State.changeStatus (s : State) (ch : Change) : BitVec 16 :=
  match ch.kind with
  | .printStart => if (s.getLane ch.lane).fmax = 0 then stBadState else stOk
  | _ => stOk
/-- Changes made by every cell take their effect on the lane and are completed (R170). -/
def State.endChanges (s : State) : State :=
  (s.changes.filter s.changeOver).foldl (fun s ch =>
    let s := { s with changes := s.changes.filter (fun x => decide (x.handle ≠ ch.handle)) }
    (s.changeLane ch).finish ch.handle (s.changeStatus ch) 0) s

/-- Changes that fall due in cell c (R310, R452); whether any did. -/
def State.boundaryChanges (c : Nat) (s : State) : State × Bool :=
  let due := s.changes.filter (s.changeDue c)
  let s := due.foldl (fun s ch =>
    let s := s.changeCell c ch
    { s with changes := s.changes.map (fun x =>
        if x.handle = ch.handle then { x with cells := x.cells.filter (fun i => decide (i ≠ c)) } else x) }) s
  (s, !due.isEmpty)

/-! ### Link swap of a takeover or return (R263, R264) -/

/-- Links of cell c move between c and its spare, and the takeover or return ends. A self-test goes on with the test of the cell
(R266), and ends with the return. Where c times a gate, its test whose window is open is skipped (R399). -/
def State.swapLinks (c : Nat) (s : State) : State :=
  let x := s.getCell c
  let spare := x.tkoPeer
  let out := decide (s.serverOf c = c)
  let mine := fun (o : Op) => match o.kind with
    | .spareTakeover a _ => decide (a = c) && out
    | .spareReturn a _ => decide (a = c) && !out
    | _ => false
  let selfT := s.underSelfTest c
  let s := if out then
      let s := s.updCell c (fun x => { x with
        svc := if selfT then .underTest else if x.svc = .retired then .retired else .stoodIn, server := spare, tkoActive := selfT, tkoStep := if selfT then 5 else 0 })
      let s := s.updCell spare (fun y => { y with svc := .standingIn, server := c })
      (if selfT then s.eraseBank c else s).moveReservation c spare
    else
      let s := s.updCell c (fun x => { x with
        svc := .inService, server := c, tkoActive := false, tkoStep := 0, refill := none
        erased := x.erased || (match x.refill with | none => false | some r => r.test && r.failed) })
      let s := s.updCell spare (fun y => { y with svc := .free, server := spare })
      s.moveReservation spare c
  let moved := fun (g : Nat) => decide (4 * (s.getGate g).owner.toNat = c)
  let s := forAll ((List.range 16).filter moved) (fun s g => s.updGate g (fun x => { x with
    open_ := x.open_.map (fun t => if t.lo ≤ (s.now : Int) then { t with skip := true } else t) })) s
  let s := s.spareStays (quadrantOf c) (out && !selfT && decide (x.svc ≠ .retired))
  let s := if out then s.serveWaiting (quadrantOf c) else if selfT then s.endTest (quadrantOf c) else s.serveWaiting (quadrantOf c)
  let s := s.cellEvt c evTkoDone
  (s.finishAll mine stOk 0).settleCycle (quadOf c)

/-- The takeover step of a boundary: an armed swap takes place, once clocks and supplies allow the new neighbours (R64, R65); a copy whose
pipeline has no data line to start on is armed. A takeover of a cell whose quad is in latched shutdown fails (R265). -/
def State.boundaryTakeover (c : Nat) (timer : Bool) (s : State) : State :=
  let x := s.getCell c
  if !x.tkoActive then s
  else if x.tkoStep.toNat ≤ 4 ∧ s.serverOf c = c ∧ (s.getQuad (quadOf c)).shutdown then s.failTakeover c
  else if x.tkoStep = 4 then (if s.serverOf c ≠ c || s.swapFits c x.tkoPeer then s.swapLinks c else s)
  else if x.tkoStep = 3 ∧ timer then s.updCell c (fun x => { x with tkoStep := 4 })
  else s

/-! ### Lane reset at a boundary (R136 step 1) -/

/-- A window as the record of a lane that is reset shows it (R136, R294, R298): cut at the first boundary that the lane has not decided, unless
the window closes before. -/
def Window.cutFor (l : Nat) (b : Int) (close : Option Int) (w : Window) : Window :=
  if (match close with | none => true | some c => decide (b < c)) then ({ w with pc := some b }.unclosed).laneFlag l flLaneReset
  else { w with pc := close }
/-- Step 1 of R136 is over for lane l: its open windows close for it, and their records are written with LANE-RESET; a window that served no
other lane is gone, and event 376 + p follows (R297). `upTo` is the last line that the lane has decided. -/
def State.laneStopped (l : Nat) (upTo : Option Int) (printed : Bool) (s : State) : State :=
  let s := match (s.getLane l).pacer with
    | none => s
    | some p =>
      let x := s.getPacer p
      let b := x.bpos (match upTo with | none => s.firstUndecided p | some n => n + 1)
      let mine := x.windows.filter (fun (w : Window) => !w.recorded && w.lanes.contains l)
      let s := mine.foldl (fun (s : State) (w : Window) => s.writeProduct p ((x.settled w).cutFor l b (x.closeOf w)) l) s
      let s := s.updWindows p (fun _ => true) (fun w => { w with lanes := w.lanes.filter (fun i => decide (i ≠ l)) })
      let over_ := mine.filter (fun (w : Window) => decide (w.st = WinSt.opened) && decide (w.lanes = [l]))
      let s := s.discardWindows p (fun w => over_.any (fun v => decide (v.id = w.id)))
      if over_.isEmpty then s else (s.updPacer p (fun x => { x with evt := setBit x.evt 0 true })).raise (376 + p)
  s.leavePrint l .resetting printed

/-- Cell c stops firing for the lane reset of its lane: lines that are not committed are given up, and are no false starts. -/
def State.boundaryReset (c : Nat) (s : State) : State :=
  let l := s.laneOf c
  match (s.getLane l).reset with
  | none => s
  | some r =>
    if r.cells.contains c then
      let left := r.cells.filter (fun i => decide (i ≠ c))
      let upTo := ((linksOf c).filterMap (fun i => (s.getLink i).decided)).foldl (fun m d => match m with
        | none => some d | some e => some (max e d)) r.upTo
      let s := (s.giveUpLines c).updLane l (fun x => { x with reset := some { r with cells := left, upTo := upTo } })
      if left.isEmpty then s.laneStopped l upTo true else s
    else s

/-! ### The boundary -/

/-- A line boundary of cell c (R310). An epoch change goes before a takeover's swap, which then waits for the next boundary (R45). -/
def State.cellBoundary (c : Nat) (timer : Bool) (s : State) : State :=
  let s := s.updCell c (fun x => { x with idleAt := s.now })
  let s := if (s.getLane (s.laneOf c)).unhold then s.updLane (s.laneOf c) (fun x => { x with hold := false, unhold := false }) else s
  let old := s.cfg c
  let r := (s.updCell c Cell.adopt).boundaryChanges c
  let s := if r.1.cfg c = old then r.1 else r.1.applyCopy c ((List.range 2).map (fun i => (linkCfg old i).tdly))
  let s := s.boundaryNozzles c
  let s := if r.2 then s else s.boundaryTakeover c timer
  let s := (s.boundaryReset c).boundaryStop c
  s.endChanges

/-- CELL_BOUNDARY_TIMER (R310): 1 ms after its last boundary, with no line decided, a cell takes a boundary that decides no line. -/
def cellBoundaryTimer (c : Nat) (s : State) : State :=
  if c < 256 ∧ s.fire then
    let s := s.at_ ((s.getCell c).idleAt + msTicks)
    (s.cellBoundary c true).speculateCell c
  else s

end Sys2Proof.Machine
end

