-- ==== Sys2Proof/Machine/Sched.lean ====
section
/-! DEFINITION. Deciding strobes (R320-R322, R324-R326, R358): commit, release, drop, and the LATCH-LOAD frames before them (R346-R348,
R350). -/

namespace Sys2Proof.Machine

/-! ### LATCH-LOAD -/

/-- Sending the LATCH-LOAD of a strobe (R346): its line and codes. -/
def State.sendLatch (l : Nat) (b : Strobe) (s : State) : State :=
  s.send (.head l (latchFrame b.n ((s.codes l b).map (fun e => (e.1, e.2.2)))))
/-- Changing the strobe of line n of a link. -/
def State.updStrobe (l : Nat) (n : Int) (u : Strobe → Strobe) (s : State) : State :=
  s.updLink l (fun k => { k with strobes := k.strobes.map (fun b => if b.n = n then u b else b) })
/-- The wire time of a LATCH-LOAD (R353). -/
abbrev latchTicks : Nat := 5220
/-- A resend (R348) adds 1 to RETRY. -/
def State.resendLatch (l : Nat) (b : Strobe) (s : State) : State :=
  ((s.updLink l (fun k => { k with retry := satInc k.retry })).updStrobe l b.n (fun y => { y with sentAt := s.now })).sendLatch l b

/-- The data lines of a strobe are in the output ring (R250). -/
def State.loadable (s : State) (l : Nat) (b : Strobe) : Bool :=
  let here := fun (m : Option Nat) => match m with
    | none => true
    | some v => (s.getCell (l / 2)).slots.any (fun r => decide (r.m = v))
  b.test.isSome || b.purge || b.mute || (s.getCell (l / 2)).bare || (here b.load.pm && here b.load.rm)

/-- LATCH_LOAD (R316, R346): the LATCH-LOAD of the link's first line not yet sent goes out once the last sub-strobe of line n − 2 has
executed and its data have left stage 8. The governor takes k and the cuts anew with the codes that are loaded (DEDUCED, log entry
15). -/
def latchLoad (l : Nat) (s : State) : State :=
  let k := s.getLink l
  if !(s.fire && s.cellOn (l / 2)) || decide (k.st ≠ .up) then s
  else match k.strobes.find? (fun b => !b.sent && !b.dark) with
    | none => s
    | some b =>
      let free := match k.decided with | none => true | some d => decide (b.n - 2 ≤ d)
      if free && s.loadable l b then
        let t := ((k.fired.filter (fun f => decide (f.line = b.n - 2))).map (·.tick)).foldl max 0
        let s := s.at_ t.toNat
        let b := if b.st = .computed ∨ b.st = .waiting then
            s.govern l (b.ts1 - subOff b.k b.sp 0) b else { b with cuts := s.govCuts l b }
        let b := { b with sent := true, acked := false, sentAt := s.now }
        (s.updStrobe l b.n (fun _ => b)).sendLatch l b
      else s

/-- A received frame is discarded (R343): a bad length, type or check field is counted, and is a CORRECTED fault (R489). -/
def State.badFrame (inj : Bool) (l : Nat) (s : State) : State :=
  let s := s.updLink l (fun k => { k with crc := satInc k.crc })
  s.faultBy inj 7 0 l ((s.getLink l).crc.setWidth 64) true

/-- A failure of a strobe's LATCH-LOAD (R348): it is sent once more; a second failure is not retried. -/
def State.latchFailed (l : Nat) (b : Strobe) (s : State) : State :=
  if b.resent then s else (s.updStrobe l b.n (fun y => { y with resent := true })).resendLatch l b

/-- LL_ACK (R343, R345, R347, R348). -/
def llAck (l : Nat) (rx : RxFrame) (s : State) : State :=
  let k := s.getLink l
  let frame := rx.bytes
  if !(s.fire && s.cellOn (l / 2)) || decide (k.st ≠ .up) then s
  else if rx.codeOk ∧ frame.length = 6 ∧ frame[0]? = some 0x22 ∧ frameOk frame then
    let line := ofLe ((frame.drop 1).take 2)
    match k.strobes.find? (fun b => b.sent && !b.acked && decide ((b.n % 65536).toNat = line)) with
    | none => s
    | some b =>
      if frame[3]? = some 0x00 then touching [l] (fun s => s.updStrobe l b.n (fun y => { y with acked := true })) s
      else if frame[3]? = some 0x01 then s.latchFailed l b
      else s
  else s.badFrame false l

/-- LL_ACK_TIMEOUT (R348): no LL-ACK within 2 × ONEWAY + 200 ticks of the end of the oldest LATCH-LOAD that waits for one and can be sent again. -/
def llAckTimeout (l : Nat) (s : State) : State :=
  if !(s.fire && s.cellOn (l / 2)) || decide ((s.getLink l).st ≠ .up) then s
  else match (s.getLink l).strobes.find? (fun b => b.sent && !b.acked && !b.resent) with
    | none => s
    | some b => (s.at_ (b.sentAt + latchTicks + 2 * (s.getLink l).oneway.toNat + 200)).latchFailed l b

/-! ### Decisions -/

/-- The assignments a strobe carries: its print line's and its redundant line's (R243). -/
def State.carried (s : State) (l : Nat) (b : Strobe) : List Assign :=
  let at_ := fun (lag : Nat) => ((s.getCell (l / 2)).assigned (b.n - lag)).toList
  at_ b.load.lag ++ (match b.load.rlag with | none => [] | some r => at_ r)
/-- CELL_CLINES and the lines counted so far (R324): a line counts with its first commit on a link of the cell. `other` is the last line that the
other link has decided. -/
def Cell.countLine (n : Int) (other : Option Int) (x : Cell) : Cell :=
  let open_ := fun (m : Int) => match other with | none => true | some d => decide (d < m)
  { x with
    clines := if x.counted.contains n then x.clines else x.clines + 1
    counted := (n :: x.counted.filter (fun m => decide (m ≠ n))).filter (fun m => open_ m || decide (n < m)) }

/-- Nozzles that a committed strobe counts as concealed (R246, R224, R358). -/
def State.concealedBy (s : State) (l : Nat) (b : Strobe) : Nat :=
  let c := l / 2
  let x := s.cfg c
  let cell := s.getCell c
  if cell.inUse.isNone || cell.bare then 2048
  else if b.dark then 2048 - nredOf (linkCfg x (l % 2))
  else
    let mine := fun (ns : List Nat) => (ns.filter (fun n => decide (linkIx n = l % 2))).length
    let cols := fun (cs : List Nat) => (cs.filter (fun col => decide (colBase x 1 ≤ col) == decide (l % 2 = 1))).length
    match b.load.pm.bind (fun m => cell.slots.find? (fun r => decide (r.m = m))) with
    | some r => mine r.conc + cols r.cols
    | none => mine (cell.missing.filter (isPrint x))

/-- What follows a decision of line n on link l: ring slots go, the line boundary of the cell falls if the other link has decided the
line too, and the next line is speculated (R310, R316). -/
def State.afterDecision (l : Nat) (n : Int) (s : State) : State :=
  let c := l / 2
  let s := s.pruneSlots c
  let other := 2 * c + (1 - l % 2)
  let both := match (s.getLink other).decided with | none => false | some d => decide (n ≤ d)
  let s := if both then s.cellBoundary c false else s
  s.speculateCell c

/-- Removing a decided strobe from its link. -/
def State.takeOff (l : Nat) (n : Int) (s : State) : State :=
  s.updLink l (fun k => { k with strobes := k.strobes.filter (fun b => decide (b.n ≠ n)), decided := some n })

/-- The STROBE frames of a committed strobe (R345, R350). -/
def State.sendStrobes (l : Nat) (b : Strobe) (s : State) : State :=
  (List.range b.k).foldl (fun s i =>
    s.send (.head l (strobeFrame b.n i b.k b.wset (subTick b.ts1 b.k b.sp i).toNat))) s

/-- A STROBE ends the LATCH-LOAD of a later line that is on the wire with /A/ (R350): a failure of that frame (R348). -/
def State.abortLatch (l : Nat) (n : Int) (s : State) : State :=
  match (s.getLink l).strobes.find? (fun b => decide (b.n ≠ n) && b.sent && !b.acked && decide (s.now < b.sentAt + latchTicks)) with
  | none => s
  | some b => s.latchFailed l b

/-- A test nozzle has been fired (R386): its test opens at the gate, and the nozzle leaves the round's list. One that the governor cut
or whose link is down is skipped (R389). -/
def State.openTest (l : Nat) (b : Strobe) (t : Nat) (s : State) : State :=
  match s.gateFor (l / 2) with
  | none => s
  | some g =>
    let x := s.getGate g
    let j := t % 2048
    let z := 2048 * l + j
    match x.spit with
    | none => s
    | some sp =>
      if t / 2048 ≠ 0 then
        let dly := signed 8 (fld ((s.getCell (l / 2)).entry (2048 * (l % 2) + j)) 18 8).toNat
        let tx := subTick b.ts1 b.k b.sp (j % b.k) + dly
        let vt := ((tabGet servoReset (s.getLane sp.lane).servos sp.plane)).vt.toNat
        let flight : Int := if vt = 0 then (Config.divByZero (x.hgate.toNat * usTicks * 1000) : Int) else (x.hgate.toNat * 1200000 / vt : Nat)
        let mid := tx + x.gdly.toNat + flight
        s.updGate g (fun y => { y with
          lastTx := some tx.toNat, nozzle := BitVec.ofNat 20 z, spit := some { sp with todo := sp.todo.filter (fun i => decide (i ≠ z)) }
          open_ := y.open_ ++ [{ noz := z, tx := tx.toNat, lo := mid - x.gwin.toNat, hi := mid + x.gwin.toNat, cross := none,
                                 skip := b.dark || b.cuts.contains j || decide (vt = 0) }] })
      else s

/-- A PURGE ends when none of its cells has a line left (R384). -/
def State.purgeOver (h : W32) (s : State) : State :=
  if s.cells.any (fun e => e.2.purge.any (fun t => decide (t.1 = h))) then s else s.finish h stOk 0

/-- A purge line is committed (R380, R384): the cell has one line less to fire, and the command ends with the last cell's last line.
A line counts with its strobe on the cell's second link. -/
def State.countPurge (l : Nat) (s : State) : State :=
  match (s.getCell (l / 2)).purge with
  | [] => s
  | (h, left) :: rest =>
    if l % 2 = 0 then s
    else
      let s := s.updCell (l / 2) (fun x => { x with purge := if left ≤ 1 then rest else (h, left - 1) :: rest })
      s.purgeOver h

/-- A test nozzle that a recompute has brought too close to the gate's previous test is removed (R382): it fires at level 0. -/
def State.stripTest (s : State) (l : Nat) (b : Strobe) : Strobe :=
  match b.test, s.gateFor (l / 2) with
  | some t, some g =>
    match (s.getGate g).lastTx with
    | none => b
    | some tx => if b.ts1 < (tx : Int) + 2 * (s.getGate g).gwin.toNat then { b with test := some (t % 2048) } else b
  | _, _ => b

/-- Committing a strobe at its ticks, late by `lam` (R321, R322, R324): the frames, the meters, the counters, the record, the data lines, and
the trims that follow the line. -/
def State.commitStrobe (l : Nat) (b : Strobe) (lam : Int) (s : State) : State :=
  let c := l / 2
  let lane := s.laneOf c
  let s := if b.dark then s else (s.sendStrobes l b).abortLatch l b.n
  let s := s.meterCount lane (s.cfg c).plane (s.codes l b)
  let s := s.govCommit l (if b.dark then { b with cuts := [] } else b)
  let conc := s.concealedBy l b
  let carried := s.carried l b
  let starving := carried.any (fun a => a.starved && (match a.m with
    | none => false
    | some m => decide ((s.getCell c).relM ≤ m) && !(s.getCell c).done.contains m))
  let s := s.updCell c (fun x => { x.countLine b.n (s.getLink (2 * c + (1 - l % 2))).decided with
    conc := x.conc + BitVec.ofNat 64 conc, schLate := if 0 < lam then satInc x.schLate else x.schLate })
  let s := if starving then (s.updLane lane (fun x => { x with starv := satInc x.starv })).raise (352 + lane) else s
  let s : State := match (s.getLane lane).pacer with
    | none => s
    | some p =>
      let s : State := if 0 < lam then s.updPacer p (fun x => { x with lateCnt := satInc x.lateCnt }) else s
      let dead := decide ((s.getPacer p).st = PacerSt.dead)
      let s : State := match (s.getPacer p).windowOf b.n with
        | none => s
        | some w => s.updWindow p w.id (fun w =>
            let w := if dead then w.laneFlag lane flDead else w
            if b.dark && b.forced then w.laneFlag lane flQuadForced else w)
      if b.test.isSome || b.purge then s
      else s.markLine p lane b.n { dropped := false, late := decide (0 < lam), starved := b.load.starved, conc := conc }
  let s := carried.foldl (fun s a => match a.m with | none => s | some m => s.markDone c m) s
  let s := s.updLink l (fun k => { k with rPrev := some b.ts1 })
  let s := match b.test with | none => s | some t => s.openTest l b t
  let s := if b.purge then s.countPurge l else s
  ((s.takeOff l b.n).stepTrims l !b.dark).afterDecision l b.n

/-- A strobe whose conditions hold is to be committed, moved by `lam` ticks: the governor's last check (R366) and that of the gate's window
(R382). A check that changes what the strobe fires makes the cell send its LATCH-LOAD again; the strobe then waits for that frame under the last
condition of R321 (R367; DEDUCED, log entry 74). -/
def State.tryCommit (l : Nat) (b0 : Strobe) (lam : Int) (s : State) : State :=
  let b := s.stripTest l { b0 with ts1 := b0.ts1 + lam }
  let more := if b.dark then [] else s.moreCuts l b
  if b.sent && (!more.isEmpty || decide (b.test ≠ b0.test)) then
    let b := { b0 with test := b.test, cuts := b0.cuts ++ more, st := .release, ok := none, acked := false }
    (s.updStrobe l b.n (fun _ => b)).resendLatch l b
  else s.commitStrobe l { b with cuts := b.cuts ++ more } lam

/-- Dropping a strobe (R318, R322, R326): it fires nothing, and data lines that no other strobe can fire are released. -/
def State.dropStrobe (l : Nat) (b : Strobe) (s : State) : State :=
  let c := l / 2
  let lane := s.laneOf c
  let carried := s.carried l b
  let s := s.takeOff l b.n
  let s := if b.quiet then s else
    let s := s.updCell c (fun x => { x with schDrop := satInc x.schDrop })
    match (s.getLane lane).pacer with
    | none => s
    | some p =>
      let s := s.updPacer p (fun x => { x with dropCnt := satInc x.dropCnt })
      if b.test.isSome || b.purge then s
      else s.markLine p lane b.n { dropped := true, late := false, starved := b.load.starved, conc := 0 }
  let s := carried.foldl (fun s a => match a.m with
    | none => s
    | some m => if s.carriersDecided c m then s.markDone c m else s) s
  s.afterDecision l b.n

/-- r_prev + SPACING of a link (R322). -/
def State.spacedFrom (s : State) (l : Nat) : Int :=
  match (s.getLink l).rPrev with
  | none => 0
  | some r => r + (s.getLane (s.laneOf (l / 2))).spacing

/-- The lateness that a link's strobes may have (R322): none is set for the test clock. -/
def State.lateLimit (s : State) (l : Nat) : Option Int :=
  let lane := s.getLane (s.laneOf (l / 2))
  if lane.st = .print ∨ lane.leaving.contains (l / 2) then lane.pacer.map (fun p => (s.getPacer p).lateMax) else none

/-- A link whose strobes are decided: FIRECLK runs, and its lane prints, or its cell runs and its lane can run a test (R381). In PRINT the
lines of a cell that does not run are decided too, as dark ones (R358, R478). A lane whose f_max is 0 decides none (R535). -/
def State.decides (s : State) (l : Nat) : Bool :=
  let lane := s.getLane (s.laneOf (l / 2))
  s.fire && decide (lane.fmax ≠ 0) && (decide (lane.st = .print) || (decide (lane.st = .configured) && s.cellOn (l / 2))
    || lane.leaving.contains (l / 2))

/-- STROBE_COMMIT (R320, R321): the commit tick of the link's first undecided strobe. It is committed on time, sent to the release rule,
or dropped in a held lane (R457). A strobe under the link-down rule is committed whatever the conditions of R321 say (R358; DEDUCED, log
entry 74). -/
def strobeCommit (l : Nat) (s : State) : State :=
  match (s.getLink l).strobes with
  | [] => s
  | b :: _ =>
    if s.decides l && (decide (b.st = .computed) || decide (b.st = .waiting)) then
      let onTick := decide ((s.now : Int) ≤ b.tc)
      let s := s.at_ b.tc.toNat
      if (s.getLane (s.laneOf (l / 2))).hold then s.dropStrobe l b
      else if b.dark ∧ ¬ (s.getCell (l / 2)).bare then (s.at_ b.from_).commitStrobe l b 0
      else if onTick ∧ s.canCommit l b ∧ (b.from_ : Int) ≤ b.tc ∧ s.spacedFrom l ≤ b.ts1 then s.tryCommit l b 0
      else (s.touchLink 0 l).updStrobe l b.n (fun y => { y with st := .release })
    else s

/-- STROBE_RELEASE (R322): the release tick of the link's first strobe, once t_ok is known and its lateness is within LATEMAX. -/
def strobeRelease (l : Nat) (s : State) : State :=
  let s := s.touchLink 0 l
  match (s.getLink l).strobes with
  | [] => s
  | b :: _ =>
    if s.decides l && decide (b.st = .release) then
      match b.ok with
      | none => s
      | some t =>
        let r := max b.ts1 (max ((t : Int) + leadTicks) (s.spacedFrom l))
        let fits := match s.lateLimit l with | none => true | some m => decide (r - b.ts1 ≤ m)
        if fits then (s.at_ (r - leadTicks).toNat).tryCommit l b (r - b.ts1) else s
    else s

/-- STROBE_DROP (R322): the first tick at which the lateness of the link's first strobe can no longer stay within LATEMAX. -/
def strobeDrop (l : Nat) (s : State) : State :=
  let s := s.touchLink 0 l
  match (s.getLink l).strobes, s.lateLimit l with
  | b :: _, some m =>
    if s.decides l && decide (b.st ≠ .computed) then
      let soonest := match b.ok with
        | some t => (t : Int)
        | none => max (s.now : Int) (max b.tc (b.from_ : Int))
      let r := max b.ts1 (max (soonest + leadTicks) (s.spacedFrom l))
      if m < r - b.ts1 then (s.at_ (max b.tc (b.from_ : Int)).toNat).dropStrobe l b
      else if b.ok.isNone then (s.at_ (b.ts1 + m - leadTicks + 1).toNat).dropStrobe l b
      else s
    else s
  | _, _ => s

/-- TEST_LINE (R381-R383): the test clock of a CONFIGURED cell places its next test line, at least SPACING after the one before, where
its gate has a nozzle to test on it or its SPIT-TEST has a purge line left. The link that has no test nozzle stays at level 0 in it. -/
def testLine (c : Nat) (s : State) : State :=
  let lane := s.laneOf c
  let spacing : Int := (s.getLane lane).spacing
  let last := (linksOf c).map (fun l => match (s.getLink l).strobes.getLast? with
    | some b => b.ts1
    | none => (s.getLink l).rPrev.getD 0)
  let used := (linksOf c).any (fun l => !(s.getLink l).strobes.isEmpty || (s.getLink l).rPrev.isSome)
  if decide (c < 256) && s.fire && s.cellOn c && decide ((s.getLane lane).st = .configured)
      && decide (spacing ≠ 0) then
    let t := if used then last.foldl max 0 + spacing - leadTicks else 0
    let s := s.at_ t.toNat
    let ts1 : Int := s.now + leadTicks
    let n := (s.getCell c).specN
    let purge := s.purgeDue c
    let tests := (linksOf c).map (fun l => (l, if purge then none else s.testFor l n ts1))
    if purge || tests.any (fun e => e.2.isSome) then
      let s := s.updCell c (fun x => { x with specN := n + 1 })
      tests.foldl (fun s e =>
        let empty : Load := { pm := none, rm := none, starved := false, lag := 0, rlag := none }
        let b := s.govern e.1 ts1 (s.blankStrobe e.1 n empty e.2 purge (!purge && e.2.isNone))
        s.updLink e.1 (fun k => { k with strobes := k.strobes ++ [b], decided := some ((k.decided).getD (n - 1)) })) s
    else s
  else s

end Sys2Proof.Machine
end

