-- ==== Sys2Proof/Machine/Follow.lean ====
section
/-! DEFINITION. Encoders, triggers and references (R275-R285, R288-R290, R300-R305), and how a Pacer follows them (R308-R315, R323,
R330-R333). -/

namespace Sys2Proof.Machine

/-! ### References of a Pacer -/

/-- The encoder of a reference, its state, and the state with another. -/
def Pacer.encOf (x : Pacer) : EncRef → Nat
  | .primary => x.pri.toNat
  | .secondary => x.sec.toNat
def Pacer.refSt (x : Pacer) : EncRef → RefSt
  | .primary => x.priSt
  | .secondary => x.secSt
def Pacer.setRefSt (x : Pacer) (r : EncRef) (v : RefSt) : Pacer :=
  match r with | .primary => { x with priSt := v } | .secondary => { x with secSt := v }
/-- K of a reference, 16.16 (R308). -/
def Pacer.kOf (x : Pacer) : EncRef → Nat
  | .primary => 65536
  | .secondary => x.ratio.toNat
/-- The current encoder reference, if it is an encoder. -/
def Pacer.curRef (x : Pacer) : Option EncRef :=
  match x.cur with | .primary => some .primary | .secondary => some .secondary | _ => none
/-- Pacer p follows encoder n now. -/
def Pacer.follows (x : Pacer) (n : Nat) : Option EncRef := x.curRef.bind (fun r => if x.encOf r = n then some r else none)
/-- The Pacer position of encoder count P under a reference (R308). -/
def Pacer.posOf (x : Pacer) (r : EncRef) (p : W64) : Int := x.align + p.toInt * x.kOf r
/-- The Pacers that follow encoder n. -/
def State.followers (s : State) (n : Nat) : List Nat :=
  (List.range 8).filter (fun p => ((s.getPacer p).follows n).isSome)

/-! ### Squash, recompute, seed -/

/-- Every undecided strobe of the Pacer is squashed (R323 step 1). A test line that is squashed fires nothing, and its nozzle is tested on the next
eligible line (R383). -/
def State.squash (p : Nat) (s : State) : State :=
  forAll (s.pacerLinks p) (fun s l => s.updLink l (fun k => { k with
    strobes := k.strobes.map (fun b => { b.untest with st := .squashed, ok := none }) })) s
/-- A switchover is completed (R301, R302): a lost encoder requalifies. -/
def Pacer.switchDone (x : Pacer) : Pacer :=
  if !x.switching then x
  else
    let x := { x with switching := false }
    let x := if x.priSt = .lost then { x with priSt := .requal, reqCnt := 0 } else x
    if x.secSt = .lost then { x with secSt := .requal, reqCnt2 := 0 } else x

/-- Steps 1 and 2 of R323. A window counts the false starts from its T_OPEN until its last line is decided (R327). -/
def State.falseStart (p : Nat) (s : State) : State :=
  let s := s.squash p
  let s := s.updPacer p (fun x => { x with fstart := satInc x.fstart, schedule := false })
  let s := s.pacerEvt p 1
  s.updWindows p (fun w => w.tOpen.isSome && !w.recorded && !s.windowDone p w) (fun w => { w with fstart := w.fstart + 1 })

/-- New ticks for every undecided strobe within 1,200 ticks (R315, R323 step 4). -/
def State.reschedule (p : Nat) (s : State) : State :=
  let at_ := s.now + 1200
  let s := s.updPacer p (fun x => { x with schedule := true, schedAt := at_ })
  let s := forAll (s.pacerLinks p) (fun s l => s.recompute true at_ l) s
  forAll ((s.printLanes p).flatMap (fun l => s.cellsOf l)) (fun s c => s.speculateCell c) s

/-- Q of an interval of `dt` ticks over j counts of K (R314, R315): 24.8, rounded down. -/
def qOf (dt : Int) (j k : Nat) : Int := dt * 16777216 / ((j * k : Nat) : Int)
/-- Q fits its register (R312). -/
def qFits (q : Int) : Bool := decide (0 < q) && decide (q < 4294967296)

/-- A reseed at an edge (R315, R531): j = 1. A Q that does not fit leaves the Pacer in WAIT with no schedule (R312). -/
def State.reseed (p : Nat) (r : EncRef) (e : PEdge) (s : State) : State :=
  let x := s.getPacer p
  let q := qOf ((e.t : Int) - e.prev) 1 (x.kOf r)
  let s := s.updPacer p (fun x => { x.switchDone with run := [e.t, e.prev], newRef := false })
  if qFits q then
    let s := s.updPacer p (fun x => { x with
      q := BitVec.ofInt 32 q, seeded := true, seedT := e.t, seedX := e.x, st := .track, revPend := false, afterStop := false })
    if x.q = 0 then
      let first := (s.getPacer p).lineAfter e.x
      let s := s.updPacer p (fun x => { x with lineN := first - 1, schedule := true, schedAt := s.now + 1200 })
      forAll ((s.printLanes p).flatMap (fun l => s.cellsOf l)) (fun s c => s.startLines first c) s
    else s.reschedule p
  else (s.squash p).updPacer p (fun x => { x with st := .wait, schedule := false, afterStop := false })

/-- A tracking update (R314). -/
def State.trackUpdate (p : Nat) (r : EncRef) (e : PEdge) (s : State) : State :=
  let x := s.getPacer p
  let run := (e.t :: x.run).take 5
  let j := min (2 ^ x.qspan.toNat) (run.length - 1)
  let q := qOf ((e.t : Int) - (run.getD j 0 : Nat)) (max 1 j) (x.kOf r)
  if qFits q then
    let s := s.updPacer p (fun x => { x with q := BitVec.ofInt 32 q, seedT := e.t, seedX := e.x, run := run })
    forAll (s.pacerLinks p) (fun s l => s.recompute false (s.now + 1200) l) s
  else
    let s := s.updPacer p (fun x => { x with st := .wait, schedule := false, run := run })
    s.squash p

/-- ε in PACER_STSp.EDGEERR (R338). -/
def sat16 (x : Int) : BitVec 16 := ofInt 16 (satInt 15 x)

/-- What the Pacer does with an edge that it learns, by its state (R279, R313-R315, R332). A regain edge moves no line: it takes part only in the
run (R332), ends STOPPED (R311), and as the first confirmed edge of a new reference completes the switchover (R301). -/
def State.learn (p : Nat) (r : EncRef) (e : PEdge) (s : State) : State :=
  let x := s.getPacer p
  let eps : Int := (e.t : Int) - x.tickAt e.x
  let w : Int := x.w.toNat
  let s := if x.q = 0 then s else s.updPacer p (fun x => { x with edgeErr := sat16 eps })
  let s := if e.regain then s else s.updPacer p (fun x => { x with lastX := e.x })
  if e.regain then s.updPacer p (fun x =>
    let x := x.switchDone
    match x.st with
    | .stopped => { x with st := .wait, afterStop := true, run := [e.t] }
    | .wait | .track | .reversed => { x with run := (e.t :: x.run).take 5 }
    | .dead | .none => x)
  else if x.newRef then s.reseed p r e
  else match x.st with
    | .stopped => s.updPacer p (fun x => { x with st := .wait, afterStop := true, run := [e.t] })
    | .wait | .reversed => s.reseed p r e
    | .track =>
      if eps < -w then (s.falseStart p).reseed p r e
      else if w < eps then ((s.falseStart p).updPacer p (fun x => { x with st := .wait })).reseed p r e
      else s.trackUpdate p r e
    | .dead | .none => s

/-- EDGE_LEARN (R313-R315, R332): 32 ticks after its stamp the Pacer learns the next confirmed edge of its current reference. -/
def edgeLearn (p : Nat) (s : State) : State :=
  if !(s.on dCHN && s.fire) then s
  else
    let x := s.getPacer p
    match x.inbound, x.curRef with
    | e :: rest, some r =>
      let s := s.at_ (e.t + 32)
      let s := s.updPacer p (fun x => { x with inbound := rest })
      touching (s.pacerLinks p) (State.learn p r e) s
    | _ :: rest, none => s.updPacer p (fun x => { x with inbound := rest })
    | [], _ => s

/-- The tick at which the next edge is overdue (R313). -/
def Pacer.overdueAt (x : Pacer) (r : EncRef) : Int := x.tickAt (x.lastX + x.kOf r) + x.w.toNat + 32

/-- EDGE_OVERDUE (R313, R323, R330): no edge has been learned by the deadline: a false start, and WAIT. -/
def edgeOverdue (p : Nat) (s : State) : State :=
  if !(s.on dCHN && s.fire) then s
  else
    let x := s.getPacer p
    match x.curRef with
    | none => s
    | some r =>
      let t := x.overdueAt r
      if x.st = .track ∧ ¬ x.inbound.any (fun e => decide ((e.t : Int) + 32 ≤ t)) then
        let s := s.at_ t.toNat
        touching (s.pacerLinks p) (fun s => (s.falseStart p).updPacer p (fun x => { x with st := .wait })) s
      else s

/-! ### Encoder edges (R275-R279) -/

/-- Place of (A, B) in the forward cycle 00, 10, 11, 01. -/
def grey (a b : Bool) : Nat := if a then (if b then 2 else 1) else (if b then 3 else 0)

/-- The requalification count of a reference (R302), and the state with another. -/
def Pacer.reqOf (x : Pacer) : EncRef → BitVec 11
  | .primary => x.reqCnt
  | .secondary => x.reqCnt2
def Pacer.setReq (x : Pacer) (r : EncRef) (v : BitVec 11) : Pacer :=
  match r with | .primary => { x with reqCnt := v } | .secondary => { x with reqCnt2 := v }
/-- A reference of the Pacer on encoder n requalifies. -/
def Pacer.requals (x : Pacer) (r : EncRef) (n : Nat) : Bool :=
  decide (x.refSt r = .requal) && decide (x.encOf r = n) && (decide (r = .primary) || x.secEn)
/-- A requalifying reference on encoder n counts a valid edge, or starts again (R302). -/
def State.requalCount (n : Nat) (ok : Bool) (s : State) : State :=
  let count := fun (r : EncRef) (x : Pacer) =>
    if x.requals r n then x.setReq r (if ok then (if (x.reqOf r).toNat < 1024 then x.reqOf r + 1 else x.reqOf r) else 0) else x
  forAll (List.range 8) (fun s p =>
    let x := s.getPacer p
    if x.requals .primary n || x.requals .secondary n then s.updPacer p (fun x => count .secondary (count .primary x)) else s) s

/-- A quadrature error of encoder n (R276). -/
def State.quadError (n : Nat) (s : State) : State :=
  (s.updEnc n (fun e => { e with qerr := satInc e.qerr, qerrSeen := true, qerrWin := e.qerrWin + 1 })).requalCount n false

/-- A confirmed edge of encoder n with stamp t (R277, R279, R308): the encoder's speed window, FWDMAX and the Pacers take it. -/
def State.confirmEdge (n : Nat) (t : Tick) (s : State) : State :=
  let e := s.getEnc n
  let regain := e.rev || decide (e.pos.toInt ≤ e.fwdMax.toInt)
  let prev := e.lastEdge
  let s := s.updEnc n (fun e => { e with
    fwdMax := if e.rev ∨ e.pos.toInt ≤ e.fwdMax.toInt then e.fwdMax else e.pos
    winN := e.winN + 1, winFirst := if e.winN = 0 then t else e.winFirst, winLast := t, lastEdge := t, isStill := false })
  let s := s.requalCount n true
  forAll (s.followers n) (fun s p =>
    match (s.getPacer p).follows n with
    | none => s
    | some r => s.updPacer p (fun x =>
        let pos := x.posOf r e.pos
        { x with x := pos, inbound := x.inbound ++ [{ t := t, prev := prev, x := pos, regain := regain }] })) s

/-- A reversal of encoder n (R278, R332). -/
def State.reverseEnc (n : Nat) (rev : Bool) (s : State) : State :=
  let s := s.updEnc n (fun e => { e with rev := rev, pos := e.raw, revSeen := true })
  let s := s.raise (276 + 2 * n)
  forAll (s.followers n) (fun s p =>
    touching (s.pacerLinks p) (fun s =>
      let s := (s.squash p).updPacer p (fun x => { x with st := .reversed, revPend := true, schedule := false })
      s.flagOpen p flReversal) s) s

/-- One count of encoder n (R277): the deadband rule. -/
def State.countEnc (n : Nat) (fwd : Bool) (t : Tick) (s : State) : State :=
  let s := s.updEnc n (fun e => { e with raw := if fwd then e.raw + 1 else e.raw - 1 })
  let e := s.getEnc n
  let r := e.raw.toInt
  let p := e.pos.toInt
  let db : Int := e.db.toNat
  let away := if e.rev then fwd else !fwd
  if (!e.rev && decide (p < r)) || (e.rev && decide (r < p)) then
    (s.updEnc n (fun e => { e with pos := e.raw })).confirmEdge n t
  else if (!e.rev && decide (r < p - db)) || (e.rev && decide (p + db < r)) then s.reverseEnc n (!e.rev)
  else s.updEnc n (fun e => { e with jit := if away then satInc e.jit else e.jit })

/-- ENCODER_EDGE (R275-R277): new accepted levels of A and B at stamp t. A faulted pair yields no edge: its level holds, also beyond the end of the
fault until its next accepted edge (DESIGN CHOICE, log entry 83). -/
def encoderEdge (n : Nat) (a b : Bool) (t : Tick) (s : State) : State :=
  if !(s.on dCHN && s.fire) then s
  else
    let s := s.at_ t
    let e := s.getEnc n
    let a := if e.fltA then e.lvA else a
    let b := if e.fltB then e.lvB else b
    let s := s.updEnc n (fun e => { e with lvA := a, lvB := b })
    if !e.en then s
    else
      let d := (grey a b + 4 - grey e.lvA e.lvB) % 4
      if d = 0 then s
      else if d = 2 then s.quadError n
      else s.countEnc n (decide (d = 1) != e.dirInv) t

/-- PAIR_FAULT (R276): a pair of encoder n is held within ±200 mV. -/
def pairFault (n : Nat) (pair : EncPair) (s : State) : State :=
  whenOn dCHN (fun s =>
    let s := s.updEnc n (fun e =>
      let e := { e with fltSeen := true }
      match pair with | .a => { e with fltA := true } | .b => { e with fltB := true } | .z => { e with fltZ := true })
    s.requalCount n false) s
/-- PAIR_FAULT_END (R276): the pair leaves the band. -/
def pairFaultEnd (n : Nat) (pair : EncPair) (s : State) : State :=
  whenOn dCHN (fun s => s.updEnc n (fun e =>
    match pair with | .a => { e with fltA := false } | .b => { e with fltB := false } | .z => { e with fltZ := false })) s

/-! ### Index and speed (R280-R282) -/

/-- Re-basing the reported position (R281). -/
def Encoder.rebase (e : Encoder) : Encoder := { e with base := e.pos - e.idxVal.setWidth 64 }
/-- INDEX (R280, R281): an accepted rising edge of Z. -/
def index (n : Nat) (s : State) : State :=
  if !s.on dCHN then s
  else
    let e := s.getEnc n
    let same := match e.lastIdx with
      | none => false
      | some p => decide ((e.pos.toInt - p.toInt).natAbs ≤ e.db.toNat)
    if !e.en || e.fltZ || same then s
    else
      let s := s.updEnc n (fun e =>
        let e := { e with laps := if e.rev then e.laps - 1 else e.laps + 1, idxSeen := true, lastIdx := some e.pos }
        if e.idxMode = 1 then e.rebase
        else if e.idxMode = 2 ∧ e.armed then { e.rebase with armed := false } else e)
      s.raise (277 + 2 * n)

/-- The tick at which the speed window of an encoder ends, or where that has passed, the next end of a window of the same length (R282). -/
def Encoder.winEnd (e : Encoder) (now : Nat) : Nat :=
  let w := e.winNow.toNat * usTicks
  e.winStart + w * max 1 (ceilDiv (now - e.winStart) w)
/-- SPEED_WINDOW (R282): the end of a speed window, at tick t, which no other tick is; a change of WIN takes effect with the next one. SPD is rounded down to 1/16 count/s and stays at
0xFFFF_FFFF beyond its 32 bits (DESIGN CHOICE, log entry 73). -/
def speedWindow (n : Nat) (t : Tick) (s : State) : State :=
  if !(s.on dCHN && s.fire && decide (t = (s.getEnc n).winEnd s.now)) then s
  else
    let s := s.at_ t
    s.updEnc n (fun e =>
      let slow := if s.now = e.lastEdge then Config.divByZero 19200000000 else 19200000000 / (s.now - e.lastEdge)
      let fast := if e.winLast = e.winFirst then Config.divByZero ((e.winN - 1) * 19200000000)
        else (e.winN - 1) * 19200000000 / (e.winLast - e.winFirst)
      let v := if 2 ≤ e.winN then fast else min e.spd.toNat slow
      { e with spd := BitVec.ofNat 32 (min v 0xFFFFFFFF), winN := 0, winFirst := 0, winLast := 0, winStart := s.now, qerrWin := 0, winNow := e.win })

/-- STILL (R282, R311): 100 ms without a confirmed edge. -/
def still (n : Nat) (s : State) : State :=
  if !(s.on dCHN && s.fire) then s
  else
    let s := s.at_ ((s.getEnc n).lastEdge + 100 * msTicks)
    let s := s.updEnc n (fun e => { e with spd := 0, isStill := true })
    forAll (s.followers n) (fun s p => s.updPacer p (fun x =>
      if x.st = .track ∨ x.st = .wait then { x with st := .stopped, schedule := false, afterStop := true } else x)) s

/-! ### Triggers (R283-R285, R288-R290) -/

/-- A trigger edge acts on the windows of Pacer p (R288-R290). `code` is the trigger and edge as WINDOW-ARM codes them. -/
def State.edgeWindows (code : Byte) (p : Nat) (s : State) : State :=
  let x := s.getPacer p
  if (s.printLanes p).isEmpty then s
  else
    let pt : Int := x.posAt s.now / 65536 * 65536
    let s := if x.starts.contains code then
        match x.windows.find? (fun w => decide (w.st = .armed) && decide (w.start = code)) with
        | some w => s.startWindow p w.id pt
        | none => s.updPacer p (fun x => { x with noArm := satInc x.noArm })
      else s
    if x.stops.contains code then
      match x.windows.find? (fun w => decide (w.st ≠ .armed) && !x.closed w && decide (w.stop = code) && !w.stopSeen) with
      | none => s.updPacer p (fun x => { x with stray := satInc x.stray })
      | some w =>
        let s := s.updWindow p w.id (fun y => { y with stopSeen := true })
        s.closeAt p w.id (pt + w.offset * 65536) (fun y => ({ y with byStop := true }.unclosed).flag flByStop)
    else s

/-- TRIGGER_EDGE (R283-R290): an accepted edge of trigger input tr with stamp t. -/
def triggerEdge (tr : Nat) (fall : Bool) (t : Tick) (s : State) : State :=
  if !(s.on dCHN && s.fire) then s
  else
    let s := s.at_ t
    let g := s.getTrig tr
    let s := s.updTrig tr (fun g => { g with level := !fall })
    if !g.en || decide (t < g.until_) then s
    else
      let p := ((s.getEnc g.encSel.toNat).pos).setWidth 32
      let s := s.updTrig tr (fun g =>
        let g := { g with count := g.count + 1, until_ := t + g.holdoff.toNat * usTicks }
        if fall then { g with fOvr := g.fOvr || g.fValid, fValid := true, fTime := BitVec.ofNat 64 t, fPos := p }
        else { g with rOvr := g.rOvr || g.rValid, rValid := true, rTime := BitVec.ofNat 64 t, rPos := p })
      let s := s.raiseIf (bit g.evtEdge (b2n fall)) (260 + tr)
      let code : Byte := BitVec.ofNat 8 (tr + 16 * b2n fall)
      forAll (List.range 8) (fun s p => s.edgeWindows code p) s

/-! ### Loss and requalification of references (R300-R305, R333) -/

/-- LOSSCAUSE codes (R306). -/
def lossCode : LossCause → BitVec 3
  | .qerr => 1 | .pairFault => 2 | .noEdge => 3 | .disabled => 4

/-- MOT_STSn.ROT: a channel reports rotation (R416). -/
def Motor.rot (m : Motor) : Bool :=
  decide (m.st = .ramp) || decide (m.st = .run) ||
    ((decide (m.st = .check) || decide (m.st = .braking) || decide (m.st = .coast)) && decide (10 * m.zspd.toNat ≤ m.spd.natAbs))
/-- A motor channel bound to Pacer p reports rotation (R300, R416). -/
def State.motorTurns (s : State) (p : Nat) : Bool :=
  s.motors.any (fun e => decide ((e.2.bound.map (·.val)) = some p) && e.2.rot)

/-- The other encoder reference of the Pacer gives evidence of motion (R300). -/
def State.evidence (s : State) (p : Nat) (r : EncRef) : Bool :=
  let x := s.getPacer p
  let o : EncRef := match r with | .primary => .secondary | .secondary => .primary
  ((decide (o = .primary) || x.secEn) && decide (x.refSt o = .qualified) && !(s.getEnc (x.encOf o)).isStill) || s.motorTurns p

/-- The tick from which a silence qualifies a loss (R300). -/
def State.silentAt (s : State) (p : Nat) (r : EncRef) : Nat :=
  let x := s.getPacer p
  (s.getEnc (x.encOf r)).lastEdge + x.lossMul.toNat * (x.q.toNat * x.kOf r) / 16777216

/-- The cause of a loss holds (R300). -/
def State.lossHolds (s : State) (p : Nat) (r : EncRef) (cause : LossCause) : Bool :=
  let x := s.getPacer p
  let e := s.getEnc (x.encOf r)
  match cause with
  | .qerr => decide (x.qlim.toNat ≤ e.qerrWin)
  | .pairFault => e.fltA || e.fltB
  | .noEdge => decide (x.q ≠ 0) && s.evidence p r
  | .disabled => !e.en

/-- REFERENCE_LOSS (R300, R301, R304): an encoder reference of Pacer p is qualified as lost. -/
def referenceLoss (p : Nat) (r : EncRef) (cause : LossCause) (s : State) : State :=
  if !(s.on dCHN && s.fire) then s
  else
    let x := s.getPacer p
    if x.refSt r = .qualified ∧ s.lossHolds p r cause then
      let s := if cause = .noEdge then s.at_ (s.silentAt p r) else s
      let s := s.updPacer p (fun x => { x with lossCause := lossCode cause })
      if x.curRef = some r then
        touching (s.pacerLinks p) (fun s => s.updPacer p (fun x =>
          { x.setRefSt r .lost with switching := true, switchDue := true })) s
      else s.updPacer p (fun x => (x.setRefSt r .requal).setReq r 0)
    else s

/-- REFERENCE_REQUALIFIED (R302): 1,024 consecutive valid edges. -/
def referenceRequalified (p : Nat) (r : EncRef) (s : State) : State :=
  whenOn dCHN (fun s =>
    let x := s.getPacer p
    if x.refSt r = .requal ∧ 1024 ≤ (x.reqOf r).toNat then s.updPacer p (fun x => x.setRefSt r .qualified) else s) s

/-- DRLIM (R299, R308, R333): the dead-reckoning limit is reached, and the position holds from here on. -/
def drlim (p : Nat) (s : State) : State :=
  if !(s.on dCHN && s.fire) then s
  else
    let x := s.getPacer p
    if x.st = .dead ∧ x.drlim ≠ 0 then
      let s := s.at_ (x.drFrom + x.drlim.toNat * msTicks)
      let s := touching (s.pacerLinks p) (fun s => s.updPacer p (fun x =>
        { x with cur := .none, st := .none, schedule := false, x := x.posAt s.now })) s
      (s.pacerEvt p 3).flagOpen p flRefSwitch
    else s

/-- The reference that Pacer p takes at this boundary or mark, if it changes (R301, R303, R304). -/
def State.nextRef (s : State) (p : Nat) : Option RefCur :=
  let x := s.getPacer p
  let priOk := decide (x.priSt = .qualified)
  let secOk := x.secEn && decide (x.secSt = .qualified)
  if x.switchDue then
    some (if x.cur = .primary ∧ secOk then .secondary else if x.drEn then .dead else .none)
  else
    let free := x.force || decide (x.cur = .none) || !x.isOpen
    if !free then none
    else match x.cur with
      | .primary => none
      | .secondary => if priOk then some .primary else none
      | .dead | .none => if priOk then some .primary else if secOk then some .secondary else none

/-- A reference switch at position b (R301, R303, R333). -/
def State.switchRef (p : Nat) (to_ : RefCur) (b : Int) (s : State) : State :=
  let x := s.getPacer p
  let s := s.updPacer p (fun x => { x with
    cur := to_, switchDue := false, force := false, switches := satInc x.switches, inbound := [] })
  let s : State := match to_ with
    | .primary | .secondary =>
      let r : EncRef := if to_ = RefCur.primary then EncRef.primary else EncRef.secondary
      let e := s.getEnc (x.encOf r)
      s.updPacer p (fun x => { x with
        align := b - e.pos.toInt * x.kOf r, x := b, newRef := true
        st := if e.isStill then PacerSt.stopped else if x.st = PacerSt.track then PacerSt.track else PacerSt.wait
        schedule := if e.isStill then false else x.schedule && decide (x.st = PacerSt.track) })
    | .dead =>
      let s := s.updPacer p (fun x => { x.switchDone with
        st := .dead, seedT := s.now, seedX := b, x := b, drFrom := s.now, newRef := false })
      if x.q = 0 then s else s.reschedule p
    | .none => s.updPacer p (fun x => { x.switchDone with st := .none, schedule := false })
  (s.pacerEvt p 2).flagOpen p flRefSwitch

/-- The reference step of a boundary or mark of Pacer p at position b. FORCEBACK holds for one such step (R303). -/
def State.refStep (p : Nat) (b : Int) (s : State) : State :=
  match s.nextRef p with
  | none => s.updPacer p (fun x => { x with force := false })
  | some r => touching (s.pacerLinks p) (State.switchRef p r b) s

/-! ### Fill and the data-late limit (R42) -/

/-- PACER_CMDp: the lowest SET-SPEED rate of the bound lanes in PRINT (R338). -/
def State.cmdOf (s : State) (p : Nat) : Nat :=
  match s.printLanes p with
  | [] => 0
  | a :: t => t.foldl (fun m l => min m (s.getLane l).rate.toNat) (s.getLane a).rate.toNat

/-- F, the derate flag and the data-late limit of the lanes of Pacer p (R42). -/
def State.computeFill (p : Nat) (s : State) : State :=
  let s := (s.boundLanes p).foldl (fun s l =>
    let f : Nat := s.laneFill l
    let lwm : Nat := ((s.getLane l).copy.map (fun x => x.lwm)).getD 0
    let low := decide (f < lwm)
    let was := (s.getLane l).derate
    let s := s.updLane l (fun x => { x with fill := BitVec.ofNat 16 f, derate := low })
    let s := if low then s.flagLane l flDerate else s
    s.raiseIf (low && !was) (352 + l)) s
  let cmd := s.cmdOf p
  let lim := (s.printLanes p).foldl (fun m l =>
    let f := (s.getLane l).fill.toNat
    let lwm : Nat := ((s.getLane l).copy.map (fun x => x.lwm)).getD 0
    min m (if lwm ≤ f then cmd else cmd * f / lwm)) 0xFFFFFFFF
  s.updPacer p (fun x => { x with data := BitVec.ofNat 32 lim })

/-- FILL_TIMER (R42): every 1 ms while the web is stopped. -/
def fillTimer (p : Nat) (s : State) : State :=
  whenOn dCHN (fun s => if (s.getPacer p).st = .track ∨ (s.getPacer p).st = .dead then s else s.computeFill p) s

/-! ### Pacer boundaries (R309, R310) -/

/-- What PRINT-STOP does to the windows of Pacer p at its boundary (R294). Mode 0 ends when no window that was OPEN at it is OPEN any more; a
segment without an end closes at the first undecided boundary (R295; log entry 72). -/
def State.stopWindows (p : Nat) (s : State) : State :=
  let due := s.changes.filter (fun ch => decide ((s.getLane ch.lane).pacer = some p) && !ch.windows && ch.ready
    && (decide (ch.ep = 0) || (ch.committed && decide (ch.ep * 65536 ≤ s.now)))
    && (match ch.kind with | .printStop _ => true | _ => false))
  due.foldl (fun (s : State) (ch : Change) =>
    let s : State := match ch.kind with
      | .printStop 0 =>
        if (s.getLane ch.lane).stopping then s
        else
          let x := s.getPacer p
          let s := s.discardWindows p (fun w => decide (w.st ≠ .opened))
          let s := s.updLane ch.lane (fun y => { y with stopping := true, stopWin := x.nextWin })
          let fu := x.bpos (s.firstUndecided p)
          (if x.cont then s.updWindows p (fun w => w.pc.isNone) (fun w => { w with pc := some fu }) else s).reassign p
      | _ => (s.endSegments p ch.lane).forceWindows p
    let x := s.getPacer p
    let done : Bool := match ch.kind with
      | .printStop 0 => !x.windows.any (fun w => w.openAt x && decide (w.id < (s.getLane ch.lane).stopWin))
      | _ => true
    if done then { s with changes := s.changes.map (fun x => if x.handle = ch.handle then { x with windows := true } else x) } else s) s

/-- The Pacer is predicting boundaries (R310). -/
def Pacer.predicts (x : Pacer) : Bool := (decide (x.st = .track) || decide (x.st = .dead)) && decide (x.q ≠ 0)

/-- PACER_LINE_BOUNDARY (R309): the prediction reaches the next boundary: windows, PRINT-STOP, references and fill. -/
def pacerLineBoundary (p : Nat) (s : State) : State :=
  if !(s.on dCHN && s.fire) then s
  else
    let x := s.getPacer p
    if x.predicts then
      let n := x.lineN + 1
      let b := x.bpos n
      let s := s.at_ (x.tickAt b).toNat
      let s := s.updPacer p (fun x => { x with lineN := n, lineT := s.now, x := if x.st = .dead then b else x.x })
      let s := (s.windowsAt p n).stopWindows p
      (s.refStep p b).computeFill p
    else s

/-- PACER_MARK (R310): the next 1 ms mark from the last boundary while none falls. -/
def pacerMark (p : Nat) (s : State) : State :=
  if !(s.on dCHN && s.fire) then s
  else
    let x := s.getPacer p
    let s := s.at_ (x.lineT + msTicks)
    let s := s.updPacer p (fun y => { y with lineT := x.lineT + msTicks })
    (s.stopWindows p).refStep p (x.posAt s.now)

end Sys2Proof.Machine
end

