-- ==== Sys2Proof/Machine/HeadLink.lean ====
section
/-! DEFINITION. Head links: training and the eye (R354, R356, R397), head changes (R359), link down (R357, R358), STATUS (R345, R351,
R472), TIME-SYNC (R355) and the resend of configuration frames (R361). -/

namespace Sys2Proof.Machine

/-! ### The eye (R397) -/

/-- Length of the run of phases with no transition from phase p, at most n. -/
def runFrom (eye : BitVec 32) (p : Nat) : Nat → Nat
  | 0 => 0
  | n + 1 => if bit eye (p % 32) then 0 else 1 + runFrom eye (p + 1) n

/-- OPEN and PHASE: the longest circular run without a transition, from the lowest phase where several are as long. -/
def eyeOf (eye : BitVec 32) : Nat × Nat :=
  let r := (List.range 32).foldl (fun (b : Nat × Nat) p => if b.1 < runFrom eye p 32 then (runFrom eye p 32, p) else b) (0, 0)
  (r.1, (r.2 + r.1 / 2) % 32)

/-! ### Training -/

/-- The sum of 16 round trips that lie within ±2 ticks of their mean (R354). -/
def evenSum (rts : List Nat) : Option Nat :=
  let sum := rts.sum
  let close := rts.all (fun r => decide (((16 * r : Nat) : Int) - sum ≤ 32) && decide ((sum : Int) - (16 * r : Nat) ≤ 32))
  if rts.length = 16 ∧ close then some sum else none
/-- Round trips in sets of 16, repeated until a set is even: its sum, none while there is none (R354, R435). -/
def firstEven : Nat → List Nat → Option Nat
  | 0, _ => none
  | n + 1, rts => match evenSum (rts.take 16) with
    | some sum => some sum
    | none => firstEven n (rts.drop 16)

/-- DRIVE_EN that the lane state calls for (R530). -/
def State.driveFor (s : State) (c : Nat) : Bool := decide ((s.getLane (s.laneOf c)).st ≠ .idle)

/-- The head of link l has been changed (R359). -/
def State.headChange (l : Nat) (s : State) : State :=
  let c := l / 2
  let mine := fun (n : Nat) => decide (linkIx n = l % 2)
  let s := s.hlEvt l 2
  let s := s.skipTests (fun t => decide (t.noz / 2048 = l))
  let s := s.retrim c (fun x => { x with
    servo := x.servo.filter (fun e => !mine e.1), det := x.det.filter (fun n => !mine n) })
  s.updLink l (fun k => { k with flMeas := none, tfbSum := 0, tfbCnt := 0 })

/-- A failed step of training: the link is DOWN again, and tries again (R356). -/
def State.trainFails (l : Nat) (s : State) : State := s.updLink l (fun k => { k with st := .down, unacked := [] })

/-- A STATUS frame that is not discarded (R343, R344). -/
def statusOk (rx : RxFrame) : Bool := rx.codeOk && decide (rx.bytes.length = 17 ∧ rx.bytes[0]? = some 0x21) && frameOk rx.bytes
/-- SYNCDIFF of a STATUS (R345). -/
def syncDiffOf (rx : RxFrame) : Int := signed 8 (byteAt rx.bytes 5)
/-- The link takes what a STATUS reports (R345); frames through CFGSEQ have been accepted (R361). -/
def Link.hear (rx : RxFrame) (now : Tick) (k : Link) : Link :=
  let frame := rx.bytes
  let v := BitVec.ofNat 8 (byteAt frame 1)
  let n := (v - k.cfgSeq).toNat
  { k with
    cfgSeq := v, temp := signed 16 (numAt frame 2 2), hflt := BitVec.ofNat 5 (byteAt frame 4), stale := false, stsAt := now
    hid := BitVec.ofNat 64 (numAt frame 7 8), unacked := if n ≤ k.unacked.length then k.unacked.drop n else k.unacked
    cfgAt := if n = 0 then k.cfgAt else now }
/-- HFLT of a STATUS (R357, R359): OVERTEMP or SENSOR newly reported is a fault, DRIVER or SUPPLY takes the link down. -/
def State.headFaults (l : Nat) (old new : BitVec 5) (s : State) : State :=
  let warm := (bit new 0 && !bit old 0) || (bit new 3 && !bit old 3)
  let s := if warm then (s.hlEvt l 3).fault 7 1 l (new.setWidth 64) true else s
  if bit new 1 || bit new 2 then s.linkGoesDown l else s

/-- LOST of a STATUS (R351, R389). -/
def State.lostStrobes (l n : Nat) (s : State) : State :=
  if n = 0 then s
  else
    let s := s.updLink l (fun k => { k with lost := satAdd k.lost n })
    (s.skipTests (fun t => decide (t.noz / 2048 = l))).hlEvt l 7
/-- The link takes what a STATUS reports: lost strobes too (R351). Another HID skips its open tests (R389). -/
def State.hearStatus (l : Nat) (rx : RxFrame) (s : State) : State :=
  let k := s.getLink l
  let s := if k.seen && decide ((k.hear rx s.now).hid ≠ k.hid) then s.skipTests (fun t => decide (t.noz / 2048 = l)) else s
  (s.updLink l (fun k => k.hear rx s.now)).lostStrobes l (byteAt rx.bytes 6)

/-- Training from the first STATUS on (steps 5 to 8 of R356). -/
def State.trainHead (l : Nat) (tr : HeadTrain) (s : State) : State :=
  let k := s.getLink l
  if !statusOk tr.ident then (s.badFrame false l).trainFails l
  else
    let s := if k.seen && decide (k.hid ≠ (k.hear tr.ident s.now).hid) then s.headChange l else s
    let drive := s.driveFor (l / 2)
    let s := (s.hearStatus l tr.ident).updLink l (fun k => { k with seen := true, seq := k.cfgSeq, unacked := [], drive := drive })
    let s := (s.sendCtl l drive).loadHead l
    if !tr.loaded then s.trainFails l
    else
      let s := s.updLink l (fun k => { k with cfgSeq := k.seq, unacked := [], syncAt := s.now, synced := true })
      let s := s.send (.head l (timeFrame (s.now + (s.getLink l).oneway.toNat)))
      if !statusOk tr.sync then (s.badFrame false l).trainFails l
      else if 1 < (syncDiffOf tr.sync).natAbs then s.trainFails l
      else
        let s := (s.hearStatus l tr.sync).updLink l (fun k => { k with st := .up, conceal := false, forced := false, trains := satInc k.trains })
        let s := ((s.hlEvt l 0).endCond 6 l).retargetNow l
        s.headFaults l 0 (s.getLink l).hflt

/-- Training from the eye to the latency (steps 2 to 4 of R356): an uneven set of round trips is repeated (R354). PHASE and OPEN show the eye of a LOCK
that fails too (DESIGN CHOICE, log entry 82). -/
def State.train (l : Nat) (tr : HeadTrain) (s : State) : State :=
  let eye := eyeOf tr.eye
  let s := s.updLink l (fun k => { k with eyeOpen := BitVec.ofNat 6 eye.1, eyePhase := BitVec.ofNat 5 eye.2 })
  match if eye.1 < 8 ∨ !tr.aligned then none else firstEven tr.rts.length tr.rts with
  | none => s.trainFails l
  | some sum =>
    let oneway := (roundDiv sum 32).toNat
    let rt := BitVec.ofNat 16 (roundDiv sum 16).toNat
    if 240 < oneway then
      (s.updLink l (fun k => { k with st := .long, rt := rt, syncAt := s.now })).hlEvt l 4
    else (s.updLink l (fun k => { k with rt := rt, oneway := BitVec.ofNat 8 oneway })).trainHead l tr

/-- LINK_TRAINING (R354, R356, R397): one training of an enabled link that is DOWN or on its way up, with what it sees. -/
def linkTraining (l : Nat) (tr : HeadTrain) (s : State) : State :=
  let k := s.getLink l
  if s.fire && s.on (s.workQuad (l / 2)) && k.en && !k.held && decide (k.st ≠ .up) && decide (k.st ≠ .long) then s.train l tr else s

/-- LONG_RETRY (R354): a link in LONG tries again every 100 ms. -/
def longRetry (l : Nat) (s : State) : State :=
  if s.fire && s.on (s.workQuad (l / 2)) && decide ((s.getLink l).st = .long) then
    (s.at_ ((s.getLink l).syncAt + 100 * msTicks)).updLink l (fun k => { k with st := .detect })
  else s

/-! ### Link down (R357, R358) -/

/-- HEAD_LINK_DOWN (R357): an UP link loses its head. Silence is known 1 ms after the last STATUS; the loss of the serving quad's power takes its
links down as the quad goes off, and none that it still serves. -/
def headLinkDown (l : Nat) (cause : DownCause) (s : State) : State :=
  if s.fire && decide ((s.getLink l).st = .up) then
    match cause with
    | .codeErrors | .signal => s.linkGoesDown l
    | .silence => (s.at_ ((s.getLink l).stsAt + msTicks)).linkGoesDown l
    | .power => if s.on (s.workQuad (l / 2)) then s else s.linkGoesDown l
  else s

/-! ### STATUS (R345) -/

/-- SYNCDIFF of a STATUS (R355): beyond one tick the head has reloaded its counter, once for one TIME-SYNC. -/
def State.syncDiff (l : Nat) (d : Int) (s : State) : State :=
  if d.natAbs ≤ 1 || !(s.getLink l).synced then s
  else
    let s := s.updLink l (fun k => { k with syncErr := satInc k.syncErr, synced := false })
    s.fault 7 0 l ((s.getLink l).syncErr.setWidth 64) true

/-- STATUS (R343, R345, R351, R355, R357, R359). A STATUS with nothing to report ends the
condition of source 7 for its link (R489). -/
def status (l : Nat) (rx : RxFrame) (s : State) : State :=
  let k := s.getLink l
  if !(s.fire && s.cellOn (l / 2)) || decide (k.st ≠ .up) then s
  else if statusOk rx && !s.injHits 7 l then
    let s := s.hearStatus l rx
    let hflt := (s.getLink l).hflt
    let diff := syncDiffOf rx
    let calm := !(bit hflt 0 || bit hflt 3) && decide (diff.natAbs ≤ 1)
    let s := if calm then s.endCond 7 l else s
    ((s.syncDiff l diff).headFaults l k.hflt hflt).flushTrims l
  else s.badFrame (s.injHits 7 l) l

/-! ### Frames to the head -/

/-- HL_TIME_SYNC (R355): a TIME-SYNC every 1 ms, with the time at which it reaches the head. -/
def hlTimeSync (l : Nat) (s : State) : State :=
  let k := s.getLink l
  if s.fire && s.cellOn (l / 2) && decide (k.st = .up) then
    let s := s.at_ (k.syncAt + msTicks)
    let s := s.updLink l (fun k => { k with syncAt := s.now, synced := true })
    (s.send (.head l (timeFrame (s.now + k.oneway.toNat)))).flushTrims l
  else s

/-- CONFIG_RESEND (R361): CFGSEQ has not advanced for 200 µs, and every frame after it is sent again, in order. -/
def configResend (l : Nat) (s : State) : State :=
  let k := s.getLink l
  if s.fire && s.cellOn (l / 2) && decide (k.st = .up) && !k.unacked.isEmpty then
    let s := s.at_ (k.cfgAt + 240000)
    k.unacked.foldl (fun s f => s.send (.head l f)) (s.updLink l (fun k => { k with cfgAt := s.now }))
  else s

end Sys2Proof.Machine
end

