-- ==== Sys2Proof/Machine/Chain.lean ====
section
/-! DEFINITION. The chain (chapter 14): ports and topology (R432-R435), membership and the baton (R447-R451), chain time (R443-R446),
epochs (R452-R459) and protocol levels (R460-R463). The relay is in Machine/Relay.lean. -/

namespace Sys2Proof.Machine

abbrev pE : Nat := 0
abbrev pW : Nat := 1
abbrev pA : Nat := 2
abbrev pB : Nat := 3

/-! ### What the unit is -/

/-- The unit ID (R508). -/
def State.unitId (s : State) : W64 := s.getFuse 0 1 ++ s.getFuse 0 0
/-- The level of the image that the active core runs (CHN_LEVEL.OWN). -/
def State.ownLevel (s : State) : Nat :=
  let lv := fun (c : ThnCore) => (c.image.map (fun x => x.level.toNat)).getD 0
  if s.thn.a.role = .active then lv s.thn.a else if s.thn.b.role = .active then lv s.thn.b else 0
/-- Operating level, and the lowest and highest member level: the unit's own while it is a chain of its own (R447, R464). -/
def State.opLevel (s : State) : Nat := if s.chn.ol = 0 then s.ownLevel else s.chn.ol.toNat
def State.minLevel (s : State) : Nat := if s.chn.lmin = 0 then s.ownLevel else s.chn.lmin.toNat
def State.maxLevel (s : State) : Nat := if s.chn.lmax = 0 then s.ownLevel else s.chn.lmax.toNat
/-- The unit holds the baton of its chain; a unit that has not joined is a chain of its own (R447). -/
def State.holder (s : State) : Bool := s.chn.baton && decide (s.chn.st ≠ .relayOnly)
/-- Epoch number now (R452). -/
def State.epoch (s : State) : Nat := s.now / 65536
/-- LEAD in force (R453). -/
def State.lead (s : State) : Nat := if s.holder then s.chn.lead.toNat else s.chn.leadAct.toNat
/-- A lane of the unit is in PRINT. -/
def State.anyPrint (s : State) : Bool := (List.range 16).any (fun l => decide ((s.getLane l).st = .print))
/-- Changing the chain block. -/
def State.updChn (s : State) (u : Chain → Chain) : State := { s with chn := u s.chn }
/-- Port x is UP. -/
def State.portUp (s : State) (x : Nat) : Bool := decide ((s.getPort x).st = .up)
/-- The unit disciplines: it is in ACQUIRE or LOCKED (R59). -/
def State.disciplines (s : State) : Bool := decide (s.glb.disc = .acquire) || decide (s.glb.disc = .locked)
/-- The discipline state changes (R59): event 317. Discipline that begins moves the trim from here on. -/
def State.setDisc (d : Disc) (s : State) : State :=
  if s.glb.disc = d ∨ !s.glb.discEn then s
  else
    let from_ := if s.disciplines then s.glb.trimAt else s.now
    ({ s with glb := { s.glb with disc := d, trimAt := from_ } } : State).raise 317

/-- The discipline loop moves the trim against the frequency error, both in 0.001 ppm (R57, R58): one step of 0.001 ppm in 2 ms at most, which is
0.5 ppm/s, and within ±100 ppm (log entry 65). -/
def State.stepTrim (s : State) : State :=
  let g := s.glb
  if !s.disciplines || decide (s.now < g.trimAt + 2 * msTicks) then s
  else
    let move := max (-1) (min 1 (-g.discErr.toInt))
    let trim := max (-100000) (min 100000 (g.trim + move))
    { s with glb := { g with trim := trim, trimAt := s.now, discErr := ofInt 16 (satInt 15 (g.discErr.toInt + (trim - g.trim))) } }
/-- The loop measures a frequency error. Where the trim would need more than ±100 ppm, the unit is unable to discipline (R59; log entry 65). -/
def State.trimBy (err : Int) (s : State) : State :=
  ({ s with glb := { s.glb with
      discErr := ofInt 16 (satInt 15 err), unable := decide (100000 < (s.glb.trim - err).natAbs) } } : State).stepTrim

/-- The ports on the unit's paths to the baton (R446): W of a spur unit, E and W of a ring unit, or the spur port on which TIME-SYNC reaches it. -/
def State.batonPorts (s : State) : List Nat :=
  if s.chn.spur then [pW] else if s.chn.syncPort = pA ∨ s.chn.syncPort = pB then [s.chn.syncPort] else [pE, pW]
/-- A unit that disciplines keeps its last trim in HOLDOVER when it is left with no chain path to the baton (R59, R463). -/
def State.losePaths (s : State) : State :=
  if !s.holder && !(s.batonPorts.any s.portUp) && s.disciplines then s.setDisc .holdover else s
/-- The port on which a unit disciplines once a TIME-SYNC has arrived on x (R446). Where the ring is OPEN and both ring ports have heard the
holder, HOPS tells which path is shorter. -/
def State.discPort (s : State) (x : Nat) : Nat :=
  if s.chn.spur then pW
  else if x = pA ∨ x = pB then x
  else if s.chn.closed then pW
  else match (s.getPort pE).hops, (s.getPort pW).hops with
    | some e, some w => if e < w then pE else pW
    | _, _ => x

/-! ### Sending (R439) -/

/-- Ports on which the unit originates a frame: W only for a spur unit or an OPEN ring. -/
def State.originPorts (s : State) : List Nat :=
  (if s.chn.spur || !s.chn.closed then [pE, pW, pA, pB] else [pE, pA, pB]).filter s.portUp
/-- A frame of this unit: every type that it originates is PRIO (R436), and a ring unit puts its address in INJ; a spur unit puts 0 there (DESIGN
CHOICE, log entry 36). -/
def State.frameOf (s : State) (m : PrlMsg) : PrlFrame :=
  { type := m.type, prio := true, hops := 0xFFFF, src := s.chn.addr, dst := m.dst, inj := if s.chn.spur then 0 else s.chn.addr, seq := s.chn.seq
    level := BitVec.ofNat 8 s.ownLevel, data := m.payload }
/-- Sending a frame on some ports; SEQ rises by 1 (R436). -/
def State.sendOn (ports : List Nat) (m : PrlMsg) (s : State) : State :=
  (s.updChn (fun c => { c with seq := c.seq + 1 })).send (.prl ports (s.frameOf m).bytes)
/-- Originating a frame (R439). -/
def State.sendPrl (m : PrlMsg) (s : State) : State := s.sendOn s.originPorts m
/-- The answer ROLE-CONTENDED to a unit (R449). -/
def State.sendContended (dst : BitVec 16) (s : State) : State :=
  (s.updChn (fun c => { c with seq := c.seq + 1 })).send (.roleContended s.originPorts dst)
/-- The JOIN of this unit (R438, R447). -/
def State.joinMsg (s : State) : PrlMsg := .join s.unitId s.chn.joinAddr (BitVec.ofNat 8 s.ownLevel)
/-- What this unit's HELLO says on port x (R438). -/
def State.helloOn (s : State) (x : Nat) : Hello :=
  { id := s.unitId, addr := s.chn.addr, port := Fin.ofNat 4 x, role := !s.chn.spur, level := BitVec.ofNat 8 s.ownLevel }

/-- The state of a port changes: events 308 to 311 for E, W, A, B (R435). -/
def State.setPort (x : Nat) (u : Port → Port) (s : State) : State :=
  let old := (s.getPort x).st
  let s := s.updPort x u
  State.raiseIf (decide ((s.getPort x).st ≠ old)) (308 + x) s
/-- Port x goes DOWN (R435). -/
def State.dropPort (x : Nat) (s : State) : State := s.setPort x (fun p => { p with st := .down, width := 0, hops := none })

/-! ### Ports (R432, R433, R435) -/

/-- A partner's port that the wiring of R433 allows on port x. -/
def wiringOk (x : Nat) (partner : PortIx) : Bool := if x = pW then decide (partner.val ≠ pW) else decide (partner.val = pW)

/-- The identity that a HELLO gives (R433, R438): a port wired wrongly is MISWIRED, and W decides whether the unit is a spur unit. -/
def State.hearHello (x : Nat) (h : Hello) (s : State) : State :=
  let ok := wiringOk x h.port
  let s := s.setPort x (fun p => { p with
    st := if p.st = .train then .train else if ok then .up else .miswired
    nid := h.id, nlevel := h.level, nport := BitVec.ofNat 2 h.port.val, nring := h.role, naddr := h.addr })
  if x = pW then s.updChn (fun c => { c with spur := ok && !(h.role && decide (h.port.val = pE)) }) else s

/-- The first n lanes pass and lie within 96 ticks of one another (R432). -/
def lanesPass (lanes : List (Option Nat)) (n : Nat) : Bool :=
  let at_ := (lanes.take n).filterMap id
  decide (at_.length = n) && at_.all (fun a => at_.all (fun b => decide (a ≤ b + 96)))
/-- The width code that a port trains at: the widest that passes (R432, R464). -/
def widthOf (lanes : List (Option Nat)) : BitVec 2 :=
  if lanesPass lanes 4 then 3 else if lanesPass lanes 2 then 2 else if lanesPass lanes 1 then 1 else 0
/-- PORT_TRAINING (R432, R435): the port enters TRAIN at the widest width that passes; HELLO frames are exchanged, and a LAT goes out for each
round trip. After an even set of 16 the port is UP or MISWIRED; until then it stays in TRAIN. -/
def portTraining (x : Nat) (tr : PortTrain) (s : State) : State :=
  if !s.fire || decide ((s.getPort x).st = .up) then s
  else if widthOf tr.lanes = 0 then s.dropPort x
  else
    let s := s.setPort x (fun p => { p with st := .train, width := widthOf tr.lanes })
    let s := (s.sendOn [x] (.hello (s.helloOn x))).hearHello x tr.hello
    let s := tr.rts.foldl (fun s _ => s.sendOn [x] .lat) s
    match firstEven tr.rts.length tr.rts with
    | none => s
    | some sum => s.setPort x (fun p => { p with
        st := if wiringOk x tr.hello.port then .up else .miswired, oneway := BitVec.ofNat 32 (roundDiv sum 32).toNat })

/-- HELLO_SEND (R435): a HELLO on a port that is not DOWN. -/
def helloSend (x : Nat) (s : State) : State :=
  if s.fire && decide ((s.getPort x).st ≠ .down) then s.sendOn [x] (.hello (s.helloOn x)) else s

/-! ### Operating level (R460) -/

/-- OL changes: event 316 (R460, R461). -/
def State.setOl (l : Byte) (s : State) : State :=
  let old := s.opLevel
  let s := s.updChn (fun c => { c with ol := l })
  State.raiseIf (decide (s.opLevel ≠ old)) 316 s

/-- LEADLOW and its fault follow the lead rule, which a baton holder keeps (R453). -/
def State.leadRule (s : State) : State :=
  let low := s.holder && decide (s.chn.lead.toNat * 65536 ≤ s.chn.rtr.toNat + 131072)
  let was := s.chn.leadLow
  let s := s.updChn (fun c => { c with leadLow := low })
  if low && !was then s.fault 15 1 4 0 true else if was && !low then s.endCond 15 4 else s

/-- Entering or leaving RELAY-ONLY raises event 318 (R463). -/
def State.enterRelay (cause : RelayCause) (s : State) : State :=
  if s.chn.st = .relayOnly then s.updChn (fun c => { c with rcause := cause })
  else ((s.updChn (fun c => { c with st := .relayOnly, rcause := cause, baton := false, claimFrom := none })).leadRule).raise 318
/-- The unit returns to MEMBER with its address, or to UNJOINED when it has not joined since its last cold reset (R463). -/
def State.leaveRelay (s : State) : State :=
  if s.chn.st = .relayOnly then
    (s.updChn (fun c => { c with
      st := if c.joined then .member else .unjoined, rcause := .none, baton := !c.joined
      ol := if c.joined then c.ol else 0, lmin := if c.joined then c.lmin else 0, lmax := if c.joined then c.lmax else 0 })).raise 318
  else s

/-! ### The baton holder's measures (R453) -/

/-- RT, OWMAX, RTR and GUARD from the replies, the levels of the members, to whose lowest OL falls at the next epoch boundary (R460), and the lead
rule: LEADLOW and its fault. -/
def State.measureChain (s : State) : State :=
  let rt := (s.chn.known.map (·.rtrip)).foldl max 0
  let ow := (s.chn.known.map (·.oneway)).foldl max 0
  let rtr := rt + ow + 12000
  let levels := s.chn.known.map (fun m => m.level.toNat)
  let own := s.ownLevel
  let lowest := levels.foldl min own
  let falls := decide (lowest < s.opLevel)
  (s.updChn (fun c => { c with
    rtr := BitVec.ofNat 32 rtr, guard := BitVec.ofNat 8 (ceilDiv ow 65536 + 1)
    members := BitVec.ofNat 16 (c.known.length + 1)
    olFall := if falls then some (BitVec.ofNat 8 lowest) else c.olFall
    lmin := if c.known.isEmpty then 0 else BitVec.ofNat 8 lowest
    lmax := if c.known.isEmpty then 0 else BitVec.ofNat 8 (levels.foldl max own) })).leadRule

/-! ### Changes and epochs (R452-R458) -/

/-- Ending a change: nothing more of it is applied, and the cells that have not made it have again what they held before it (R49). -/
def State.dropChange (ch : Change) (status : BitVec 16) (detail : Nat) (s : State) : State :=
  let s := { s with changes := s.changes.filter (fun x => decide (x.handle ≠ ch.handle)) }
  (forAll ch.cells (fun s c => s.restoreCell c) s).finish ch.handle status detail

/-- The status with which a cancelled change completes (R455, R461). -/
def cancelStatus (ch : Change) (cause : CancelCause) : BitVec 16 :=
  match ch.kind, cause with | .level _, .level => stLevelMismatch | _, _ => stEpochCancelled

/-- CANCEL of epoch E in this unit (R455, R456): changes for E are cancelled; after E it ends the holds at the next line boundary. -/
def State.cancelLocal (ep : Nat) (cause : CancelCause) (s : State) : State :=
  let s := (s.changes.filter (fun ch => decide (ch.ep = ep) && decide (ep ≠ 0))).foldl
    (fun s ch => s.dropChange ch (cancelStatus ch cause) 0) s
  let s := s.updChn (fun c => { c with
    refused := c.refused.filter (fun e => decide (e ≠ ep)), epochs := c.epochs.filter (fun e => decide (e.1 ≠ ep)) })
  if ep * 65536 ≤ s.now then
    forAll (List.range 16) (fun s l => s.updLane l (fun x => { x with unhold := x.unhold || x.hold })) s
  else s

/-- The holder says something to its chain. A unit that has not joined is the only member of its chain, so nothing goes out (R447). -/
def State.sayChain (m : PrlMsg) (s : State) : State := if s.chn.st = .unjoined then s else s.sendPrl m
/-- The unit acts on what members of its chain send to their holder (R437, R447). -/
def State.chainHolder (s : State) : Bool := s.holder && decide (s.chn.st = .member)

/-- The holder cancels epoch E at every member (R454 step 4). -/
def State.cancelAll (ep : Nat) (cause : CancelCause) (s : State) : State :=
  let s := s.sayChain (.cancel ep cause 0xFFFF)
  let s := s.updChn (fun c => { c with
    preps := c.preps.map (fun p => if p.ep = ep then { p with dead := true } else p), regs := c.regs.filter (fun r => decide (r.ep ≠ ep)) })
  s.cancelLocal ep cause

/-- The holder answers one registration with CANCEL (R458, R461). -/
def State.cancelOne (src : BitVec 16) (ep : Nat) (cause : CancelCause) (s : State) : State :=
  if src = s.chn.addr then s.cancelLocal ep cause else s.sayChain (.cancel ep cause src)

/-- COMMIT in this unit (R454, R456): a COMMIT that arrives after E is not applied. -/
def State.commitLocal (ep : Nat) (s : State) : State :=
  if ep * 65536 ≤ s.now then s
  else
    let s := s.updChn (fun c => { c with epochs := c.epochs.map (fun e => if e.1 = ep then (e.1, e.2.1, true) else e) })
    { s with changes := s.changes.map (fun ch => if ch.ep = ep ∧ ch.prepared then { ch with committed := true } else ch) }

/-- The holder sends COMMIT once every ACK is READY or NONE and the deadline has not passed (R454 step 3). -/
def State.sendCommit (ep : Nat) (s : State) : State :=
  match s.chn.preps.find? (fun p => decide (p.ep = ep)) with
  | none => s
  | some p =>
    let who := s.chn.addr :: s.chn.known.map (·.addr)
    let all := who.all (fun a => p.acks.any (fun k => decide (k.1 = a) && decide (k.2 ≠ .notReady)))
    let open_ := decide (s.now ≤ (ep - s.chn.guard.toNat) * 65536)
    if all && open_ && !p.sent && !p.dead then
      let s := s.updChn (fun c => { c with preps := c.preps.map (fun q => if q.ep = ep then { q with sent := true } else q) })
      (s.sayChain (.commit ep)).commitLocal ep
    else s

/-- An ACK reaches the holder (R454). -/
def State.takeAck (src : BitVec 16) (ep : Nat) (r : AckRes) (s : State) : State :=
  (s.updChn (fun c => { c with preps := c.preps.map (fun p =>
    if p.ep = ep then { p with acks := (src, r) :: p.acks.filter (fun k => decide (k.1 ≠ src)) } else p) })).sendCommit ep

/-- What a member answers to PREPARE (R455). -/
def State.prepareResult (s : State) (ep : Nat) : AckRes :=
  let mine := s.changes.filter (fun ch => decide (ch.ep = ep))
  if s.chn.refused.contains ep then .notReady
  else if mine.isEmpty then .none
  else if mine.all (fun ch => ch.ready) then .ready else .notReady

/-- PREPARE in this unit (R455). A unit in RELAY-ONLY sends no ACK (R463). -/
def State.prepareLocal (ep : Nat) (level : Byte) (s : State) : State :=
  if s.chn.st = .relayOnly ∨ s.chn.st = .joining then s
  else
    let r := s.prepareResult ep
    let s := s.updChn (fun c => { c with epochs := (ep, level, false) :: c.epochs.filter (fun e => decide (e.1 ≠ ep)) })
    let s : State := { s with
      changes := s.changes.map (fun ch : Change => if ch.ep = ep ∧ r = AckRes.ready then { ch with prepared := true } else ch) }
    if s.holder then s.takeAck s.chn.addr ep r else s.sendPrl (.ack ep r)

/-- A change registered with the holder (R452, R458, R461). -/
def State.registerHere (src : BitVec 16) (ep : Nat) (levelKind : Bool) (level : Byte) (s : State) : State :=
  let low := (s.chn.known.map (fun m => m.level.toNat)).foldl min s.ownLevel
  if s.chn.preps.any (fun p => decide (p.ep = ep)) then s.cancelOne src ep .late
  else if levelKind && (decide (low < level.toNat) || decide (s.opLevel + 1 < level.toNat)) then s.cancelOne src ep .level
  else s.updChn (fun c => { c with regs := c.regs ++ [{ src := src, ep := ep, levelKind := levelKind, level := level }] })

/-- Registering a change of this unit (R452). -/
def State.registerChange (ep : Nat) (levelKind : Bool) (level : Byte) (s : State) : State :=
  if ep = 0 then s
  else if s.holder then s.registerHere s.chn.addr ep levelKind level else s.sendPrl (.register ep levelKind level)

/-- A change whose checks fail is refused whole with its own status (R455). -/
def State.refuseChange (ch : Change) (status : BitVec 16) (detail : Nat) (s : State) : State :=
  let s := s.updChn (fun c => { c with refused := if ch.ep = 0 then c.refused else ch.ep :: c.refused })
  s.dropChange ch status detail

/-- A change can be applied at its epoch (R456): each of its cells holds a shadow set of three agreeing intact copies. Of the two ways that R223 gives
for a set that does not, Thinis takes the refusal at an epoch, as the worked example of chapter 14 has it. -/
def State.canApply (s : State) (ch : Change) : Bool :=
  match ch.kind with
  | .commit _ | .align | .patch _ => ch.cells.all (fun c => (s.bodyOf c ch).isNone || shadowOk (s.getCell c).shadow)
  | .printStart => decide ((s.getLane ch.lane).st = .configured)
  | .printStop _ => decide ((s.getLane ch.lane).st = .print)
  | .level _ => true

/-- A change that misses its epoch (R456): it is refused whole, event 315, and its lane holds firing where it prints. -/
def State.missChange (ch : Change) (s : State) : State :=
  let s := s.updChn (fun c => { c with missed := satInc c.missed })
  let s := (s.flagLane ch.lane flEpochMissed).raise 315
  let s := if (s.getLane ch.lane).st = .print then s.updLane ch.lane (fun x => { x with hold := true, unhold := false }) else s
  s.dropChange ch stEpochMissed 0

/-- Epoch E begins in this unit (R454 step 5, R456): committed changes are applied from here on, prepared ones without COMMIT are
missed, and a committed level is in force. -/
def State.epochLocal (ep : Nat) (s : State) : State :=
  let mine := s.changes.filter (fun ch => decide (ch.ep = ep) && ch.prepared)
  let s := (mine.filter (fun ch => !(ch.committed && ch.ready && s.canApply ch))).foldl (fun s ch => s.missChange ch) s
  let good := mine.filter (fun ch => ch.committed && ch.ready && s.canApply ch)
  let s := s.updChn (fun c => { c with applied := satAdd c.applied good.length })
  let s : State := match s.chn.epochs.find? (fun e => decide (e.1 = ep) && e.2.2) with
    | none => s
    | some e =>
      let s := if e.2.1 = 0 then s else s.setOl e.2.1
      s.raise 314
  let s := good.foldl (fun s ch => match ch.kind with | .level _ => s.dropChange ch stOk 0 | _ => s) s
  s.updChn (fun c => { c with
    epochs := c.epochs.filter (fun e => decide (ep < e.1)), refused := c.refused.filter (fun e => decide (ep < e))
    preps := c.preps.filter (fun p => decide (ep < p.ep)), regs := c.regs.filter (fun r => decide (ep < r.ep)) })

/-- The deadline of epochs (R454 step 4, R458): the holder cancels those with an ACK missing or NOT-READY; a member cancels a change
that has received no PREPARE. A change that was prepared is decided by its COMMIT (R456). -/
def State.deadlines (ep : Nat) (s : State) : State :=
  let s := if s.holder then
      (s.chn.preps.filter (fun p => !p.sent && !p.dead && decide (p.ep ≤ ep + s.chn.guard.toNat))).foldl
        (fun s p => s.cancelAll p.ep .protocol) s
    else s
  (s.changes.filter (fun ch => decide (ch.ep ≠ 0) && decide (ch.ep ≤ ep + s.chn.guard.toNat) && !ch.prepared
      && !s.chn.epochs.any (fun e => decide (e.1 = ch.ep)))).foldl
    (fun s ch => s.dropChange ch stEpochCancelled 0) s

/-- PREPARE for every registered epoch that is LEAD away (R454 step 1, R461). -/
def State.prepareAll (ep : Nat) (s : State) : State :=
  let due := ((s.chn.regs.filter (fun r => decide (r.ep ≤ ep + s.chn.lead.toNat))).map (·.ep)).dedup
  (due.filter (fun e => !s.chn.preps.any (fun p => decide (p.ep = e)))).foldl (fun s e =>
    let level := ((s.chn.regs.filter (fun r => decide (r.ep = e) && r.levelKind)).map (fun r => r.level.toNat)).foldl max 0
    let level := BitVec.ofNat 8 level
    let s := s.updChn (fun c => { c with preps := c.preps ++ [{ ep := e, level := level, acks := [], sent := false, dead := false }] })
    (s.sayChain (.prepare e level)).prepareLocal e level) s

/-! ### Chain time (R443, R444) -/

/-- Loading the counter by an offset: the new chain time is the old one less it. -/
def State.loadTime (off : Int) (s : State) : State := { s with time := s.time - BitVec.ofInt 64 off }

/-- The load that R444 leaves to an epoch boundary at which no lane prints. -/
def State.loadDue (s : State) : State :=
  match s.chn.load with
  | none => s
  | some off =>
    if s.anyPrint then s.updChn (fun c => { c with held := true })
    else
      let s := s.loadTime off.toInt
      let s := s.updChn (fun c => { c with load := none, held := false, steps := satInc c.steps })
      s.fault 15 0 4 off false

/-- PRL_TIME_SYNC (R444, R446, R447): a TIME-SYNC that arrives on port x, over a number of hops where its header gives it, with T, CORR in 1/256
tick, and its arrival stamp; the discipline loop steps (R57). In RELAY-ONLY it is
followed while CHN is off too (R463). -/
def prlTimeSync (x : Nat) (hops : Option Nat) (time : W64) (corr : BitVec 48) (arrival : Tick) (s : State) : State :=
  if !(s.fire && (s.on dCHN || decide (s.chn.st = .relayOnly))) || s.holder || decide (s.chn.st = .unjoined) || decide (s.chn.st = .joining) then s
  else
    let s := s.at_ arrival
    let fine : Int := 256 * ((arrival : Int) - time.toNat - (s.getPort x).oneway.toNat) - corr.toNat
    let off := roundDiv fine 256
    let s := s.updPort x (fun p => { p with hops := hops.or p.hops })
    let s := s.updChn (fun c => { c with offset := ofInt 24 (satInt 23 off), syncAt := s.now, claimFrom := none, syncPort := s.discPort x })
    let s := if s.disciplines then s.stepTrim else s.setDisc .acquire
    if s.chn.loadNext then (s.loadTime off).updChn (fun c => { c with loadNext := false, syncAt := (s.loadTime off).now, load := none, held := false })
    else if fine.natAbs ≤ 256 then s.updChn (fun c => { c with load := none, held := false })
    else
      let printing := s.anyPrint
      s.updChn (fun c => { c with load := some (ofInt 64 off), held := printing })

/-! ### Membership (R447, R448, R460) -/

/-- A level beside those of the members spans at most two consecutive values (R460). -/
def spanOk (lmin lmax level : Nat) : Bool := decide (max lmax level ≤ min lmin level + 1)

/-- The holder grants or refuses a JOIN (R447, R460). -/
def State.grantJoin (id : W64) (req : Nat) (level : Byte) (s : State) : State :=
  let others := s.chn.known.filter (fun m => decide (m.id ≠ id))
  let used := s.chn.addr.toNat :: others.map (fun m => m.addr.toNat)
  let free := ((List.range (used.length + 1)).map (· + 1)).find? (fun a => !used.contains a)
  let addr : Nat := if !spanOk s.minLevel s.maxLevel level.toNat then 0
    else if req = 0 then free.getD 0 else if used.contains req ∨ 65534 < req then 0 else req
  let s := s.sendPrl (.joinReply id (BitVec.ofNat 16 addr))
  if addr = 0 then s
  else
    let m : Member := { addr := BitVec.ofNat 16 addr, id := id, level := level, oneway := 0, rtrip := 0, misses := 0, missed := 0 }
    (s.updChn (fun c => { c with known := others ++ [m] })).measureChain

/-- JOIN (R447): the holder answers once no epoch that it has prepared is outstanding. -/
def join (id : W64) (req : BitVec 16) (level : Byte) (s : State) : State :=
  if s.fire && s.on dCHN && s.chainHolder then
    if s.chn.preps.isEmpty then s.grantJoin id req.toNat level
    else s.updChn (fun c => { c with joins := c.joins ++ [(id, req.toNat, level)] })
  else s

/-- The running operation of a kind. -/
def State.opOf (s : State) (p : OpKind → Bool) : Option Op := s.findOp (fun o => p o.kind)
def isJoin : OpKind → Bool | .chainJoin _ => true | _ => false
def isBaton : OpKind → Bool | .batonRequest => true | _ => false

/-- JOIN_REPLY (R447): the unit becomes a MEMBER, or is refused. -/
def joinReply (id : W64) (addr : BitVec 16) (s : State) : State :=
  if s.fire && s.on dCHN && decide (s.chn.st = .joining) && decide (id = s.unitId) then
    if addr = 0 then
      let s := s.updChn (fun c => { c with st := .unjoined, baton := true, ol := 0, lmin := 0, lmax := 0 })
      s.finishAll (fun o => isJoin o.kind) stBadParam 8
    else
      let s := (s.updChn (fun c => { c with st := .member, addr := addr, joined := true, baton := false, loadNext := true, syncAt := s.now })).leadRule
      s.finishAll (fun o => isJoin o.kind) stOk 0
  else s

/-- JOIN_TIMEOUT (R447): no PROBE within 5 ms: the unit takes the baton of a new chain. -/
def joinTimeout (s : State) : State :=
  if s.fire && s.on dCHN && decide (s.chn.st = .joining) && !s.chn.probeBack then
    let s := s.at_ (s.chn.probeAt + 5 * msTicks)
    let s := s.updChn (fun c => { c with
      st := .member, baton := true, addr := if c.joinAddr = 0 then 1 else c.joinAddr, joined := true, known := [], closed := false })
    (s.measureChain.setDisc .free).finishAll (fun o => isJoin o.kind) stOk 0
  else s

/-- The body of the PROBE that the holder sends (R438). -/
def State.probeBody (s : State) : ProbeBody :=
  { time := s.time, closed := s.chn.closed, lead := s.chn.lead, guard := s.chn.guard, ol := BitVec.ofNat 8 s.opLevel
    lmin := BitVec.ofNat 8 s.minLevel, lmax := BitVec.ofNat 8 s.maxLevel, rtr := s.chn.rtr, members := s.chn.members, id := s.unitId }

/-- The holder sends a PROBE, whose departure its replies are measured from (R448). -/
def State.sendProbe (s : State) : State :=
  (s.updChn (fun c => { c with probes := (s.now :: c.probes).take 64 })).sendPrl (.probe s.probeBody)
/-- The departure of the PROBE that a reply answers: the last one before the member's arrival stamp (R448; log entry 65). -/
def State.departure (s : State) (arrival : Nat) : Tick := (s.chn.probes.find? (fun t => decide (t ≤ arrival))).getD s.chn.probeAt

/-- PROBE_SEND (R434, R448): every 1 ms; members that missed three replies in a row are removed, and a PROBE that has not come
back shows an OPEN ring. -/
def probeSend (s : State) : State :=
  if s.fire && s.on dCHN && s.chainHolder then
    let s := s.at_ (s.chn.probeAt + msTicks)
    let stay := (s.chn.known.filter (fun m => decide (m.misses < 3))).map (fun m => { m with misses := m.misses + 1 })
    let s := (s.updChn (fun c => { c with known := stay, probeAt := s.now, closed := c.closed && c.probeBack, probeBack := false })).measureChain
    s.sendProbe
  else s

/-- The body of the PROBE-REPLY to a PROBE that arrived at a tick (R438). -/
def State.replyBody (s : State) (arrival : Tick) : ReplyBody :=
  { id := s.unitId, level := BitVec.ofNat 8 s.ownLevel, arrival := BitVec.ofNat 64 arrival, residence := BitVec.ofNat 32 (s.now - arrival)
    missed := s.chn.missed }
/-- A member follows a PROBE of its holder (R434, R448, R453, R460). -/
def State.followProbe (b : ProbeBody) (arrival : Tick) (s : State) : State :=
  let s := s.updChn (fun c => { c with
    batonId := b.id, leadAct := b.lead, guard := b.guard, closed := b.closed, lmin := b.lmin, lmax := b.lmax, rtr := b.rtr
    members := b.members, ow := BitVec.ofInt 32 ((arrival : Int) - b.time.toNat) })
  let s := s.setOl b.ol
  if spanOk b.lmin.toNat b.lmax.toNat s.ownLevel then s.sendPrl (.probeReply (s.replyBody arrival))
  else s.enterRelay .level

/-- A holder that hears a holder with a lower unit ID gives up its baton at its next epoch boundary (R451). -/
def State.yieldTo (id : W64) (s : State) : State :=
  let s := (s.chn.preps.filter (fun p => !p.sent && !p.dead)).foldl (fun s p => s.cancelAll p.ep .protocol) s
  let s := s.chn.asks.foldl (fun s e => s.sendContended e.1) s
  s.updChn (fun c => { c with preps := [], asks := [], move := some (id, s.epoch + 1) })

/-- PROBE (R434, R447, R448, R451, R460): heard on port x. -/
def probe (x : Nat) (b : ProbeBody) (arrival : Tick) (s : State) : State :=
  if !(s.fire && s.on dCHN) then s
  else
    let s := s.at_ arrival
    match s.chn.st with
    | .unjoined => s
    | .joining =>
      if spanOk b.lmin.toNat b.lmax.toNat s.ownLevel then (s.updChn (fun c => { c with probeBack := true })).sendPrl s.joinMsg
      else s.enterRelay .level
    | .relayOnly =>
      if s.chn.rcause = .level ∧ spanOk b.lmin.toNat b.lmax.toNat s.ownLevel then
        let s := (s.updChn (fun c => { c with st := .joining, rcause := .none, probeBack := true, joinAddr := if c.joined then c.addr else c.joinAddr })).raise 318
        s.sendPrl s.joinMsg
      else s
    | .member =>
      if s.chn.baton then
        if b.id = s.unitId then
          if x = pW then s.updChn (fun c => { c with closed := true, probeBack := true }) else s
        else if b.id.toNat < s.unitId.toNat then s.yieldTo b.id
        else s
      else s.followProbe b arrival

/-- PROBE_REPLY (R448, R456): a member's reply reaches the holder; a removed member that replies is a member again. -/
def probeReply (src : BitVec 16) (b : ReplyBody) (arrival : Tick) (s : State) : State :=
  if s.fire && s.on dCHN && s.chainHolder then
    let s := s.at_ arrival
    let dep := s.departure b.arrival.toNat
    let old := s.chn.known.find? (fun m => decide (m.addr = src))
    let more := match old with | none => 0 | some m => (b.missed - m.missed).toNat
    let m : Member :=
      { addr := src, id := b.id, level := b.level, oneway := ((b.arrival.toNat : Int) - dep).toNat
        rtrip := ((arrival : Int) - dep - b.residence.toNat).toNat, misses := 0, missed := b.missed }
    let known := match old with
      | none => s.chn.known ++ [m]
      | some _ => s.chn.known.map (fun y => if y.addr = src then m else y)
    (s.updChn (fun c => { c with known := known, missedR := satAdd c.missedR more })).measureChain
  else s

/-! ### The baton (R449-R451) -/

/-- BATON_REQ (R449): the holder gathers requests; while a move is pending it answers ROLE-CONTENDED. -/
def batonReq (src : BitVec 16) (id : W64) (s : State) : State :=
  if s.fire && s.on dCHN && s.chainHolder then
    if s.chn.move.isSome then s.sendContended src
    else s.updChn (fun c => { c with asks := c.asks ++ [(src, id)] })
  else s

/-- A BATON-REQUEST of this unit that lost (R449). -/
def State.contended (s : State) : State :=
  match s.opOf isBaton with
  | none => s
  | some o => (s.finish o.handle stRoleContended 0).raise 313

/-- BATON_MOVE (R449): the new holder and the handover epoch. -/
def batonMove (id : W64) (ep : Nat) (s : State) : State :=
  if s.fire && s.on dCHN && decide (s.chn.st = .member) then
    let s := s.updChn (fun c => { c with move := some (id, ep) })
    if id = s.unitId then s else s.contended
  else s

/-- A handover that is set falls after every epoch that the holder has prepared since: the move is broadcast again with a later H (R449, R459). -/
def State.moveLater (s : State) : State :=
  let last := (s.chn.preps.map (·.ep)).foldl max 0
  match s.chn.move with
  | none => s
  | some (id, h) => if h ≤ last then (s.updChn (fun c => { c with move := some (id, last + 1) })).sendPrl (.batonMove id (last + 1)) else s
/-- At the end of an epoch the holder grants the request with the lowest unit ID (R449). -/
def State.grantBaton (ep : Nat) (s : State) : State :=
  match s.chn.asks with
  | [] => s
  | a :: t =>
    let win := t.foldl (fun b e => if e.2.toNat < b.2.toNat then e else b) a
    let last := (s.chn.preps.map (·.ep)).foldl max 0
    let h := max (ep - 1 + s.chn.lead.toNat) (last + 1)
    let s := (s.chn.asks.filter (fun e => decide (e.2 ≠ win.2))).foldl (fun s e => s.sendContended e.1) s
    let s := s.updChn (fun c => { c with asks := [], move := some (win.2, h) })
    s.sendPrl (.batonMove win.2 h)

/-- The handover at epoch H (R449, R59): the old holder waits until every epoch it has prepared has passed (R459). -/
def State.handover (ep : Nat) (s : State) : State :=
  match s.chn.move with
  | none => s
  | some (id, h) =>
    if ep < h ∨ (s.chn.baton && !s.chn.preps.isEmpty) then s
    else
      let mine := decide (id = s.unitId)
      let s := s.updChn (fun c => { c with move := none, baton := mine, batonId := id, known := if mine then c.known else [], regs := if mine then c.regs else [] })
      let s := s.leadRule.raise 312
      if mine then
        let s := s.setDisc .free
        let s := (s.updChn (fun c => { c with probeAt := s.now, probes := [], leadAct := c.lead })).sendPrl (.timeSync s.time)
        let s := s.sendProbe
        s.finishAll (fun o => isBaton o.kind) stOk 0
      else s.contended

/-- TIME_SYNC_LOSS (R450, R59): a member has heard no TIME-SYNC for 5 ms and claims the baton. A unit in RELAY-ONLY, which has followed chain time
(R463), goes to HOLDOVER. -/
def timeSyncLoss (s : State) : State :=
  if s.fire && decide (s.chn.st = .relayOnly) && s.disciplines then (s.at_ (s.chn.syncAt + 5 * msTicks)).setDisc .holdover
  else if s.fire && s.on dCHN && decide (s.chn.st = .member) && !s.chn.baton && s.chn.claimFrom.isNone then
    let s := s.at_ (s.chn.syncAt + 5 * msTicks)
    let s := s.setDisc .holdover
    (s.updChn (fun c => { c with claimFrom := some s.now, claimAt := s.now })).sendPrl (.claim s.unitId)
  else s

/-- CLAIM (R450): a claim with a lower unit ID stops this unit's. -/
def claim (id : W64) (s : State) : State :=
  whenOn dCHN (fun s =>
    if id.toNat < s.unitId.toNat then s.updChn (fun c => { c with claimFrom := none, syncAt := s.now }) else s) s

/-- CLAIM_TIMER (R450, R59): the claim is repeated every 1 ms, and after 3 ms the unit takes the baton. -/
def claimTimer (s : State) : State :=
  match s.chn.claimFrom with
  | none => s
  | some t =>
    if !(s.fire && s.on dCHN) then s
    else
      let s := s.at_ (s.chn.claimAt + msTicks)
      if t + 3 * msTicks ≤ s.now then
        let s := s.updChn (fun c => { c with baton := true, batonId := s.unitId, claimFrom := none, known := [], probeAt := s.now, probes := [], leadAct := c.lead, move := none })
        (s.measureChain.setDisc .free).raise 312
      else (s.updChn (fun c => { c with claimAt := s.now })).sendPrl (.claim s.unitId)

/-- A ring port of a member is DOWN (R459): the holder marks the ring OPEN in a PROBE sent at once, and the frames of epochs that have not begun
go out again. -/
def State.ringOpens (s : State) : State :=
  let s := s.updChn (fun c => { c with closed := false, probeBack := false })
  let s := s.sendProbe
  s.chn.preps.foldl (fun s p =>
    let s := s.sendPrl (.prepare p.ep p.level)
    if p.sent then s.sendPrl (.commit p.ep) else if p.dead then s.sendPrl (.cancel p.ep .protocol 0xFFFF) else s) s
/-- ALERT (R459): a member reports a ring port that is DOWN. -/
def alert (s : State) : State := if s.fire && s.on dCHN && s.chainHolder then s.ringOpens else s

/-- PORT_DOWN (R435, R459): a port goes DOWN; the loss of a member's ring port is for the baton holder to deal with. -/
def portDown (x : Nat) (s : State) : State :=
  if !s.fire || decide ((s.getPort x).st = .down) then s
  else
    let s := s.dropPort x
    let ring := !s.chn.spur && (decide (x = pE) || decide (x = pW))
    let s := if x = pW then s.updChn (fun c => { c with spur := false }) else s
    let s := s.losePaths
    if s.on dCHN && decide (s.chn.st = .member) && ring then
      if s.chn.baton then s.ringOpens
      else s.sendPrl (.alert (if x = pE then 0 else 1))
    else s

/-! ### Epoch rows -/

/-- REGISTER (R452, R458, R461). -/
def register (src : BitVec 16) (ep : Nat) (levelKind : Bool) (level : Byte) (s : State) : State :=
  if s.fire && s.on dCHN && s.chainHolder then s.registerHere src ep levelKind level else s

/-- PREPARE (R455). -/
def prepare (ep : Nat) (level : Byte) (s : State) : State :=
  if s.fire && s.on dCHN && !s.holder then s.prepareLocal ep level else s

/-- ACK (R454). -/
def ack (src : BitVec 16) (ep : Nat) (r : AckRes) (s : State) : State :=
  if s.fire && s.on dCHN && s.chainHolder then s.takeAck src ep r else s

/-- COMMIT (R454, R456). -/
def commitEpoch (ep : Nat) (s : State) : State :=
  if s.fire && s.on dCHN && !s.holder then s.commitLocal ep else s

/-- CANCEL (R455, R456). -/
def cancelEpoch (ep : Nat) (cause : CancelCause) (s : State) : State :=
  if s.fire && s.on dCHN && !s.holder then s.cancelLocal ep cause else s

/-- What a boundary leaves to the holder: JOINs and OL (R447, R460). -/
def State.holderStep (ep : Nat) (s : State) : State :=
  let s : State := match s.chn.olFall with | none => s | some l => (s.updChn (fun c => { c with olFall := none })).setOl l
  let s := ((s.prepareAll ep).moveLater).grantBaton ep
  let s := if s.chn.preps.isEmpty then
      let w := s.chn.joins
      w.foldl (fun s j => s.grantJoin j.1 j.2.1 j.2.2) (s.updChn (fun c => { c with joins := [] }))
    else s
  if s.chn.st = .member then s.sendPrl (.timeSync s.time) else s

/-- EPOCH_BOUNDARY (R444, R449, R454-R458, R460): epoch `ep` begins. -/
def epochBoundary (ep : Nat) (s : State) : State :=
  if !s.fire then s
  else if !s.on dCHN then (if s.chn.st = .relayOnly then (s.at_ (ep * 65536)).loadDue else s)
  else
    let s := s.at_ (ep * 65536)
    let was := s.holder
    let s := ((s.epochLocal ep).deadlines ep).handover ep
    (if was && s.holder then s.holderStep ep else s).loadDue

end Sys2Proof.Machine
end

