-- ==== Sys2Proof/Machine/Layout.lean ====
section
/-! DEFINITION. The byte layouts of what Thinis reads from host memory: configuration copies (R252), waveform definitions (R360), images
(R256) and temperature sets (R392). Multi-byte fields are little-endian (R11). -/

namespace Sys2Proof.Machine

/-- Every byte from `off` on, n of them, is 0. -/
def zeroAt (bs : List Byte) (off n : Nat) : Bool := ((bs.drop off).take n).all (fun b => decide (b = 0))
/-- A list cut into pieces of n bytes, k of them. -/
def pieces (n : Nat) : Nat → List Byte → List (List Byte)
  | 0, _ => []
  | k + 1, bs => bs.take n :: pieces n k (bs.drop n)
/-- A list with its entry numbers, the entries that differ from `d`. -/
def listed {α : Type} [DecidableEq α] (d : α) (l : List α) : List (Nat × α) :=
  ((List.range l.length).zip l).filter (fun e => decide (e.2 ≠ d))

/-! ### Configuration copies (R252) -/

/-- LINKi of a copy, from its 8 bytes. -/
def linkFrom (b : List Byte) : LinkCfg :=
  let map := byteAt b 6
  { nred := byteAt b 0, shift := signed 8 (byteAt b 1), ldly := byteAt b 2, redofs := byteAt b 3, tdly := numAt b 4 2
    lv1 := map / 4 % 4, lv2 := map / 16 % 4, lv3 := map / 64, wset := byteAt b 7 }
/-- The 8 bytes of LINKi. -/
def linkTo (k : LinkCfg) : List Byte :=
  [BitVec.ofNat 8 k.nred, ofInt 8 k.shift, BitVec.ofNat 8 k.ldly, BitVec.ofNat 8 k.redofs] ++ leBytes k.tdly 2
    ++ [BitVec.ofNat 8 (4 * k.lv1 + 16 * k.lv2 + 64 * k.lv3), BitVec.ofNat 8 k.wset]
/-- MASKk of a copy, from its 4 bytes. -/
def maskFrom (b : List Byte) : MaskCfg :=
  let f := BitVec.ofNat 8 (byteAt b 0)
  { en := bit f 0, inv := bit f 1, lv1 := bit f 2, lv2 := bit f 3, lv3 := bit f 4, h := byteAt b 1, phase := byteAt b 2, line := byteAt b 3 }
/-- The 4 bytes of MASKk. -/
def maskTo (k : MaskCfg) : List Byte :=
  [BitVec.ofNat 8 (b2n k.en + 2 * b2n k.inv + 4 * b2n k.lv1 + 8 * b2n k.lv2 + 16 * b2n k.lv3), BitVec.ofNat 8 k.h, BitVec.ofNat 8 k.phase,
   BitVec.ofNat 8 k.line]
/-- The reserved bits and bytes of a copy are 0. -/
def resvZero (b : List Byte) : Bool :=
  decide (byteAt b 0x0D < 4) && zeroAt b 0x1D 1 && decide (byteAt b 0x26 % 4 = 0) && decide (byteAt b 0x2E % 4 = 0)
    && (List.range 4).all (fun k => decide (byteAt b (0x30 + 4 * k) < 32)) && (List.range 3).all (fun k => decide (numAt b (0x40 + 2 * k) 2 < 4096))
    && zeroAt b 0x46 186 && ((pieces 2 256 (b.drop 0x100)).all (fun e => decide (ofLe e < 4096))) && zeroAt b 0x300 1280
/-- A copy as an image brings it: GEN, CRC and CC are taken as 0 (R256). -/
def copyFrom (b : List Byte) : Copy :=
  { gen := 0, cell := numAt b 0x08 2, lane := byteAt b 0x0A, plane := byteAt b 0x0B, mode := byteAt b 0x0C
    nbrL := decide (byteAt b 0x0D % 2 = 1), nbrR := decide (byteAt b 0x0D / 2 % 2 = 1), cc := 0, fmax := numAt b 0x10 4, lwm := numAt b 0x14 2
    depth := byteAt b 0x16, pacer := byteAt b 0x17, fr := numAt b 0x18 2, dr := numAt b 0x1A 2, dataline := byteAt b 0x1C
    datasz := numAt b 0x1E 2, link0 := linkFrom (b.drop 0x20), link1 := linkFrom (b.drop 0x28), mask0 := maskFrom (b.drop 0x30)
    mask1 := maskFrom (b.drop 0x34), mask2 := maskFrom (b.drop 0x38), mask3 := maskFrom (b.drop 0x3C)
    lev1 := numAt b 0x40 2 % 4096, lev2 := numAt b 0x42 2 % 4096, lev3 := numAt b 0x44 2 % 4096
    tone := listed 0 ((pieces 2 256 (b.drop 0x100)).map (fun e => ofLe e % 4096)), resv := resvZero b }
/-- A copy from byte 0x008 on. -/
def copyBody (x : Copy) : List Byte :=
  leBytes x.cell 2 ++ [BitVec.ofNat 8 x.lane, BitVec.ofNat 8 x.plane, BitVec.ofNat 8 x.mode, BitVec.ofNat 8 (b2n x.nbrL + 2 * b2n x.nbrR)]
    ++ leBytes x.cc 2 ++ leBytes x.fmax 4 ++ leBytes x.lwm 2 ++ [BitVec.ofNat 8 x.depth, BitVec.ofNat 8 x.pacer] ++ leBytes x.fr 2
    ++ leBytes x.dr 2 ++ [BitVec.ofNat 8 x.dataline, 0] ++ leBytes x.datasz 2 ++ linkTo x.link0 ++ linkTo x.link1 ++ maskTo x.mask0
    ++ maskTo x.mask1 ++ maskTo x.mask2 ++ maskTo x.mask3 ++ leBytes x.lev1 2 ++ leBytes x.lev2 2 ++ leBytes x.lev3 2
    ++ List.replicate 186 0 ++ (List.range 256).flatMap (fun i => leBytes (tabGet (fun _ => 0) x.tone i) 2) ++ List.replicate 1280 0
/-- CRC of a copy: CRC-32 over bytes 0x000-0x003 and 0x008-0x7FF (R222, R252). -/
def copyCrc (x : Copy) : Nat := crc32 (leBytes x.gen.toNat 4 ++ copyBody x)
/-- The 2 KiB of a copy as it stands in table memory (R252). -/
def copyBytes (x : Copy) : List Byte := leBytes x.gen.toNat 4 ++ leBytes (copyCrc x) 4 ++ copyBody x

/-! ### Waveform definitions (R360) -/

/-- A definition from its 128 bytes; its reserved bytes are not read. -/
def waveFrom (b : List Byte) : Wave :=
  let segs := (pieces 4 30 (b.drop 8)).map (fun e => (numAt e 0 2, signed 16 (numAt e 2 2)))
  { energy := numAt b 0 2, tcoef := signed 16 (numAt b 2 2), segs := if segs.all (fun e => decide (e = (0, 0))) then [] else segs }

/-! ### Images (R256) -/

/-- The nozzle part of a section at the front of some bytes, and its length: 4,096 entries, or in a patch a count and that many pairs. -/
def nozFrom (patch : Bool) (b : List Byte) : List (Nat × W32) × Nat :=
  if patch then ((pieces 8 (numAt b 0 4) (b.drop 4)).map (fun e => (numAt e 0 4, BitVec.ofNat 32 (numAt e 4 4))), 4 + 8 * numAt b 0 4)
  else (listed 0 ((pieces 4 4096 b).map (fun e => BitVec.ofNat 32 (ofLe e))), 16384)
/-- A section at the front of some bytes, and its length by its parts. The header's other bytes are not read, and a waveform
definition that is all zero counts as not brought: a patch neither writes it nor is judged by it (DESIGN CHOICE, log entry 70). -/
def sectionFrom (patch : Bool) (b : List Byte) : CellSection × Nat :=
  let has := BitVec.ofNat 8 (byteAt b 2)
  let o1 := if bit has 0 then 64 + 2048 else 64
  let noz : List (Nat × W32) × Nat := if bit has 1 then nozFrom patch (b.drop o1) else ([], 0)
  let o2 := o1 + noz.2
  let waves := if bit has 2 then listed (waveReset 0) ((pieces 128 16 (b.drop o2)).map waveFrom) else []
  ({ cell := numAt b 0 2, hasCopy := bit has 0, hasNoz := bit has 1, hasWave := bit has 2, copy := copyFrom (b.drop 64), noz := noz.1, waves := waves },
    if bit has 2 then o2 + 2048 else o2)
/-- The sections of an image, at most n of them, and whether they fill it: each lies whole in it, and its length field, the 64 bytes of its
header included, is that of its parts (log entry 70). -/
def sectionsFrom (patch : Bool) : Nat → List Byte → List CellSection × Bool
  | 0, b => ([], b.isEmpty)
  | n + 1, b =>
    if b.length < 64 ∨ numAt b 4 4 < 64 ∨ b.length < numAt b 4 4 then ([], false)
    else
      let len := numAt b 4 4
      let x := sectionFrom patch (b.take len)
      let rest := sectionsFrom patch n (b.drop len)
      (x.1 :: rest.1, decide (x.2 = len) && rest.2)
/-- An image from its bytes (R256). -/
def imageFrom (b : List Byte) : Image :=
  let secs := sectionsFrom (decide (byteAt b 4 = 1)) (numAt b 6 2) (b.drop 256)
  { magic := BitVec.ofNat 32 (numAt b 0 4), kind := byteAt b 4, lane := byteAt b 5, ncell := numAt b 6 2, length := numAt b 8 4, size := b.length
    crc := BitVec.ofNat 32 (numAt b 12 4), crcOk := decide (crc32 (b.take 12 ++ [0, 0, 0, 0] ++ b.drop 16) = numAt b 12 4)
    resv := zeroAt b 20 236, whole := decide (256 ≤ b.length) && secs.2, fmax := numAt b 16 4, sections := secs.1 }

/-! ### Temperature sets (R392) -/

/-- A temperature set from its 1,024 bytes, and whether its CRC checks and its reserved bits are 0. -/
def tempSetFrom (b : List Byte) : TempSet × Bool :=
  ({ valid := decide (byteAt b 0 % 2 = 1), cdly := signed 16 (numAt b 4 2), hdly0 := signed 16 (numAt b 6 2), hdly1 := signed 16 (numAt b 8 2)
     tf0 := numAt b 0x0C 4, tf1 := numAt b 0x10 4 },
   decide (b.length = 1024) && decide (crc32 (b.take 0x3FC) = numAt b 0x3FC 4) && decide (byteAt b 0 < 2) && zeroAt b 1 3 && zeroAt b 0x0A 2
     && zeroAt b 0x14 1000)

end Sys2Proof.Machine
end

