-- ==== Sys2Proof/Machine/Images.lean ====
section
/-! DEFINITION. The configuration commands: image checks and compile (R256, R257), commit (R258), patch (R259), alignment (R260), reload,
discard and refills (R261), temperature sets (R393), and the configuration checker (R224). -/

namespace Sys2Proof.Machine

/-! ### Compile (R257) -/

/-- Every field range of a link's part (R241-R243, R252). -/
def linkOk (k : LinkCfg) : Bool :=
  decide (k.nred ≤ 3) && decide (-64 ≤ k.shift ∧ k.shift ≤ 64) && decide (k.ldly ≤ 15) && decide (k.redofs ≤ 7)
    && decide (k.ldly + k.redofs ≤ 15) && decide (k.tdly ≤ 9599) && decide (k.lv1 ≤ 3 ∧ k.lv2 ≤ 3 ∧ k.lv3 ≤ 3) && decide (k.wset ≤ 3)
/-- Every field range of a mask; an enabled one does not share the data line (R229, R252). -/
def maskOk (x : Copy) (k : MaskCfg) : Bool :=
  decide (1 ≤ k.h ∧ k.h ≤ 64) && decide (k.phase ≤ 63) && decide (k.line ≤ 15) && (!k.en || decide (k.line ≠ x.dataline))
/-- Every field range of a copy, and its areas fit in the bank (R206, R229, R241, R243, R252). -/
def copyOk (x : Copy) : Bool :=
  x.resv && decide (x.plane ≤ 15) && decide (x.mode ≤ 1) && decide (x.fmax ≤ 12500000) && decide (16 ≤ x.lwm ∧ x.lwm ≤ 480)
    && decide (1 ≤ x.depth ∧ x.depth ≤ 32) && decide (x.pacer ≤ 7) && decide (16 ≤ x.fr ∧ x.fr ≤ 2400) && decide (x.dr ≤ 4096)
    && decide (x.dataline ≤ 15) && linkOk x.link0 && linkOk x.link1
    && maskOk x x.mask0 && maskOk x x.mask1 && maskOk x x.mask2 && maskOk x x.mask3
    && decide (0 < x.lev1 ∧ x.lev1 < x.lev2 ∧ x.lev2 < x.lev3 ∧ x.lev3 ≤ 4095)
    && x.tone.all (fun e => decide (e.1 < 256 ∧ e.2 ≤ 4095))
    && decide (scratchSize x + masksSize x + dataSize x ≤ 524288)

/-- Length of a waveform definition: the sum of its DURs up to the first 0 (R360). -/
def waveLen (w : Wave) : Nat := ((w.segs.takeWhile (fun e => decide (e.1 ≠ 0))).map (·.1)).sum
/-- The definitions that a link's WSET names are short enough for f_max (R360). -/
def wavesOk (x : Copy) (waves : Tab Wave) : Bool :=
  decide (x.fmax = 0) || [x.link0.wset, x.link1.wset].all (fun w => (List.range 4).all (fun c =>
    decide (waveLen (tabGet waveReset waves (4 * w + c)) + 3600 ≤ 120000000000 / x.fmax)))

/-- Neighbour agreement of one copy among those of its lane (R237). Where the lane has no configuration in force, a patch does not say what the
cells are that it does not name, and `open_` lets them pass: R259 makes the patch keep NBR. -/
def nbrOk (open_ : Bool) (all : List Copy) (x : Copy) : Bool :=
  let agrees := fun (c : Nat) (back : Copy → Bool) => match copyFor c all with
    | none => open_
    | some y => decide (y.plane = x.plane) && back y
  (!x.nbrR || (decide (x.cell < 255) && agrees (x.cell + 1) Copy.nbrL)) && (!x.nbrL || (decide (0 < x.cell) && agrees (x.cell - 1) Copy.nbrR))

/-- The waveform table of a cell after a section: the definitions it brings, over those that stand where it is a patch. -/
def sectionWaves (patch : Bool) (old : Tab Wave) (sec : CellSection) : Tab Wave :=
  if !sec.hasWave then (if patch then old else [])
  else sec.waves.foldl (fun t e => tabPut waveReset t e.1 e.2) (if patch then old else [])

/-- A section as it is compiled: CC is filled, GEN is taken as 0 (R256, R257). -/
def compileCopy (sec : CellSection) : Copy := { sec.copy with gen := 0, cc := ccOf sec.copy }

/-- A cell's section fails to compile (R237, R257, R360). -/
def State.sectionFails (s : State) (img : Image) (all : List Copy) (first : Option Copy) (sec : CellSection) : Bool :=
  let x := compileCopy sec
  let patch := decide (img.kind = 1)
  let same := match first with
    | none => true
    | some f => decide (x.lane = f.lane ∧ x.fmax = f.fmax ∧ x.lwm = f.lwm ∧ x.pacer = f.pacer)
  let cur := (s.getCell sec.cell).waves
  let open_ := patch && (s.getLane img.lane).inForce.isEmpty
  let inCopy := if sec.hasCopy then x else s.cfg sec.cell
  (if sec.hasCopy then
      !copyOk x || decide (x.cell ≠ sec.cell) || decide (x.lane ≠ img.lane) || decide (x.fmax ≠ img.fmax) || (!patch && !same) || !nbrOk open_ all x
    else !patch)
    || !wavesOk inCopy (sectionWaves patch cur sec)
    || sec.noz.any (fun e => decide (4096 ≤ e.1) || decide (fld e.2 16 1 ≠ 0) || decide (fld e.2 12 2 ≠ 0))

/-- The lowest number of a list. -/
def lowest : List Nat → Option Nat
  | [] => none
  | a :: t => some (t.foldl min a)

/-- The sections of an image hold the parts that their kind asks for (R256): all three in a full image. One that lacks a part, or whose sections do
not fill it, is refused as an image and not as a cell (DESIGN CHOICE, log entry 70). -/
def imageShaped (img : Image) : Bool :=
  img.whole && decide (img.ncell = img.sections.length)
    && (decide (img.kind = 1) || img.sections.all (fun x => x.hasCopy && x.hasNoz && x.hasWave))

/-- The checks of an image against a slot's lane (R257): none where it can be compiled, else the DETAIL. -/
def State.imageFails (s : State) (lane len : Nat) (img : Image) : Option Nat :=
  let cells := img.sections.map (·.cell)
  let mine := s.cellsOf lane
  let set := if img.kind = 0 then cells.all mine.contains && mine.all cells.contains && decide (cells.length = mine.length)
    else cells.all mine.contains && decide (cells.Nodup)
  if img.length ≠ len ∨ img.size ≠ len ∨ !img.crcOk ∨ img.magic ≠ 0x5A570C01 ∨ 1 < img.kind ∨ img.lane ≠ lane ∨ !img.resv ∨ !imageShaped img ∨ !set then
    some 0xFFFF
  else
    let copies := (img.sections.filter (fun x => x.hasCopy)).map compileCopy
    let force := (s.getLane lane).inForce
    let all := if img.kind = 0 then copies else mergeCopies force copies ++ copies.filter (fun x => (copyFor x.cell force).isNone)
    let low := (lowest (copies.map (·.cell))).bind (fun c => copyFor c copies)
    lowest ((img.sections.filter (s.sectionFails img all low)).map (·.cell))

/-! ### CONFIG-LOAD (R257) -/

/-- A slot that a command names, and what R168 says of it. -/
def slotField (p : Packet) (off : Nat) : Field := fMax p off 1 1
/-- The committed slot of a lane in CONFIGURED or PRINT (R261). -/
def State.slotLocked (s : State) (l n : Nat) : Bool :=
  let x := s.getLane l
  (decide (x.st = .configured) || decide (x.st = .print)) && decide (x.comSlot = some n)

/-- CONFIG_LOAD (R168, R257). -/
def configLoad (q : LaneIx) (p : Packet) (s : State) : State :=
  long { opcode := 0x0200, lane0 := false, rom := false, early := false, states := anyState
         fields := fun p _ => [fAny 8 8, fMax p 16 4 33554432, slotField p 20]
         own := fun _ _ => true
         busy := fun p s => s.held (.slot p.lane.toNat (pnum p 20 1)) || s.slotLocked p.lane.toNat (pnum p 20 1) }
    q p (fun _ => .configLoad (pnum p 20 1) (BitVec.ofNat 64 (pnum p 8 8)) (pnum p 16 4))
    (fun _ s => s.updLane p.lane.toNat (fun x => x.setSlot (pnum p 20 1) none)) s

/-- CONFIG_LOAD_DONE (R257): the image has been read; the slot is filled, or stays empty. -/
def configLoadDone (h : W32) (bytes : List Byte) (s : State) : State :=
  let img := imageFrom bytes
  match s.running h with
  | none => s
  | some o => match o.kind with
    | .configLoad n addr len =>
      if !(s.on dHOST && s.imageRuns && !s.thn.paused) then s
      else match s.imageFails o.target len img with
        | some d => s.finish h stBadParam d
        | none =>
          let slot : Slot :=
            { patch := decide (img.kind = 1), ref := { fn := o.queue, addr := addr, len := len, crc := img.crc }
              copies := (img.sections.filter (fun x => x.hasCopy)).map compileCopy, cells := img.sections.map (·.cell) }
          (s.updLane o.target (fun x => x.setSlot n (some slot))).finish h stOk 0
    | _ => s

/-! ### Admission of a configuration (R50, R207, R210, R258) -/

/-- Bytes per 100 s that a set of copies draws at f_max (R50). -/
def feedNeed (copies : List Copy) : Nat := (copies.map (fun x => x.fmax * 1024)).sum
/-- The sustained feed of the trained width (R50): none at x2 and x1 (R118). -/
def feedLimit : LinkWidth → Nat
  | .x16 => 50000000000 | .x8 => 25000000000 | .x4 => 12500000000 | .x2 => 0 | .x1 => 0
/-- The link-width check (R50, R118). -/
def State.widthOk (s : State) (lane : Nat) (copies : List Copy) : Bool :=
  let others := (List.range 16).filter (fun l => decide (l ≠ lane)
    && (decide ((s.getLane l).st = .configured) || decide ((s.getLane l).st = .print)))
  let need := (others.map (fun l => feedNeed (s.getLane l).inForce)).sum + feedNeed copies
  if s.glb.width = .x2 ∨ s.glb.width = .x1 then decide (feedNeed copies = 0)
  else decide (need ≤ 100 * feedLimit s.glb.width)

/-- Cells that fail R207, and cells whose bank is not admitted (R210). -/
def depthFails (copies : List Copy) : Option Nat := lowest ((copies.filter (fun x => decide (depthOf x ≤ x.lwm))).map (·.cell))
def admitFails (copies : List Copy) : Option Nat := lowest ((copies.filter (fun x => !admits x)).map (·.cell))

/-- Steps 2 to 4 of R258 for a full image read again: none where they pass, else status and DETAIL. -/
def State.commitFails (s : State) (lane : Nat) (slot : Slot) (img : Image) : Option (BitVec 16 × Nat) :=
  let mine := s.cellsOf lane
  if !img.crcOk ∨ img.crc ≠ slot.ref.crc ∨ !(slot.cells.all mine.contains && mine.all slot.cells.contains) then some (stBadParam, 0xFFFF)
  else if mine.isEmpty then some (stBadParam, 0xFFFF)
  else match depthFails slot.copies, admitFails slot.copies with
    | some c, _ => some (stBadParam, c)
    | none, some c => some (stOvercommit, c)
    | none, none => none

/-- What a cell holds now, kept until its sets swap (R49). -/
def Cell.keep (whole : Bool) (x : Cell) : Saved :=
  { whole := whole, noz := x.noz, waves := x.waves, servo := x.servo, det := x.det, badNoz := x.badNoz, erased := x.erased }
/-- The refill of a cell once a commit has written its tables: temperature sets are kept through it (R393), and those still to be read are read. -/
def Cell.keepSets (x : Cell) : Option Refill :=
  x.refill.bind (fun r => if r.test then some r else if r.sets.isEmpty then none else some { r with image := false, failed := false })
/-- Step 5 of R258 in one cell: tables, shadow set, servo state and DET. Its data and mask areas change with the swap (R226). -/
def State.writeCell (sec : CellSection) (body : Copy) (s : State) : State :=
  let c := sec.cell
  (s.retrim c (fun x => { x with
    saved := some (x.saved.getD (x.keep true)), noz := sec.noz.foldl (fun t e => tabPut (fun _ => 0) t e.1 e.2) []
    waves := sectionWaves false [] sec, servo := [], det := [], badNoz := [], nozNext := [], nozPend := [], refill := x.keepSets
    erased := false })).writeShadow c body |>.endCond 3 (s.serverOf c)

/-- A change of lane l that waits for its point of application (R452). -/
def State.addChange (h : W32) (lane : Nat) (kind : ChangeKind) (ep : Nat) (cells : List Nat) (ready : Bool) (s : State) : State :=
  let ch : Change := { lane := lane, kind := kind, ep := ep, cells := cells, handle := h, ready := ready, prepared := false
                       committed := false, windows := false }
  ({ s with changes := s.changes ++ [ch] } : State).registerChange ep false 0

/-- The change of a handle. -/
def State.changeOf (s : State) (h : W32) : Option Change := s.changes.find? (fun ch => decide (ch.handle = h))
/-- A change whose checks have passed is ready (R455). -/
def State.readyChange (h : W32) (s : State) : State :=
  { s with changes := s.changes.map (fun ch => if ch.handle = h then { ch with ready := true } else ch) }

/-- A slot that CONFIG-COMMIT or CONFIG-PATCH names must hold an image of the right kind (R168). -/
def slotHolds (patch : Bool) (p : Packet) (s : State) : Field :=
  let n := pnum p 8 1
  ⟨8, 1, decide (n ≤ 1) && (match (s.getLane p.lane.toNat).slot n with | none => false | some v => v.patch == patch)⟩

/-- CONFIG_COMMIT (R168, R258): step 1, then the image is read again. -/
def configCommit (q : LaneIx) (p : Packet) (s : State) : State :=
  long { opcode := 0x0201, lane0 := false, rom := false, early := false, states := stIC
         fields := fun p s => [slotHolds false p s, fEpoch p 16 s], own := fun _ _ => true, bad := relayBad 16
         busy := fun p s =>
           let l := p.lane.toNat
           s.held (.slot l (pnum p 8 1)) || s.held (.config l) || s.held (.print l)
             || s.ops.any (fun o => decide (o.target = l) && (match o.kind with | .spitTest .. => true | _ => false)) }
    q p (fun _ => .configCommit (pnum p 8 1) (pnum p 16 8))
    (fun h s =>
      let l := p.lane.toNat
      let n := pnum p 8 1
      match (s.getLane l).slot n with
      | none => s.finish h stBadParam 8
      | some v =>
        let s := s.addChange h l (.commit n) (pnum p 16 8) v.cells false
        if s.widthOk l v.copies then s
        else match s.changeOf h with | none => s | some ch => s.refuseChange ch stOvercommit 0xFFFF) s

/-- The image of a commit has been read (steps 2 to 6 of R258). -/
def State.commitRead (ch : Change) (n : Nat) (img : Image) (s : State) : State :=
  match (s.getLane ch.lane).slot n with
  | none => s.refuseChange ch stBadParam 0xFFFF
  | some v => match s.commitFails ch.lane v img with
    | some (st, d) => s.refuseChange ch st d
    | none =>
      let s := img.sections.foldl (fun s sec => match copyFor sec.cell v.copies with | none => s | some body => s.writeCell sec body) s
      s.readyChange ch.handle

/-! ### CONFIG-PATCH (R259) -/

/-- A copy of a patch breaks what R259 asks it to keep. -/
def patchBreaks (whole : Bool) (force : List Copy) (first : Option Copy) (x : Copy) : Bool :=
  match force.find? (fun y => decide (y.cell = x.cell)) with
  | none => true
  | some y =>
    decide (x.mode ≠ y.mode) || x.nbrL != y.nbrL || x.nbrR != y.nbrR || decide (x.link0.nred ≠ y.link0.nred) || decide (x.link1.nred ≠ y.link1.nred)
      || decide (x.dataline ≠ y.dataline) || decide (x.datasz ≠ y.datasz) || decide (x.mask0 ≠ y.mask0) || decide (x.mask1 ≠ y.mask1)
      || decide (x.mask2 ≠ y.mask2) || decide (x.mask3 ≠ y.mask3) || decide (x.lane ≠ y.lane) || decide (x.pacer ≠ y.pacer)
      || (match first with | none => false | some f => decide (x.fmax ≠ f.fmax) || decide (x.lwm ≠ f.lwm))
      || (!whole && (decide (x.fmax ≠ y.fmax) || decide (x.lwm ≠ y.lwm)))

/-- A section rewrites a waveform definition that the active set's WSET uses (R259). -/
def State.patchWaves (s : State) (sec : CellSection) : Bool :=
  let x := s.cfg sec.cell
  sec.hasWave && sec.waves.any (fun e => decide (e.1 / 4 = x.link0.wset) || decide (e.1 / 4 = x.link1.wset))

/-- The checks of a patch image read again (R258, R259). -/
def State.patchFails (s : State) (lane : Nat) (slot : Slot) (img : Image) : Option (BitVec 16 × Nat) :=
  let mine := s.cellsOf lane
  let force := (s.getLane lane).inForce
  let whole := mine.all slot.cells.contains
  let low := (lowest (slot.copies.map (·.cell))).bind (fun c => copyFor c slot.copies)
  let merged := mergeCopies force slot.copies
  if !img.crcOk ∨ img.crc ≠ slot.ref.crc ∨ !slot.cells.all mine.contains then some (stBadParam, 0xFFFF)
  else match lowest ((slot.copies.filter (patchBreaks whole force low)).map (·.cell) ++ (img.sections.filter s.patchWaves).map (·.cell)) with
    | some c => some (stBadParam, c)
    | none => match depthFails merged, admitFails merged with
      | some c, _ => some (stBadParam, c)
      | none, some c => some (stOvercommit, c)
      | none, none => none

/-- A section of a patch is written: waveform definitions at once, the copy into the shadow set, nozzle entries kept for the swap (R259). -/
def State.patchCell (sec : CellSection) (copies : List Copy) (s : State) : State :=
  let c := sec.cell
  let s := if sec.hasWave then
      (s.updCell c (fun x => { x with saved := some (x.saved.getD (x.keep false)), waves := sectionWaves true x.waves sec })).sendWaves c
        (sec.waves.map (·.1))
    else s
  let s := match copyFor c copies with | none => s | some body => s.writeShadow c body
  if sec.hasNoz then s.updCell c (fun x => { x with nozNext := x.nozNext ++ sec.noz }) else s

/-- CONFIG_PATCH (R168, R259). -/
def configPatch (q : LaneIx) (p : Packet) (s : State) : State :=
  long { opcode := 0x0202, lane0 := false, rom := false, early := false, states := stCP
         fields := fun p s => [slotHolds true p s, fEpoch p 16 s], own := fun _ _ => true, bad := relayBad 16
         busy := fun p s => s.held (.slot p.lane.toNat (pnum p 8 1)) || s.held (.config p.lane.toNat) }
    q p (fun _ => .configPatch (pnum p 8 1) (pnum p 16 8))
    (fun h s =>
      let l := p.lane.toNat
      let n := pnum p 8 1
      match (s.getLane l).slot n with
      | none => s.finish h stBadParam 8
      | some v =>
        let s := s.addChange h l (.patch n) (pnum p 16 8) (s.cellsOf l) false
        if s.widthOk l (mergeCopies (s.getLane l).inForce v.copies) then s
        else match s.changeOf h with | none => s | some ch => s.refuseChange ch stOvercommit 0xFFFF) s

/-- The image of a patch has been read. -/
def State.patchRead (ch : Change) (n : Nat) (img : Image) (s : State) : State :=
  match (s.getLane ch.lane).slot n with
  | none => s.refuseChange ch stBadParam 0xFFFF
  | some v => match s.patchFails ch.lane v img with
    | some (st, d) => s.refuseChange ch st d
    | none => (img.sections.foldl (fun s sec => s.patchCell sec v.copies) s).readyChange ch.handle

/-! ### Other configuration commands -/

/-- CONFIG_RELOAD (R168, R261): the three copies of every cell of the lane from the compiled copies in force; a divergence is
resolved (R224). -/
def configReload (q : LaneIx) (p : Packet) (s : State) : State :=
  long { opcode := 0x0203, lane0 := false, rom := false, early := false, states := stCP, fields := fun _ _ => [], own := fun _ _ => true
         busy := fun p s => s.held (.config p.lane.toNat) }
    q p (fun _ => .configReload)
    (fun h s =>
      let s := (s.getLane p.lane.toNat).inForce.foldl (fun s x =>
        (s.updCell x.cell (fun y => { y with active := threeCopies { x with gen := y.gen }, divergent := false })).endCond 4 x.cell) s
      s.finish h stOk 0) s

/-- CONFIG_READ (R168): `length` bytes of a cell table are written to host memory; the layout is not given (log entry 3). -/
def configRead (q : LaneIx) (p : Packet) (s : State) : State :=
  long { opcode := 0x0204, lane0 := false, rom := false, early := false, states := stCP
         fields := fun p _ => [fAny 8 8, fMax p 16 2 255, fAny 18 1, fAny 20 4]
         own := fun p s => decide (255 < pnum p 16 2) || decide (s.laneOf (pnum p 16 2) = p.lane.toNat), busy := fun _ _ => false }
    q p (fun _ => .configRead) (fun h s => (s.freeBuf q.val (pnum p 8 8) (pnum p 20 4)).finish h stOk 0) s

/-- CONFIG_DISCARD (R168, R261). -/
def configDiscard (q : LaneIx) (p : Packet) (s : State) : State :=
  immediate { opcode := 0x0205, lane0 := false, rom := false, early := false, states := anyState, fields := fun p _ => [slotField p 8], own := fun _ _ => true
              busy := fun p s => s.held (.slot p.lane.toNat (pnum p 8 1)) || s.slotLocked p.lane.toNat (pnum p 8 1) }
    q p (fun s => (s.updLane p.lane.toNat (fun x => x.setSlot (pnum p 8 1) none), stOk, 0)) s

/-- The copy in force of the cell of a link. -/
def State.forceOf (s : State) (l : Nat) : Option Copy :=
  copyFor (l / 2) (s.getLane (s.laneOf (l / 2))).inForce

/-- ALIGN_SET (R168, R260). -/
def alignSet (q : LaneIx) (p : Packet) (s : State) : State :=
  let l := pnum p 10 2
  let shift := signed 16 (pnum p 12 2)
  long { opcode := 0x0400, lane0 := false, rom := false, early := false, states := stCP
         fields := fun p s =>
           let x := s.forceOf l
           [⟨8, 1, decide (pnum p 8 1 ≤ 15) && (match x with | none => true | some y => decide (y.plane = pnum p 8 1))⟩, fMax p 10 2 511,
            ⟨12, 2, decide (-64 ≤ shift ∧ shift ≤ 64)⟩, fMax p 16 4 9599,
            ⟨20, 2, decide (pnum p 20 2 ≤ 15) && (match x with | none => true | some y => decide (pnum p 20 2 + (linkCfg y (l % 2)).redofs ≤ 15))⟩,
            fEpoch p 24 s]
         own := fun p s => decide (511 < l) || decide (s.laneOf (l / 2) = p.lane.toNat), bad := relayBad 24
         busy := fun p s => s.held (.config p.lane.toNat) }
    q p (fun _ => .alignSet l shift (pnum p 20 2) (pnum p 16 4) (pnum p 24 8))
    (fun h s =>
      let s := match s.forceOf l with | none => s | some x => s.writeShadow (l / 2) (alignCopy l shift (pnum p 20 2) (pnum p 16 4) x)
      s.addChange h p.lane.toNat .align (pnum p 24 8) [l / 2] true) s

/-- PRINT_START (R168, R535). -/
def printStart (q : LaneIx) (p : Packet) (s : State) : State :=
  long { opcode := 0x0300, lane0 := false, rom := false, early := false, states := stC, fields := fun p s => [fEpoch p 16 s], own := fun _ _ => true
         bad := fun p s => relayBad 16 p s || decide ((s.getLane p.lane.toNat).fmax = 0), busy := fun p s => s.held (.print p.lane.toNat) }
    q p (fun _ => .printStart (pnum p 16 8))
    (fun h s => s.addChange h p.lane.toNat .printStart (pnum p 16 8) (s.cellsOf p.lane.toNat) true) s

/-- PRINT_STOP (R168, R294). -/
def printStop (q : LaneIx) (p : Packet) (s : State) : State :=
  long { opcode := 0x0301, lane0 := false, rom := false, early := false, states := stP, fields := fun p s => [fMax p 8 1 1, fEpoch p 16 s], own := fun _ _ => true
         bad := relayBad 16, busy := fun p s => s.held (.print p.lane.toNat) }
    q p (fun _ => .printStop (pnum p 8 1) (pnum p 16 8))
    (fun h s => s.addChange h p.lane.toNat (.printStop (pnum p 8 1)) (pnum p 16 8) (s.cellsOf p.lane.toNat) true) s

/-- SET_SPEED (R40, R168). -/
def setSpeed (q : LaneIx) (p : Packet) (s : State) : State :=
  immediate { opcode := 0x0302, lane0 := false, rom := false, early := false, states := stCP, fields := fun p _ => [fMax p 8 4 12500000], own := fun _ _ => true
              busy := fun _ _ => false }
    q p (fun s => (s.updLane p.lane.toNat (fun x => { x with rate := BitVec.ofNat 32 (pnum p 8 4) }), stOk, 0)) s

/-- SET_CEILING (R39, R168): the ceiling by command of the Pacer that the lane is bound to, 0 for none. -/
def setCeiling (q : LaneIx) (p : Packet) (s : State) : State :=
  immediate { opcode := 0x0303, lane0 := false, rom := false, early := false, states := stCP, fields := fun _ _ => [fAny 8 4], own := fun _ _ => true
              busy := fun _ _ => false }
    q p (fun s =>
      let v := pnum p 8 4
      let s := match (s.getLane p.lane.toNat).pacer with
        | none => s
        | some k => s.updPacer k (fun x => { x with ceil := if v = 0 then 0xFFFFFFFF else BitVec.ofNat 32 v })
      (s.raise 371, stOk, 0)) s

/-- A trigger byte of WINDOW-ARM (R287). -/
def trigByte (n : Nat) : Bool := decide (n < 32)

/-- WINDOW_ARM (R168, R287, R288). -/
def windowArm (q : LaneIx) (p : Packet) (s : State) : State :=
  let k := ((s.getLane p.lane.toNat).pacer).getD 0
  let a := pnum p 8 1
  let b := pnum p 9 1
  let len := pnum p 16 4
  immediate { opcode := 0x0304, lane0 := false, rom := false, early := false, states := stP
              fields := fun p s =>
                [⟨8, 1, trigByte a && !(s.getPacer k).cont⟩, ⟨9, 1, (trigByte b || decide (b = 0xFF)) && decide (b ≠ a)⟩,
                 fMax p 12 4 (2 ^ 31 - 1), ⟨16, 4, decide (len < 2 ^ 31) && !(decide (b = 0xFF) && decide (len = 0))⟩]
              own := fun _ _ => true, busy := fun _ s => decide (8 ≤ (s.getPacer k).live.length) }
    q p (fun s =>
      let x := s.getPacer k
      let w := { newWindow x.nextWin x.freeSlot .armed with
        start := BitVec.ofNat 8 a, stop := BitVec.ofNat 8 b, offset := pnum p 12 4, length := len }
      (s.updPacer k (fun x => { x with
        windows := x.windows ++ [w], nextWin := x.nextWin + 1
        starts := if x.starts.contains w.start then x.starts else w.start :: x.starts
        stops := if w.stop = 0xFF ∨ x.stops.contains w.stop then x.stops else w.stop :: x.stops }), stOk, 0)) s

/-! ### Temperature sets (R393) -/

/-- TEMPSET_LOAD (R168, R393). -/
def tempsetLoad (q : LaneIx) (p : Packet) (s : State) : State :=
  long { opcode := 0x0402, lane0 := false, rom := false, early := false, states := stCP, fields := fun p _ => [fMax p 8 1 4, fAny 16 8, fAny 24 4]
         own := fun _ _ => true, busy := fun p s => s.held (.tset p.lane.toNat (pnum p 8 1)) }
    q p (fun _ => .tempsetLoad (pnum p 8 1) (BitVec.ofNat 64 (pnum p 16 8)) (pnum p 24 4))
    (fun h s => if pnum p 24 4 ≠ 1024 * (s.cellsOf p.lane.toNat).length then s.finish h stBadParam 0xFFFF else s) s

/-- The field ranges of a temperature set (R392). -/
def tsetOk (t : TempSet) : Bool :=
  decide (-512 ≤ t.cdly ∧ t.cdly ≤ 511) && decide (-2048 ≤ t.hdly0 ∧ t.hdly0 ≤ 2047) && decide (-2048 ≤ t.hdly1 ∧ t.hdly1 ≤ 2047)
    && decide (t.tf0 < 1048576 ∧ t.tf1 < 1048576)

/-- The sets that a buffer holds for the cells of a lane, in ascending order (R393), each with its verdict. -/
def State.setsFrom (s : State) (lane : Nat) (buf : List Byte) : List (Nat × TempSet × Bool) :=
  let cells := s.cellsOf lane
  cells.zip ((pieces 1024 cells.length buf).map tempSetFrom)
/-- The buffer of a TEMPSET-LOAD has been read. -/
def State.tempsetRead (o : Op) (n : Nat) (addr : W64) (len : Nat) (buf : List Byte) (s : State) : State :=
  let pairs := s.setsFrom o.target buf
  match lowest ((pairs.filter (fun e => !e.2.2 || !tsetOk e.2.1)).map (·.1)) with
    | some c => s.finish o.handle stBadParam c
    | none =>
      let s := pairs.foldl (fun s e => s.updCell e.1 (fun x => { x with tsets := tabPut tsetReset x.tsets n e.2.1 })) s
      let ref : ImgRef := { fn := o.queue, addr := addr, len := len, crc := 0 }
      (s.updLane o.target (fun x => { x with tsRefs := (n, ref) :: x.tsRefs.filter (fun e => decide (e.1 ≠ n)) })).finish o.handle stOk 0

/-! ### The configuration checker (R224) -/

/-- CONFIG_CHECK (R224): the active set of cell c is resolved. -/
def configCheck (c : Nat) (s : State) : State :=
  let cell := s.getCell c
  if !s.on (s.workQuad c) || cell.active.isEmpty then s
  else
    let r := resolveSet cell.active
    let inj := s.injHits 4 (s.serverOf c)
    let s : State := match r.rewrite with
      | none => s
      | some body => (((s.updCell c (fun x => { x with active := threeCopies body })).raise 344).faultBy inj 4 0 c 0 false)
    if r.diverges then
      let s := if cell.divergent then s else (s.updCell c (fun x => { x with divergent := true })).raise 345
      if r.degraded && !(s.getSrc 4).conds.contains c then s.faultBy inj 4 1 c 0 true else s
    else (s.updCell c (fun x => { x with divergent := false })).endCond 4 c

end Sys2Proof.Machine
end

