-- ==== Sys2Proof/Machine/Takeover.lean ====
section
/-! DEFINITION. Spare takeover and return (R262-R265), rolling self-test (R266-R268), row repair with its automatic takeover (R219, R221). -/

namespace Sys2Proof.Machine

/-! ### Commands -/

/-- The spare that SPARE-TAKEOVER names, or the lowest that qualifies for 0xFFFF (R262). -/
def State.spareFor (s : State) (c n : Nat) : Option Nat :=
  let ok := s.freeSpares (quadrantOf c)
  if n = 0xFFFF then ok.head? else if ok.contains n then some n else none

/-- SPARE_TAKEOVER (R168, R262, R263). -/
def spareTakeover (q : LaneIx) (p : Packet) (s : State) : State :=
  let c := pnum p 8 2
  let n := pnum p 10 2
  let k := s.spareFor c n
  long { opcode := 0x0902, lane0 := true, rom := false, early := false, states := none
         fields := fun p _ => [fMax p 8 2 255, ⟨10, 2, decide (n = 0xFFFF) || decide (256 ≤ n ∧ n < 272)⟩], own := fun _ _ => true
         busy := fun _ s => k.isNone || decide ((s.getCell c).svc ≠ .inService) || s.held (.cell c) || s.held (.cell (k.getD 0)) }
    q p (fun _ => .spareTakeover c (k.getD 0)) (fun _ s => s.beginTakeover c (k.getD 0)) s

/-- SPARE_RETURN (R168, R264): refused while the cell's quad is not powered, while it has not passed a self-test since it was powered up,
and for a RETIRED cell. -/
def spareReturn (q : LaneIx) (p : Packet) (s : State) : State :=
  let c := pnum p 8 2
  long { opcode := 0x0903, lane0 := true, rom := false, early := false, states := none, fields := fun p _ => [fMax p 8 2 255], own := fun _ _ => true
         busy := fun _ s =>
           let x := s.getCell c
           decide (x.svc ≠ .stoodIn) || !s.on (quadOf c) || !x.passed || s.held (.cell c) || s.held (.cell x.server) }
    q p (fun s => .spareReturn c (s.getCell c).server) (fun _ s => s.beginReturn c) s

/-- SELFTEST_CTL (R168, R266). -/
def selftestCtl (q : LaneIx) (p : Packet) (s : State) : State :=
  immediate { opcode := 0x0904, lane0 := true, rom := false, early := false, states := none, fields := fun p _ => [fMax p 8 1 15, fMax p 9 1 1]
              own := fun _ _ => true, busy := fun _ _ => false }
    q p (fun s =>
      (forAll ((List.range 4).filter (fun i => decide ((pnum p 8 1 / 2 ^ i) % 2 = 1))) (fun s i =>
        s.updTest i (fun t => { t with on := decide (pnum p 9 1 = 1) })) s, stOk, 0)) s

/-! ### Copying (R263) -/

/-- The bytes of bank `src`, at the places of bank `dst`. -/
def movedBytes (m : Memory) (src dst : Nat) : Memory :=
  (m.filter (fun e => decide (e.1 / 524288 = src))).map (fun e => (storeKey dst (e.1 % 524288), e.2))
/-- The line store with bank `dst` equal to bank `src`. -/
def copyBank (m : Memory) (src dst : Nat) : Memory :=
  (movedBytes m src dst).foldl (fun t e => tabIns e.1 e.2 t) (m.filter (fun e => decide (e.1 / 524288 ≠ dst)))

/-- Blocks of bank b that a copy of the whole bank can find with an error. -/
def State.suspects (s : State) (b : Nat) (ecc : List (BlockIx × Ecc)) : List Nat :=
  (((s.getBank b).poison ++ ecc.map (fun e => e.1.val) ++ [s.flt.hitAddr]).filter (fun i => decide (i < 8192))).dedup
/-- TAKEOVER_COPY_DONE (R263, R265): tables and bank are copied; an uncorrectable block counts as read (R217) and is copied poisoned. The copy
runs in step from the next data line. -/
def takeoverCopyDone (c : Nat) (ecc : List (BlockIx × Ecc)) (s : State) : State :=
  let x := s.getCell c
  if x.tkoActive && (decide (x.tkoStep = 1) || decide (x.tkoStep = 2)) && s.on (dLS (quadrantOf c)) then
    let src := s.serverOf c
    let dst := if src = c then x.tkoPeer else c
    let s := s.blocksRead src (s.suspects src ecc) ecc
    let s := { s with store := copyBank s.store src dst }
    let s := s.updBank dst (fun b => { b with poison := (s.getBank src).poison })
    s.updCell c (fun y => { y with tkoStep := if s.proc c then 3 else 4, tkoBlocks := 8192 })
  else s

/-- TAKEOVER_FAIL (R265). -/
def takeoverFail (c : Nat) (s : State) : State :=
  let x := s.getCell c
  if x.tkoActive && decide (x.tkoStep.toNat ≤ 4) && decide (x.tkoStep ≠ 0) then s.failTakeover c else s

/-! ### Rolling self-test (R266, R267) -/

/-- The next active cell of a quadrant that can be tested, from `next` on, wrapping once. -/
def State.nextTested (s : State) (q : Nat) : Option Nat :=
  let from_ := (s.getTest q).next
  ((List.range 64).map (fun i => 64 * q + (from_ - 64 * q + i) % 64)).find? (fun c =>
    decide ((s.getCell c).svc = .inService) && !(s.getCell c).tkoActive && s.on (quadOf c) && !s.held (.cell c))

/-- A cell is tested in place (R266): its bank and its table memory are erased. PEER, which the spec gives for two cells, shows the cell itself (DESIGN
CHOICE, log entry 17). -/
def State.testInPlace (c : Nat) (s : State) : State :=
  let s := s.retrim c (fun x => { x with
    svc := .underTest, server := c, tkoActive := true, tkoStep := 5, tkoPeer := c, active := [], shadow := [], inUse := none, noz := []
    waves := [], tsets := [], servo := [], det := [], badNoz := [], nozNext := [], nozPend := [], saved := none, refill := none })
  (s.eraseBank c).emptyData c [] []

/-- SELFTEST_TICK (R266): the test of the next cell starts: in place where its lane is IDLE, else over a free spare. A quadrant whose
free spares have no passed test yet tests a spare (log entry 17). -/
def selftestTick (q : Nat) (s : State) : State :=
  if !(s.imageRuns && s.on (dLS q)) || !(s.getTest q).on || s.sparesUsed q || (s.getTest q).cell.isSome then s
  else match s.nextTested q with
    | none => s
    | some c =>
      let next := 64 * q + (c - 64 * q + 1) % 64
      if (s.getLane (s.laneOf c)).st = .idle then (s.testInPlace c).updTest q (fun t => { t with next := next, cell := some c })
      else match (s.freeSpares q).find? (fun k => !s.held (.cell k)) with
        | some k => (s.beginTakeover c k).updTest q (fun t => { t with next := next, cell := some c })
        | none => match s.leastTested q with
          | none => s
          | some k => s.testSpare q k

/-- The result of a self-test in CELL_BIST and CELL_EVT (R266). -/
def State.bistResult (c : Nat) (pass : Bool) (s : State) : State :=
  let s := s.updCell c (fun x => { x with
    bistV := true, bistP := pass, bistRuns := satInc x.bistRuns, bistFails := if pass then x.bistFails else satInc x.bistFails })
  (s.cellEvt c (if pass then evBistPass else evBistFail)).raise 347

/-- The images of a refill are those that the lane has committed and patched, in order, and each one checks (R261). -/
def refillOk (x : Lane) (imgs : List Image) : Bool :=
  let want := x.image.toList ++ x.patches
  decide (imgs.length = want.length) && (imgs.zip want).all (fun e => e.1.crcOk && decide (e.1.crc = e.2.crc))
/-- Nozzle entries and waveforms of cell c as the images leave them (R261). -/
def refillTables (c : Nat) (imgs : List Image) : Tab W32 × Tab Wave :=
  (imgs.flatMap (fun i => i.sections.filter (fun x => decide (x.cell = c)))).foldl
    (fun t sec => (sec.noz.foldl (fun n e => tabPut (fun _ => 0) n e.1 e.2) t.1, sectionWaves true t.2 sec)) ([], [])
/-- Temperature set n of a cell is refilled; one that does not check is left with VALID = 0 (R393). -/
def State.refillSet (c n : Nat) (v : TempSet × Bool) (s : State) : State :=
  if v.2 && tsetOk v.1 then s.updCell c (fun x => { x with tsets := tabPut tsetReset x.tsets n v.1 })
  else (s.updCell c (fun x => { x with tsets := tabPut tsetReset x.tsets n (tsetReset n) })).fault 4 1 c 0 false

/-- The refill of one cell ends when nothing is left to be read (R255, R266): in a self-test the cell returns. -/
def State.refillEnds (c : Nat) (s : State) : State :=
  match (s.getCell c).refill with
  | none => s
  | some r =>
    if r.image || !r.sets.isEmpty then s
    else if !r.test then (s.updCell c (fun x => { x with refill := none, erased := x.erased || r.failed })).endCond 3 (s.serverOf c)
    else if (s.getCell c).server ≠ c then s.beginReturn c
    else
      (s.updCell c (fun x => { x with
        svc := .inService, tkoActive := false, tkoStep := 0, refill := none, erased := x.erased || r.failed })).endTest (quadrantOf c)
/-- The images of the refill of cell c have been read: entries that were uncorrectable and the waveforms are written again (R255). While a spare
does the cell's work, the images are only checked: the return copies the live tables (R266). -/
def State.refillImages (c : Nat) (imgs : List Image) (s : State) : State :=
  match (s.getCell c).refill with
  | none => s
  | some r =>
    let ok := refillOk (s.getLane (s.laneOf c)) imgs
    let s := s.updCell c (fun x => { x with refill := some { r with image := false, failed := r.failed || !ok } })
    if r.test || !ok then s
    else
      let t := refillTables c imgs
      let bad := (s.getCell c).badNoz
      let s := bad.foldl (fun s n => s.updNozzle c n (fun x => { x with
        noz := tabPut (fun _ => 0) x.noz n (tabGet (fun _ => 0) t.1 n), badNoz := x.badNoz.filter (fun i => decide (i ≠ n)) })) s
      s.updCell c (fun x => { x with waves := t.2 })
/-- A read of the refill of cell c has brought its data, none where it failed (R534): the images first, then one buffer for each set. -/
def State.refillRead (c : Nat) (data : List (List Byte)) (s : State) : State :=
  match (s.getCell c).refill with
  | none => s
  | some r =>
    if r.image then (s.refillImages c (data.map imageFrom)).refillEnds c
    else match r.sets with
      | [] => s
      | n :: rest =>
        let mine := ((s.setsFrom (s.laneOf c) data.flatten).find? (fun e => decide (e.1 = c))).map (·.2)
        let s := match mine with | none => s | some v => s.refillSet c n v
        (s.updCell c (fun x => { x with refill := some { r with sets := rest } })).refillEnds c
/-- Tests of a cell are over: Thinis refills its tables (part 3 of R266), and the cell returns. -/
def State.testRefill (c : Nat) (s : State) : State :=
  let lane := s.getLane (s.laneOf c)
  let s := s.updCell c (fun x => { x with tkoStep := 6 })
  (s.beginRefill c lane.image.isSome true (lane.tsRefs.map (·.1))).refillEnds c

/-- Spare k is to stand in for retired cell c, which holds nothing that could be copied: the swap is armed (R263 step 5). -/
def State.standInFor (c k : Nat) (s : State) : State :=
  let s := s.updCell c (fun x => { x with tkoActive := true, tkoStep := 4, tkoPeer := k })
  let s := (s.updCell k (fun y => { y with svc := .copying, server := c, tkoPeer := c })).settleClocks
  if s.swapFits c k then s.swapLinks c else s
/-- SELFTEST_DONE (R266, R267): the cell is refilled and returned, or retired; a spare is FREE again, or retired. For a cell that fails a test in
place, the lowest spare that is free stands in with no copy, as soon as its clock and supply fit beside its new neighbours (R64, R65; DESIGN
CHOICE, log entry 17). The condition of a retired cell's fault does not end (R267, R496; DEDUCED, log entry 47). -/
def selftestDone (c : Nat) (pass : Bool) (s : State) : State :=
  let q := quadrantOf c
  let x := s.getCell c
  if (s.getTest q).cell ≠ some c ∨ x.tkoStep ≠ 5 ∨ !s.on (dLS q) then s
  else
    let s := s.bistResult c pass
    if 256 ≤ c then
      let s := s.updCell c (fun y => { y with svc := if pass then .free else .spareRetired, tkoActive := false, tkoStep := 0 })
      let s := (s.updTest q (fun t => { t with cell := none })).settleSpares
      let s := if pass then s else s.fault 17 1 c 0 true
      (if pass then s else s.sparesOut q).serveWaiting q
    else if pass then s.testRefill c
    else
      let k := (s.freeSpares q).head?
      let s := s.updCell c (fun y => { y with svc := .retired, tkoActive := false, tkoStep := 0 })
      let s := (s.updTest q (fun t => { t with cell := none })).fault 17 1 c 0 true
      let s := match k with
        | some k => if x.server = c then s.standInFor c k else s
        | none => s
      s.sparesOut q

/-! ### Row repair (R219, R221) -/

/-- The self-test of active cell t is abandoned, neither passed nor failed (R268): a cell that its spare serves returns at once; a takeover that
is still copying ends, and its spare is FREE; a return goes on. -/
def State.abandonTest (t : Nat) (s : State) : State :=
  let x := s.getCell t
  let q := quadrantOf t
  let s := s.updCell t (fun y => { y with refill := none })
  if x.server ≠ t then (if 5 ≤ x.tkoStep.toNat then s.beginReturn t else s)
  else
    let s := s.updCell t (fun y => { y with tkoActive := false, tkoStep := 0 })
    let s := s.updCell x.tkoPeer (fun y => { y with svc := .free, server := x.tkoPeer })
    ((s.updTest q (fun y => { y with cell := none })).settleSpares).serveWaiting q
/-- A failing cell needs a spare (R221, R268): a free one takes it over; one that serves a self-test, or is under test itself, does so once it is
free again. -/
def State.autoTakeover (c : Nat) (s : State) : State :=
  let q := quadrantOf c
  let hold := s.updCell c (fun x => { x with testHold := true })
  match (s.freeSpares q).find? (fun k => !s.held (.cell k)), (s.getTest q).cell with
  | some k, _ => s.beginTakeover c k
  | none, some t =>
    if 256 ≤ t then hold
    else if (s.getCell t).server = t ∧ 5 ≤ (s.getCell t).tkoStep.toNat then s.sparesOut q
    else hold.abandonTest t
  | none, none => s.sparesOut q

/-- ROW_REPAIR (R219, R221): a row of bank b that is due goes to a spare row; a ninth repair leaves it in place and moves the cell. -/
def rowRepair (b row : Nat) (s : State) : State :=
  whenOn (dLS (quadrantOf b)) (fun s =>
    if !(s.getBank b).due.contains row then s
    else match (s.getBank b).freeSpare with
      | some i => s.softRepair b row i
      | none =>
        let s := s.updBank b (fun x => { x with due := x.due.filter (fun r => decide (r ≠ row)) })
        let s := s.fault 2 1 b (BitVec.ofNat 64 row) false
        if b < 256 ∧ (s.getCell b).svc = .inService ∧ !s.held (.cell b) then s.autoTakeover b else s) s

end Sys2Proof.Machine
end

