-- ==== Sys2Proof/Machine/Motors.lean ====
section
/-! DEFINITION. The transport motor engine (chapter 13): set-points and slew (R410-R415), the loop period (R411-R419), starts (R420-R422),
stops (R423-R426), and current-sense calibration (R398, R409). Speeds are in 0.01 Hz. -/

namespace Sys2Proof.Machine

/-! ### Set-points -/

/-- The limits of a Pacer's set-point in the order of PACER_LIMFLGp.SRC (R39, R40, R338). -/
def State.limitsOf (s : State) (p : Nat) : List Nat :=
  let x := s.getPacer p
  [s.cmdOf p, ((s.printLanes p).filter (fun l => decide ((s.getLane l).fmax ≠ 0))).foldl (fun m l => min m (s.getLane l).fmax) 0xFFFFFFFF, x.thr.toNat, x.gov.toNat, x.ceil.toNat, x.data.toNat]
/-- PACER_SETPTp (R40, R138): 0 while no bound lane is in PRINT. -/
def State.setpt (s : State) (p : Nat) : Nat := if (s.printLanes p).isEmpty then 0 else (s.limitsOf p).foldl min 0xFFFFFFFF

/-- The target of a channel before limits, in 0.01 Hz (R410). -/
def State.motorTarget (s : State) (m : Motor) : Int :=
  match m.bound with
  | some p => ((s.setpt p.val : Int) * m.ratio.toInt).tdiv (2 ^ 28)
  | none => m.spdSet.toInt
/-- The speed limit of SLIM (R413): SPDMAX, or f_pwm ÷ 10 if that is lower. -/
def Motor.slimit (m : Motor) : Int := min (10 * m.spdMax.toNat) (750000000 / m.n.toNat)
/-- HANDOFF, BRKSPD and ZSPD in 0.01 Hz. -/
def Motor.handoffF (m : Motor) : Int := 100 * m.handoff.toNat
def Motor.brkF (m : Motor) : Int := 10 * m.brkSpd.toNat
def Motor.zeroF (m : Motor) : Int := 10 * m.zspd.toNat
/-- A speed target with what is too small to run taken as 0 (R412). -/
def Motor.usable (m : Motor) (t : Int) : Int := if 2 * (t.natAbs : Int) < m.handoffF then 0 else t
/-- A bound channel in torque mode whose target is 0 ramps down and stops like any other (R415). -/
def State.torqueRests (s : State) (m : Motor) : Bool := m.bound.isSome && decide (m.usable (s.motorTarget m) = 0)
/-- What the channel is asked to do: 0 at rest. In torque mode the sign of TRQ gives the direction (R420). -/
def State.wanted (s : State) (m : Motor) : Int :=
  if m.ending then 0 else if m.mode = 1 ∧ !s.torqueRests m then m.trq.toInt else m.usable (s.motorTarget m)

/-- The channel turns slower than ZSPD. -/
def Motor.atRest (m : Motor) : Bool := decide ((m.spd.natAbs : Int) < m.zeroF)
/-- The channel is stopped: OFF or BRAKED (R408, R429). -/
def Motor.stopped (m : Motor) : Bool := decide (m.st = .off) || decide (m.st = .braked)

/-- A motor command's running operations for channel n. -/
def motorOp (enable stop cal : Bool) (n : Nat) (o : Op) : Bool :=
  match o.kind with
  | .motorEnable k => enable && decide (k = n)
  | .motorStop k => stop && decide (k = n)
  | .motorCal k => cal && decide (k = n)
  | _ => false

/-! ### Faults and stops -/

/-- A channel whose PWM stops: the next period of PWM begins with no side of a phase on behind it (R107). -/
def Motor.gatesIdle (m : Motor) : Motor := { m with uE := edgesIdle, vE := edgesIdle, wE := edgesIdle }
/-- Entering FAULT (R418, R421, R424, R425): causes 1 start, 2 overrun, 3 brake. -/
def State.motorFault (n : Nat) (cause : BitVec 2) (bitNo : Nat) (hold : Bool) (s : State) : State :=
  let s := s.updMotor n (fun m => { m with
    st := .fault, fcause := cause, faults := satInc m.faults, commit := false, brakeHeld := hold, ending := false, rampStop := false
    starting := false, gap := false, ref := 0, rem := 0, ovrRun := 0, vlim := false, slim := false, clim := false, spent := 0, idRef := 0 }.gatesIdle)
  let s := (s.motorEvt n bitNo).fault 16 1 n 0 true
  s.finishAll (motorOp true true false n) stHwFault 0

/-- A short brake, or gates off where BRKEN is 0 (R423). -/
def Motor.brake (m : Motor) : Motor :=
  { m with st := if m.brken then .braking else .coast, brakeHeld := m.brken, commit := false, gap := false, spent := 0, trqRef := 0, idRef := 0 }.gatesIdle
/-- What the loop writes into the shadow duties (R419, R420): in ALIGN of the compact profile ALIGNLVL ÷ 256 × N on the one pair; else the spec does
not state them beyond their range, and they are free values from 0 to N (log entry 18). -/
def State.loopDuties (n : Nat) (s : State) : State :=
  let m := s.getMotor n
  if !m.profile ∧ m.st = .align then s.updMotor n (fun m => { m with du := BitVec.ofNat 14 (m.alignLvl.toNat * m.n.toNat / 256), dv := 0, dw := 0 })
  else
    let a := s.fresh
    let b := a.2.fresh
    let c := b.2.fresh
    let d := fun (v : W64) => BitVec.ofNat 14 (v.toNat % (m.n.toNat + 1))
    c.2.updMotor n (fun m => { m with du := d a.1, dv := d b.1, dw := d c.1 })
/-- A duty above N is taken as N (R419). -/
def Motor.cut (m : Motor) (d : BitVec 14) : BitVec 14 := if m.n.toNat < d.toNat then m.n else d
/-- The three shadow values load together (R419). -/
def Motor.takeDuties (m : Motor) : Motor := { m with liveU := m.cut m.du, liveV := m.cut m.dv, liveW := m.cut m.dw, commit := false }
/-- The loop begins to drive a channel whose gates were off, with duties of its own (R419, R420). -/
def State.beginDrive (n : Nat) (s : State) : State :=
  (s.loopDuties n).updMotor n (fun m => { m.takeDuties with spent := 0, loopCnt := 0, brakeHeld := false }.gatesIdle)
/-- ALIGN (R420, step 3): the fixed vector, in the full profile a d-axis current of ALIGNLVL × 128. The pair of the compact profile is the first of
the six positions (log entry 18). -/
def State.enterAlign (n : Nat) (s : State) : State :=
  (s.updMotor n (fun m => { m with
    st := .align, starting := false, ref := 0, rem := 0, sector := 0, acc := 0, idRef := if m.profile then 128 * m.alignLvl.toNat else 0 })).beginDrive n
/-- CHECK (R420, step 1): gates off. `fresh` says that a start begins, with no failed attempt behind it (R421). -/
def Motor.enterCheck (m : Motor) (back new : Bool) : Motor :=
  { m with st := .check, brakeHeld := false, back := back, spent := 0, tries := if new then 0 else m.tries }.gatesIdle

/-- The end of a stop (R423): of a MOTOR-STOP, of step 2 of a start, of a reversal, or by target. -/
def State.endStop (n : Nat) (s : State) : State :=
  let m := s.getMotor n
  let s := s.updMotor n (fun m => { m with
    ref := 0, rem := 0, revRef := false, rampStop := false, commit := false, vlim := false, slim := false, clim := false })
  if m.ending then
    let s := s.updMotor n (fun m => { m with st := if m.brken then .braked else .off, brakeHeld := m.brken, ending := false, starting := false, fcause := 0 })
    s.finishAll (motorOp false true false n) stOk 0
  else if m.starting then s.enterAlign n
  else if s.wanted m ≠ 0 then s.updMotor n (fun m => m.enterCheck (decide (s.wanted m < 0)) true)
  else s.updMotor n (fun m => { m with st := .ready, brakeHeld := m.brken })

/-- STOP_COMPLETE (R423): the speed of a channel that brakes or coasts is below ZSPD. -/
def stopComplete (n : Nat) (s : State) : State :=
  whenOn dMOT (fun s =>
    let m := s.getMotor n
    if (m.st = .braking ∨ m.st = .coast) ∧ m.atRest then s.endStop n else s) s

/-- BRAKE_TIMEOUT (R424): a short brake has not come below ZSPD within 5 s. -/
def brakeTimeout (n : Nat) (s : State) : State :=
  whenOn dMOT (fun s =>
    let m := s.getMotor n
    if m.st = .braking ∧ !m.atRest then s.motorFault n 3 2 true else s) s

/-! ### Commands -/

/-- A channel that a command may name (R157, R169): one bound to the Pacer of the target lane. Lane 0 with LANE = 0 may name any (DESIGN CHOICE, log
entry 69: R169 limits lanes 1-15 only). -/
def channelOwn (q : LaneIx) (p : Packet) (s : State) : Bool :=
  let n := pnum p 8 1
  (decide (q.val = 0) && decide (p.lane = 0)) || decide (8 ≤ n) ||
    (match (s.getMotor n).bound with | none => false | some b => decide ((s.getLane p.lane.toNat).pacer = some b.val))

/-- MOTOR_BIND (R157, R168, R410): a channel that is not bound belongs to no lane, and any lane may bind it (log entry 69). -/
def motorBind (q : LaneIx) (p : Packet) (s : State) : State :=
  let n := pnum p 8 1
  let k := pnum p 9 1
  immediate { opcode := 0x0500, lane0 := true, target0 := false, rom := false, early := false, states := none
              fields := fun p s =>
                [⟨8, 1, decide (n < 8) && !(decide (k ≠ 0xFF) && decide ((s.getMotor n).mode = 2))⟩,
                 ⟨9, 1, decide (k < 8) || decide (k = 0xFF)⟩, ⟨12, 4, decide (k = 0xFF) || decide (pnum p 12 4 ≠ 0)⟩]
              own := fun p s => decide (8 ≤ n) || (s.getMotor n).bound.isNone || channelOwn q p s
              busy := fun _ s => !(s.getMotor n).stopped || s.held (.channel n) }
    q p (fun s => (s.updMotor n (fun m => if h : k < 8 then { m with bound := some ⟨k, h⟩, ratio := BitVec.ofNat 32 (pnum p 12 4) }
      else { m with bound := none, ratio := 0 }), stOk, 0)) s

/-- MOTOR_ENABLE (R168, R408, R422): the channel enters READY, and DIRECT in direct mode. -/
def motorEnable (q : LaneIx) (p : Packet) (s : State) : State :=
  let n := pnum p 8 1
  let full := decide (pnum p 9 1 = 1)
  long { opcode := 0x0501, lane0 := false, rom := false, early := false, states := stCP
         fields := fun p s => [fMax p 8 1 7, ⟨9, 1, decide (pnum p 9 1 ≤ 1) && !(!full && decide ((s.getMotor n).mode = 1))⟩]
         own := channelOwn q, busy := fun _ s => !(s.getMotor n).stopped || s.held (.channel n) }
    q p (fun _ => .motorEnable n)
    (fun h s =>
      let m := s.getMotor n
      if full && (m.failA || m.failB || !m.calValid) then s.finish h stHwFault 0
      else
        let s := s.updMotor n (fun m => { m with
          st := if m.mode = 2 then .direct else .ready, profile := full, brakeHeld := false, ref := 0, rem := 0, trqRef := 0, tries := 0
          ending := false, rampStop := false, starting := false, gap := false, revRef := false, ovrRun := 0, spent := 0, loopCnt := 0, idRef := 0 }.gatesIdle)
        if m.mode = 2 ∨ s.wanted (s.getMotor n) = 0 then s.finish h stOk 0 else s) s

/-- MOTOR_STOP (R168, R423, R426): a start in progress is abandoned, and its MOTOR-ENABLE ends with ABORTED (R533); in mode 1 REF ramps from the
measured speed then. -/
def motorStop (q : LaneIx) (p : Packet) (s : State) : State :=
  let n := pnum p 8 1
  let ramp := decide (pnum p 9 1 = 1)
  long { opcode := 0x0502, lane0 := false, rom := false, early := false, states := anyState, fields := fun p _ => [fMax p 8 1 7, fMax p 9 1 1], own := channelOwn q
         busy := fun _ s => s.ops.any (motorOp false true true n) }
    q p (fun _ => .motorStop n)
    (fun h s =>
      let s := s.finishAll (motorOp true false false n) stAborted 0
      let m := s.getMotor n
      if m.stopped || decide (m.st = .cal) then s.finish h stOk 0
      else if ramp && decide (m.st = .run) then s.updMotor n (fun m => { m with ending := true, rampStop := true })
      else if ramp && (decide (m.st = .check) || decide (m.st = .align) || decide (m.st = .ramp)) && decide (m.brkF < (m.spd.natAbs : Int)) then
        (s.updMotor n (fun m => { m with st := .run, ref := m.spd, rem := 0, gap := false, ending := true, rampStop := true })).beginDrive n
      else
        let s := if m.st = .fault then s.endCond 16 n else s
        let s := s.updMotor n (fun m => { m.brake with ending := true })
        if m.atRest then s.endStop n else s) s

/-- MOTOR_CAL (R168, R398, R409): every gate output is low meanwhile. -/
def motorCal (q : LaneIx) (p : Packet) (s : State) : State :=
  let n := pnum p 8 1
  long { opcode := 0x0503, lane0 := false, rom := false, early := false, states := none, fields := fun p _ => [fMax p 8 1 7], own := channelOwn q
         busy := fun _ s => !(s.getMotor n).stopped || s.held (.channel n) }
    q p (fun _ => .motorCal n) (fun _ s => s.updMotor n (fun m => { m with st := .cal, brakeHeld := false })) s

/-- An input's offset, and whether it fails (R398). -/
def calOffset (a : CalInput) : Int := roundDiv a.sum 4096
def calFails (a : CalInput) : Bool := a.stuck || decide (32767 < 16 * (calOffset a).natAbs)

/-- MOTOR_CAL_DONE (R398, R409). -/
def motorCalDone (n : Nat) (a b : CalInput) (s : State) : State :=
  whenOn dMOT (fun s =>
    if (s.getMotor n).st ≠ .cal then s
    else
      let s := s.updMotor n (fun m => { m with
        st := .off, calValid := true, failA := calFails a, failB := calFails b, ofsA := ofInt 16 (calOffset a), ofsB := ofInt 16 (calOffset b) })
      s.finishAll (motorOp false false true n) stOk 0) s

/-! ### Starting (R420, R421) -/

/-- The channel reaches RUN with a reference (R420, R422). -/
def State.motorRuns (n : Nat) (ref : Int) (s : State) : State :=
  let s := s.updMotor n (fun m => { m with st := .run, ref := ref, rem := 0, spent := 0, idRef := 0 })
  s.finishAll (motorOp true false false n) stOk 0

/-- HANDOFF in the direction of the start. -/
def Motor.handoffRef (m : Motor) : Int := if m.back then -m.handoffF else m.handoffF

/-- The open-loop frequency is past HANDOFF ÷ 2, from where the handoff is watched (R420, step 5). -/
def Motor.watched (m : Motor) : Bool := decide (m.handoffF ≤ 2 * (m.ref.natAbs : Int))
/-- The target of a start is gone or points the other way (R427). -/
def State.startLost (s : State) (m : Motor) : Bool := decide (s.wanted m = 0) || decide (decide (s.wanted m < 0) ≠ m.back)
/-- A catch (R420, step 1): RUN at the speed found. The commutation follows the measured crossings, whose position the operands do not carry: it is
a free value (log entry 18). -/
def State.catch_ (n : Nat) (spd : Int) (s : State) : State :=
  let f := s.fresh
  ((f.2.updMotor n (fun m => { m with st := .run, sector := f.1.toNat % 6, acc := 0 })).beginDrive n).motorRuns n spd

/-- MOTOR_START (R420): the start of a READY channel whose target asks for it: the end of CHECK at the speed found, then catch, stop, or ALIGN, which
the loop periods lead on to RAMP; and the handoff of a channel in RAMP. -/
def motorStart (n : Nat) (spd : Int) (handoff : Bool) (s : State) : State :=
  whenOn dMOT (fun s =>
    let m := s.getMotor n
    let want := s.wanted m
    if want = 0 ∨ m.gap then s
    else if m.st = .ready ∨ m.st = .check then
      let back := decide (want < 0)
      let s := s.updMotor n (fun x => { x.enterCheck back (decide (m.st = .ready)) with spd := spd, dir := decide (spd < 0) })
      if (spd.natAbs : Int) < m.zeroF then s.enterAlign n
      else if decide (spd < 0) = back ∧ m.handoffF ≤ (spd.natAbs : Int) then s.catch_ n spd
      else s.updMotor n (fun x => { x.brake with starting := true })
    else if m.st = .ramp ∧ handoff ∧ m.watched ∧ !s.startLost m then s.motorRuns n m.handoffRef
    else s) s

/-- START_ATTEMPT_FAIL (R421): a failed attempt is retried after a gap, or the channel enters FAULT. -/
def startAttemptFail (n : Nat) (s : State) : State :=
  whenOn dMOT (fun s =>
    let m := s.getMotor n
    if m.st = .ramp ∨ m.st = .run then
      let s := s.updMotor n (fun m => { m with starts := satInc m.starts, tries := m.tries + 1 })
      if m.retry.toNat < m.tries + 1 then s.motorFault n 1 1 false
      else s.updMotor n (fun m => { m.enterCheck m.back false with
        ref := 0, rem := 0, gap := true, commit := false, vlim := false, slim := false, clim := false, idRef := 0, trqRef := 0 })
    else s) s

/-- START_RETRY_GAP (R421): the gates have been off for 100 ms; the start begins again. -/
def startRetryGap (n : Nat) (s : State) : State :=
  whenOn dMOT (fun s => if (s.getMotor n).gap then s.updMotor n (fun m => { m with gap := false, spent := 0 }) else s) s

/-! ### The loop period (R411-R419) -/

/-- Setting a limit flag; a rise sets its event bit (R413). -/
def State.limitFlag (n i : Nat) (old new : Bool) (u : Motor → Motor) (s : State) : State :=
  let s := s.updMotor n u
  if new && !old then s.motorEvt n i else s

/-- Moving a reference toward a target by SLEW, with the remainder carried (R411): rate and unit give the step per period. -/
def slewStep (ref tgt : Int) (rem : Int) (rate unit : Nat) : Int × Int :=
  if ref = tgt then (ref, 0)
  else
    let acc := rem + rate
    let d := acc / unit
    if ref < tgt then (if ref + d < tgt then (ref + d, acc % unit) else (tgt, 0))
    else (if tgt < ref - d then (ref - d, acc % unit) else (tgt, 0))

/-- REF of a channel in RUN, BRAKING or COAST (R411-R413, R423): a limit stops it rising; a stop or reversal goes through 0. -/
def State.refMoves (n : Nat) (s : State) : State :=
  let m := s.getMotor n
  let raw := if m.ending ∨ m.mode = 1 then 0 else m.usable (s.motorTarget m)
  let lim := m.slimit
  let slim := decide (lim < (raw.natAbs : Int))
  let tgt := max (-lim) (min lim raw)
  let s := s.limitFlag n 9 m.slim slim (fun m => { m with slim := slim })
  let reversed := decide (tgt * m.ref < 0)
  let tgt := if m.st ≠ .run ∨ reversed then 0 else tgt
  if (m.vlim || m.clim) && decide ((m.ref.natAbs : Int) < tgt.natAbs) then s.updMotor n (fun m => { m with ref := m.spd, rem := 0 })
  else
    let r := slewStep m.ref tgt m.rem (m.slew.toNat * m.n.toNat) 75000000
    let s := s.updMotor n (fun m => { m with ref := r.1, rem := r.2 })
    if m.st = .run && (decide (raw = 0) || reversed) && decide ((r.1.natAbs : Int) ≤ m.brkF) then s.updMotor n Motor.brake else s

/-- The torque current (R414): TRQ at TSLEW, 1/256 of full scale per ms. At the speed cap, SPDMAX or the converted set-point of a bound channel, SLIM
is set and the speed loop reduces the current, by how much the spec does not state: to a free part of it. REF follows the measured speed, from which
a stop ramps down (log entry 18). -/
def State.torqueMoves (n : Nat) (s : State) : State :=
  let m := s.getMotor n
  let top : Int := 10 * m.spdMax.toNat
  let cap := match m.bound with | none => top | some _ => min top ((s.motorTarget m).natAbs : Int)
  let slim := decide (cap ≤ (m.spd.natAbs : Int))
  let s := (s.limitFlag n 9 m.slim slim (fun m => { m with slim := slim })).updMotor n (fun m => { m with ref := m.spd })
  let r := slewStep m.trqRef m.trq.toInt m.rem (m.tslew.toNat * 32767 * m.n.toNat) 19200000
  if slim then
    let f := s.fresh
    f.2.updMotor n (fun m => { m with trqRef := m.trqRef - m.trqRef.sign * (f.1.toNat % (m.trqRef.natAbs + 1) : Nat), rem := 0 })
  else s.updMotor n (fun m => { m with trqRef := r.1, rem := r.2 })

/-- The gate edges of one phase at duty d behind those of the period before, its pulse moved by `shift` (R417): the counter runs from 0 up to n and back,
the high side is on from n - d of the way up to n - d of the way down, and each turn-on waits for the dead time, of which the pads keep at least 20 ns,
3 cycles (R107), across the valley too: the low side comes on a dead time after the high side of the period before fell, and the high side at duty n
a dead time after the low side falls at the reload. A side that the dead time leaves no on-time stays off. -/
def phaseEdges (prev : PwmEdges) (n d dt : Nat) (shift : Int) : PwmEdges :=
  let gap := max dt 3
  let lowOn := if prev.highEnd then gap else prev.highFall + gap - 2 * n
  let up := ((n : Int) - d + shift).toNat
  let down := ((n : Int) + d + shift).toNat
  if d = 0 then { lowOn := lowOn, lowFall := 2 * n, highRise := n, highFall := n, lowRise := 2 * n, highEnd := false }
  else if n ≤ d then { lowOn := 0, lowFall := 0, highRise := if prev.highEnd then 0 else gap, highFall := 2 * n, lowRise := 2 * n, highEnd := true }
  else { lowOn := min lowOn up, lowFall := up, highRise := min (up + gap) down, highFall := down, lowRise := min (down + gap) (2 * n), highEnd := false }
/-- The edges of a phase that floats: neither side is on (R408). -/
def floatingEdges (n : Nat) : PwmEdges := { lowOn := 0, lowFall := 0, highRise := n, highFall := n, lowRise := 2 * n, highEnd := false }

/-- The edge-free interval of at least m cycles between two rising edges of the count-down half, with the middle pulse moved by k (R417): low sides
rise at the duties behind the peak, and the moved pulse's own rise may fall into the half. A duty of 0 or n has no edge. -/
def freeInterval (n m low mid high : Nat) (k : Int) : Option (Int × Int) :=
  let edges : List Int := [(low : Int), (mid : Int) + k, (high : Int)].filter (fun e => decide (0 < e) && decide (e < (n : Int)))
  let every : List Int := edges ++ [k - mid]
  (edges.flatMap (fun a => edges.map (fun b => (a, b)))).find? (fun x =>
    decide ((m : Int) ≤ x.2 - x.1) && every.all (fun e => decide (e ≤ x.1) || decide (x.2 ≤ e)))
/-- The shift of the middle phase that opens the interval (R417): the smallest, at most n - mid either way, none where none does. The shifts that open
it lie between the ones at which an interval is just m long or two edges just meet, so only those need a look. -/
def middleShift (n m low mid high : Nat) : Option Int :=
  let at_ : List Int := [0, (low : Int) + m - mid, (high : Int) + m - mid, (low : Int) - m - mid, (high : Int) - m - mid, (low : Int) - mid, (high : Int) - mid,
              (low : Int) + mid, (high : Int) + mid]
  let open_ := at_.filter (fun k => decide (k.natAbs ≤ n - mid) && (freeInterval n m low mid high k).isSome)
  open_.foldl (fun best k => match best with | none => some k | some b => if k.natAbs < b.natAbs then some k else some b) none
/-- The edge-free window in cycles that a sample of the full profile needs (R417). -/
def Motor.window (m : Motor) : Nat := 225 + 2 * m.dt.toNat
/-- The live duties with the smallest, the middle and the largest. -/
def Motor.sorted (m : Motor) : Nat × Nat × Nat :=
  let u := m.liveU.toNat
  let v := m.liveV.toNat
  let w := m.liveW.toNat
  let low := min u (min v w)
  let high := max u (max v w)
  (low, u + v + w - low - high, high)
/-- The valley itself is edge-free for long enough (R417). -/
def Motor.valleyOpen (m : Motor) : Bool := decide (m.window ≤ 2 * (m.n.toNat - m.sorted.2.2))
/-- The shift of the middle phase in this period (R417): 0 where the window lies at the valley, none where no shift opens it. In direct mode and
in the compact profile no window applies (R419). -/
def Motor.shift (m : Motor) : Option Int :=
  let d := m.sorted
  if !m.profile ∨ m.st = .direct ∨ m.valleyOpen then some 0 else middleShift m.n.toNat m.window d.1 d.2.1 d.2.2
/-- The vector has to be scaled down (R417). -/
def Motor.scaled (m : Motor) : Bool := m.shift.isNone
/-- The sampling instant of the full profile in cycles from the start of the period (R409, R417): the valley, or the centre of the interval that the
shift opens. None in periods in which the loop does not run. -/
def Motor.sampleAt (m : Motor) : Option Nat :=
  let d := m.sorted
  if !m.profile ∨ m.st = .direct ∨ m.loopCnt ≠ 0 then none
  else if m.valleyOpen then some 0
  else match m.shift with
    | none => some 0
    | some k => some (match freeInterval m.n.toNat m.window d.1 d.2.1 d.2.2 k with | none => 0 | some x => m.n.toNat + ((x.1 + x.2) / 2).toNat)
/-- A duty as it is driven: of a vector that is scaled down, every duty in proportion until the valley window is as long as needed (R417; log
entry 18). -/
def Motor.driven (m : Motor) (d : BitVec 14) : Nat :=
  if m.scaled then d.toNat * (m.n.toNat - ceilDiv m.window 2) / m.sorted.2.2 else d.toNat
/-- The phases that a six-step position drives high and low, of U, V and W (R408); the third floats. -/
def sixStep (sector : Nat) : Nat × Nat :=
  match sector with
  | 0 => (0, 1)
  | 1 => (0, 2)
  | 2 => (1, 2)
  | 3 => (1, 0)
  | 4 => (2, 0)
  | _ => (2, 1)
/-- The next six-step position in the direction of travel (R408). -/
def Motor.commutate (m : Motor) (back : Bool) : Motor := { m with sector := (m.sector + if back then 5 else 1) % 6 }
/-- The edges of phase x (0 U, 1 V, 2 W) at its live duty, behind those of the period before (R408, R417). -/
def Motor.phase (m : Motor) (x : Nat) (prev : PwmEdges) (d : BitVec 14) (mid : Bool) : PwmEdges :=
  if m.profile ∨ m.st = .direct then phaseEdges prev m.n.toNat (m.driven d) m.dt.toNat (if mid then m.shift.getD 0 else 0)
  else if x = (sixStep m.sector).1 then phaseEdges prev m.n.toNat d.toNat m.dt.toNat 0
  else if x = (sixStep m.sector).2 then phaseEdges prev m.n.toNat 0 m.dt.toNat 0
  else floatingEdges m.n.toNat
/-- The edges of a channel's three phases in the period that begins (R417). -/
def Motor.edges (m : Motor) : PwmEdges × PwmEdges × PwmEdges :=
  let uMid := decide (m.liveU.toNat = m.sorted.2.1)
  let vMid := !uMid && decide (m.liveV.toNat = m.sorted.2.1)
  (m.phase 0 m.uE m.liveU uMid, m.phase 1 m.vE m.liveV vMid, m.phase 2 m.wE m.liveW (!uMid && !vMid))
/-- The gates of channel n follow its live duties (R417). -/
def State.driveGates (n : Nat) (s : State) : State :=
  let m := s.getMotor n
  let e := m.edges
  (s.updMotor n (fun m => { m with uE := e.1, vE := e.2.1, wE := e.2.2 })).send (.pwm n e.1 e.2.1 e.2.2 m.sampleAt)

/-- The loop runs in this period (R417): in every LOOPDIV-th. -/
def Motor.loops (m : Motor) : Bool := decide (m.loopCnt = 0)
/-- The limits of R413 hold the speed-loop integrator; else it goes on, by an amount that the spec does not state (log entry 18). -/
def State.integrate (n : Nat) (s : State) : State :=
  let m := s.getMotor n
  if m.st ≠ .run ∨ m.vlim ∨ m.clim then s
  else
    let f := s.fresh
    f.2.updMotor n (fun m => { m with integ := f.1 })
/-- The valley of a period (R419): in direct mode a pending commit loads all three duties; a driving loop's shadow values load, and it writes the next
ones where it runs in this period. -/
def State.reload (n : Nat) (s : State) : State :=
  let m := s.getMotor n
  if m.st = .direct then (if m.commit then s.updMotor n Motor.takeDuties else s)
  else if m.st = .align ∨ m.st = .ramp ∨ m.st = .run then
    let s := s.updMotor n Motor.takeDuties
    if m.loops then (s.integrate n).loopDuties n else s
  else s

/-- Overruns (R418): the vector is held, and the third in a row is a fault of the channel. A period in which the loop does not run has none. -/
def State.overruns (n : Nat) (over_ : Bool) (s : State) : State :=
  let m := s.getMotor n
  if !m.loops then s
  else if !over_ then s.updMotor n (fun m => { m with ovrRun := 0 })
  else
    let s := s.updMotor n (fun m => { m with ovr := satInc m.ovr, ovrRun := m.ovrRun + 1 })
    if 3 ≤ m.ovrRun + 1 then s.motorFault n 2 0 m.brken else s
/-- The end of a period of a channel whose loop runs (R418, R419): an overrun holds the vector, and the gates of a driven channel follow it. -/
def State.periodEnds (n : Nat) (meas : MotorMeas) (s : State) : State :=
  let held := meas.overrun && (s.getMotor n).loops
  let s := s.overruns n meas.overrun
  let s := if held then s else s.reload n
  let st := (s.getMotor n).st
  if st = .align ∨ st = .ramp ∨ st = .run then s.driveGates n else s

/-- A start goes on (R420), or is abandoned where its target is lost (R427): ALIGN lasts ALIGNT ms; the open-loop frequency rises to HANDOFF, its
angle moving the six-step position on, and the handoff is watched from half of it. -/
def State.startMoves (n : Nat) (meas : MotorMeas) (s : State) : State :=
  let m := s.getMotor n
  if s.startLost m then s.updMotor n (fun m => { m.brake with ref := 0, rem := 0, tries := 0 })
  else if m.st = .align ∧ 150000 * m.alignT.toNat ≤ m.spent then
    s.updMotor n (fun m => { m with st := .ramp, ref := 0, rem := 0, spent := 0, acc := 0, idRef := 0 })
  else if m.st = .ramp then
    let r := slewStep m.ref m.handoffRef m.rem (m.handoff.toNat * 10000 * m.n.toNat) (75000000 * m.rampT.toNat)
    let turned := m.acc + r.1.natAbs * m.n.toNat
    let s := s.updMotor n (fun m => { m with ref := r.1, rem := r.2, acc := turned % 1250000000 })
    let s := if 1250000000 ≤ turned then s.updMotor n (fun m => m.commutate m.back) else s
    if meas.handoff && (s.getMotor n).watched then s.motorRuns n m.handoffRef else s
  else s
/-- A stop that belongs to a start is a stop of its own once the target of the start is lost (R427). -/
def State.startStops (n : Nat) (s : State) : State :=
  let m := s.getMotor n
  if m.starting && s.startLost m then s.updMotor n (fun m => { m with starting := false, tries := 0 }) else s

/-- What a period measures (R408, R409, R417, R431): the speed, in the full profile the loop samples less the inputs' offsets, and in RUN of the
compact profile the crossings that commutate. -/
def Motor.measured (meas : MotorMeas) (m : Motor) : Motor :=
  let cnt := if 2 ^ m.loopDiv.toNat ≤ m.loopCnt + 1 then 0 else m.loopCnt + 1
  let sample := m.profile && decide (cnt = 0)
  let m := { m with
    spd := meas.spd, dir := decide (meas.spd < 0), spent := m.spent + 2 * m.n.toNat, loopCnt := cnt
    sampA := if sample then meas.isa.toInt - m.ofsA.toInt else m.sampA, sampB := if sample then meas.isb.toInt - m.ofsB.toInt else m.sampB }
  if !m.profile && decide (m.st = .run) && meas.cross then m.commutate m.dir else m
/-- VLIM and CLIM, which the loop finds where it runs (R413, R417). -/
def State.loopLimits (n : Nat) (meas : MotorMeas) (s : State) : State :=
  let m := s.getMotor n
  if !m.loops then s
  else
    let vlim := meas.vlim || (decide (m.st = .run) && m.scaled)
    let s := s.limitFlag n 8 m.vlim vlim (fun m => { m with vlim := vlim })
    let clim := m.profile && meas.clim
    s.limitFlag n 10 m.clim clim (fun m => { m with clim := clim })
/-- REVREF (R423): a reversal that a coasting channel without short braking refuses. -/
def State.reversalRefused (n : Nat) (s : State) : State :=
  let x := s.getMotor n
  let refused := decide (x.st = .coast) && !x.brken && decide (x.ref = 0) && !x.ending && !x.atRest && decide (s.wanted x * x.spd < 0)
  s.limitFlag n 11 x.revRef refused (fun m => { m with revRef := refused })

/-- LOOP_PERIOD (R411-R420): one PWM period of channel n with what it measures. A READY channel whose target asks for it begins CHECK. -/
def loopPeriod (n : Nat) (meas : MotorMeas) (s : State) : State :=
  whenOn dMOT (fun s =>
    let s := s.updMotor n (Motor.measured meas)
    let m := s.getMotor n
    match m.st with
    | .off | .cal | .braked | .fault => s
    | .ready => if s.wanted m = 0 then s else s.updMotor n (fun m => m.enterCheck (decide (s.wanted m < 0)) true)
    | .direct => (s.reload n).driveGates n
    | .check | .align | .ramp => (s.startMoves n meas).periodEnds n meas
    | .run | .braking | .coast =>
      let s := s.loopLimits n meas
      let s := if m.mode = 1 ∧ m.st = .run ∧ !m.ending ∧ !s.torqueRests m then s.torqueMoves n else s.refMoves n
      ((s.reversalRefused n).startStops n).periodEnds n meas) s

end Sys2Proof.Machine
end

