-- ==== Sys2Proof/Machine/Quality.lean ====
section
/-! DEFINITION. Drop quality (chapter 12): the photo-finish gates (R375-R379), SPIT-TEST, SERVO-CTL and NOZZLE-MARK (R380, R385, R254), test
outcomes with the velocity servo and missing-nozzle detection (R386-R389), and the temperature sets and flight times that follow them
(R394, R395). -/

namespace Sys2Proof.Machine

/-! ### Gates -/

/-- GLB_GATESELg written by the physical function (R375, R404). -/
def State.selectGate (g : Nat) (v : W32) (s : State) : State :=
  let x := s.getGate g
  if x.st = .cal ∨ x.st = .test then s
  else
    let s := if bit v 31 then s.updGate g (fun x => { x with refused := false }) else s
    let owner := (fld v 16 6).toNat
    let serve := fld v 0 16
    let quadrant := 16 * (g / 4)
    let twice := (List.range 16).any (fun h => decide (h ≠ g ∧ h / 4 = g / 4) && decide ((s.getGate h).serve &&& serve ≠ 0))
    if ¬ (quadrant ≤ owner ∧ owner < quadrant + 16) ∨ twice then s.updGate g (fun x => { x with refused := true })
    else
      let s := s.updGate g (fun x => { x with owner := fld v 16 6, serve := serve })
      let on := s.gateOn g
      let s := s.updGate g (fun x => { x with st := if !on then .unavailable else if x.st = .unavailable then .uncal else x.st })
      forAll (s.servedCells g) (fun s c => s.updCell c (fun y => { y with noGate := false })) s

/-- RECAL written as 1 (R379): refused while a lane that owns a served quad prints, and without effect in CAL and TEST. -/
def State.recalGate (g : Nat) (s : State) : State :=
  let x := s.getGate g
  if (s.servedCells g).any (fun c => decide ((s.getLane (s.laneOf c)).st = .print)) then s.updGate g (fun x => { x with recalRef := true })
  else if x.st = .idle ∨ x.st = .uncal ∨ x.st = .blocked then s.updGate g (Gate.beginCal s.now)
  else s

/-- A pulse in idle calibration (R379): what of it lies in the 32 ms counts as high time; one that falls in them is counted and sorted by width. -/
def Gate.calPulse (rise fall : Tick) (x : Gate) : Gate :=
  if x.st ≠ .cal then x
  else
    let end_ := x.calFrom + calTicks
    let x := { x with high := x.high + (min fall end_ - rise) }
    if end_ < fall then x
    else { x with idle := satInc x.idle, maxBin := some (max (x.maxBin.getD 0) (min 63 ((fall - rise) / 6))) }
/-- GATE_PULSE (R377, R379, R386, R389): a pulse with its two stamps, brought at its rise (DESIGN CHOICE, log entry 81). A gate that does not run sees
only that its input is high. -/
def gatePulse (g : Nat) (rise fall : Tick) (s : State) : State :=
  if rise ≤ fall ∧ s.gateOn g ∧ (s.getGate g).st ≠ .unavailable then
    let s := s.at_ rise
    let w := fall - rise
    s.updGate g (fun x =>
      let x := { x.calPulse rise fall with highTo := fall }
      if 4095 < w then
        { x with blk := satInc x.blk, open_ := x.open_.map (fun t =>
            if t.lo ≤ (rise : Int) ∧ (rise : Int) ≤ t.hi then { t with skip := true } else t) }
      else if x.minw.toNat ≤ w then
        let stamp := (rise + fall) / 2
        { x with open_ := x.open_.map (fun t =>
            if t.cross.isNone ∧ t.lo ≤ (stamp : Int) ∧ (stamp : Int) ≤ t.hi then { t with cross := some stamp } else t) }
      else x)
  else s.updGate g (fun x => { x with highTo := max x.highTo fall })

/-- GATE_CAL_END (R379): 32 ms of idle calibration have passed. A SPIT-TEST that waits for it is served, but not before the quad's own
calibration has ended (R400). -/
def gateCalEnd (g : Nat) (s : State) : State :=
  let x := s.getGate g
  if s.fire && decide (x.st = .cal) then
    let s := s.at_ (x.calFrom + calTicks)
    if 19200000 < x.high ∨ x.maxBin = some 63 then
      (s.updGate g (fun x => { x with st := .blocked, calOk := true, blocked := true })).gateEvt g 4
    else
      let minw := match x.maxBin with | none => 12 | some b => 6 * (b + 2)
      let s := (s.updGate g (fun x => { x with st := .idle, calOk := true, blocked := false, minw := BitVec.ofNat 9 minw })).gateEvt g 3
      if (s.getQuad (s.workQuad (4 * (s.getGate g).owner.toNat))).calib then s.updGate g Gate.served else s
  else s

/-! ### SPIT-TEST, SERVO-CTL, NOZZLE-MARK -/

/-- The cells of a plane of a lane, and the gates that serve them (R533). -/
def State.planeOf (s : State) (lane plane : Nat) : List Nat := s.planeCells lane plane (s.cellsOf lane)
def State.planeGates (s : State) (lane plane : Nat) : List Nat := ((s.planeOf lane plane).filterMap s.gateFor).dedup

/-- Gates that an outstanding SPIT-TEST holds (R533). -/
def State.gatesHeld (s : State) : List Nat :=
  s.ops.flatMap (fun o => match o.kind with | .spitTest plane _ _ => s.planeGates o.target plane | _ => [])

/-- The flight times measured so far in a round of some cells count no more (R390). -/
def State.dropHits (cells : List Nat) (s : State) : State :=
  forAll (cells.flatMap linksOf) (fun s l => s.updLink l (fun k => { k with tfbSum := 0, tfbCnt := 0 })) s
/-- The start of a measured SPIT-TEST (R380, R384): every gate that serves the plane takes its first round. Cells that no gate serves are
left out. -/
def State.startRounds (h : W32) (lane plane pattern rounds : Nat) (s : State) : State :=
  let s := forAll (s.planeOf lane plane) (fun s c => s.updCell c (fun y => { y with noGate := (s.gateFor c).isNone })) s
  let s := forAll (s.planeGates lane plane) (fun s g =>
    let s := s.dropHits (s.planeCells lane plane (s.servedCells g))
    let s := s.updGate g (fun x => { x with spit := some { handle := h, lane := lane, plane := plane, pattern := pattern, left := rounds,
                                                           todo := s.roundNozzles g lane plane } })
    let st := (s.getGate g).st
    if st = .cal ∨ st = .unavailable then s else (s.updGate g Gate.served).settleRounds g) s
  s.spitOver h

/-- The start of a PURGE (R380): each cell of the plane fires `rounds` test lines. -/
def State.startPurge (h : W32) (lane plane rounds : Nat) (s : State) : State :=
  (forAll (s.planeOf lane plane) (fun s c => s.updCell c (fun y => { y with purge := y.purge ++ [(h, rounds)] })) s).purgeOver h

/-- SPIT_TEST (R168, R380, R384, R535). -/
def spitTest (q : LaneIx) (p : Packet) (s : State) : State :=
  let l := p.lane.toNat
  let plane := pnum p 8 1
  let n := pnum p 10 2
  long { opcode := 0x0401, lane0 := false, rom := false, early := false, states := stCP
         fields := fun p _ => [fMax p 8 1 15, fMax p 9 1 2, ⟨10, 2, decide (1 ≤ n ∧ n ≤ 1024)⟩]
         own := fun _ _ => true, bad := fun _ s => decide ((s.getLane l).fmax = 0)
         busy := fun _ s => (s.planeGates l plane).any (fun g =>
           decide ((s.getGate g).st = .test) || (s.getGate g).spit.isSome || s.gatesHeld.contains g) }
    q p (fun _ => .spitTest plane (pnum p 9 1) n)
    (fun h s => if pnum p 9 1 = 2 then s.startPurge h l plane n else s.startRounds h l plane (pnum p 9 1) n) s

/-- Purge lines that a link still has to decide, from line n on. -/
def Link.purgesFrom (k : Link) (n : Int) : Nat := (k.strobes.filter (fun y => y.purge && decide (n ≤ y.n))).length
/-- The SPIT-TEST of a handle whose purge line a strobe of a link is: `owed` are the lines still to be fired, of which those placed on the cell's
second link, `placed` in all, come first. -/
def purgeOwner (owed : List (W32 × Nat)) (placed : Nat) (k : Link) (b : Strobe) : Option W32 :=
  if placed < k.purgesFrom b.n then none else (owed.flatMap (fun t => List.replicate t.2 t.1))[placed - k.purgesFrom b.n]?
/-- A purge of a cell is abandoned (R384): its lines that wait fire nothing. -/
def State.abortPurge (h : W32) (c : Nat) (s : State) : State :=
  let owed := (s.getCell c).purge
  let placed := ((s.getLink (2 * c + 1)).strobes.filter (·.purge)).length
  let s := forAll (linksOf c) (fun s l => s.updLink l (fun k => { k with
    strobes := k.strobes.map (fun b => if b.purge ∧ purgeOwner owed placed k b = some h then b.untest else b) })) s
  s.updCell c (fun y => { y with purge := y.purge.filter (fun t => decide (t.1 ≠ h)) })
/-- A SPIT-TEST is abandoned (R167, R384): tests that are placed are taken back, those in flight are skipped at their close (R389), and what the
round has measured does not count (R390). -/
def State.abortSpit (h : W32) (s : State) : State :=
  let s := forAll (List.range 16) (fun s g => match (s.getGate g).spit with
    | none => s
    | some t => if t.handle ≠ h then s else
        let s := (s.untest ((s.servedCells g).flatMap linksOf) (fun _ b => b.test.isSome)).dropHits (s.planeCells t.lane t.plane (s.servedCells g))
        s.updGate g (fun x => x.skipOpen.leaveTest)) s
  (forAll (s.cells.map (·.1)) (fun s c => s.abortPurge h c) s).finish h stAborted 0

/-- SERVO_CTL (R168, R385, R389, R390). -/
def servoCtl (q : LaneIx) (p : Packet) (s : State) : State :=
  let vt := pnum p 12 4
  let on := decide (pnum p 9 1 = 1)
  immediate { opcode := 0x0404, lane0 := false, rom := false, early := false, states := stCP
              fields := fun p _ => [fMax p 8 1 15, fMax p 9 1 1, ⟨12, 4, if vt = 0 then !on else decide (1000 ≤ vt ∧ vt ≤ 50000)⟩]
              own := fun _ _ => true, busy := fun _ _ => false }
    q p (fun s =>
      let l := p.lane.toNat
      let plane := pnum p 8 1
      let s := s.updLane l (fun x => { x with servos := tabPut servoReset x.servos plane { vt := BitVec.ofNat 16 vt, on := on } })
      let cells := s.planeOf l plane
      let s := if vt = 0 then s.skipTests (fun t => cells.contains (t.noz / 4096)) else s
      (forAll (cells.flatMap linksOf) (fun s i => s.retarget i) s, stOk, 0)) s

/-- NOZZLE_MARK (R168, R254): the entry is posted after the write at the cell's next line boundary (R161). -/
def nozzleMark (q : LaneIx) (p : Packet) (s : State) : State :=
  let z := pnum p 8 4
  command { opcode := 0x0403, lane0 := false, rom := false, early := false, states := stCP
            fields := fun p _ => [fMax p 8 4 1048575, fMax p 12 1 1]
            own := fun p s => decide (1048575 < z) || decide (s.laneOf (z / 4096) = p.lane.toNat), busy := fun _ _ => false }
    q p (fun s => s.updCell (z / 4096) (fun y => { y with
      marks := y.marks ++ [{ noz := z % 4096, clear := decide (pnum p 12 1 = 1), queue := q.val, tag := p.tag }] })) s

/-! ### Test outcomes (R386-R389) -/

/-- SOFS and NOHIT of a nozzle (R254). -/
def Cell.sofs (x : Cell) (n : Nat) : Int := signed 6 (fld (tabGet (fun _ => 0) x.servo n) 0 6).toNat
def Cell.nohitOf (x : Cell) (n : Nat) : Nat := (fld (tabGet (fun _ => 0) x.servo n) 6 2).toNat
/-- A servo byte from its fields. -/
def servoByte (nohit : Nat) (sofs : Int) : Byte := BitVec.ofNat 2 nohit ++ ofInt 6 sofs
def Cell.setServo (n nohit : Nat) (sofs : Int) (x : Cell) : Cell :=
  { x with servo := tabPut (fun _ => 0) x.servo n (servoByte nohit sofs) }

/-- The step of the velocity servo for a drop of velocity v (R387). -/
def servoStep (v : Int) (vt vtol : Nat) : Int :=
  if v * 1000 < vt * (1000 - vtol) then 1 else if vt * (1000 + vtol) < v * 1000 then -1 else 0

/-- A step of `d` is withheld at a limit of SOFS or of the trim (R387). -/
def stepBlocked (amp : Nat) (sofs d : Int) : Bool :=
  decide (sofs + d < -32) || decide (31 < sofs + d) || (decide (0 < d) && decide (63 ≤ amp + sofs)) || (decide (d < 0) && decide (amp + sofs ≤ 0))

/-- A hit moves SOFS of the nozzle by at most one step (R387). -/
def State.servoHit (c n : Nat) (v : Int) (vt : Nat) (s : State) : State :=
  let x := s.getCell c
  let d := servoStep v vt x.vtol.toNat
  if d = 0 then s
  else if stepBlocked (fld (x.entry n) 26 6).toNat (x.sofs n) d then s.updCell c (fun x => { x with svSat := satInc x.svSat })
  else s.updNozzle c n (fun x =>
    let x := x.setServo n (x.nohitOf n) (x.sofs n + d)
    if 0 < d then { x with svUp := satInc x.svUp } else { x with svDown := satInc x.svDown })

/-- Missing-nozzle detection from one outcome on gate g (R388). -/
def State.detect (g c n : Nat) (hit : Bool) (s : State) : State :=
  let x := s.getCell c
  let k := x.nohitOf n
  let count := fun (v : Nat) (s : State) => s.updCell c (fun x => x.setServo n v (x.sofs n))
  if x.det.contains n then
    if !hit then count 0 s
    else if k + 1 < 3 then count (k + 1) s
    else if (s.getGate g).autoClr then
      ((count 0 s).updCell c (fun x => { x with det := x.det.filter (fun i => decide (i ≠ n)) })).gateEvt g 2
    else count 3 s
  else if hit then count 0 s
  else if k + 1 < 3 then count (k + 1) s
  else ((count 0 s).updCell c (fun x => { x with det := n :: x.det, svDets := satInc x.svDets })).gateEvt g 1

/-- An outcome of test t of gate g (R386-R388, R390): a hit with its TFB, or a no-hit. -/
def State.outcome (g : Nat) (t : GTest) (sp : Spit) (vt : Nat) (on : Bool) (s : State) : State :=
  let c := t.noz / 4096
  let n := t.noz % 4096
  let l := t.noz / 2048
  let hit := t.cross.isSome
  let s := s.updGate g (fun x => { x with tests := satInc x.tests, hit := hit, nohit := if hit then x.nohit else satInc x.nohit })
  let s := s.updCell c (fun x => { x with tests := satInc x.tests, nohits := if hit then x.nohits else satInc x.nohits })
  match t.cross with
  | none => s.detect g c n false
  | some st =>
    let x := s.getGate g
    let tfb : Int := (st : Int) - t.tx - x.gdly.toNat
    let shown : BitVec 20 × State := if 0 ≤ tfb ∧ tfb < 1048576 then (ofInt 20 tfb, s) else ((s.fresh.1).setWidth 20, s.fresh.2)
    let s := shown.2.updGate g (fun x => { x with tfb := shown.1 })
    let top := x.hgate.toNat * 1200000
    let v : Int := if tfb = 0 then Config.divByZero top else Int.fdiv top tfb
    let still := !(s.getCell c).det.contains n && !bit ((s.getCell c).entry n) 17
    let s := if decide (sp.pattern = 0) && on && still then s.servoHit c n v vt else s
    let s := if isPrint (s.cfg c) n then s.updLink l (fun k => { k with tfbSum := k.tfbSum + tfb, tfbCnt := k.tfbCnt + 1 }) else s
    s.detect g c n true

/-- TEST_WINDOW_CLOSE (R386, R389): the window of the gate's oldest open test closes. -/
def testWindowClose (g : Nat) (s : State) : State :=
  let x := s.getGate g
  match x.open_ with
  | [] => s
  | t :: rest => if !s.fire then s else
    let s := s.at_ t.hi.toNat
    let s := s.updGate g (fun x => { x with open_ := rest })
    let vt := (s.servoOf (t.noz / 4096)).vt.toNat
    let skip := t.skip || decide (vt = 0) || decide (x.st ≠ .test) || decide ((s.getLink (t.noz / 2048)).st ≠ .up)
    let s := match x.spit, skip with
      | some sp, false => s.outcome g t sp vt (s.servoOf (t.noz / 4096)).on
      | _, _ => s.updGate g (fun x => { x with skip := satInc x.skip })
    s.settleRounds g

/-! ### Temperature sets and flight times -/

/-- T_s of temperature set i in °C (R392). -/
def setTemp (i : Nat) : Int := match i with | 0 => -40 | 1 => 0 | 2 => 25 | 3 => 60 | _ => 100

/-- The interpolation of R394 over the valid sets, T in 1/16 °C. -/
def interpolate (sets : List (Int × Int)) (t : Int) : Int :=
  let below := (sets.filter (fun e => decide (16 * e.1 ≤ t))).getLast?
  let above := sets.find? (fun e => decide (t < 16 * e.1))
  match below, above with
  | some a, some b => a.2 + roundDiv ((b.2 - a.2) * (t - 16 * a.1)) (16 * (b.1 - a.1)).toNat
  | some a, none => a.2
  | none, some b => b.2
  | none, none => 0

/-- The valid sets of a cell, rising, with the value that f takes from each. -/
def Cell.setsOf (x : Cell) (f : TempSet → Int) : List (Int × Int) :=
  (List.range 5).filterMap (fun i =>
    let t := tabGet tsetReset x.tsets i
    if t.valid then some (setTemp i, f t) else none)

/-- The die sensor that covers a quad (R469). -/
def sensorOf (k : Nat) : Nat := if k < 64 then k / 2 else 8 * (k - 64) + 7

/-- Interpolation of one link (R394): held while its head's temperature is stale. -/
def State.interpLink (l : Nat) (s : State) : State :=
  if s.stale l then s
  else
    let x := s.getCell (l / 2)
    let t := (s.getLink l).temp
    s.updLink l (fun k => { k with
      hdly := interpolate (x.setsOf (if l % 2 = 0 then TempSet.hdly0 else TempSet.hdly1)) t
      tfnom := interpolate (x.setsOf (fun v => ((if l % 2 = 0 then v.tf0 else v.tf1 : Nat) : Int))) t })

/-- TEMP_INTERP (R390, R391, R394): a cell's 1 ms interpolation, and the targets of TF that follow. -/
def tempInterp (c : Nat) (s : State) : State :=
  if c < 256 ∧ s.cellOn c then
    let t := (s.getDie (sensorOf (s.workQuad c))).temp
    let s := s.updCell c (fun x => { x with cdly := interpolate (x.setsOf TempSet.cdly) t })
    forAll (linksOf c) (fun s l => (s.interpLink l).retarget l) s
  else s

/-- TF_STEP (R395): while its lane prints, TF of each link of a cell moves by one tick toward its target. -/
def tfStep (c : Nat) (s : State) : State :=
  if c < 256 ∧ s.cellOn c then
    forAll (linksOf c) (fun s l => s.updLink l (fun k => { k with
      tf := if k.tf.toNat < k.tgt.toNat then k.tf + 1 else if k.tgt.toNat < k.tf.toNat then k.tf - 1 else k.tf })) s
  else s

end Sys2Proof.Machine
end

