-- ==== Sys2Proof/Machine/Relay.lean ====
section
/-! DEFINITION. The relay (R436-R442), the delivery of chain frames to the rows of Machine/Chain.lean, HELLO receipt, image blocks (R462),
and the commands of the chain class (R447, R449, R461, R463). -/

namespace Sys2Proof.Machine

/-! ### Errors and forwarding -/

/-- DST names this unit (R437, R439). A unit that has not joined holds the baton of its own chain alone, and relays what another chain sends to its
holder (R447). -/
def State.forUs (s : State) (dst : BitVec 16) : Bool := (decide (dst = 0xFFFE) && s.chainHolder) || decide (dst = s.chn.addr)

/-- A frame with a CRC or code error on port x (R441): GLB_RLYERRx, and the threshold CRCTHR within one second. -/
def State.relayError (inj : Bool) (x : Nat) (s : State) : State :=
  let s := s.updPort x (fun p => { p with err := satInc p.err })
  let run := s.now :: s.chn.crcRun.filter (fun t => decide (s.now < t + 1000 * msTicks))
  if s.chn.crcThr.toNat < run.length then
    ((s.updChn (fun c => { c with crcRun := [] })).raise 319).faultInj inj 15 0 x 0 false
  else s.updChn (fun c => { c with crcRun := run })

/-- Ports on which a frame that arrives on x is forwarded (R439). -/
def State.forwardPorts (s : State) (x : Nat) : List Nat :=
  let open_ := !s.chn.closed
  let all := if s.chn.spur then
      (if x = pW then [pE, pA, pB] else [pW, pE, pA, pB])
    else if x = pW then [pE, pA, pB]
    else if x = pE then (if open_ then [pW, pA, pB] else [])
    else if open_ then [pA, pB, pE, pW] else [pA, pB, pE]
  all.filter (fun y => decide (y ≠ x) && s.portUp y)

/-- The frame as this relay forwards it (R436, R439, R444): HOPS is one lower, INJ names the unit that puts a spur's frame on the ring,
and CORR of a TIME-SYNC grows by ONEWAY of the arrival port and the residence, of which the spec says that it is at most 480 ticks
(R441; a free value, log entry 6). -/
def State.relayed (s : State) (x : Nat) (fr : PrlFrame) : PrlFrame × State :=
  let fr := { fr with hops := fr.hops - 1, inj := if !s.chn.spur && (decide (x = pA) || decide (x = pB)) then s.chn.addr else fr.inj }
  if fr.type = 0x03 then
    let f := s.fresh
    let res := f.1.toNat % 481
    let corr := ofLe (fr.data.drop 8) + 256 * ((s.getPort x).oneway.toNat + res)
    ({ fr with data := fr.data.take 8 ++ leBytes corr 6 }, f.2)
  else (fr, s)

/-- Forwarding a frame (R439, R440, R442): it counts in GLB_RLYFWDx where it leaves the part. A frame whose HOPS reach 0 is discarded. -/
def State.forward (x : Nat) (fr : PrlFrame) (s : State) : State :=
  let ports := s.forwardPorts x
  if ports.isEmpty ∨ fr.hops.toNat ≤ 1 then s
  else
    let r := s.relayed x fr
    (r.2.updPort x (fun p => { p with fwd := p.fwd + 1 })).send (.prl ports r.1.bytes)

/-- A frame whose CRC fails on its way (R441): each outgoing copy ends with an error block, so that no receiver takes it. It does not count as forwarded
(log entry 36). -/
def State.forwardBroken (x : Nat) (fr : PrlFrame) (s : State) : State :=
  let ports := s.forwardPorts x
  let stripped := !s.chn.spur && decide (fr.inj = s.chn.addr) && (decide (x = pE) || decide (x = pW))
  if ports.isEmpty ∨ fr.hops.toNat ≤ 1 ∨ stripped ∨ s.forUs fr.dst then s
  else
    let r := s.relayed x fr
    r.2.send (.prlBroken ports r.1.bytes)

/-! ### Delivery -/

/-- Field of a payload: n bytes from byte `off` (R438). -/
def pay (fr : PrlFrame) (off n : Nat) : Nat := ofLe ((fr.data.drop off).take n)

/-- FW_BLOCK (R462): an image block of the chain fetch in progress arrives; blocks come in rising order of their offset. -/
def fwBlock (off : Nat) (data : List Byte) (s : State) : State :=
  match s.thn.fetch with
  | none => s
  | some (x, n) => if s.fire ∧ off = n then { s with thn := { s.thn with fetch := some (x, n + data.length) } } else s

/-- A frame delivered to this unit acts by its type (R438). -/
def State.deliver (x : Nat) (fr : PrlFrame) (s : State) : State :=
  let n := pay fr
  match fr.type.toNat with
  | 0x03 => prlTimeSync x (some (65535 - fr.hops.toNat)) (BitVec.ofNat 64 (n 0 8)) (BitVec.ofNat 48 (n 8 6)) s.now s
  | 0x04 => probe x { time := BitVec.ofNat 64 (n 0 8), closed := decide (n 8 1 = 1), lead := BitVec.ofNat 16 (n 9 2), guard := BitVec.ofNat 8 (n 11 1)
                      ol := BitVec.ofNat 8 (n 12 1), lmin := BitVec.ofNat 8 (n 13 1), lmax := BitVec.ofNat 8 (n 14 1)
                      rtr := BitVec.ofNat 32 (n 15 4), members := BitVec.ofNat 16 (n 19 2), id := BitVec.ofNat 64 (n 21 8) } s.now s
  | 0x05 => probeReply fr.src { id := BitVec.ofNat 64 (n 0 8), level := BitVec.ofNat 8 (n 8 1), arrival := BitVec.ofNat 64 (n 9 8)
                                residence := BitVec.ofNat 32 (n 17 4), missed := BitVec.ofNat 16 (n 21 2) } s.now s
  | 0x06 => join (BitVec.ofNat 64 (n 0 8)) (BitVec.ofNat 16 (n 8 2)) (BitVec.ofNat 8 (n 10 1)) s
  | 0x07 => joinReply (BitVec.ofNat 64 (n 0 8)) (BitVec.ofNat 16 (n 8 2)) s
  | 0x08 => register fr.src (n 0 6) (decide (n 6 1 = 1)) (BitVec.ofNat 8 (n 7 1)) s
  | 0x09 => prepare (n 0 6) (BitVec.ofNat 8 (n 6 1)) s
  | 0x0A => ack fr.src (n 0 6) (if n 6 1 = 0 then .ready else if n 6 1 = 1 then .none else .notReady) s
  | 0x0B => commitEpoch (n 0 6) s
  | 0x0C => cancelEpoch (n 0 6) (if n 6 1 = 0 then .protocol else if n 6 1 = 1 then .late else .level) s
  | 0x0D => batonReq fr.src (BitVec.ofNat 64 (n 0 8)) s
  | 0x0E => batonMove (BitVec.ofNat 64 (n 0 8)) (n 8 6) s
  | 0x0F => claim (BitVec.ofNat 64 (n 0 8)) s
  | 0x10 => if (s.thn.fetch.map (·.1)) = some x then fwBlock (n 0 4) (fr.data.drop 4) s else s
  | 0x11 => alert s
  | _ => s

/-- HELLO (R433, R435): a HELLO frame on port x; one whose CRC fails is discarded and counted (R441). -/
def hello (x : Nat) (h : Hello) (crcOk : Bool) (s : State) : State :=
  if s.fire && decide ((s.getPort x).st ≠ .down) then 
    (if s.injHits 15 x then (s.relayError true x).injDone else if crcOk then s.hearHello x h else s.relayError false x)
  else s

/-- PRL_FRAME (R436-R442): the bytes of a frame other than HELLO arrive on port x, with or without a code error. A port in training returns a LAT (R435). -/
def prlFrame (x : Nat) (frame : List Byte) (codeOk : Bool) (s : State) : State :=
  let fr := prlFrom frame
  let known := decide (2 ≤ fr.type.toNat ∧ fr.type.toNat ≤ 0x11)
  let good := codeOk && prlOk frame && known
  let lat := decide (fr.type = 0x02)
  if s.fire && decide ((s.getPort x).st = .train) then (if good && lat then s.sendOn [x] .lat else if good then s else s.relayError false x)
  else if !s.fire || !s.portUp x then s
  else if !good then (if known && !lat then s.forwardBroken x fr else s).relayError false x
  else if lat then s
  else if !s.chn.spur && decide (fr.inj = s.chn.addr) && (decide (x = pE) || decide (x = pW)) then
    if fr.type = 0x04 then s.deliver x fr else s
  else if s.chn.heard.contains (fr.src, fr.seq) then s
  else
    let mine := s.forUs fr.dst
    let s := if mine then s else s.forward x fr
    if mine || decide (fr.dst = 0xFFFF) then
      (s.updChn (fun c => { c with heard := ((fr.src, fr.seq) :: c.heard).take 64 })).deliver x fr
    else s

/-! ### Commands of the chain class -/

/-- CHAIN_STATUS (R168). -/
def chainStatus (q : LaneIx) (p : Packet) (s : State) : State :=
  immediate { opcode := 0x0600, lane0 := true, rom := false, early := true, states := none, fields := fun _ _ => [fAny 8 8], own := fun _ _ => true, busy := fun _ _ => false }
    q p (fun s => (s.freeBuf q.val (pnum p 8 8) 1024, stOk, 0)) s

/-- CHAIN_JOIN (R168, R447): the unit listens for a PROBE for 5 ms. -/
def chainJoin (q : LaneIx) (p : Packet) (s : State) : State :=
  let addr := pnum p 8 2
  long { opcode := 0x0601, lane0 := true, rom := false, early := true, states := none, fields := fun p _ => [fMax p 8 2 65534], own := fun _ _ => true
         bad := fun _ s => decide (s.chn.st = .relayOnly), busy := fun _ s => s.held .chain || s.anyPrint }
    q p (fun _ => .chainJoin (BitVec.ofNat 16 addr))
    (fun _ s => s.updChn (fun c => { c with st := .joining, baton := false, probeBack := false, joinAddr := BitVec.ofNat 16 addr, probeAt := s.now })) s

/-- BATON_REQUEST (R168, R449): the holder's own request is OK at once; one while a move is pending has lost. -/
def batonRequest (q : LaneIx) (p : Packet) (s : State) : State :=
  long { opcode := 0x0602, lane0 := true, rom := false, early := true, states := none, fields := fun _ _ => [], own := fun _ _ => true
         bad := fun _ s => decide (s.chn.st = .relayOnly), busy := fun _ s => s.held .chain }
    q p (fun _ => .batonRequest)
    (fun h s =>
      if s.holder then s.finish h stOk 0
      else if s.chn.move.isSome then s.contended
      else s.sendPrl (.batonReq s.unitId)) s

/-- RELAY_ONLY (R168, R463). -/
def relayOnly (q : LaneIx) (p : Packet) (s : State) : State :=
  immediate { opcode := 0x0603, lane0 := true, rom := false, early := true, states := none, fields := fun p _ => [fMax p 8 1 1], own := fun _ _ => true
              busy := fun _ _ => false }
    q p (fun s =>
      (if pnum p 8 1 = 1 then s.enterRelay .command else if s.chn.rcause = .command then s.leaveRelay else s, stOk, 0)) s

/-- The check of R461 as far as this unit can make it: every member known here reports the level, and it is at most OL + 1. -/
def State.levelOk (s : State) (lv : Nat) : Bool :=
  let low := if s.holder then (s.chn.known.map (fun m => m.level.toNat)).foldl min s.ownLevel else s.minLevel
  decide (lv ≤ low) && decide (lv ≤ s.opLevel + 1)

/-- LEVEL_ENABLE (R168, R461): with epoch 0 the level applies to this unit alone, at once. -/
def levelEnable (q : LaneIx) (p : Packet) (s : State) : State :=
  let lv := pnum p 8 1
  let ep := pnum p 16 8
  long { opcode := 0x0604, lane0 := true, rom := false, early := true, states := none, fields := fun p s => [⟨8, 1, decide (lv ≠ 0)⟩, fEpoch p 16 s]
         own := fun _ _ => true, bad := relayBad 16, busy := fun _ s => s.held .chain }
    q p (fun _ => .levelEnable (BitVec.ofNat 8 lv) ep)
    (fun h s =>
      if ep = 0 then
        if s.levelOk lv then (s.setOl (BitVec.ofNat 8 lv)).finish h stOk 0 else s.finish h stLevelMismatch 0
      else
        let ch : Change := { lane := 0, kind := .level (BitVec.ofNat 8 lv), ep := ep, cells := [], handle := h, ready := true
                             prepared := false, committed := false, windows := false }
        ({ s with changes := s.changes ++ [ch] } : State).registerChange ep true (BitVec.ofNat 8 lv)) s

end Sys2Proof.Machine
end

