-- ==== Sys2Proof/Machine/Heat.lean ====
section
/-! DEFINITION. Housekeeping (chapter 15): rounds (R470), levels (R471), the compute ladder (R472, R473, R72), print-rate requests
(R474-R476), zone, quad and device shutdown (R477-R480), and supply monitors (R481). Temperatures are in 1/16 °C. -/

namespace Sys2Proof.Machine

/-! ### Readings (R466-R468) -/

/-- The reading of a broken sensor: 255 °C. -/
abbrev brokenTemp : Int := 4080

/-- A pin's measurement shows that it is broken (R468). -/
def pinBroken (diode : Bool) (m : PinMeas) : Bool :=
  if diode then decide (m.uv < 200000) || decide (900000 < m.uv) || decide (m.duv ≤ 0)
  else decide (2450000 < m.uv) || decide (m.uv < 2000)

/-- The binary digits of log2 of m, 2^62 ≤ m < 2^63 standing for a value from 1 to 2: n of them after the point. -/
def log2Digits : Nat → Nat → Nat → Nat
  | 0, _, acc => acc
  | n + 1, m, acc =>
    let m := m * m / 2 ^ 62
    if 2 ^ 63 ≤ m then log2Digits n (m / 2) (2 * acc + 1) else log2Digits n m (2 * acc)
/-- log2 (a / b) in units of 2^-40. -/
def log2Fix (a b : Nat) : Int :=
  let x := a * 2 ^ 80 / b
  let e := Nat.log2 x
  let m := if 62 ≤ e then x / 2 ^ (e - 62) else x * 2 ^ (62 - e)
  ((e : Int) - 80) * 2 ^ 40 + log2Digits 40 m 0
/-- ln (a / b) in units of 2^-40; ln 2 is 12,786,308,645,202,655,660 / 2^64. -/
def lnFix (a b : Nat) : Int := log2Fix a b * 12786308645202655660 / 2 ^ 64

/-- The temperature of a thermistor in 1/16 °C (R467), to the nearest (DESIGN CHOICE, log entry 75): V in µV, the excitation in µA. -/
def thermistorTemp (uv icur rnom beta : Nat) : Int :=
  let scaled : Int := 2 ^ 40 * beta
  let d : Int := 100 * scaled + 29815 * lnFix uv (icur * rnom)
  if d = 0 then (Config.divByZero uv : Int)
  else
    let n : Int := 10 * 16 * 29815 * scaled - 43704 * d
    if 0 < d then roundDiv n (10 * d.toNat) else roundDiv (-n) (10 * d.natAbs)
/-- The temperature of a remote diode in 1/16 °C (R467), to the nearest (DESIGN CHOICE, log entry 75): ΔV in µV. A value outside the range of IDEAL stands for
16,384. -/
def diodeTemp (duv : Int) (ideal : Nat) : Int :=
  let i : Nat := if 15000 ≤ ideal ∧ ideal ≤ 18000 then ideal else 16384
  roundDiv (16 * 16384 * 50398 * duv - 43704000000 * i) (10000000 * i)
/-- The reading of a pin that is not broken (R467). -/
def Pin.reads (p : Pin) (m : PinMeas) : Int :=
  if p.diode then diodeTemp m.duv p.beta.toNat else thermistorTemp m.uv (if p.icur then 100 else 10) p.rnom.toNat p.beta.toNat

/-- The level of a reading after one round (R471): it stands at the highest level whose threshold it has reached, or that it has not
fallen from. -/
def sensorLevel (thr : List Nat) (hyst : Nat) (old : Nat) (t : Int) : Nat :=
  ((List.range 4).filter (fun (l : Nat) =>
    let w : Nat := (thr[l - 1]?).getD 0
    decide (l = 0) || decide (16 * (w : Int) ≤ t) || (decide (l ≤ old) && decide (16 * ((w : Int) - hyst) ≤ t)))).foldl max 0

def Pin.thr (p : Pin) : List Nat := [p.warn.toNat, p.throt.toNat, p.shut.toNat]
abbrev dieThr : List Nat := [130, 138, 145]

/-- The quads that a die sensor covers (R469). -/
def coveredQuads (d : Nat) : List Nat := [2 * d, 2 * d + 1] ++ (if d % 8 = 7 then [64 + d / 8] else [])
/-- A die sensor of the centre (R469). -/
def isCentre (d : Nat) : Bool := decide (d % 8 = 7)

/-- The pins of a zone that are measured. -/
def State.zonePins (s : State) (k : Nat) : List Nat :=
  (List.range 128).filter (fun n => (s.getPin n).en && decide ((s.getPin n).zone.toNat = k))

/-! ### Shutdown (R477, R478, R480) -/

/-- The handle that a quad's present work would have completed. -/
def jobHandle (j : QuadJob) : Option W32 :=
  match j with
  | .none => none
  | .stopping _ (.cycle h) => h
  | .stopping _ (.reset h) => h
  | .stopping _ .shutdown => none
  | .ramping h | .starting h | .calibrating h | .restoring h _ _ => h

/-- Takeovers of the cells of quad k that have not swapped their links end (R265). -/
def State.endTakeovers (k : Nat) (s : State) : State :=
  forAll ((s.cells.filter (fun e => e.2.tkoActive && decide (1 ≤ e.2.tkoStep.toNat ∧ e.2.tkoStep.toNat ≤ 4) && decide (quadOf e.1 = k)
    && decide (s.serverOf e.1 = e.1))).map (·.1)) (fun s c => s.failTakeover c) s
/-- Quad k is shut down and latched (R477, R478): by a head pin, or by its die sensor. A DOMAIN-CYCLE or DOMAIN-RESET of it under way ends
with HW-FAULT, and so do takeovers of its cells (R265). The tests of its nozzles are skipped (R389). -/
def State.shutQuad (k : Nat) (head : Bool) (s : State) : State :=
  let was := (s.getQuad k).shutdown
  let s := s.updQuad k (fun x => { x with shutdown := true, shead := x.shead || head, sdie := x.sdie || !head })
  if was && (!head || (s.getQuad k).job ≠ .none || !s.on k) then s
  else
    let s := match jobHandle (s.getQuad k).job with | none => s | some h => s.finish h stHwFault 0
    ((s.endTakeovers k).skipTests (fun t => decide (quadOf (t.noz / 4096) = k))).stopQuad k .shutdown

/-- Every domain but those named goes off (R101, R480). -/
def State.shed (keep : List Nat) (s : State) : State :=
  let s := forAll ((List.range 68).filter (fun k => bit s.glb.pwr k)) (fun s k => s.quadOff k) s
  forAll ((List.range 80).filter (fun d => !keep.contains d)) (fun s d => s.setDomain d false) s

/-- The device stop (R480, R495): ALIVE holds, every domain goes off, and the stop cause is written even where it has to wait for a
record under way. A seal in progress is completed. Nothing moves until a cold reset. -/
def State.deviceStop (d : Nat) (s : State) : State :=
  let busy := s.flt.writing.isSome
  let s := if busy then
      let r := s.mkRec 13 d 3 false (s.getSrc 13).pers false (BitVec.ofNat 64 d)
      let t := { s with flt := { s.flt with writing := none } }
      let t := t.fault 13 3 d (BitVec.ofNat 64 d) true
      { t with flt := { t.flt with writing := s.flt.writing, seq := s.flt.seq, stopDue := some r } }
    else s.fault 13 3 d (BitVec.ofNat 64 d) true
  let s := s.shed [dAON, dCHN, dMETA]
  { s with glb := { s.glb with devStop := true }, flt := { s.flt with frozen := !busy } }

/-! ### What levels do (R471) -/

/-- Pin n's new level acts. -/
def State.pinActs (n : Nat) (old new : Nat) (s : State) : State :=
  if old = new then s
  else
    let k := (s.getPin n).zone.toNat
    let detail := ofInt 64 (s.getPin n).temp
    let s := (s.updPin n (fun p => { p with crossed := true })).raise (84 + n)
    if old < new ∧ new = 3 then (s.fault 12 2 n detail true).shutQuad k true
    else if old < new ∧ new = 2 then s.fault 12 1 n detail true
    else if new < 2 ∧ !(s.getQuad k).shead then s.endCond 12 n
    else s

/-- Die sensor d's new level acts. -/
def State.dieActs (d : Nat) (old new : Nat) (s : State) : State :=
  if old = new then s
  else
    let detail := ofInt 64 (s.getDie d).temp
    let s := (s.updDie d (fun x => { x with crossed := true })).raise (212 + d)
    if old < new ∧ new = 3 then
      let s := s.fault 13 2 d detail true
      let s := forAll (coveredQuads d) (fun s k => s.shutQuad k false) s
      if isCentre d then s.deviceStop d else s
    else if old < new ∧ new = 2 then s.fault 13 1 d detail true
    else if new < 2 ∧ !(coveredQuads d).any (fun k => (s.getQuad k).sdie || (s.getQuad k).hotter) then s.endCond 13 d
    else s

/-- A change of BROKEN of a sensor, by its instance of source 14 (R468, R489). -/
def State.brokenActs (inst : Nat) (old new : Bool) (s : State) : State :=
  if new && !old then s.fault 14 1 inst 0 true else if !new then s.endCond 14 inst else s

/-- The cause SENSOR of SVCREQ (R503). -/
def State.settleSensors (s : State) : State :=
  s.setCause 2 ((List.range 128).any (fun n => (s.getPin n).en && (s.getPin n).broken) || (List.range 32).any (fun d => (s.getDie d).broken))

/-- A pin whose EN is 0 at a round end: it stands at no level and is not broken, and its conditions end (R466, R489; DEDUCED, log entry 45). -/
def State.dropPin (n : Nat) (s : State) : State :=
  let s := (s.updPin n (fun p => { p with broken := false, level := 0 })).endCond 14 n
  if (s.getQuad (s.getPin n).zone.toNat).shead then s else s.endCond 12 n

/-- Every enabled pin takes its reading, level and actions (R466-R471). -/
def State.readPins (m : HkMeas) (s : State) : State :=
  let off := (List.range 128).filter (fun n => !(s.getPin n).en && ((s.getPin n).broken || decide ((s.getPin n).level ≠ 0)))
  let s := forAll off (fun s n => s.dropPin n) s
  forAll ((List.range 128).filter (fun n => (s.getPin n).en)) (fun s n =>
    match m.pins.find? (fun e => decide (e.1 = n)) with
    | none => s
    | some (_, v) =>
      let p := s.getPin n
      let bad := pinBroken p.diode v
      let t := if bad then brokenTemp else p.reads v
      let lvl := sensorLevel p.thr p.hyst.toNat p.level.toNat t
      let s := s.updPin n (fun p => { p with temp := t, broken := bad, level := BitVec.ofNat 2 lvl })
      (s.brokenActs n p.broken bad).pinActs n p.level.toNat lvl) s

/-- Every die sensor takes its reading, level and actions (R468-R471). -/
def State.readDie (m : HkMeas) (s : State) : State :=
  forAll (List.range 32) (fun s d =>
    match m.die.find? (fun e => decide (e.1 = d)) with
    | none => s
    | some (_, ok, v) =>
      let x := s.getDie d
      let t := if ok then v else brokenTemp
      let lvl := sensorLevel dieThr s.hk.dhyst.toNat x.level.toNat t
      let s := s.updDie d (fun x => { x with temp := t, broken := !ok, level := BitVec.ofNat 2 lvl })
      (s.brokenActs (128 + d) x.broken (!ok)).dieActs d x.level.toNat lvl) s

/-- HMAX of every zone (R487). -/
def State.readZones (s : State) : State :=
  forAll (List.range 64) (fun s k =>
    let top := (s.zonePins k).foldl (fun m n => max m ((s.getPin n).temp / 16)) 0
    s.updQuad k (fun x => { x with hmax := BitVec.ofNat 8 (min 255 top).toNat })) s

/-! ### The ladder (R72, R473, R486) -/

/-- The covering sensor of quad k stands at THROTTLE or above. -/
def State.quadHot (s : State) (k : Nat) : Bool := decide (2 ≤ (s.getDie (sensorOf k)).level.toNat)
/-- The quads that the ladder moves: powered and calibrated (R486). -/
def State.laddered (s : State) : List Nat := (List.range 68).filter (fun k => bit s.glb.pwr k && (s.getQuad k).calib)

/-- One rung down for quads at THROTTLE, and the start of HOLD for those below it. A quad that the round finds at rung 4 and still at THROTTLE
joins the print-rate class (R473). -/
def State.ladderDown (s : State) : State :=
  let joins := s.laddered.filter (fun k => decide ((s.getQuad k).rung = 4) && s.quadHot k)
  let s := forAll (List.range 68) (fun s k =>
    if (s.getQuad k).joined = joins.contains k then s else s.updQuad k (fun x => { x with joined := joins.contains k })) s
  forAll s.laddered (fun s k =>
    let hot := s.quadHot k
    s.updQuad k (fun x => { x with
      rung := if hot ∧ x.rung.toNat < 4 then x.rung + 1 else x.rung
      coolFrom := if hot then none else some (x.coolFrom.getD s.now) })) s

/-- Temperature differences between neighbouring quads (R72): beyond 45 °C the hotter one is throttled to ÷4. -/
def State.readGaps (s : State) : State :=
  let live := (List.range 68).filter (fun k => bit s.glb.pwr k)
  let t := fun (k : Nat) => (s.getDie (sensorOf k)).temp
  forAll live (fun s k =>
    let far := (s.livePeers k).filter (fun j => decide (720 < (t k - t j).natAbs))
    let hotter := far.any (fun j => decide (t j < t k))
    let was := (s.getQuad k).hotter
    let s := s.updQuad k (fun x => { x with hot := !far.isEmpty, hotter := hotter })
    if hotter && !was then s.fault 13 1 (sensorOf k) (ofInt 64 (t k)) true
    else if was && !hotter && !s.quadHot k then s.endCond 13 (sensorOf k)
    else s) s

/-- LADDER_HOLD (R473): a quad whose sensor has stood below THROTTLE for HOLD goes one rung up. -/
def ladderHold (k : Nat) (s : State) : State :=
  let x := s.getQuad k
  match x.coolFrom with
  | none => s
  | some t =>
    if s.alive && x.calib && decide (x.rung ≠ 0) && !s.quadHot k then
      let s := s.at_ (t + s.hk.hold.toNat * 10 * msTicks)
      (s.updQuad k (fun x => { x with rung := x.rung - 1, coolFrom := some s.now })).settleClocks
    else s

/-! ### Print-rate requests (R474-R476) -/

/-- The zones that feed Pacer p: those of its lanes in PRINT that are not shut down (R474, R482). -/
def State.feedZones (s : State) (p : Nat) : List Nat :=
  ((s.printLanes p).flatMap s.quadsOf).filter (fun k => !(s.getQuad k).shutdown)
/-- A zone has a feeding sensor at THROTTLE: a pin, a head that reports OVERTEMP (R472), or its quad, joined from rung 4
(R473). -/
def State.zoneThrottles (s : State) (k : Nat) : Bool :=
  (s.zonePins k).any (fun n => decide ((s.getPin n).level = 2))
    || (List.range 8).any (fun i => bit (s.getLink (8 * k + i)).hflt 0)
    || (s.getQuad k).joined
def State.throttled (s : State) (p : Nat) : Bool := (s.feedZones p).any s.zoneThrottles

/-- TARGET from a rate (R474, R475). -/
def State.lowered (s : State) (rate : Nat) : BitVec 24 := BitVec.ofNat 24 (min 16777215 (rate * s.hk.trate.toNat / 256))

/-- Requests opened by a round, and the start or end of the release hold of those that stand (R474, R476). -/
def State.readRequests (s : State) : State :=
  forAll (List.range 8) (fun s p =>
    let hot := s.throttled p
    let r := s.getTreq p
    if !r.req then
      if hot then
        let t := s.lowered (s.setpt p)
        (s.updTreq p (fun r => { r with req := true, enf := false, target := t, asked := s.now, due := [(s.now, t)], calmFrom := none })).raise 368
      else s
    else s.updTreq p (fun r => { r with calmFrom := if hot then none else some (r.calmFrom.getD s.now) })) s

/-- GRACE_EXPIRY (R475): the oldest target in its grace is enforced. -/
def graceExpiry (p : Nat) (s : State) : State :=
  let r := s.getTreq p
  match r.due with
  | [] => s
  | (t, v) :: rest =>
    if s.alive && r.req then
      let s := s.at_ (t + s.hk.grace.toNat * msTicks)
      let s := s.updPacer p (fun x => { x with thr := v.setWidth 32 })
      (s.updTreq p (fun r => { r with enf := true, due := rest })).raise 369
    else s

/-- RSTEP_EXPIRY (R475): a sensor still stands at THROTTLE, and the target goes lower. -/
def rstepExpiry (p : Nat) (s : State) : State :=
  let r := s.getTreq p
  if s.alive && r.req && s.throttled p then
    let s := s.at_ (r.asked + s.hk.rstep.toNat * msTicks)
    let t := s.lowered r.target.toNat
    (s.updTreq p (fun r => { r with target := t, asked := s.now, due := r.due ++ [(s.now, t)] })).raise 368
  else s

/-- THROTTLE_RELEASE (R476, R485): HOLD has passed without a feeding sensor at THROTTLE. -/
def throttleRelease (p : Nat) (s : State) : State :=
  let r := s.getTreq p
  match r.calmFrom with
  | none => s
  | some t =>
    if s.alive && r.req && !s.throttled p then
      let s := s.at_ (t + s.hk.hold.toNat * 10 * msTicks)
      let s := s.updPacer p (fun x => { x with thr := 0xFFFFFFFF })
      (s.updTreq p (fun r => { r with req := false, enf := false, due := [], calmFrom := none })).raise 368
    else s

/-! ### Supply monitors (R481) -/

/-- Nominal mV of the rails 81 to 84: 3.3 V, 1.8 V, 0.9 V, 1.2 V. -/
def railNominal (r : Nat) : Nat := match r with | 81 => 3300 | 82 => 1800 | 83 => 900 | _ => 1200
/-- A reading of rail r is out of range. The rail of a domain that is off has no set value. -/
def State.railBad (s : State) (r mv : Nat) : Bool :=
  let set := if r < 68 then 650 + 10 * (s.getQuad r).vact.toNat else 800
  if r < 80 then bit s.glb.pwr r && decide (40 < ((mv : Int) - set).natAbs)
  else if r = 80 then decide (mv < 10800) || decide (13200 < mv)
  else decide (railNominal r < 20 * ((mv : Int) - railNominal r).natAbs)

/-- Rails out of range in two rounds in a row, and conditions that end after two rounds in range (R481, R489). The fault and the event come once,
where the condition begins (log entry 45). An injected reading raises only the fault (R504). -/
def State.readRails (m : HkMeas) (s : State) : State :=
  let read : List (Nat × Nat) := (m.rails ++ [(80, m.vin)]).filter (fun e => decide (e.1 < 85))
  let real := (read.filter (fun e => s.railBad e.1 e.2)).map (·.1)
  let injected := if s.flt.pend && decide (s.flt.hitSrc = 11) then [s.flt.hitInst] else []
  let bad := (real ++ injected).dedup
  let again := bad.filter (fun r => s.hk.lastBad.contains r)
  let twice := again.filter (fun r => !(s.getSrc 11).conds.contains r)
  let over_ := (s.getSrc 11).conds.filter (fun r => !bad.contains r && !s.hk.lastBad.contains r)
  let s := forAll over_ (fun s r => s.endCond 11 r) s
  let s := forAll (again.filter (fun r => real.contains r)) (fun s r => { s with hk := { s.hk with supsts := setBit s.hk.supsts r true } }) s
  let s := forAll twice (fun s r =>
    if real.contains r then
      (s.fault 11 1 r (BitVec.ofNat 64 (((read.find? (fun e => decide (e.1 = r))).map (·.2)).getD 0)) true).raise 350
    else s.faultInj true 11 1 r 0 true) s
  let s : State := { s with hk := { s.hk with lastBad := bad, vin := BitVec.ofNat 16 (min 65535 m.vin) } }
  if injected.isEmpty then s
  else if s.flt.injRound = 0 then { s with flt := { s.flt with injRound := 1 } }
  else { s with flt := { s.flt with pend := false, done := true, injRound := 0 } }

/-! ### Rounds (R470) -/

/-- Fast rounds are in force (R470). -/
def State.fastRounds (s : State) : Bool :=
  !s.glb.hwrdy || s.hk.fast
    || (List.range 128).any (fun n => (s.getPin n).en && decide ((s.getPin n).level ≠ 0)) || (List.range 32).any (fun d => decide ((s.getDie d).level ≠ 0))
    || (List.range 8).any (fun p => (s.getTreq p).req)
    || (List.range 68).any (fun k => bit s.glb.pwr k && decide (s.now < (s.getQuad k).upAt + 1000 * msTicks))

/-- HK_ROUND_START (R470): a round begins, slow or fast. -/
def hkRoundStart (s : State) : State :=
  if s.alive && !s.hk.measuring then
    let fast := s.fastRounds
    { s with hk := { s.hk with measuring := true, fastAct := fast } }
  else s

/-- HK_ROUND_END (R470, R471): the readings, levels and actions of a round take effect together. -/
def hkRoundEnd (m : HkMeas) (s : State) : State :=
  if s.alive && s.hk.measuring then
    let s := s.at_ m.t
    let s : State := { s with hk := { s.hk with measuring := false, rounds := s.hk.rounds + 1 } }
    let s := s.readRails m
    let s := ((s.readPins m).readDie m).settleSensors
    if s.glb.devStop then s
    else (((s.readZones).ladderDown).readGaps).settleClocks.readRequests
  else s

end Sys2Proof.Machine
end

