-- ==== Sys2Proof/Machine/Faults.lean ====
section
/-! DEFINITION. The rows of the fault collector (chapter 16): reports, records, recovery, injection, ALIVE, and the failures of Thinis
cores (R499). -/

namespace Sys2Proof.Machine

/-! ### Thinis cores (R172-R174, R499) -/

/-- THN_A (0) or THN_B (1). -/
def State.core (s : State) (i : Nat) : ThnCore := if i = 0 then s.thn.a else s.thn.b
def State.setCore (i : Nat) (u : ThnCore → ThnCore) (s : State) : State :=
  { s with thn := if i = 0 then { s.thn with a := u s.thn.a } else { s.thn with b := u s.thn.b } }
/-- The other core. -/
def otherCore (i : Nat) : Nat := 1 - i
/-- The core that executes, if one does: the active one, or the boot ROM of THN_A. -/
def State.activeCore (s : State) : Option Nat :=
  [0, 1].find? (fun i => decide ((s.core i).role = .active) || decide ((s.core i).role = .rom))
def State.standbyCore (s : State) : Option Nat := [0, 1].find? (fun i => decide ((s.core i).role = .standby))

/-- A core goes into its warm-Thinis reset: its registers and its image are lost. -/
def ThnCore.warmReset (_ : ThnCore) : ThnCore := { resetCore with role := .reloading }

/-- A change has passed its point of application at some cell. -/
def State.started (s : State) (ch : Change) : Bool :=
  let all := match ch.kind with
    | .patch n => ((s.getLane ch.lane).slot n).elim [] (fun x => x.cells)
    | _ => s.cellsOf ch.lane
  decide (ch.cells.length < all.length)

/-- Long operations that Thinis runs start again from their beginning after an unplanned swap (R173): a commit or patch that has not
begun to be applied reads its images again, and a chain fetch begins at its first block. Every other operation waits for the row that it
waited for. -/
def State.restartOps (s : State) : State :=
  let again := fun (ch : Change) => (match ch.kind with | .commit _ | .patch _ => true | _ => false) && !s.started ch
  let s := (s.changes.filter again).foldl (fun s ch => forAll ch.cells (fun s c => s.restoreCell c) s) s
  { s with
    fuse := { s.fuse with prog := s.fuse.prog.map (fun p => { p with pulses := 0 }) }
    thn := { s.thn with fetch := s.thn.fetch.map (fun e => (e.1, 0)) }
    changes := s.changes.map (fun ch => if again ch then { ch with ready := false } else ch) }

/-- A core has failed (R499): its source is reported; the standby takes over, or source 18 is; the failed core is reset. A planned swap
under way waits for a standby core. -/
def State.coreFails (inj : Bool) (src i : Nat) (s : State) : State :=
  let was := (s.core i).role
  let s := s.faultBy inj src 1 i 0 true
  let s := if src = 9 then (s.raise 349).setRstCause 7 else s
  let s := s.setCore i ThnCore.warmReset
  let s : State := { s with thn := { s.thn with paused := false, fetch := if was = .rom then none else s.thn.fetch } }
  if was = .standby then s.queuesGoOn
  else if (s.core (otherCore i)).role = .standby then
    (((s.setCore (otherCore i) (fun x => { x with role := .active })).restartOps).raise 348).queuesGoOn
  else (s.fault 18 1 0 0 true).setCause 4 true

/-- A core can fail: it executes or stands by, and its clock runs. -/
def State.coreLive (s : State) (i : Nat) : Bool :=
  s.on (dTHNA + i) && (decide ((s.core i).role = .active) || decide ((s.core i).role = .rom) || decide ((s.core i).role = .standby))

/-- WATCHDOG_EXPIRY (R499). -/
def watchdogExpiry (i : Nat) (s : State) : State := if s.coreLive i then s.coreFails false 9 i else s
/-- LOCKSTEP_MISMATCH (R499). -/
def lockstepMismatch (i : Nat) (s : State) : State := if s.coreLive i then s.coreFails false 8 i else s

/-- The core that is being reset and reloaded. -/
def State.reloading (s : State) : Option Nat := [0, 1].find? (fun i => decide ((s.core i).role = .reloading))

/-- STANDBY_RELOAD_DONE (R499): the reset core holds the active core's image and stands by; with no active core it loads none. An
operation of the standby's DOMAIN-RESET ends here, and a planned swap that lost its standby pauses the queues again. -/
def standbyReloadDone (s : State) : State :=
  match s.reloading with
  | none => s
  | some i =>
    let from_ := s.core (otherCore i)
    if !s.on (dTHNA + i) then s
    else
      let s := s.setRstCause 5
      let s := s.finishAll (fun o => match o.kind with
        | .domainReset d _ => decide (d = dTHNA + i) | .domainCycle d _ => decide (d = dTHNA + i) | _ => false) stOk 0
      if from_.role = .active then
        let s := s.setCore i (fun x => { x with role := .standby, image := from_.image })
        let s := (s.endCond 8 i).endCond 9 i
        { s with thn := { s.thn with paused := s.thn.paused || s.thn.swap.isSome } }
      else s.setCore i (fun x => { x with role := .empty })

/-! ### Table memory and service memory (R255, R500, R522) -/

/-- The active cell whose tables lie in cell k's table memory: k itself while it serves its work, or the one that a spare stands in for. -/
def State.tableOf (s : State) (k : Nat) : Option Nat :=
  if k < 256 then (if s.serverOf k = k then some k else none)
  else if (s.getCell k).svc = .standingIn then some (s.getCell k).server else none

/-- Copy i of a set no longer checks. -/
def breakCopy (i : Nat) (set : List StoredCopy) : List StoredCopy :=
  (set.zipIdx).map (fun e => if e.2 = i then { e.1 with intact := false } else e.1)

/-- A ring slot of a line that is loaded at level 0 (R255): every column counts (R246). -/
def RingSlot.blank (cfg : Copy) (x : RingSlot) : RingSlot :=
  { x with drops := [], cols := (zeroedCols cfg (List.range 32)).filter (fun col => !(nozzlesOf cfg col).any x.conc.contains) }
/-- Row buffer j (0, 1) of a contone cell fails (R255), where the even rows lie in buffer 0: both lines of the row that it holds have level 0, also
one that has been screened. -/
def Cell.rowFails (cfg : Copy) (j : Nat) (x : Cell) : Cell :=
  let hit := fun (r : Nat) => decide (r % 2 = j) && x.rows.any (fun y => decide (y.row = r))
  { x with
    rows := x.rows.map (fun y => if y.row % 2 = j then { y with lost := true } else y)
    pipe := x.pipe.map (fun p => if hit (p.m / 2) then { p with levels := [], zeroed := zeroedCols cfg (List.range 32) } else p)
    slots := x.slots.map (fun r => if hit (r.m / 2) then r.blank cfg else r) }

/-- Block i (0-15) of output-ring slot j fails (R255): its 256 nozzles take code 0 in the line that the slot holds, and count as concealed, each once
(R246). -/
def RingSlot.blockFails (cfg : Copy) (i : Nat) (x : RingSlot) : RingSlot :=
  let hit := fun (n : Nat) => decide (n / 256 = i)
  { x with
    drops := x.drops.filter (fun d => !hit d.noz), conc := x.conc.filter (fun n => !hit n) ++ (List.range 256).map (· + 256 * i)
    cols := x.cols.filter (fun col => !(nozzlesOf cfg col).any hit) }

/-- A word of the working state reads as 0 (R255): the values that can lie there are those the spec names (R251, log entry 70). -/
def Cell.workFails (i : Nat) (x : Cell) : Cell :=
  if i < 128 then { x with det := x.det.filter (fun n => decide (n / 32 ≠ i)), detUse := x.detUse.filter (fun n => decide (n / 32 ≠ i)) }
  else if i < 130 then
    let side : Side := if i = 128 then .left else .right
    { x with xin := x.xin.map (fun v => if v.here ∧ v.side = side then { v with err := 0, edge := [] } else v) }
  else if i = 130 then { x with clines := 0 }
  else if i = 131 then { x with conc := 0 }
  else if i = 132 then { x with lmiss := 0, rmiss := 0 }
  else if i = 133 then { x with schLate := 0, schDrop := 0 }
  else if i = 134 then { x with svUp := 0, svDown := 0 }
  else if i = 135 then { x with svSat := 0, svDets := 0 }
  else if i = 136 then { x with tests := 0 }
  else if i = 137 then { x with nohits := 0 }
  else x
/-- A scheduler entry of cell c reads as 0 (R251, R255): the tick, the sub-strobe count and the cuts of its place in a link's list of undecided lines
(log entry 70). -/
def State.entryFails (c i : Nat) (s : State) : State :=
  if 160 ≤ i ∧ i < 224 then
    s.updLink (2 * c + (i - 160) / 32) (fun k => { k with
      strobes := k.strobes.modify ((i - 160) % 32) (fun b => { b with ts1 := 0, k := 1, cuts := [] }) })
  else s

/-- The effect of an uncorrectable word at a byte offset of table memory, by area (R251, R255). Waveforms and temperature sets are rewritten, and
the heads and links keep what they have meanwhile. -/
def Cell.tableFails (cfg : Copy) (off : Nat) (x : Cell) : Cell :=
  if off < 0x1800 then { x with active := breakCopy (off / 0x800) x.active }
  else if off < 0x3000 then { x with shadow := breakCopy ((off - 0x1800) / 0x800) x.shadow }
  else if off < 0x7000 then
    let n := (off - 0x3000) / 4
    { x with badNoz := if x.badNoz.contains n then x.badNoz else n :: x.badNoz }
  else if off < 0x8C00 then x
  else if off < 0xA000 then x.workFails (Config.workingWord off)
  else if off < 0x16000 then
    let j := (off - 0xA000) / 1024
    { x with slots := x.slots.map (fun r => if r.m % 48 = j then r.blockFails cfg ((off - 0xA000) % 1024 / 64) else r) }
  else if off < 0x17000 then x.rowFails cfg ((off - 0x16000) / 2048)
  else if off < 0x18000 then
    let w := (off - 0x17000) / 4
    { x with servo := x.servo.filter (fun e => decide (e.1 / 4 ≠ w)) }
  else x

/-- Thinis rewrites what an uncorrectable word has taken (R255): nozzle entries and waveforms from the committed image, a temperature set from its
last load. -/
def State.rewriteTable (c off : Nat) (s : State) : State :=
  let lane := s.getLane (s.laneOf c)
  if 0x3000 ≤ off ∧ off < 0x7800 then (if lane.image.isSome then s.beginRefill c true false [] else s)
  else if 0x7800 ≤ off ∧ off < 0x8C00 then
    let n := (off - 0x7800) / 1024
    if lane.tsRefs.any (fun e => decide (e.1 = n)) then s.beginRefill c false false [n] else s
  else s
/-- A takeover or return is writing the table memory of cell k: the active cell whose move it is (R263, R264). -/
def State.copiedInto (s : State) (k : Nat) : Option Nat :=
  if 256 ≤ k then (if (s.getCell k).svc = .copying then some (s.getCell k).server else none)
  else if s.serverOf k ≠ k ∧ (s.getCell k).tkoActive ∧ (s.getCell k).tkoStep.toNat ≤ 4 then some k else none
/-- A report of source 3 (R255): the count and CELL_EVT, in the cell whose work the memory holds, and the effect on the area. One in the target of
a copy makes the takeover fail (R265). The condition stands until the area is rewritten. -/
def State.tableUe (k off : Nat) (s : State) : State :=
  let v := (s.tableOf k).getD k
  let s := (s.updCell v (fun x => { x with tblUe := satInc x.tblUe })).cellEvt v evTblUe
  let s := match s.copiedInto k with | none => s | some c => s.failTakeover c
  match s.tableOf k with
  | none => s
  | some c =>
    let s := s.retrim c (Cell.tableFails (s.cfg c) off)
    (if 0x8C00 ≤ off ∧ off < 0xA000 then s.entryFails c (Config.workingWord off) else s).rewriteTable c off

/-- A metering counter lost in both copies (R521, R522): DETAIL names the lane, the plane and whether it is drops, volume or the sequence
number (log entry 20). -/
def State.meterLost (detail : Nat) (s : State) : State :=
  let lane := detail % 16
  let plane := detail / 16 % 16
  match detail / 256 % 4 with
  | 0 => s.updMeter lane (fun m => { m with drops := tabPut (fun _ => 0) m.drops plane 0, lost := true })
  | 1 => s.updMeter lane (fun m => { m with vols := tabPut (fun _ => 0) m.vols plane 0, lost := true })
  | _ => { s with meter := { s.meter with seqLost := true } }

/-! ### Reports (R488-R494) -/

/-- The classes of a source (R489). -/
def classesOf (src : Nat) : List FaultClass :=
  match src with
  | 0 => [.corrected]
  | 2 | 4 | 5 | 7 | 15 => [.corrected, .degraded]
  | 10 => [.deviceCritical]
  | 12 => [.degraded, .zoneStop]
  | 13 => [.degraded, .zoneStop, .deviceCritical]
  | _ => if src ≤ 18 then [.degraded] else []

def classCode (c : FaultClass) : BitVec 2 :=
  match c with
  | .corrected => 0 | .degraded => 1 | .zoneStop => 2 | .deviceCritical => 3

/-- The condition of a report stands after it (R489). -/
def reportStands (src inst : Nat) (cls : FaultClass) (detail : Nat) : Bool :=
  match src with
  | 0 | 1 | 2 | 5 | 17 => false
  | 3 => decide (0x3000 ≤ detail ∧ detail < 0x8C00)
  | 4 => decide (cls = .degraded)
  | 15 => decide (inst = 4) && decide (cls = .degraded)
  | _ => true

/-- FAULT_REPORT (R488-R494): a checker reports; none reports a class that R489 does not give its source. The rows of the owning chapters make their own reports; of the sources without a row the
report also carries the effect: table memory (sources 0 and 3, R255) and service memory (source 5, R500, R522). -/
def faultReport (src : Nat) (cls : FaultClass) (inst : BitVec 16) (detail : W64) (t : Tick) (s : State) : State :=
  if s.alive && (classesOf src).contains cls then
    let s := s.at_ t
    let i := inst.toNat
    let inj := src = 3 && s.injHits 3 i && decide (s.flt.hitAddr = detail.toNat)
    let s := s.faultBy inj src (classCode cls) i detail (reportStands src i cls detail.toNat)
    match src with
    | 0 => if i < 272 then s.updCell ((s.tableOf i).getD i) (fun x => { x with tblCe := satInc x.tblCe }) else s
    | 3 => if i < 272 then s.tableUe i detail.toNat else s
    | 5 =>
      if cls = .degraded then
        (if i = dTHNA ∨ i = dTHNB then
           (if (s.core (i - dTHNA)).role = .active ∨ (s.core (i - dTHNA)).role = .rom then lockstepMismatch (i - dTHNA) s else s)
         else if i = dMETA then s.meterLost detail.toNat else s)
      else s
    | _ => s
  else s

/-! ### Records (R490-R495) -/

/-- RECORD_WRITE_DONE (R491, R492, R495): the record stands in the history, and in the first-error log if it is the first; a FAULT-CLEAR that
came during the write acts; the record of a device stop that waited is written next. -/
def recordWriteDone (s : State) : State :=
  if !s.glb.powered || s.glb.pins then s
  else match s.flt.writing with
  | none => s
  | some (i, r, first) =>
    let f := s.flt
    let f := { f with
      writing := none, hist := tabPut recReset f.hist i r, head := f.head + 1
      first := if f.clearDue then none else if first then some r else f.first
      ovf := if f.clearDue then 0 else f.ovf, clearDue := false }
    let s : State := { s with flt := f }
    match f.stopDue with
    | none => s
    | some r =>
      let s := s.writeRec { r with seq := f.seq, ovf := f.ovf.setWidth 16 } true
      { s with flt := { s.flt with stopDue := none, frozen := true } }

/-- FAULT-CLEAR (R168, R492, R495): after a write in progress, if any. -/
def State.clearFaults (s : State) : State :=
  { s with flt := if s.flt.writing.isSome then { s.flt with clearDue := true } else { s.flt with first := none, ovf := 0 } }

/-! ### Recovery (R496, R497) -/

/-- QUIET_EXPIRY (R496, R497): an outstanding source, none of whose conditions stands, recovers QUIET ms after its last fault or condition. Its
record is written once the collector is idle. -/
def quietExpiry (src : Nat) (s : State) : State :=
  let x := s.getSrc src
  if s.alive && x.out && x.conds.isEmpty && s.flt.writing.isNone then
    (s.at_ (x.quietAt + s.flt.quiet.toNat * msTicks)).recover src
  else s

/-- PERS written 1 (R497, R503): PERSISTENT is cleared, and the recovery times are discarded. -/
def State.clearPers (src : Nat) (s : State) : State :=
  let s := s.updSrc src (fun x => { x with pers := false, times := [] })
  if (List.range 32).any (fun i => (s.getSrc i).pers) then s else s.setCause 1 false

/-! ### ALIVE (R502) -/

/-- ALIVE_TOGGLE (R502): the level changes at each 500 µs mark while no DEVICE-CRITICAL fault is outstanding. -/
def aliveToggle (s : State) : State :=
  if s.alive && !s.glb.failing && !s.outClass 3 then
    let next := s.flt.aliveAt + 600000 * max 1 (ceilDiv (s.now - s.flt.aliveAt) 600000)
    let s := s.at_ next
    { s with flt := { s.flt with alive := !s.flt.alive, aliveAt := next } }
  else s

/-! ### Injection (R504) -/

/-- Sources that can be injected. -/
def injectable : List Nat := [0, 1, 3, 4, 7, 8, 9, 10, 11, 15]

/-- ARM is refused (R504). -/
def State.armRefused (s : State) : Bool :=
  let src := s.flt.injSrc.toNat
  s.flt.pend || !injectable.contains src
    || ((decide (src = 8) || decide (src = 9)) && decide ((s.core (otherCore (s.flt.injInst.toNat % 2))).role ≠ .standby))

/-- ARM, with SRC and INST written (R504): refused, or waiting for its checker, or acting at once. -/
def State.armInject (s : State) : State :=
  if s.armRefused then { s with flt := { s.flt with injRef := true } }
  else
    let src := s.flt.injSrc.toNat
    let inst := s.flt.injInst.toNat
    let addr := s.flt.injAddr.toNat
    let s : State := { s with flt := { s.flt with pend := true, injRound := 0, hitSrc := src, hitInst := inst, hitAddr := addr } }
    match src with
    | 4 =>
      match (if inst < 272 then s.tableOf inst else none) with
      | none => s
      | some c => s.updCell c (fun x => { x with active := breakCopy addr x.active })
    | 8 => if inst < 2 ∧ s.coreLive inst then s.coreFails true 8 inst else s
    | 9 => if inst < 2 ∧ s.coreLive inst then s.coreFails true 9 inst else s
    | 10 =>
      let s := s.faultBy true 10 3 0 0 true
      { s with flt := { s.flt with injUntil := some (s.now + 10 * msTicks) } }
    | _ => s

/-- INJECTION_END (R504): the 10 ms of an injected PLL unlock run out. -/
def injectionEnd (s : State) : State :=
  match s.flt.injUntil with
  | none => s
  | some t =>
    if s.alive then
      let s := (s.at_ t).endCond 10 0
      { s with flt := { s.flt with injUntil := none } }
    else s

end Sys2Proof.Machine
end

