-- ==== Sys2Proof/Machine/Fuses.lean ====
section
/-! DEFINITION. Fuses (R507-R511), the boot epoch (R514, R515), meters and sealed records (R516-R524). -/

namespace Sys2Proof.Machine

/-! ### The OTP array (R507-R511) -/

/-- The words of a region from word w on. -/
def State.fuseWords (s : State) (r w n : Nat) : List W32 := (List.range n).map (fun i => s.getFuse r (w + i))

/-- FUSE_READ (R168, R509). -/
def fuseRead (q : LaneIx) (p : Packet) (s : State) : State :=
  let r := pnum p 8 1
  let w := pnum p 10 2
  let n := pnum p 12 2
  immediate { opcode := 0x0800, lane0 := true, rom := true, early := true, states := none
              fields := fun p _ => [fMax p 8 1 15, fMax p 10 2 127, fMax p 12 2 (128 - w), fAny 16 8]
              own := fun _ _ => true, busy := fun _ _ => false }
    q p (fun s =>
      if bit s.fuse.rl r then (s, stFuseLocked, 0)
      else (s.dma q.val (pnum p 16 8) ((s.fuseWords r w n).flatMap (fun v => leBytes v.toNat 4)), stOk, 0)) s

/-- The programming window (R510): VIN12 within 11.4-12.6 V as HK_VIN shows it, and every die sensor within 0-85 °C. -/
def State.inWindow (s : State) : Bool :=
  decide (11400 ≤ s.hk.vin.toNat ∧ s.hk.vin.toNat ≤ 12600)
    && (List.range 32).all (fun d => decide (0 ≤ (s.getDie d).temp ∧ (s.getDie d).temp ≤ 1360))

/-- Bits that FUSE-PROGRAM may program in a word (R508). -/
def progMask (r w : Nat) : Nat :=
  if r ≤ 4 then 0
  else if r = 5 then (if w = 1 then 0xF else if w = 2 then 3 else 0)
  else 0xFFFFFFFF

/-- The slots whose image runs on the active core (R511). -/
def State.activeSlot (s : State) : Option Nat :=
  (s.activeCore.bind (fun i => (s.core i).image)).map (fun x => x.slot.toNat)

/-- FUSE-PROGRAM and FUSE-LOCK end. -/
def State.endProg (status : BitVec 16) (s : State) : State :=
  match s.fuse.prog with
  | none => s
  | some p => ({ s with fuse := { s.fuse with prog := none } } : State).finish p.handle status 0

/-- The next bit of a program or lock (R510): the command is over after its last bit, and ends with FUSE-WINDOW outside the window. -/
def State.nextBit (s : State) : State :=
  match s.fuse.prog with
  | none => s
  | some p => if p.bits.isEmpty then s.endProg stOk else if s.inWindow then s else s.endProg stFuseWindow

/-- A command's bits begin (R510): the window is checked before the first. -/
def State.startProg (p : Prog) (s : State) : State :=
  let s : State := { s with fuse := { s.fuse with prog := some p } }
  if s.inWindow then s.nextBit else s.endProg stFuseWindow

/-- FUSE_PROGRAM (R168, R508, R510, R511). -/
def fuseProgram (q : LaneIx) (p : Packet) (s : State) : State :=
  let r := pnum p 8 1
  let w := pnum p 10 2
  let v := pnum p 12 4
  long { opcode := 0x0801, lane0 := true, rom := false, early := true, states := none
         fields := fun p s =>
           let key := decide (r = 5 ∧ w = 1) && (match s.activeSlot with | none => false | some k => (BitVec.ofNat 32 v).getLsbD k)
           [fMax p 8 1 15, fMax p 10 2 127, ⟨12, 4, !key⟩]
         own := fun _ _ => true, busy := fun _ s => s.held .fuse }
    q p (fun _ => .fuseProgram) (fun h s =>
      if bit s.fuse.wl r || decide (r ≤ 4) || decide (v &&& progMask r w ≠ v) then s.finish h stFuseLocked 0
      else
        let old := s.getFuse r w
        let bits := (List.range 32).filter (fun i => (BitVec.ofNat 32 v).getLsbD i && !bit old i)
        s.startProg { handle := h, region := r, word := w, bits := bits, pulses := 0, lock := false }) s

/-- FUSE_LOCK (R168, R509): bit 0 is WL and bit 1 RL of the region. -/
def fuseLock (q : LaneIx) (p : Packet) (s : State) : State :=
  let r := pnum p 8 1
  let v := pnum p 9 1
  long { opcode := 0x0802, lane0 := true, rom := false, early := true, states := none
         fields := fun p _ => [fMax p 8 1 15, ⟨9, 1, decide (v < 4) && !decide (r = 0 ∧ 2 ≤ v) && !decide (r = 4 ∧ v % 2 = 1)⟩]
         own := fun _ _ => true, busy := fun _ s => s.held .fuse }
    q p (fun _ => .fuseLock) (fun h s =>
      let bits := [0, 1].filter (fun i => (BitVec.ofNat 8 v).getLsbD i && !(if i = 0 then bit s.fuse.wl r else bit s.fuse.rl r))
      s.startProg { handle := h, region := r, word := 0, bits := bits, pulses := 0, lock := true }) s

/-- One fuse of a program or lock reads v from here on. -/
def State.setProgBit (p : Prog) (b : Nat) (v : Bool) (s : State) : State :=
  if p.lock then
    { s with fuse := { s.fuse with wl := if b = 0 then setBit s.fuse.wl p.region v else s.fuse.wl
                                   rl := if b = 1 then setBit s.fuse.rl p.region v else s.fuse.rl } }
  else s.setFuse p.region p.word (setBit (s.getFuse p.region p.word) b v)

/-- FUSE_PULSE_DONE (R510): the pulse of the first remaining bit has ended, and both reads passed or not. What a bit that fails its third pulse
reads as is not stated: a free value (log entry 6). -/
def fusePulseDone (ok : Bool) (s : State) : State :=
  match s.fuse.prog with
  | none => s
  | some p =>
    if !s.alive || s.thn.paused then s
    else match p.bits with
    | [] => s.nextBit
    | b :: rest =>
      if ok then
        let s := s.setProgBit p b true
        ({ s with fuse := { s.fuse with prog := some { p with bits := rest, pulses := 0 } } } : State).nextBit
      else if p.pulses < 2 then { s with fuse := { s.fuse with prog := some { p with pulses := p.pulses + 1 } } }
      else ((s.fresh.2).setProgBit p b (bit s.fresh.1 0)).endProg stFuseVerify

/-! ### The boot epoch (R514, R515) -/

/-- The boot epoch: the index of the highest programmed bit of region 4. -/
def State.bootEpoch (s : State) : Option Nat :=
  (s.fuse.words.filter (fun e => decide (512 ≤ e.1 ∧ e.1 < 640) && decide (e.2 ≠ 0))).foldl
    (fun m e => some (max (m.getD 0) (32 * (e.1 - 512) + e.2.toNat.log2))) none
/-- The epochs are exhausted (R515). -/
def State.exhaust (s : State) : State :=
  let s : State := { s with fuse := { s.fuse with epochExh := true, epochPend := false, epochBit := none, epochPulses := 0 } }
  (s.raise 374).setCause 3 true

/-- BOOT_EPOCH_PROGRAM (R514): one pulse of the next boot-epoch bit at a slow round within the window. After a third failed pulse the bit above
is taken; its own reading is a free value (log entry 6). -/
def bootEpochProgram (ok : Bool) (s : State) : State :=
  if !(s.alive && s.fuse.epochPend && s.glb.hwrdy && !s.hk.fastAct && s.fuse.prog.isNone && s.inWindow) then s
  else
    let b := s.fuse.epochBit.getD ((s.bootEpoch.map (· + 1)).getD 0)
    let put := fun (v : Bool) (s : State) => s.setFuse 4 (b / 32) (setBit (s.getFuse 4 (b / 32)) (b % 32) v)
    if ok then
      let s := put true s
      { s with fuse := { s.fuse with epochPend := false, epochBit := none, epochPulses := 0 } }
    else if s.fuse.epochPulses < 2 then { s with fuse := { s.fuse with epochBit := some b, epochPulses := s.fuse.epochPulses + 1 } }
    else
      let s := put (bit s.fresh.1 0) s.fresh.2
      if 4095 ≤ b then s.exhaust else { s with fuse := { s.fuse with epochBit := some (b + 1), epochPulses := 0 } }

/-! ### Meters and periods (R516-R522) -/

/-- Drops and volume of the 16 planes, as the PLANES of R518. -/
def planeBytes (drops vols : Nat → W64) : List Byte :=
  (List.range 16).flatMap (fun p => leBytes (drops p).toNat 8 ++ leBytes (vols p).toNat 8)

/-- METER_READ (R168): the layout of PLANES (R518; log entry 21). -/
def meterRead (q : LaneIx) (p : Packet) (s : State) : State :=
  immediate { opcode := 0x0700, lane0 := false, rom := false, early := true, states := anyState, fields := fun _ _ => [fAny 8 8], own := fun _ _ => true
              busy := fun _ _ => false }
    q p (fun s =>
      let m := s.getMeter p.lane.toNat
      (s.dma q.val (pnum p 8 8) (planeBytes (tabGet (fun _ => 0) m.drops) (tabGet (fun _ => 0) m.vols)), stOk, 0)) s

/-- The counters of a lane's open period that are not zero. -/
def MeterLane.planes (m : MeterLane) : List (Nat × W64 × W64) :=
  (List.range 16).filterMap (fun p =>
    let d := tabGet (fun _ => 0) m.drops p
    let v := tabGet (fun _ => 0) m.vols p
    if d = 0 ∧ v = 0 then none else some (p, d, v))

/-- FLAGS of R518 that the period itself decides: CHTIME-STEP, RESTART, COUNTLOST. -/
def MeterLane.periodFlags (m : MeterLane) (step : Bool) : Byte :=
  BitVec.ofNat 8 (2 * b2n (m.chStep || step) + 4 * b2n m.restart + 8 * b2n m.lost)

/-- A lane's open period closes at now, and the next one opens (R517, R520). -/
def State.closePeriod (l : Nat) (h : W32) (wall : W64) (s : State) : State :=
  let m := s.getMeter l
  let tEnd := if s.time.toNat < m.tStart.toNat then m.tStart else s.time
  let c : Closed := { lane := l, handle := h, wall := wall, flags := m.periodFlags (decide (s.time.toNat < m.tStart.toNat))
                      tStart := m.tStart, tEnd := tEnd, planes := m.planes }
  let s := s.updMeter l (fun m => { m with drops := [], vols := [], tStart := tEnd, restart := false, chStep := false, lost := false })
  { s with meter := { s.meter with closed := s.meter.closed ++ [c] } }

/-- PERIOD_CLOSE (R168, R517, R521). -/
def periodClose (q : LaneIx) (p : Packet) (s : State) : State :=
  let l := p.lane.toNat
  long { opcode := 0x0701, lane0 := false, rom := false, early := true, states := stCP, fields := fun _ _ => [fAny 8 8], own := fun _ _ => true
         busy := fun _ s => s.held (.period l) }
    q p (fun _ => .periodClose) (fun h s =>
      if !s.fuse.epochExh && (s.meter.seqLost || decide (2 ^ 48 ≤ s.meter.seqNo + s.meter.closed.length)) then
        (({ s with meter := { s.meter with exh := true } } : State).raise 373).finish h stSealExhausted 0
      else s.closePeriod l h (BitVec.ofNat 64 (pnum p 8 8))) s

/-- Bytes 0-319 of a period record (R518). -/
def recordHead (unit : W64) (r : PRec) : List Byte :=
  let at_ := fun (p : Nat) => (r.planes.find? (fun e => decide (e.1 = p))).map (·.2)
  leBytes unit.toNat 8 ++ [BitVec.ofNat 8 r.lane, r.flags] ++ leBytes 0 6 ++ leBytes r.period.toNat 8 ++ leBytes r.nonce.toNat 8
    ++ leBytes r.tStart.toNat 8 ++ leBytes r.tEnd.toNat 8 ++ leBytes r.wall.toNat 8 ++ leBytes 0 8
    ++ planeBytes (fun p => ((at_ p).map (·.1)).getD 0) (fun p => ((at_ p).map (·.2)).getD 0)
/-- A period record (R518): the MAC with the region-3 key, or zeros when UNSEALED. -/
def State.recordBytes (s : State) (r : PRec) : List Byte :=
  let head := recordHead s.unitId r
  head ++ (if bit r.flags 4 then leBytes 0 32 else hmacSha256 ((s.fuseWords 3 0 8).flatMap (fun w => leBytes w.toNat 4)) head)

/-- SEAL (R519-R521): the oldest closed period gets its record. It waits for the epoch. After a device stop a seal in progress completes
(R480). -/
def sealRecord (s : State) : State :=
  match s.meter.closed with
  | [] => s
  | c :: rest =>
    if !s.glb.powered || s.glb.pins || !bit s.glb.clk dMETA || s.fuse.epochPend then s
    else
      let exh := s.fuse.epochExh
      let m := s.getMeter c.lane
      let late := !m.recs.isEmpty && decide (c.wall.toInt < m.wall.toInt)
      let ep := (s.bootEpoch).getD 0
      let flags := c.flags ||| BitVec.ofNat 8 (b2n late + 16 * b2n exh)
      let r : PRec := { lane := c.lane, flags := flags, period := BitVec.ofNat 64 (ep % 4096 * 2 ^ 48 + (m.count + 1) % 2 ^ 48)
                        nonce := BitVec.ofNat 64 (ep % 4096 * 2 ^ 48 + s.meter.seqNo % 2 ^ 48), tStart := c.tStart, tEnd := c.tEnd
                        wall := c.wall, planes := c.planes }
      let low := s.meter.seqNo % 65536
      let s := s.updMeter c.lane (fun m => { m with
        count := m.count + 1, period := r.period, wall := r.wall, lflags := flags, recs := (r :: m.recs).take 64 })
      let s : State := { s with meter := { s.meter with closed := rest, seqNo := if exh then s.meter.seqNo else s.meter.seqNo + 1 } }
      if !s.alive then s
      else
        let s := s.raiseIf late 375
        ((if exh then s.finish c.handle stSealDisabled 0 else s.finish c.handle stOk low)).raise 372

/-- RECORD_READ (R168, R519). -/
def recordRead (q : LaneIx) (p : Packet) (s : State) : State :=
  immediate { opcode := 0x0702, lane0 := false, rom := false, early := true, states := anyState, fields := fun _ _ => [fAny 8 8, fAny 16 8]
              own := fun _ _ => true, busy := fun _ _ => false }
    q p (fun s =>
      match (s.getMeter p.lane.toNat).recs.find? (fun r => decide (r.period.toNat = pnum p 16 8)) with
      | none => (s, stBadParam, 16)
      | some r => (s.dma q.val (pnum p 8 8) (s.recordBytes r), stOk, 0)) s

end Sys2Proof.Machine
end

