-- ==== Sys2Proof/Machine/Firmware.lean ====
section
/-! DEFINITION. Firmware: FW-LOAD and authentication (R511-R513, R528), chain boot (R512), planned swaps (R172, R462), and FW-INFO. -/

namespace Sys2Proof.Machine

/-- The core that FW-LOAD loads (R512, R513): THN_A while the boot ROM serves, else the one that is not active, in standby or empty. -/
def State.loadTarget (s : State) : Option Nat :=
  match s.activeCore with
  | none => none
  | some i =>
    if (s.core i).role = .rom then some 0
    else
      let j := otherCore i
      if s.on (dTHNA + j) && (decide ((s.core j).role = .standby) || decide ((s.core j).role = .empty)) then some j else none

/-- FW_LOAD (R168, R512, R528): from host memory, or by blocks from the neighbour on the baton path. A chain fetch of the ROM ends. -/
def fwLoad (q : LaneIx) (p : Packet) (s : State) : State :=
  let chain := decide (pnum p 20 1 = 1)
  long { opcode := 0x0A00, lane0 := true, rom := true, early := true, states := none
         fields := fun p _ => [fAny 8 8, if chain then fAny 16 4 else fMax p 16 4 1048576, fMax p 20 1 1], own := fun _ _ => true
         busy := fun _ s => s.held .core || s.loadTarget.isNone }
    q p (fun _ => .fwLoad chain (BitVec.ofNat 64 (pnum p 8 8)) (pnum p 16 4))
    (fun _ s => { s with thn := { s.thn with fwSeen := true, fetch := if chain then some (s.chn.syncPort, 0) else none } }) s

/-- The slot of an image is non-empty and not revoked (R508, R511, R513). -/
def State.slotUsable (s : State) (n : Nat) : Bool :=
  decide (n < 4) && (s.fuseWords 2 (12 * n) 12).any (fun w => decide (w ≠ 0)) && !bit (s.getFuse 5 1) n

/-- The number that n bytes from an offset spell, highest first. -/
def beNumAt (b : List Byte) (off n : Nat) : Nat := ofLe ((b.drop off).take n).reverse
/-- The SHA-384 of PUBKEY is the hash in a key slot, whose bytes lie in its words lowest first (R508, R513; DEDUCED, log entry 22). -/
def State.keyMatches (s : State) (slot : Nat) (img : List Byte) : Bool :=
  decide (sha384 ((img.drop 16).take 97) = (s.fuseWords 2 (12 * slot) 12).flatMap (fun w => leBytes w.toNat 4))
/-- SIG is the signature of the digest of bytes 0-127 and 256 on, under PUBKEY (R513). -/
def signatureOk (img : List Byte) : Bool :=
  decide (byteAt img 16 = 0x04)
    && ecdsaOk (beNumAt img 17 48) (beNumAt img 65 48) (beNumAt (sha384 (img.take 128 ++ img.drop 256)) 0 48) (beNumAt img 128 48) (beNumAt img 176 48)
/-- An image passes the checks of R513, in order; a chain fetch gives no length to compare with (log entry 22). -/
def State.authentic (s : State) (len : Option Nat) (img : List Byte) : Bool :=
  let slot := byteAt img 13
  decide (numAt img 0 4 = 0x5A570F01) && decide (numAt img 4 4 = img.length ∧ img.length ≤ 1048576 ∧ len.getD img.length = img.length)
    && s.slotUsable slot && s.keyMatches slot img && signatureOk img

/-- VERSION, LEVEL and SLOT of an image (R513). -/
def fwInfoOf (img : List Byte) : FwInfo :=
  { version := BitVec.ofNat 32 (numAt img 8 4), level := BitVec.ofNat 8 (byteAt img 12), slot := BitVec.ofNat 8 (byteAt img 13) }

/-- The last byte of an image has arrived in core i (R512, R513): it holds the image, or nothing. An image that the ROM loaded starts as the
active one, and THN_B is loaded from it (R499). -/
def State.imageArrived (i : Nat) (ok : Bool) (x : List Byte) (s : State) : State :=
  let rom := s.romServes
  let s := s.raise 351
  if ok then
    if rom then
      let s := s.setCore 0 (fun c => { c with role := .active, image := some (fwInfoOf x) })
      s.setCore 1 (fun c => { c with role := .reloading, image := none })
    else s.setCore i (fun c => { c with role := .standby, image := some (fwInfoOf x) })
  else if rom then s.setCore 0 (fun c => { c with image := none })
  else s.setCore i (fun c => { c with role := .empty, image := none })

/-- FW_LOAD_DONE (R513, R528): for a running FW-LOAD, or for a chain fetch of the boot ROM, which has no handle. -/
def fwLoadDone (h : W32) (x : List Byte) (s : State) : State :=
  if !s.fire || s.thn.paused then s
  else match (s.running h).map (fun o => o.kind), s.loadTarget with
  | some (OpKind.fwLoad chain _ len), some i =>
    let ok := s.authentic (if chain then none else some len) x
    let s : State := { s with thn := { s.thn with fetch := none } }
    ((s.imageArrived i ok x).finish h (if ok then stOk else stAuthFail) 0).queuesGoOn
  | none, some i =>
    if s.romServes && s.thn.fetch.isSome && !s.ops.any (fun (o : Op) => match o.kind with | .fwLoad .. => true | _ => false) then
      let ok := s.authentic none x
      let s : State := { s with thn := { s.thn with fetch := none, boots := if ok then s.thn.boots else s.thn.boots + 1 } }
      (s.imageArrived i ok x).queuesGoOn
    else s
  | _, _ => s

/-- CHAINBOOT_FETCH (R512, R528): 100 ms after HWRDY, and each 1 s after that, the ROM fetches from the first port that is UP and whose partner
runs an image, or from the one after it for each image that failed authentication. -/
def chainbootFetch (s : State) : State :=
  let chainboot := bit (s.getFuse 5 2) 1
  if s.romServes && s.on dTHNA && s.glb.hwrdy && chainboot && !s.thn.fwSeen && s.thn.fetch.isNone then
    let s := s.at_ s.thn.bootAt
    let s : State := { s with thn := { s.thn with bootAt := s.now + 1000 * msTicks } }
    let ports := [pW, pE, pA, pB].filter (fun x => s.portUp x && decide ((s.getPort x).nlevel ≠ 0))
    match ports[s.thn.boots % ports.length]? with
    | none => s
    | some x => { s with thn := { s.thn with fetch := some (x, 0) } }
  else s

/-! ### Planned swaps (R172) -/

/-- A planned swap starts: every lane pauses. -/
def State.startSwap (h : W32) (s : State) : State := { s with thn := { s.thn with paused := true, swap := some h } }
/-- The image of the standby core. -/
def State.standbyImage (s : State) : Option FwInfo := s.standbyCore.bind (fun i => (s.core i).image)
/-- The image of the active core. -/
def State.activeImage (s : State) : Option FwInfo := s.activeCore.bind (fun i => (s.core i).image)

/-- FW_ACTIVATE (R168, R172, R462). -/
def fwActivate (q : LaneIx) (p : Packet) (s : State) : State :=
  long { opcode := 0x0A01, lane0 := true, rom := false, early := true, states := none, fields := fun _ _ => [], own := fun _ _ => true
         busy := fun _ s => s.held .core, bad := fun _ s => s.standbyImage.isNone }
    q p (fun _ => .fwActivate) (fun h s =>
      match s.standbyImage with
      | none => s
      | some x =>
        if s.chn.st = .member ∧ ¬ spanOk s.minLevel s.maxLevel x.level.toNat then s.finish h stLevelMismatch 0 else s.startSwap h) s

/-- CORE_SWAP (R168, R172, R529): the cores hold the same image. -/
def coreSwap (q : LaneIx) (p : Packet) (s : State) : State :=
  long { opcode := 0x0A02, lane0 := true, rom := false, early := true, states := none, fields := fun _ _ => [], own := fun _ _ => true
         busy := fun _ s => s.held .core, bad := fun _ s => s.standbyCore.isNone || decide (s.standbyImage ≠ s.activeImage) }
    q p (fun _ => .coreSwap) (fun h s => s.startSwap h) s

/-- CORE_SWAP_DONE (R172): the standby core is active, and the queues go on. -/
def coreSwapDone (s : State) : State :=
  match s.thn.swap, s.activeCore, s.standbyCore with
  | some h, some i, some j =>
    if s.thn.paused ∧ s.fire then
      let s := s.setCore i (fun c => { c with role := .standby })
      let s := s.setCore j (fun c => { c with role := .active })
      let s : State := { s with thn := { s.thn with paused := false, swap := none } }
      ((s.raise 348).finish h stOk 0).queuesGoOn
    else s
  | _, _, _ => s

/-- FW_INFO (R168): a buffer whose layout the spec does not give (log entry 3). -/
def fwInfo (q : LaneIx) (p : Packet) (s : State) : State :=
  immediate { opcode := 0x0A03, lane0 := true, rom := true, early := true, states := none, fields := fun _ _ => [fAny 8 8], own := fun _ _ => true
              busy := fun _ _ => false }
    q p (fun s => (s.freeBuf q.val (pnum p 8 8) 1024, stOk, 0)) s

end Sys2Proof.Machine
end

