-- ==== Sys2Proof/Machine/Device.lean ====
section
/-! DEFINITION. Immediate commands of the device, lane and service classes (R123, R161-R168, R196, R492). -/

namespace Sys2Proof.Machine

/-- An immediate command that writes a buffer of n bytes, whose layout the spec does not give (R168, R169; log entry 3). -/
def bufferCmd (op : BitVec 16) (lane0 rom : Bool) (states : Option (List LaneSt)) (n : Nat) (q : LaneIx) (p : Packet) (s : State) : State :=
  immediate { opcode := op, lane0 := lane0, rom := rom, early := true, states := states, fields := fun _ _ => [fAny 8 8], own := fun _ _ => true
              busy := fun _ _ => false }
    q p (fun s => (s.freeBuf q.val (pnum p 8 8) n, stOk, 0)) s

/-- IDENTIFY (R168): a 4 KiB buffer. -/
def identify (q : LaneIx) (p : Packet) (s : State) : State := bufferCmd 0x0000 true true none 4096 q p s
/-- DEVICE_STATUS (R168): a 512-byte buffer. -/
def deviceStatus (q : LaneIx) (p : Packet) (s : State) : State := bufferCmd 0x0002 true false none 512 q p s
/-- LANE_STATUS (R168): a 256-byte buffer. -/
def laneStatus (q : LaneIx) (p : Packet) (s : State) : State := bufferCmd 0x0103 false false anyState 256 q p s

/-- The 32 bytes of a fault record (R490). -/
def recBytes (r : Rec) : List Byte :=
  leBytes r.seq.toNat 4 ++ [r.source, r.flags] ++ leBytes r.inst.toNat 2 ++ leBytes r.time.toNat 8 ++ leBytes r.ovf.toNat 2
    ++ leBytes r.rcnt.toNat 2 ++ leBytes r.detail.toNat 8 ++ [r.domain] ++ leBytes 0 3
/-- Record i of the history as software reads it: zeros where none has been written, and while it is being written (R491). -/
def State.historyBytes (s : State) (i : Nat) : List Byte :=
  match s.flt.writing with
  | none => recBytes (tabGet recReset s.flt.hist i)
  | some w => if w.1 = i then leBytes 0 32 else recBytes (tabGet recReset s.flt.hist i)
/-- The first-error record as software reads it (R492). -/
def State.firstBytes (s : State) : List Byte := s.flt.first.elim (leBytes 0 32) recBytes

/-- GET_LOG (R168, R491). -/
def getLog (q : LaneIx) (p : Packet) (s : State) : State :=
  immediate { opcode := 0x0001, lane0 := true, rom := false, early := true, states := none, fields := fun p _ => [fAny 8 8, fMax p 16 1 1]
              own := fun _ _ => true, busy := fun _ _ => false }
    q p (fun s =>
      let bytes := if pnum p 16 1 = 0 then s.firstBytes else (List.range 32).flatMap s.historyBytes
      (s.dma q.val (pnum p 8 8) bytes, stOk, 0)) s

/-- NOP (R168). -/
def nop (q : LaneIx) (p : Packet) (s : State) : State :=
  immediate { opcode := 0x0100, lane0 := false, rom := false, early := true, states := anyState, fields := fun _ _ => [], own := fun _ _ => true
              busy := fun _ _ => false }
    q p (fun s => (s, stOk, 0)) s

/-- A handle is outstanding in lane q (R165). -/
def State.outstanding (s : State) (q : Nat) (h : W32) : Bool := s.ops.any (fun o => decide (o.handle = h) && decide (o.queue = q))

/-- HANDLE_QUERY (R168). -/
def handleQuery (q : LaneIx) (p : Packet) (s : State) : State :=
  immediate { opcode := 0x0104, lane0 := false, rom := false, early := true, states := anyState, fields := fun _ _ => [fAny 8 4], own := fun _ _ => true
              busy := fun _ _ => false }
    q p (fun s => (s, stOk, b2n (s.outstanding q.val (BitVec.ofNat 32 (pnum p 8 4))))) s

/-- ABORT of a handle of lane q (R167): the status of the ABORT itself. -/
def State.abortOp (q : Nat) (h : W32) (s : State) : State × BitVec 16 × Nat :=
  if !s.outstanding q h then (s, stBadHandle, 0)
  else match s.running h with
    | none => (s, stBusy, 0)
    | some o => match o.kind with
      | .configLoad .. => (s.finish h stAborted 0, stOk, 0)
      | .fwLoad .. => (({ s with thn := { s.thn with fetch := none } } : State).finish h stAborted 0, stOk, 0)
      | .spitTest .. => (s.abortSpit h, stOk, 0)
      | _ => (s, stBusy, 0)

/-- ABORT (R167). -/
def abort (q : LaneIx) (p : Packet) (s : State) : State :=
  immediate { opcode := 0x0105, lane0 := false, rom := false, early := true, states := anyState, fields := fun _ _ => [fAny 8 4], own := fun _ _ => true
              busy := fun _ _ => false }
    q p (fun s => s.abortOp q.val (BitVec.ofNat 32 (pnum p 8 4))) s

/-- Outstanding work names quad k, or one of its cells, links, rings or gates (R162, R533). -/
def State.quadNamed (s : State) (k : Nat) : Bool :=
  let cells := cellsOfQuad k
  cells.any (fun c => s.held (.cell c)) || s.held (.domain k)
    || s.ops.any (fun o => match o.kind with
        | .configCommit n _ | .configPatch n _ => (((s.getLane o.target).slot n).elim [] (fun x => x.cells)).any (fun c => cells.contains c)
        | .alignSet l _ _ _ _ => decide (quadOf (l / 2) = k)
        | _ => false)
    || s.gatesHeld.any (fun g => decide ((s.getGate g).owner.toNat = k) || cells.any (fun c => decide (s.gateFor c = some g)))

/-- The rings of quads' cells (R27). -/
def State.quadRings (s : State) (quads : List Nat) : List Nat :=
  (s.rings.filter (fun e => quads.contains (quadOf e.2.cell.toNat))).map (fun e => e.1)

/-- Quads cannot move to lane l: it or a lane that owns one of them is not IDLE (R123), or outstanding work names one of them (R162). -/
def State.quadsBusy (s : State) (l : Nat) (quads : List Nat) : Bool :=
  (l :: quads.map (fun k => (s.getQuad k).owner.toNat)).any (fun l => decide ((s.getLane l).st ≠ .idle)) || quads.any s.quadNamed

/-- Quads move to their new lane (R123), with their rings (R200). A lane that loses its last cell of a Pacer has none (R30). The command is
answered (R159). -/
def State.moveQuads (m : Moving) (s : State) : State :=
  let s := forAll m.quads (fun s k => s.updQuad k (fun x => { x with owner := m.lane })) s
  let s := forAll (List.range 16) (fun s l =>
    if (s.getLane l).inForce.all (fun y => decide (s.laneOf y.cell = l)) then s
    else s.updLane l (fun x => { x with inForce := x.inForce.filter (fun y => decide (s.laneOf y.cell = l)) })) s
  s.answer 0 m.tag stOk 0
/-- A QUAD-ASSIGN that waits goes on once every ring of its quads has been disabled (R200), if its quads can still move (R123). -/
def State.settleAssign (s : State) : State :=
  match s.assign with
  | none => s
  | some m =>
    let t : State := { s with assign := none }
    if s.quadsBusy m.lane.val m.quads then (t.answer 0 m.tag stBusy 0).serveAll 0
    else if (s.quadRings m.quads).any (fun r => (s.getRing r).busy) then s
    else (t.moveQuads m).serveAll 0

/-- QUAD_ASSIGN (R123, R200, R157, R162, R168): enabled rings of the quads are disabled first; the quads move once none is BUSY, and the entry
is then posted. -/
def quadAssign (q : LaneIx) (p : Packet) (s : State) : State :=
  let map := BitVec.ofNat 64 (pnum p 8 8)
  let to_ := pnum p 16 1
  let quads := (List.range 64).filter (fun k => map.getLsbD k)
  command { opcode := 0x0102, lane0 := true, rom := false, early := true, states := none, fields := fun p _ => [fAny 8 8, fMax p 16 1 15]
            own := fun _ s => decide (15 < to_) || s.present to_
            busy := fun _ s => s.quadsBusy to_ quads
            skip5 := true }
    q p (fun s =>
      let s := forAll (s.quadRings quads) (fun s r => if (s.getRing r).en then s.disableRing r else s) s
      State.settleAssign { s with assign := some { tag := p.tag, lane := Fin.ofNat 16 to_, quads := quads } }) s

/-- FEED_RESTART (R168, R196). -/
def feedRestart (q : LaneIx) (p : Packet) (s : State) : State :=
  immediate { opcode := 0x0905, lane0 := true, rom := false, early := false, states := none, fields := fun p _ => [fMax p 8 1 15], own := fun _ _ => true
              busy := fun _ _ => false, bad := fun p s => !(s.getEngine (pnum p 8 1)).stopped }
    q p (fun s => (s.restartEngine (pnum p 8 1), stOk, 0)) s

/-- FAULT_CLEAR (R168, R492, R495). -/
def faultClear (q : LaneIx) (p : Packet) (s : State) : State :=
  immediate { opcode := 0x0906, lane0 := true, rom := false, early := false, states := none, fields := fun _ _ => [], own := fun _ _ => true
              busy := fun _ _ => false }
    q p (fun s => (s.clearFaults, stOk, 0)) s

end Sys2Proof.Machine
end

