-- ==== Sys2Proof/Machine/Resets.lean ====
section
/-! DEFINITION. Lane reset (R135-R142, R175-R177), the PCI Express resets and power states (R88, R120, R121, R142, R143), and the
boundary-scan port (R114-R116). -/

namespace Sys2Proof.Machine

/-! ### Lane reset -/

/-- The work of an operation stops with its handle (R136, R175, R176); what a change that is not applied had written is put back (R49). Hardware
operations run on. -/
def State.stopOp (o : Op) (s : State) : State :=
  let mine := s.changes.filter (fun ch => decide (ch.handle = o.handle))
  let s : State := { s with changes := s.changes.filter (fun ch => decide (ch.handle ≠ o.handle)) }
  let s := mine.foldl (fun s ch => forAll ch.cells (fun s c => s.restoreCell c) s) s
  match o.kind with
  | .spitTest .. => s.abortSpit o.handle
  | .fwLoad .. => { s with thn := { s.thn with fetch := none } }
  | _ => s

/-- An operation of lane 0 acts on lane l and runs to its own end in spite of l's reset (R141, R175, R176). -/
def State.runsOn (s : State) (l : Nat) (o : Op) : Bool :=
  decide (o.queue = 0) && (match o.kind with
    | .spareTakeover c _ => decide (s.laneOf c = l)
    | .spareReturn c _ => decide (s.laneOf c = l)
    | .periodClose => decide (o.target = l) && !s.fuse.epochPend
    | _ => false)
/-- An operation of lane 0 acts on lane l (R176): one whose LANE is l and whose row acts on its target lane. A DOMAIN-RESET or DOMAIN-CYCLE
of a quad that l owns is not one (log entry 69). -/
def actsOn (l : Nat) (o : Op) : Bool :=
  decide (o.queue = 0) && decide (o.target = l) && (match o.kind with
    | .configLoad .. | .configCommit .. | .configPatch .. | .configReload | .configRead | .printStart _ | .printStop .. | .alignSet ..
    | .spitTest .. | .tempsetLoad .. | .motorEnable _ | .motorStop _ | .motorCal _ | .periodClose => true
    | _ => false)

/-- Lane l enters RESETTING, or joins the reset under way (R135, R140, R175). `issuer` is the command to answer. A command of l that a FENCE
holds is answered BAD-STATE once its handles are released (R163), and gets no entry after an FLR (R177). -/
def State.startReset (l : Nat) (issuer : Option (Nat × W32)) (flr : Bool) (s : State) : State :=
  match (s.getLane l).reset with
  | some r => (s.updLane l (fun x => { x with reset := some { r with
      issuers := r.issuers ++ (issuer.map (fun i => (i.1, i.2, false))).toList, flr := r.flr || flr } })).updHost l (fun h => { h with
        fence := if flr then none else h.fence })
  | none =>
    let mine := s.ops.filter (fun o => decide (o.queue = l))
    let theirs := if l = 0 then [] else s.ops.filter (fun o => actsOn l o && !s.runsOn l o)
    let s : State := { s with ops := s.ops.filter (fun o => decide (o.queue ≠ l)) }
    let s := s.updHost l (fun h => { h with waiting := [], fence := if flr then none else h.fence })
    let s : State := if l = 0 then { s with assign := none } else s
    let s := mine.foldl (fun s o => s.stopOp o) s
    let s := theirs.foldl (fun s o => (s.finish o.handle stLaneReset 0).stopOp o) s
    let s := forAll ((s.cells.filter (fun e => e.2.marks.any (fun m => decide (m.queue = l)))).map (fun e => e.1))
      (fun s c => s.updCell c (fun x => { x with marks := x.marks.filter (fun m => decide (m.queue ≠ l)) })) s
    let printed := decide ((s.getLane l).st = .print)
    let cells := if printed then s.cellsOf l else []
    let s := forAll (s.ringsOf l).reverse (fun s r => s.dropPrefetch r) s
    let s := forAll (List.range 16) (fun s e => s.limitLane l e) s
    let busy := (List.range 16).filter (fun e => s.laneMidBurst l e)
    let s := s.updLane l (fun x => { x with
      st := .resetting, reset := some { cells := cells, engines := busy, issuers := (issuer.map (fun i => (i.1, i.2, true))).toList, released := mine.length, flr := flr, upTo := none } })
    let s := forAll ((List.range 16).filter (fun e => !busy.contains e)) (fun s e => s.abandonLane l e) s
    if cells.isEmpty then s.laneStopped l none printed else s

/-- LANE_RESET (R135, R157, R159, R163): its one entry is posted when the lane is IDLE. -/
def laneResetCmd (q : LaneIx) (p : Packet) (s : State) : State :=
  command { opcode := 0x0101, lane0 := false, rom := false, early := true, states := none, fields := fun _ _ => [], own := fun _ _ => true
            busy := fun _ _ => false, skip5 := true }
    q p (fun s => (s.startReset p.lane.toNat (some (q.val, p.tag)) false).settleAssign) s

/-- Steps 1 to 4 of R136 are over for lane l, what R176 puts before the completion has come, and a core posts the completion (R172). -/
def State.resetReady (s : State) (l : Nat) : Bool :=
  match (s.getLane l).reset with
  | none => false
  | some r => s.corePosts && r.cells.isEmpty && r.engines.isEmpty && (decide (l = 0) || !s.ops.any (fun o => s.runsOn l o || actsOn l o))

/-- The completion of a LANE-RESET (R137, R140): on the lane's own queue into the kept place, else as an ordinary entry. DETAIL is the number of
handles released where the command started the reset, 0 where it joined. While the lane's own queue is not enabled its entry waits (R154). -/
def State.resetEntry (l released : Nat) (i : Nat × W32 × Bool) (s : State) : State :=
  let e : Entry := { tag := i.2.1, handle := 0, status := stOk, detail := BitVec.ofNat 16 (if i.2.2 then released else 0), hv := false
                     final := false }
  if i.1 ≠ l then s.post i.1 e
  else if (s.getHost l).en then State.writeEntry l e s
  else s.updHost l (fun h => h.withWaiting (h.waiting ++ [e]))
/-- Every completion of a reset, in the order of the commands. -/
def State.resetEntries (l released : Nat) (is_ : List (Nat × W32 × Bool)) (s : State) : State :=
  is_.foldl (fun s i => s.resetEntry l released i) s

/-- The registers of a function's queue pair and rings at reset; the allocation counter and PREC_SEQ are kept (R149, R166, R296), and a
lane-reset completion that waits for EN (R154). -/
def HostFn.queueReset (h : HostFn) : HostFn :=
  { hostReset 0 with
    bar0 := h.bar0, bar2 := h.bar2, mrrs := h.mrrs, relaxed := h.relaxed, waiting := if h.en then [] else h.waiting, d3 := h.d3, msixEn := h.msixEn, maskAll := h.maskAll, vecs := h.vecs, pba := h.pba, stray := h.stray, shadow := h.shadow, rdata := h.rdata
    dbgData := h.dbgData, aer := h.aer, held := h.held, wsel := h.wsel, next := h.next, prSeq := h.prSeq }

/-- The lane's event state at reset values (R137, R138). -/
def State.clearEvents (l : Nat) (s : State) : State :=
  let mine := (List.range 384).filter (fun src => decide ((s.getMap src).1 = l))
  let s : State := { s with evt := { s.evt with stat := mine.foldl (fun v src => setBit v src false) s.evt.stat } }
  s.updHost l (fun h => { h with stray := 0, vecs := [], pba := 0 })

/-- What a lane reset leaves in the lane and its cells (R138, R199). The Pacer's binding stays with the copies in force; a lane that is IDLE
has no committed configuration, so that its banks reserve nothing (R124, R211). -/
def State.laneCleared (l : Nat) (s : State) : State :=
  let s := forAll (s.ringsOf l) (fun s r => s.updRing r Ring.laneReset) s
  let s := forAll (s.cellsOf l) (fun s c => (s.emptyData c [] []).updBank (s.serverOf c) Bank.unadmit) s
  s.updLane l (fun x => { x with
    st := .idle, locked := false, fill := 0, comSlot := none, image := none, patches := [], hold := false, unhold := false, stopping := false
    reset := none })

/-- ZERO_LENGTH_READ_DONE (R136 steps 5 and 6, R137, R138): the lane-reset completion is posted, the lane's event state is cleared, and the
lane is IDLE. -/
def zeroLengthReadDone (l : Nat) (ok : Bool) (s : State) : State :=
  match (s.getLane l).reset with
  | none => s
  | some r =>
    if s.alive && s.resetReady l then
      let s := if ok then s else s.aer l .timeout
      let s := s.resetEntries l r.released (r.issuers.filter (fun i => !(r.flr && decide (i.1 = l))))
      let s := (s.clearEvents l).updHost l HostFn.queueReset
      (s.laneCleared l).setRstCause 4
    else s

/-! ### Functions on the bus (R120, R121, R142, R177) -/

/-- NumVFs and VF Enable take new values: lanes that leave the bus are reset, and messages held for lanes that appear can go (R142, R144). -/
def State.setVfs (en : Bool) (num : BitVec 16) (s : State) : State :=
  let t : State := { s with glb := { s.glb with vfEn := en, numVfs := num } }
  let leave := (List.range 16).filter (fun f => s.present f && !t.present f)
  (forAll leave (fun s f => s.startReset f none true) t).settleAssign.settle

/-- NUMVFS_WRITE (R121, R142). -/
def numvfsWrite (en : Bool) (num : BitVec 16) (s : State) : State := if s.on dHOST && s.glb.linkUp then s.setVfs en num else s

/-- FLR (R135, R142, R177): a lane reset with no entry; the function's own state is reset. -/
def flr (f : Nat) (s : State) : State :=
  if s.on dHOST && s.glb.linkUp && s.present f then
    let s := s.updHost f (fun h => { h with bar0 := 0, bar2 := 0, mrrs := 2, relaxed := true, d3 := false, msixEn := false, maskAll := false, held := [], shadow := none })
    let s := s.startReset f none true
    if f = 0 then { s.setVfs false 0 with glb := { (s.setVfs false 0).glb with vfBar := 0 } } else s.settleAssign
  else s

/-- D3HOT_ENTRY (R120). -/
def d3hotEntry (f : Nat) (s : State) : State :=
  if s.on dHOST && s.glb.linkUp && s.present f then s.updHost f (fun h => { h with d3 := true }) else s
/-- D0_RETURN (R120, R144): held messages are sent. -/
def d0Return (f : Nat) (s : State) : State :=
  if s.on dHOST && s.glb.linkUp && s.present f then (s.updHost f (fun h => { h with d3 := false })).settleFn f else s

/-! ### PCI Express conventional reset (R88, R143, R154, R199) -/

/-- What a conventional reset leaves of a function: entries, a command that is taken and waits, the counters that survive, and EVT_STRAY (R143,
R149, R154, R296). -/
def HostFn.busReset (h : HostFn) : HostFn :=
  { hostReset 0 with stray := h.stray, waiting := h.waiting, fence := h.fence, next := h.next, prSeq := h.prSeq }

/-- Pending bits of every vector to which a source with a high request is mapped (R143). -/
def State.pendAll (s : State) : State :=
  ((List.range 384).filter s.request).foldl (fun s src =>
    s.updHost (s.getMap src).1 (fun h => { h with pba := setBit h.pba (s.getMap src).2 true })) s

/-- HOST and FEED are reset; lanes keep printing (R88, R142). -/
def State.busReset (s : State) : State :=
  let s : State := { s with host := tabMap hostReset (fun _ h => h.busReset) s.host }
  let s := s.feedClear
  let s : State := { s with glb := { s.glb with linkUp := false, vfEn := false, numVfs := 0, vfBar := 0 } }
  s.pendAll

/-- CONVENTIONAL_RESET (R62, R88, R199): the cause is recorded, and the clock mode takes effect at a fundamental or hot reset. -/
def conventionalReset (cause : PcieReset) (s : State) : State :=
  if s.on dHOST then
    let s := s.busReset.settleAssign
    let s := s.setRstCause (if cause = .perst then 2 else 3)
    if cause = .linkDown then s else { s with glb := { s.glb with clkModeOn := s.glb.clkMode } }
  else s

/-- PERST_N_DEASSERT (R83 step 7, R117): the link trains to L0 at a width. -/
def perstNDeassert (width : LinkWidth) (s : State) : State :=
  if s.on dHOST then { s with glb := { s.glb with linkUp := true, width := width } } else s

/-! ### Boundary scan (R114-R116) -/

/-- Instructions that take the pins: EXTEST, CLAMP, HIGHZ, EXTEST_PULSE, EXTEST_TRAIN (R114, R116). -/
def takesPins (code : Byte) : Bool := [0x00, 0x03, 0x04, 0x05, 0x06].contains code

/-- The instructions of R114; every other code is BYPASS. -/
def tapCode (code : Byte) : Byte := if code.toNat ≤ 0x06 then code else 0xFF
/-- The IDCODE of the WZ9600-A1 (R115): version 1, part 0x9600, manufacturer 0x2A7, 1. -/
def idCode : W32 := (0x1#4 ++ 0x9600#16 ++ 0x2A7#11 ++ 1#1 : BitVec 32)
/-- What a capture of the data register that an instruction selects brings (R114, R115): the identification code, 0 in the bypass register (which
CLAMP and HIGHZ select too: IEEE 1149.1), and none in the boundary register, whose cells the spec does not list. -/
def tapCapture (code : Byte) : Option W32 := if code = 0x02 then some idCode else if [0x03, 0x04, 0xFF].contains code then some 0 else none

/-- Instructions that select the boundary register: EXTEST, SAMPLE/PRELOAD, EXTEST_PULSE, EXTEST_TRAIN (R114). -/
def scansPins (code : Byte) : Bool := [0x00, 0x01, 0x05, 0x06].contains code

/-- Bit i of the boundary register. -/
def State.boundaryBit (s : State) (i : Nat) : Bool := Config.boundaryBit s.glb.tapScans i

/-- TAP_INSTRUCTION (R114-R116). The boundary register captures the pins and is loaded where an instruction selects it. -/
def tapInstruction (code : Byte) (s : State) : State :=
  let ir := tapCode code
  if s.aonRuns then
    { s with glb := { s.glb with
        tapIr := ir, tapDr := tapCapture ir, tapScans := if scansPins ir then s.glb.tapScans + 1 else s.glb.tapScans
        pins := s.glb.pins || takesPins ir } }
  else s

end Sys2Proof.Machine
end

