-- ==== Sys2Proof/Machine/Powerup.lean ====
section
/-! DEFINITION. Power-up (R83, R84), loss and return of power and of the root clock (R56, R88, R89, R101, R501), domain commands (R85, R86,
R199, R429, R479), a quad's restoration (R261, R393), and discipline (R57-R59). -/

namespace Sys2Proof.Machine

/-! ### Bringing domains up (R83 steps 6-11) -/

/-- The quads of power-up wave w (R83 step 10). -/
def waveQuads (w : Nat) : List Nat := if w < 16 then [w, 16 + w, 32 + w, 48 + w] else [64, 65, 66, 67]

/-- AON is out of reset (step 5), HOST to META have power and a clock, the boot ROM serves, the serial PLLs lock and the motor channels calibrate (steps 6 to 8). -/
def State.upServices (s : State) : State :=
  let s := forAll [dAON, dHOST, dTHNA, dTHNB, dFEED, dMOT, dCHN, dMETA] (fun s d => s.setDomain d true) s
  let s : State := { s with
    glb := { s.glb with rootLock := true, phyLock := true, serdes := true }
    thn := { s.thn with a := { s.thn.a with role := .rom } } }
  forAll (List.range 8) (fun s n => s.updMotor n (fun m => { m with st := .cal })) s

/-- Steps 6 to 10 from tick t0: services, line store, and the waves of quads. A quad in latched shutdown stays off (R477). -/
def State.bringUp (t0 : Nat) (s : State) : State :=
  let s := s.upServices.leaveRelay
  let s := forAll [0, 1, 2, 3] (fun s q => s.lsUp q) s
  forAll (List.range 17) (fun s w =>
    forAll ((waveQuads w).filter (fun k => !(s.getQuad k).shutdown)) (fun s k => s.quadUp k none) (s.at_ (t0 + (8 + 10 * w) * msTicks))) s

/-- Steps 6 to 10 of a cold power-up. The event of exhausted epochs (R515) is raised once HOST, which holds the event block, runs. -/
def State.firstUp (t0 : Nat) (s : State) : State := (s.bringUp t0).raiseIf s.fuse.epochExh 374

/-- Step 11: HWRDY, once every quad that has power is calibrated. The condition of a root-clock fault ends (R489), and a relock restart is
recorded (R501). -/
def State.settleReady (s : State) : State :=
  if !s.glb.hwrdy && (List.range 68).all (fun k => if bit s.glb.pwr k then (s.getQuad k).calib else (s.getQuad k).shutdown) then
    let again := s.glb.relock
    let s : State := { s with glb := { s.glb with hwrdy := true, relock := false }, thn := { s.thn with bootAt := s.now + 100 * msTicks } }
    let s := if again then s.setRstCause 8 else s
    s.endCond 10 0
  else s

/-! ### Cold reset (R83, R84, R88, R89, R101) -/

/-- What a cold reset leaves: the fuses, the level of ALIVE (R106), and what lies outside the part. -/
def State.coldState (s : State) : State :=
  { State.reset with
    flt := { State.reset.flt with alive := s.flt.alive }
    fuse := { resetFuse with words := s.fuse.words, wl := s.fuse.wl, rl := s.fuse.rl }
    hostMem := s.hostMem, free := s.free, out := s.out, pending := s.pending }

/-- COLD_POWER_UP (R83, R84, R90, R515): the sequence of R83, or its stop in step 5 where the root PLL does not lock. -/
def coldPowerUp (cause : ColdCause) (lock : Bool) (s : State) : State :=
  if s.glb.powered && !s.glb.failing then s
  else
    let t := s.coldState
    let mode := bit (t.getFuse 5 2) 0
    let t : State := { t with glb := { t.glb with
      powered := true, resOk := true, clkMode := mode, clkModeOn := mode, rstCause := if cause = .vin then 1 else 2 } }
    let t := if t.bootEpoch = some 4095 then t.exhaust else t
    if lock then t.firstUp 0 else t.fault 10 3 0 0 true

/-- PLL_LOCK_RETRY (R84). -/
def pllLockRetry (lock : Bool) (s : State) : State :=
  if s.alive && !s.glb.failing && !s.glb.rootLock && !bit s.glb.pwr dHOST && lock then s.firstUp s.now else s

/-- POWER_FAIL (R82, R101): the load is shed, and AON, CHN and META run on stored energy until the cold reset. -/
def powerFail (s : State) : State :=
  if s.glb.powered && !s.glb.failing then
    let s := s.shed [dAON, dCHN, dMETA]
    { s with glb := { s.glb with failing := true, linkUp := false } }
  else s

/-- PRST_N_PULSE (R88, R89): from 10 µs a cold reset, whose sequence runs at the release; from 1 µs either that or nothing (log entry 4). -/
def prstNPulse (ns : Nat) (s : State) : State :=
  if !s.glb.powered ∨ ns < 1000 then s
  else if 10000 ≤ ns then s.coldState
  else
    let t : State := { s with free := s.free + 1 }
    if Config.prstShortPulse s.free then t.coldState else t

/-! ### Loss of the root clock (R56, R501) -/

/-- ROOT_PLL_UNLOCK (R56): every divided clock stops, chain ports go down, and the loss is a DEVICE-CRITICAL fault. -/
def rootPllUnlock (s : State) : State :=
  if s.alive && s.glb.rootLock then
    let s := forAll [0, 1, 2, 3] (fun s x => s.dropPort x) s
    let s := s.updChn (fun c => { c with closed := false, spur := false })
    let s := s.losePaths
    let s : State := { s with glb := { s.glb with
      rootLock := false, serdes := false, phyLock := s.glb.phyLock && s.glb.clkModeOn, clk := 1#80 <<< dAON } }
    s.fault 10 3 0 0 true
  else s

/-- What a relock restart keeps of a quad: its registers in AON. -/
def Quad.restarted (x : Quad) : Quad :=
  { quadReset 0 with
    owner := x.owner, refused := x.refused, vset := x.vset, vact := x.vact, skip := x.skip, divReq := x.divReq, rung := x.rung
    shutdown := x.shutdown, shead := x.shead, sdie := x.sdie, hot := x.hot, hotter := x.hotter, hmax := x.hmax, coolFrom := x.coolFrom }
/-- A retired cell, and the spare that stands in for it, stay so until a cold reset (R267). -/
def State.keptService (s : State) (c : Nat) (x : Cell) : Cell :=
  let keep := decide (x.svc = .retired) || decide (x.svc = .spareRetired)
    || (decide (x.svc = .standingIn) && decide ((s.getCell x.server).svc = .retired))
  if keep then { cellReset c with svc := x.svc, server := x.server } else cellReset c

/-- CHN off or in reset: the unit only relays, with cause CHN (R463); the relay's ports lie in AON (R79), and the unit knows whether it has joined
since its last cold reset, and its address. -/
def State.chnOff (s : State) : State :=
  { s with chn := { resetChain with
      ports := s.chn.ports, spur := s.chn.spur, closed := s.chn.closed, joined := s.chn.joined, addr := s.chn.addr, st := .relayOnly, rcause := .chn
      baton := false, syncPort := s.chn.syncPort } }

/-- What a relock restart starts from: AON and META, with every other domain at reset and every lane IDLE (R88, R501). -/
def State.relockState (s : State) : State :=
  { State.coldState s with
    time := s.time, fuse := s.fuse, flt := s.flt, hk := { s.hk with measuring := false }, meter := s.meter
    glb := { s.glb with relock := true, hwrdy := false, linkUp := false, vfEn := false, numVfs := 0, vfBar := 0, clk := 1#80 <<< dAON, cycles := [], lsOff := []
                        pwr := (1#80 <<< dAON) ||| (1#80 <<< dMETA) }
    quads := tabMap Sys2Proof.Machine.quadReset (fun _ x => x.restarted) s.quads
    host := tabMap hostReset (fun _ h => { hostReset 0 with next := h.next, prSeq := h.prSeq }) s.host
    cells := tabMap cellReset s.keptService s.cells
    gates := tabMap gateReset (fun g x => { gateReset g with owner := x.owner, serve := x.serve, refused := x.refused }) s.gates
    banks := tabMap bankReset (fun k x => { bankReset k with
      eValid := x.eValid, eIsUe := x.eIsUe, eBlock := x.eBlock, lastRow := x.lastRow }) s.banks
    chn := { s.chnOff.chn with loadNext := true
                               ports := tabMap portReset (fun _ x => { portReset 0 with fwd := x.fwd, err := x.err }) s.chn.ports } }

/-- RELOCK_RESTART (R501). -/
def relockRestart (s : State) : State :=
  if s.alive && !s.glb.failing && !s.glb.rootLock && bit s.glb.pwr dHOST then (s.relockState).bringUp s.now else s

/-! ### Restoring the cells of a quad (R86 step 7, R261, R393) -/

/-- Cells of quad k that have lost their tables and serve their own work. -/
def State.lostCells (s : State) (k : Nat) : List Nat :=
  if k < 64 then (cellsOfQuad k).filter (fun c => (s.getCell c).erased && decide (s.serverOf c = c)) else []

/-- QUAD_CAL_END (R83 step 10, R396, R486): the quad's calibration is over. In a cycle, tables are read again, and live tables return from the
spares that stand in. -/
def quadCalEnd (k : Nat) (s : State) : State :=
  match (s.getQuad k).job with
  | .calibrating h =>
    if !s.on k then s
    else
      let s := s.at_ ((s.getQuad k).upAt + 40 * msTicks)
      let s := s.updQuad k (fun x => { x with calib := true, rung := if s.quadHot k then 3 else 0 })
      let s := s.gatesCalibrated k
      if !s.glb.hwrdy then ((s.updQuad k (fun x => { x with job := .none })).settleClocks).settleReady
      else
        let lane := s.getLane (s.getQuad k).owner.toNat
        let lost := !(s.lostCells k).isEmpty
        let sets := if k < 64 then lane.tsRefs.map (fun e => e.1) else []
        let s := s.updQuad k (fun x => { x with job := .restoring h (lost && lane.image.isSome) sets })
        let back := if k < 64 then (cellsOfQuad k).filter (fun c => decide ((s.getCell c).svc = .stoodIn) && !(s.getCell c).tkoActive) else []
        ((forAll back (fun s c => s.beginReturn c) s).settleClocks).settleCycle k
  | _ => s

/-- A cell's tables are written again from the images and from the copies in force (R86 step 7, R261). -/
def State.refillCell (x : Lane) (imgs : List Image) (c : Nat) (s : State) : State :=
  let t := refillTables c imgs
  (s.retrim c (fun y =>
    let set := match copyFor c x.inForce with | none => [] | some b => threeCopies { b with gen := y.gen }
    ({ y with
      noz := t.1, waves := t.2, active := set, shadow := [], divergent := false, badNoz := [], nozPend := [], erased := false } : Cell).adopt)).admitCell c

/-- A refill that fails (R261, R534): the cells keep level 0, and the cycle ends with BAD-PARAM. -/
def State.refillFails (k : Nat) (h : Option W32) (s : State) : State :=
  let s := s.updQuad k (fun x => { x with job := .none, forced := false })
  match h with | none => s | some h => s.finish h stBadParam 0xFFFF

/-- A refill read of quad k has brought its data, none where it failed: the images first, then one buffer for each temperature set. -/
def State.refillQuad (k : Nat) (data : List (List Byte)) (s : State) : State :=
  let l := (s.getQuad k).owner.toNat
  let lane := s.getLane l
  match (s.getQuad k).job with
  | .restoring h true sets =>
    let imgs := data.map imageFrom
    if refillOk lane imgs then
      ((forAll (s.lostCells k) (fun s c => s.refillCell lane imgs c) s).updQuad k (fun x => { x with job := .restoring h false sets })).settleCycle k
    else s.refillFails k h
  | .restoring h false (n :: rest) =>
    let mine := (s.setsFrom l data.flatten).filter (fun e => decide (quadOf e.1 = k) && decide (s.serverOf e.1 = e.1))
    ((mine.foldl (fun s e => s.refillSet e.1 n e.2) s).updQuad k (fun x => { x with job := .restoring h false rest })).settleCycle k
  | _ => s

/-- Thinis can go on with a command: the image runs, no swap pauses it. -/
def State.thinisGoes (s : State) : Bool := s.on dHOST && s.imageRuns && !s.thn.paused

/-- COMMAND_READ_DONE (R258, R259, R261, R393): the read of a command or of a refill has come back. -/
def commandReadDone (r : ReadFor) (data : List (List Byte)) (s : State) : State :=
  if !s.thinisGoes then s
  else match r with
  | .quad k => s.refillQuad k data
  | .cell c => s.refillRead c data
  | .handle h =>
    match s.running h with
    | none => s
    | some o =>
      match o.kind, s.changeOf h with
      | .configCommit n _, some ch => if ch.ready then s else s.commitRead ch n (imageFrom data.flatten)
      | .configPatch n _, some ch => if ch.ready then s else s.patchRead ch n (imageFrom data.flatten)
      | .tempsetLoad n addr len, _ => s.tempsetRead o n addr len data.flatten
      | _, _ => s

/-- The function whose memory a refill of lane l reads (R261, R534): for the images that of the committed one, for temperature set n that of its
load. -/
def State.refillFn (s : State) (l : Nat) (image : Bool) (sets : List Nat) : Option Nat :=
  let lane := s.getLane l
  if image then lane.image.map (·.fn)
  else sets.head?.bind (fun n => (lane.tsRefs.find? (fun e => decide (e.1 = n))).map (·.2.fn))
/-- An error on a read from the memory of function f, where there is one. -/
def State.aerAt (f : Option Nat) (cause : BusError) (s : State) : State := match f with | none => s | some f => s.aer f (aerOf cause)

/-- HOST_READ_ERROR (R534): AER on the function whose memory was read; the command ends with BAD-PARAM, a refill as one that does not check. -/
def hostReadError (r : ReadFor) (cause : BusError) (s : State) : State :=
  if !(s.on dHOST && !s.thn.paused && (s.imageRuns || s.romServes)) then s
  else match r with
  | .quad k => match (s.getQuad k).job with
    | .restoring _ image sets =>
      if image || !sets.isEmpty then (s.aerAt (s.refillFn (s.getQuad k).owner.toNat image sets) cause).refillQuad k [] else s
    | _ => s
  | .cell c => match (s.getCell c).refill with
    | none => s
    | some w => if w.image || !w.sets.isEmpty then (s.aerAt (s.refillFn (s.laneOf c) w.image w.sets) cause).refillRead c [] else s
  | .handle h =>
    match s.running h with
    | none => s
    | some o =>
      let slotFn := fun (n : Nat) => ((s.getLane o.target).slot n).map (fun v => v.ref.fn)
      match o.kind, s.changeOf h with
      | .configLoad .., _ | .tempsetLoad .., _ => (s.aer o.queue (aerOf cause)).finish h stBadParam 0xFFFF
      | .fwLoad chain _ _, _ => if chain then s else (s.aer o.queue (aerOf cause)).finish h stBadParam 0xFFFF
      | .configCommit n _, some ch | .configPatch n _, some ch =>
        if ch.ready then s else (s.aerAt (slotFn n) cause).refuseChange ch stBadParam 0xFFFF
      | _, _ => s

/-! ### DOMAIN-RESET and DOMAIN-CYCLE (R85, R86) -/

/-- A zone in latched shutdown cannot be cycled yet (R479). -/
def State.zoneHolds (s : State) (k : Nat) : Bool :=
  let d := sensorOf k
  let x := s.getDie d
  let pins := if k < 64 then s.zonePins k else []
  x.broken || decide (16 * ((145 : Int) - s.hk.dhyst.toNat) ≤ x.temp)
    || pins.any (fun n => (s.getPin n).broken || decide (16 * (((s.getPin n).shut.toNat : Int) - (s.getPin n).hyst.toNat) ≤ (s.getPin n).temp))

/-- A ring holds a descriptor that the part owns. -/
def State.feedOwned (s : State) : Bool := s.rings.any (fun e => e.2.en && decide (e.2.pidx ≠ e.2.cidx))

/-- The domain command is accepted (R81, R85, R479). A lane always has an open billing period (R517), so META never is. -/
def State.domainFits (s : State) (d : Nat) (force cycle : Bool) : Bool :=
  if d < 64 then
    let x := s.getQuad d
    if x.shutdown && cycle then !s.zoneHolds d
    else x.shutdown || force || (cellsOfQuad d).all (fun c => decide (s.serverOf c ≠ c)) || decide ((s.getLane x.owner.toNat).st ≠ .print)
  else if d < 68 then
    let free := (sparesOf (d - 64)).all (fun c => decide ((s.getCell c).svc ≠ .standingIn))
    free && !((s.getQuad d).shutdown && cycle && s.zoneHolds d)
  else if d = dTHNA ∨ d = dTHNB then
    let r := (s.core (d - dTHNA)).role
    decide (r = .standby) || (force && decide (r = .active) && decide ((s.core (otherCore (d - dTHNA))).role = .standby))
  else if d = dFEED then force || !s.feedOwned
  else if dLS 0 ≤ d ∧ d ≤ dLS 3 then ((List.range 68).filter (fun k => decide (quadrantOfQuad k = d - dLS 0))).all (fun k =>
    !bit s.glb.pwr k && (match (s.getQuad k).job with | .ramping _ | .starting _ => false | _ => true))
  else if d = dMOT then (List.range 8).all (fun n => (s.getMotor n).stopped)
  else if d = dCHN then !s.anyPrint
  else false

/-- The end of a domain command. -/
def State.domainDone (h : W32) (s : State) : State := (s.setRstCause 5).finish h stOk 0

/-- A core is reset by command (R85, R90, R505): an active one is swapped out first. The command ends when the core stands by again. -/
def State.resetCore (i : Nat) (s : State) : State :=
  let s := if (s.core i).role = .active then (s.setCore (otherCore i) (fun x => { x with role := .active })).raise 348 else s
  (s.setCore i ThnCore.warmReset).setRstCause 6
/-- Steps 2 to 4 of a cycle of a domain that is no quad (R86): its clock and power bits are 0 until its regulator is ready. A quadrant first
waits for the channels that move bursts into its banks (R201). -/
def State.cycleOff (d : Nat) (h : W32) (s : State) : State :=
  let s : State := { s with glb := { s.glb with cycles := s.glb.cycles ++ [(d, h)] } }
  if dLS 0 ≤ d ∧ d ≤ dLS 3 then State.settleLsOff { s with glb := { s.glb with lsOff := s.glb.lsOff ++ [d - dLS 0] } }
  else s.setDomain d false

/-- CHN at reset, with position feedback and the Pacers (R79); RELAY-ONLY is entered (R463). -/
def State.chainReset (s : State) : State :=
  let s := if s.chn.leadLow then s.endCond 15 4 else s
  State.raiseIf (decide (s.chn.st ≠ .relayOnly)) 318 { s.chnOff with pacers := [], encs := [], trigs := [] }

/-- Quad d is forced dark while its lane prints (R85). -/
def State.forces (s : State) (d : Nat) : Bool :=
  decide (d < 64) && decide ((s.getLane (s.getQuad d).owner.toNat).st = .print) && (cellsOfQuad d).any (fun c => decide (s.serverOf c = c))
/-- What a domain command does once it is accepted (R85, R86, R199, R201, R429). A DOMAIN-RESET of FEED without force, with no owned
descriptor, leaves the ring contexts (log entry 66). -/
def State.domainGoes (d : Nat) (cycle force : Bool) (h : W32) (s : State) : State :=
  if d < 68 then (s.updQuad d (fun x => { x with forced := s.forces d })).stopQuad d (if cycle then .cycle (some h) else .reset (some h))
  else
    let s := if d = dTHNA ∨ d = dTHNB then s.resetCore (d - dTHNA)
      else if d = dFEED then (if cycle then s.feedClear else if force then s.feedStop else s)
      else if d = dMOT then { s with motors := [] }
      else if d = dCHN then (if cycle then s.chainReset else s.chainReset.leaveRelay)
      else if cycle then s else (banksOf (d - dLS 0)).foldl State.bankLogicReset s
    if cycle then s.cycleOff d h else if d = dTHNA ∨ d = dTHNB then s else s.domainDone h
/-- Step 5 of the cycle of a domain that is no quad (R86): its clock starts, and the command ends; a Thinis core is reloaded first (R505). -/
def State.cycleOn (d : Nat) (h : W32) (s : State) : State :=
  let s := { s with glb := { s.glb with cycles := s.glb.cycles.filter (fun e => decide (e.1 ≠ d)) } }
  let s := s.setDomain d true
  if d = dTHNA ∨ d = dTHNB then s
  else
    let s := if d = dMOT then forAll (List.range 8) (fun s n => s.updMotor n (fun m => { m with st := .cal })) s
      else if dLS 0 ≤ d ∧ d ≤ dLS 3 then (s.lsUp (d - dLS 0)).settleStarts else if d = dCHN then s.leaveRelay else s
    s.domainDone h
/-- REGULATOR_READY (R66, R86 steps 4 and 5): a domain in a cycle starts its clock; a running quad has its new voltage. -/
def regulatorReady (d : Nat) (s : State) : State :=
  if d < 68 then
    match (s.getQuad d).job with
    | .ramping h => if s.fire && !s.glb.failing then s.quadStart d h else s
    | _ => if s.fire && !s.glb.failing && bit s.glb.pwr d && (s.getQuad d).vWait then s.supplyReached d else s
  else match s.glb.cycles.find? (fun e => decide (e.1 = d)) with
    | some e => if s.fire && !s.glb.failing && !bit s.glb.pwr d then s.cycleOn d e.2 else s
    | none => s

/-- The two domain commands. -/
def domainCommand (cycle : Bool) (q : LaneIx) (p : Packet) (s : State) : State :=
  let d := pnum p 8 1
  long { opcode := if cycle then 0x0901 else 0x0900, lane0 := true, rom := false, early := false, states := none, fields := fun p _ => [fMax p 8 1 79], own := fun _ _ => true
         busy := fun _ s => s.held (.domain d) }
    q p (fun _ => if cycle then .domainCycle d (pforce p) else .domainReset d (pforce p))
    (fun h s => if s.domainFits d (pforce p) cycle then s.domainGoes d cycle (pforce p) h else s.finish h stBusy 0) s

/-- DOMAIN_RESET (R85, R168). -/
def domainReset (q : LaneIx) (p : Packet) (s : State) : State := domainCommand false q p s
/-- DOMAIN_CYCLE (R86, R168). -/
def domainCycle (q : LaneIx) (p : Packet) (s : State) : State := domainCommand true q p s

/-! ### Discipline (R57-R59, R90) -/

/-- DISC_LOCKED (R58, R59): the error has stayed below 0.05 ppm for 100 ms; a unit that is unable to discipline stays in ACQUIRE. -/
def discLocked (err : Int) (s : State) : State :=
  if s.fire && decide (s.glb.disc = .acquire) && decide (err.natAbs < 50) then
    let s := s.trimBy err
    if s.glb.unable then s else s.setDisc .locked
  else s
/-- DISC_UNLOCKED (R58): the error has stayed above 0.2 ppm for 10 ms. -/
def discUnlocked (err : Int) (s : State) : State :=
  if s.fire && (decide (s.glb.disc = .locked) || decide (s.glb.disc = .acquire)) && decide (200 < err.natAbs) then (s.trimBy err).setDisc .acquire
  else s

end Sys2Proof.Machine
end

