-- ==== Sys2Proof/Machine/RegRead.lean ====
section
/-! DEFINITION. What a read of each BAR0 register returns (R12, R16, R127), block by block, from the register tables of the chapters. Each
table lists the addresses of one block with the fields that stand there; every address that no table lists reads 0. -/

namespace Sys2Proof.Machine

/-- Index and offset of address a in an array of n blocks of `size` bytes from `base`. -/
def slotAt (a base size n : Nat) : Option (Nat × Nat) :=
  if base ≤ a ∧ a < base + size * n then some ((a - base) / size, (a - base) % size) else none
/-- What a table of registers holds at an offset: 0 where it lists none (R16). -/
def pick (regs : List (Nat × W32)) (off : Nat) : W32 := tabGet (fun _ => 0) regs off
/-- A register array of blocks: the block's own table, none outside it. -/
def blockRead (a base size n : Nat) (regs : Nat → List (Nat × W32)) : Option W32 :=
  (slotAt a base size n).map (fun e => pick (regs e.1) e.2)
/-- The low and the high word of a pair (R17). -/
def lo {w : Nat} (x : BitVec w) : W32 := x.extractLsb' 0 32
def hi {w : Nat} (x : BitVec w) : W32 := x.extractLsb' 32 32
/-- The 64-bit word of an integer. -/
def int64 (x : Int) : W64 := ofInt 64 x

/-! ### GLB (R90, R129, R130, R225, R404, R465) -/

def discCode : Disc → Nat | .free => 0 | .acquire => 1 | .locked => 2 | .holdover => 3
def laneCode : LaneSt → Nat | .idle => 0 | .configured => 1 | .print => 2 | .resetting => 3

/-- GLB_LANESTSL (R130). -/
def State.laneWord (s : State) (l : Nat) : W32 :=
  let x := s.getLane l
  putB 28 (s.present l) ||| putN 24 (laneCode x.st) ||| putB 19 x.pacer.isSome ||| putN 16 (x.pacer.getD 0 % 8)
    ||| putN 0 (s.quadsOf l).length
/-- GLB_QCTLk (R90). -/
def Quad.ctlWord (x : Quad) : W32 :=
  putB 31 x.refused ||| put 21 x.vact ||| put 16 x.vset ||| put 8 x.skip ||| put 4 x.divAct ||| put 2 x.divReq
/-- GLB_GATESELg (R404). -/
def Gate.selWord (x : Gate) : W32 := putB 31 x.refused ||| put 16 x.owner ||| put 0 x.serve
/-- The registers of bank b (R225). -/
def Bank.regs (x : Bank) : List (Nat × W32) :=
  [(0x00, putB 31 x.adm ||| put 0 x.limit), (0x04, put 0 x.sum), (0x08, put 16 x.resFeed ||| put 0 x.resPipe),
   (0x0C, put 16 x.resDbg ||| put 0 x.resTko), (0x10, x.defer), (0x14, put 16 x.ce ||| put 0 x.ue),
   (0x18, putB 31 x.eValid ||| putB 30 x.eIsUe ||| put 0 x.eBlock), (0x1C, put 22 x.lastRow ||| put 8 x.soft ||| put 0 x.fused)]
/-- The GLB registers that stand alone. -/
def State.glbRegs (s : State) : List (Nat × W32) :=
  let g := s.glb
  [(0x100, fld g.clk 0 32), (0x104, fld g.clk 32 32), (0x108, put 0 (fld g.clk 64 16)),
   (0x110, fld g.pwr 0 32), (0x114, fld g.pwr 32 32), (0x118, put 0 (fld g.pwr 64 16)),
   (0x120, put 16 (if g.disc = .free then 0 else g.discErr) ||| putN 6 (discCode g.disc) ||| putB 4 g.hwrdy ||| putB 3 g.serdes
      ||| putB 2 g.phyLock ||| putB 1 g.rootLock ||| putB 0 g.resOk),
   (0x124, putB 1 g.clkMode ||| putB 0 g.discEn), (0x128, put 0 g.rstCause),
   (0x700, lo s.time), (0x704, hi s.time)]
/-- A word of GLB. -/
def State.readGlb (s : State) (a : Nat) : W32 :=
  let one := fun (base n : Nat) (v : Nat → W32) => blockRead a base 4 n (fun i => [(0, v i)])
  ([one 0x200 16 s.laneWord,
    one 0x300 8 (fun i => (List.range 8).foldl (fun w j => w ||| putN (4 * j) (s.getQuad (8 * i + j)).owner.val) 0),
    one 0x400 68 (fun k => (s.getQuad k).ctlWord),
    one 0x580 4 (fun i => putB 31 (s.dbgWin i).en ||| putB 30 (s.dbgWin i).wren ||| put 0 (s.dbgWin i).cell),
    one 0x600 16 (fun g => (s.getGate g).selWord),
    one 0x710 4 (fun x => (s.getPort x).fwd), one 0x720 4 (fun x => (s.getPort x).err),
    blockRead a 0x8000 0x20 272 (fun b => (s.getBank b).regs)].findSome? id).getD (pick s.glbRegs a)

/-! ### EVT, queue pairs and record rings (R143, R147, R149, R307) -/

/-- The sources of word w that function f sees (R144): all for the physical function, those mapped to it for a virtual one. -/
def State.srcMask (s : State) (f w : Nat) : W32 :=
  if f = 0 then BitVec.allOnes 32
  else (List.range 32).foldl (fun m i => setBit m i (decide ((s.getMap (32 * w + i)).1 = f))) 0
/-- The queue-pair and record-ring registers of a function; `nout` is the number of its handles, a live count that a conventional reset, which
keeps the handles (R154), does not set to 0 (DESIGN CHOICE, log entry 78). -/
def HostFn.qpRegs (h : HostFn) (paused : Bool) (nout : Nat) : List (Nat × W32) :=
  [(0x4000, lo h.sqBase), (0x4004, hi h.sqBase), (0x4008, lo h.cqBase), (0x400C, hi h.cqBase),
   (0x4010, put 16 h.cqLog ||| put 0 h.sqLog), (0x4014, putB 0 h.en),
   (0x4018, putB 31 h.cfgErr ||| putB 30 h.sqErr ||| putB 29 h.cqErr ||| putB 28 (h.en && !h.waiting.isEmpty && !h.room) ||| putB 27 paused
      ||| putB 16 h.phase ||| put 0 h.cqTail),
   (0x401C, put 0 h.next), (0x4020, putN 16 nout ||| put 0 h.sqHead),
   (0x4040, lo h.prBase), (0x4044, hi h.prBase), (0x4048, putB 31 h.prEn ||| put 0 h.prLog),
   (0x404C, putB 16 h.prPhase ||| put 0 h.prTail), (0x4050, h.prSeq), (0x4054, h.prLost)]
/-- The four words of an MSI-X table entry (R143). -/
def Vec.regs (v : Vec) : List (Nat × W32) := [(0, lo v.addr), (4, hi v.addr), (8, v.data), (12, putB 0 v.mask)]
/-- A word of EVT at offset a from 0x0020_0000, as function f sees it. -/
def State.readEvt (s : State) (f a : Nat) : W32 :=
  let h := s.getHost f
  let nout := (s.ops.filter (fun o => decide (o.queue = f))).length
  ([blockRead a 0x0000 4 12 (fun w => [(0, fld s.evt.stat (32 * w) 32 &&& s.srcMask f w)]),
    blockRead a 0x0040 4 12 (fun w => [(0, fld s.evt.en (32 * w) 32 &&& s.srcMask f w)]),
    blockRead a 0x1000 4 384 (fun x => [(0, if f = 0 ∨ (s.getMap x).1 = f then putN 16 (s.getMap x).1 ||| putN 0 (s.getMap x).2 else 0)]),
    blockRead a 0x8000 16 128 (fun v => (tabGet vecReset h.vecs v).regs),
    blockRead a 0x9000 4 4 (fun w => [(0, fld h.pba (32 * w) 32)])].findSome? id).getD
    (pick ((0x0100, h.stray) :: h.qpRegs s.thn.paused nout) a)

/-! ### FLT (R506) and HK (R487) -/

/-- Word w of a record's bytes. -/
def recWord (bs : List Byte) (w : Nat) : W32 := BitVec.ofNat 32 (ofLe ((bs.drop (4 * w)).take 4))
/-- A word of FLT. -/
def State.readFlt (s : State) (a : Nat) : W32 :=
  let f := s.flt
  ([blockRead a 0x080 4 32 (fun i =>
      let x := s.getSrc i
      [(0, putB 31 x.out ||| putB 30 x.pers ||| put 28 x.cls ||| put 24 x.rlim ||| put 0 x.rcnt)]),
    blockRead a 0x200 4 8 (fun w => [(0, recWord s.firstBytes w)]),
    (slotAt a 0x400 0x20 32).map (fun e => recWord (s.historyBytes e.1) (e.2 / 4))].findSome? id).getD
    (pick [(0x000, put 16 f.quiet ||| put 10 f.firstMin ||| put 8 f.histMin),
      (0x004, putB 31 f.first.isSome ||| putB 30 f.writing.isSome ||| putB 27 (s.outClass 3) ||| putB 26 (s.outClass 2)
        ||| putB 25 (s.outClass 1) ||| putB 24 (s.outClass 0) ||| put 0 f.head),
      (0x008, f.ovf), (0x00C, putB 31 s.svcreq ||| put 0 f.cause), (0x010, put 0 f.rwin), (0x014, f.seq),
      (0x020, putB 30 f.pend ||| putB 29 f.done ||| putB 28 f.injRef ||| put 16 f.injSrc ||| put 0 f.injInst),
      (0x024, f.injAddr)] a)

/-- HK_ZSTSk (R487): a spare quad shows SDIE, STEP and HOT only. -/
def Quad.zoneWord (k : Nat) (x : Quad) : W32 :=
  let w := putB 29 x.sdie ||| putN 26 x.step ||| putB 25 x.hot
  if k < 64 then w ||| putB 31 x.shutdown ||| putB 30 x.shead ||| put 8 x.hmax else w
/-- A word of HK. -/
def State.readHk (s : State) (a : Nat) : W32 :=
  let h := s.hk
  let one := fun (base n : Nat) (v : Nat → W32) => blockRead a base 4 n (fun i => [(0, v i)])
  ([one 0x100 128 (fun n => let p := s.getPin n; putB 31 p.en ||| putB 30 p.diode ||| putB 29 p.icur ||| put 16 p.zone),
    one 0x300 128 (fun n => let p := s.getPin n; put 24 p.warn ||| put 16 p.throt ||| put 8 p.shut ||| put 4 p.hyst),
    one 0x500 128 (fun n => let p := s.getPin n; put 16 p.rnom ||| put 0 p.beta),
    one 0x700 128 (fun n => let p := s.getPin n; putB 31 p.broken ||| put 29 p.level ||| putB 28 p.crossed ||| put 0 (ofInt 16 p.temp)),
    one 0x900 32 (fun n => let p := s.getDie n; putB 31 p.broken ||| put 29 p.level ||| putB 28 p.crossed ||| put 0 (ofInt 16 p.temp)),
    one 0xA00 68 (fun k => (s.getQuad k).zoneWord k),
    one 0xC00 8 (fun p => let t := s.getTreq p; putB 31 t.req ||| putB 30 t.enf ||| put 0 t.target)].findSome? id).getD
    (pick [(0x000, putB 31 h.fast ||| putB 30 h.fastAct ||| put 16 h.trate ||| put 8 h.grace ||| put 4 h.dhyst),
      (0x004, put 24 h.rstep ||| put 16 h.hold), (0x008, put 0 h.rounds), (0x00C, put 0 h.vin),
      (0x010, fld h.supsts 0 32), (0x014, fld h.supsts 32 32), (0x018, put 0 (fld h.supsts 64 21))] a)

/-! ### MOT (R431) -/

def motorCode : MotorSt → Nat
  | .off => 0 | .cal => 1 | .ready => 2 | .check => 3 | .align => 4 | .ramp => 5 | .run => 6 | .braking => 7 | .coast => 8
  | .braked => 9 | .fault => 10 | .direct => 11
/-- The registers of a motor channel. -/
def Motor.regs (m : Motor) : List (Nat × W32) :=
  [(0x00, put 30 m.mode ||| putB 29 m.brken ||| putB 28 m.iclk ||| put 26 m.loopDiv ||| put 16 m.dt ||| put 0 m.n),
   (0x04, m.spdSet), (0x08, put 24 m.tslew ||| put 0 m.trq), (0x0C, put 0 m.slew), (0x10, put 16 m.ilim ||| put 0 m.spdMax),
   (0x14, put 24 m.alignT ||| put 16 m.alignLvl ||| put 8 m.rampT ||| put 6 m.retry),
   (0x18, put 22 m.handoff ||| put 11 m.brkSpd ||| put 0 m.zspd), (0x1C, put 16 m.dv ||| put 0 m.du), (0x20, put 0 m.dw),
   (0x24, putN 28 (motorCode m.st) ||| putB 27 m.profile ||| putB 26 m.bound.isSome ||| putN 23 ((m.bound.map (·.val)).getD 0)
      ||| putB 22 m.dir ||| putB 21 m.rot ||| putB 20 m.vlim ||| putB 19 m.slim ||| putB 18 m.clim ||| putB 17 m.revRef
      ||| putB 16 m.failA ||| putB 15 m.failB ||| putB 14 m.calValid ||| put 12 m.fcause),
   (0x28, ofInt 32 m.spd), (0x2C, ofInt 32 m.ref), (0x30, put 16 m.ofsB ||| put 0 m.ofsA),
   (0x34, put 16 m.ovr ||| put 8 m.starts ||| put 0 m.faults), (0x38, put 0 m.evt), (0x3C, m.ratio)]

/-! ### POS (R306) and PACER (R338, R339) -/

def refCode : RefSt → Nat | .qualified => 0 | .lost => 1 | .requal => 2 | .off => 3
def curCode : RefCur → Nat | .primary => 0 | .secondary => 1 | .dead => 2 | .none => 3
def pacerCode : PacerSt → Nat | .stopped => 0 | .track => 1 | .wait => 2 | .reversed => 3 | .dead => 4 | .none => 5
/-- The registers of an encoder. -/
def Encoder.regs (e : Encoder) : List (Nat × W32) :=
  [(0x00, putB 31 e.en ||| putB 30 e.term ||| putB 29 e.dirInv ||| put 27 e.idxMode ||| put 8 e.idxVal ||| put 0 e.db),
   (0x04, put 0 e.win),
   (0x08, putB 31 e.rev ||| putB 30 e.isStill ||| putB 29 e.armed ||| putB 28 (e.fltA || e.fltB || e.fltZ) ||| putB 3 e.revSeen
      ||| putB 2 e.idxSeen ||| putB 1 e.qerrSeen ||| putB 0 e.fltSeen),
   (0x0C, lo e.pos), (0x10, hi e.pos), (0x14, lo (e.pos - e.base)), (0x18, e.spd), (0x1C, put 0 e.laps),
   (0x20, put 16 e.qerr ||| put 0 e.jit), (0x24, lo e.raw)]
/-- The registers of a trigger input. -/
def Trig.regs (t : Trig) : List (Nat × W32) :=
  [(0x00, putB 31 t.en ||| put 28 t.encSel ||| put 26 t.evtEdge ||| put 0 t.holdoff),
   (0x04, putB 31 t.level ||| putB 3 t.rValid ||| putB 2 t.fValid ||| putB 1 t.rOvr ||| putB 0 t.fOvr),
   (0x08, lo t.rTime), (0x0C, hi t.rTime), (0x10, t.rPos), (0x18, lo t.fTime), (0x1C, hi t.fTime), (0x20, t.fPos), (0x24, t.count)]
/-- NQ of POS_WSTSp: windows that are ARMED, PENDING or OPEN. -/
def Pacer.queued (x : Pacer) : Nat := x.live.length
/-- The reference and window registers of a Pacer. -/
def Pacer.refRegs (x : Pacer) : List (Nat × W32) :=
  [(0x00, putB 31 x.secEn ||| putB 30 x.drEn ||| put 24 x.sec ||| put 20 x.pri ||| put 16 x.qlim ||| put 8 x.lossMul),
   (0x04, putN 30 (curCode x.cur) ||| putB 29 x.switching ||| putN 26 (refCode x.priSt) ||| putN 24 (refCode x.secSt)
      ||| put 11 (if x.priSt ≠ .requal ∧ x.secSt = .requal then x.reqCnt2 else x.reqCnt) ||| put 8 x.lossCause ||| put 0 x.switches),
   (0x08, putB 31 x.cont ||| put 0 x.segLen), (0x0C, putB 31 x.isOpen ||| putN 24 (min 8 x.queued)),
   (0x10, put 24 x.empty ||| put 16 x.stray ||| put 8 x.noArm ||| put 0 x.trunc)]
/-- A word of POS. -/
def State.readPos (s : State) (a : Nat) : W32 :=
  ([blockRead a 0x000 0x40 8 (fun n => (s.getEnc n).regs), blockRead a 0x400 0x40 16 (fun t => (s.getTrig t).regs),
    blockRead a 0x800 0x40 8 (fun p => (s.getPacer p).refRegs)].findSome? id).getD 0

/-- PACER_LIMFLGp (R338, R40): the flags, and the lowest-numbered limit that sets the set-point. -/
def State.limWord (s : State) (p : Nat) : W32 :=
  let lims := s.limitsOf p
  let cmd := s.cmdOf p
  let below := fun (i : Nat) => decide (lims.getD i 0 < cmd)
  let src := if (s.printLanes p).isEmpty then 0 else lims.findIdx (fun v => decide (v = s.setpt p))
  putN 8 src ||| putB 4 (below 1) ||| putB 3 (below 4) ||| putB 2 (below 2) ||| putB 1 (below 3) ||| putB 0 (below 5)
/-- The registers of Pacer p; under dead reckoning X is the predicted position (R308). -/
def State.pacerRegs (s : State) (p : Nat) : List (Nat × W32) :=
  let x := s.getPacer p
  let seedX := int64 (x.seedX / 65536)
  let at_ := x.posAt s.now
  let px := int64 (at_ / 65536)
  let line := int64 (at_ / (x.lpitch.toNat : Int))
  [(0x00, put 20 x.w ||| put 16 x.dmax ||| put 12 x.late ||| put 10 x.qspan), (0x04, x.lpitch), (0x08, x.ratio), (0x0C, put 0 x.drlim),
   (0x10, putN 29 (pacerCode x.st) ||| putB 28 x.revPend ||| put 0 x.edgeErr), (0x14, x.q),
   (0x18, lo (BitVec.ofNat 64 x.seedT)), (0x1C, hi (BitVec.ofNat 64 x.seedT)), (0x20, lo seedX), (0x24, hi seedX),
   (0x28, lo px), (0x2C, hi px), (0x30, lo line), (0x34, hi line), (0x38, x.fstart), (0x3C, x.lateCnt), (0x40, x.dropCnt),
   (0x44, put 0 x.evt), (0x48, s.limWord p), (0x4C, BitVec.ofNat 32 (s.cmdOf p)), (0x50, x.ceil), (0x54, x.thr), (0x58, x.gov),
   (0x5C, x.data), (0x60, BitVec.ofNat 32 (s.setpt p)), (0x64, BitVec.ofNat 32 x.rate)]
/-- A word of PACER. -/
def State.readPacer (s : State) (a : Nat) : W32 :=
  ([blockRead a 0x000 0x80 8 s.pacerRegs,
    blockRead a 0x800 8 16 (fun l => [(0, putB 31 (s.getLane l).derate ||| put 0 (s.getLane l).fill), (4, (s.getLane l).starv)])].findSome?
    id).getD 0

/-! ### CHN (R464) -/

def chainCode : ChainSt → Nat | .unjoined => 0 | .joining => 1 | .member => 2 | .relayOnly => 3
def causeOfRelay : RelayCause → Nat | .none => 0 | .command => 1 | .level => 2 | .chn => 3
def portCode : PortSt → Nat | .down => 0 | .train => 1 | .up => 2 | .miswired => 3
/-- The earliest registered epoch of this unit, none while nothing is registered. -/
def State.epNext (s : State) : Option Nat :=
  ((s.changes.filter (fun ch => decide (ch.ep ≠ 0))).map (·.ep)).foldl (fun m e => some (min (m.getD e) e)) none
/-- A word of CHN. -/
def State.readChn (s : State) (a : Nat) : W32 :=
  let c := s.chn
  let id := if c.baton then s.unitId else c.batonId
  let ep := BitVec.ofNat 64 (s.epNext.getD 0)
  ((blockRead a 0x040 0x10 4 (fun x =>
      let y := s.getPort x
      [(0, putN 28 (portCode y.st) ||| put 26 y.width), (4, y.oneway),
       (8, put 24 y.nlevel ||| put 16 y.nport ||| put 0 y.naddr)]))).getD
    (pick [(0x000, put 16 c.lead ||| put 0 c.crcThr),
      (0x004, putN 28 (chainCode c.st) ||| putB 27 c.baton ||| putB 26 c.closed ||| putB 25 c.leadLow ||| putB 24 c.spur
        ||| putN 22 (causeOfRelay c.rcause)),
      (0x008, put 0 c.addr), (0x00C, putN 24 (s.ownLevel % 256) ||| putN 16 (s.opLevel % 256) ||| putN 8 (s.maxLevel % 256)
        ||| putN 0 (s.minLevel % 256)),
      (0x010, lo id), (0x014, hi id), (0x018, c.rtr), (0x01C, c.ow),
      (0x020, put 16 (if s.holder then c.lead else c.leadAct) ||| put 8 c.guard ||| putB 7 s.epNext.isSome
        ||| putB 6 ((List.range 16).any (fun l => (s.getLane l).hold))),
      (0x024, lo ep), (0x028, hi ep), (0x02C, putB 31 c.held ||| put 24 c.steps ||| put 0 c.offset),
      (0x030, put 16 c.applied ||| put 0 c.missed), (0x034, put 16 c.missedR ||| put 0 c.members)] a)

/-! ### FUSE (R523) and METER (R524) -/

/-- A word of FUSE. -/
def State.readFuse (s : State) (a : Nat) : W32 :=
  (blockRead a 0x100 4 128 (fun w => [(0, s.getFuse 0 w)])).getD
    (pick [(0x000, putB 31 s.fuse.prog.isSome ||| putB 30 s.fuse.epochPend ||| putB 29 s.fuse.epochExh),
      (0x004, put 16 s.fuse.rl ||| put 0 s.fuse.wl),
      (0x008, putB 31 s.bootEpoch.isSome ||| putN 0 (s.bootEpoch.getD 0 % 4096))] a)
/-- The registers of a lane's meter block. -/
def MeterLane.regs (m : MeterLane) : List (Nat × W32) :=
  [(0x000, lo m.period), (0x004, hi m.period), (0x008, lo m.wall), (0x00C, hi m.wall), (0x010, put 0 m.lflags)]
    ++ (List.range 16).flatMap (fun p =>
      let d := tabGet (fun _ => 0) m.drops p
      let v := tabGet (fun _ => 0) m.vols p
      [(0x040 + 0x10 * p, lo d), (0x044 + 0x10 * p, hi d), (0x048 + 0x10 * p, lo v), (0x04C + 0x10 * p, hi v)])
    ++ (List.range 48).map (fun i => (0x140 + 4 * i, put 0 (tabGet (fun _ => (0 : BitVec 24)) m.vpl i)))
/-- A word of METER. -/
def State.readMeter (s : State) (a : Nat) : W32 :=
  let nonce : W64 := BitVec.ofNat 64 (s.bootEpoch.getD 0 % 4096 * 2 ^ 48 + s.meter.seqNo % 2 ^ 48)
  (blockRead a 0x1000 0x200 16 (fun l => (s.getMeter l).regs)).getD
    (pick [(0x000, putB 31 s.fuse.epochExh ||| putB 30 s.meter.exh ||| putB 29 (!s.meter.closed.isEmpty)),
      (0x008, lo nonce), (0x00C, hi nonce)] a)

/-! ### FEED (R204) -/

def ringCode : RingSt → Nat | .disabled => 0 | .run => 1 | .stopped => 2 | .error => 3
/-- FEED_RSTSr. -/
def Ring.stsWord (x : Ring) : W32 := putN 30 (ringCode x.st) ||| put 28 x.err ||| put 16 x.pidx ||| put 0 x.cidx
/-- FEED_WCFG. -/
def Ring.cfgWord (x : Ring) : W32 :=
  putB 31 x.en ||| putB 30 x.busy ||| putB 29 x.refused ||| put 27 x.burst ||| put 20 x.log2 ||| put 16 x.line ||| put 0 x.cell
/-- The registers of a feed engine. -/
def Engine.regs (x : Engine) : List (Nat × W32) :=
  [(0x00, putB 31 x.stopped ||| putB 30 x.running.isSome ||| putN 0 ((x.running.map (·.ring)).getD 0)),
   (0x04, put 24 x.cause ||| put 0 x.errRing), (0x08, lo x.errAddr), (0x0C, hi x.errAddr), (0x10, x.stops), (0x14, x.bursts)]
/-- A word of FEED at offset a from 0x0038_0000; the window acts on the function's own rings only. -/
def State.readFeed (s : State) (f a : Nat) : W32 :=
  let r := (s.getHost f).wsel.toNat
  let own := decide (s.ringLane r = f)
  ([blockRead a 0 4 65536 (fun r => [(0, (s.getRing r).stsWord)]),
    blockRead a 0x50000 0x20 16 (fun e => (s.getEngine e).regs)].findSome? id).getD
    (if a = 0x40000 then put 0 (s.getHost f).wsel
     else if own then pick [(0x40008, lo (s.getRing r).base), (0x4000C, hi (s.getRing r).base), (0x40010, (s.getRing r).cfgWord)] a
     else 0)

/-! ### Cell windows (R273, R340, R374, R405, R406) -/

def svcCode : Svc → Nat
  | .inService => 0 | .stoodIn => 1 | .underTest => 2 | .retired => 3 | .free => 8 | .copying => 9 | .standingIn => 10
  | .spareTest => 11 | .spareRetired => 12
/-- CELL_NEXT (R340): the lowest line undecided on either link, 0 while the cell has decided none. -/
def State.nextLine (s : State) (c : Nat) : Int := match s.decidedBoth c with | none => 0 | some d => d + 1
/-- A spare stands in for an active cell, whose window shows the work (R23). -/
def State.standsIn (s : State) (k : Nat) : Bool := decide (256 ≤ k) && decide ((s.getCell k).svc = .standingIn)
/-- CELL_ID (R274). -/
def State.cellId (s : State) (k : Nat) : W32 :=
  putB 31 (decide (256 ≤ k)) ||| putB 30 (decide (k < 256) && decide (s.serverOf k ≠ k))
    ||| putN 16 (if k < 256 then s.serverOf k else if s.standsIn k then (s.getCell k).server else k) ||| putN 0 k
/-- CELL_TKO (R274): a spare shows the takeover or return that it takes part in. -/
def State.cellTko (s : State) (k : Nat) : W32 :=
  let own := s.getCell k
  let c := own.server
  let moves := decide (256 ≤ k) && (decide (own.svc = .copying) || decide (own.svc = .standingIn)) && (s.getCell c).tkoActive
    && decide ((s.getCell c).tkoStep.toNat ≤ 4)
  let x := if moves then s.getCell c else own
  putB 31 x.tkoActive ||| put 28 x.tkoStep ||| putN 16 (if moves then c else own.tkoPeer) ||| put 0 x.tkoBlocks
/-- CELL_BIST (R274). -/
def Cell.bistWord (x : Cell) : W32 := putB 31 x.bistV ||| putB 30 x.bistP ||| put 16 x.bistFails ||| put 0 x.bistRuns
/-- The window of a spare that stands in: its identity and test state, and its own events (R23; log entry 27). -/
def State.spareRegs (s : State) (k : Nat) : List (Nat × W32) :=
  let x := s.getCell k
  [(0x00, s.cellId k), (0x04, putN 28 (svcCode x.svc)), (0x18, s.cellTko k), (0x1C, put 0 x.evt), (0x44, x.bistWord)]
/-- The registers of chapter 8 in the window of cell c. -/
def State.cellRegs (s : State) (c : Nat) : List (Nat × W32) :=
  let x := s.getCell c
  let n := x.ntsel.toNat
  let copyBit := fun (i : Nat) => ((x.active[i]?).map (·.intact)).getD false
  [(0x00, s.cellId c),
   (0x04, putN 28 (svcCode x.svc) ||| putB 23 (s.maskWait c) ||| putB 22 (s.proc c) ||| putN 0 (min 65535 (s.fillOf c))),
   (0x08, putB 31 x.divergent ||| putN 6 (x.inUse.getD 3 % 4) ||| putB 5 (shadowOk x.shadow) ||| putB 2 (copyBit 2)
      ||| putB 1 (copyBit 1) ||| putB 0 (copyBit 0)),
   (0x0C, ((x.active[0]?).map (·.body.gen)).getD 0), (0x10, ((x.active[1]?).map (·.body.gen)).getD 0),
   (0x14, ((x.active[2]?).map (·.body.gen)).getD 0),
   (0x18, s.cellTko c), (0x1C, put 0 x.evt),
   (0x20, lo x.clines), (0x24, hi x.clines), (0x28, lo x.conc), (0x2C, hi x.conc), (0x30, put 16 x.lmiss ||| put 0 x.rmiss),
   (0x34, put 0 x.ntsel), (0x38, x.entry n),
   (0x3C, putB 8 (x.det.contains n) ||| put 0 (tabGet (fun _ => (0 : Byte)) x.servo n)), (0x40, put 16 x.tblCe ||| put 0 x.tblUe),
   (0x44, x.bistWord)]
/-- The scheduler registers of cell c (R340). -/
def State.schedRegs (s : State) (c : Nat) : List (Nat × W32) :=
  let x := s.getCell c
  let v := x.pv
  let next := int64 (s.nextLine c)
  [(0x400, put 0 (s.getLink (2 * c)).tf), (0x404, put 0 (s.getLink (2 * c + 1)).tf), (0x408, put 16 x.schLate ||| put 0 x.schDrop),
   (0x410, lo next), (0x414, hi next), (0x480, put 0 x.pvsel),
   (0x484, putB 31 true ||| putB 30 v.valid ||| put 28 v.st ||| put 26 v.km1 ||| putB 25 v.loaded ||| putB 24 v.bank ||| putB 23 v.data
      ||| putB 22 v.starved),
   (0x488, lo v.line), (0x48C, hi v.line), (0x490, lo v.ts1), (0x494, hi v.ts1), (0x498, v.dline)]
def linkCode : LinkSt → Nat
  | .down => 0 | .detect => 1 | .lock => 2 | .align => 3 | .latency => 4 | .ident => 5 | .load => 6 | .sync => 7 | .up => 8 | .long => 9
/-- HL_STSi.CONCEAL (R374): the link-down rule is in force (R358): the link has gone DOWN and is not UP again, its lane prints without it, or lines
speculated without it are still to be decided. -/
def State.conceals (s : State) (l : Nat) : Bool :=
  let k := s.getLink l
  k.conceal || (s.linkPrints l && decide (k.st ≠ .up)) || (!(s.getCell (l / 2)).bare && k.strobes.any (·.dark))
/-- The registers of link l. -/
def State.linkRegs (s : State) (l : Nat) : List (Nat × W32) :=
  let k := s.getLink l
  [(0x00, putB 31 k.en ||| put 24 k.swing ||| putB 8 k.tickle ||| put 0 k.stsper),
   (0x04, putN 28 (linkCode k.st) ||| putB 27 (s.conceals l) ||| put 0 k.trains), (0x08, put 16 k.rt ||| put 0 k.oneway),
   (0x0C, put 16 (ofInt 16 k.temp) ||| putB 15 (s.stale l) ||| put 0 k.hflt), (0x10, lo k.hid), (0x14, hi k.hid),
   (0x18, put 16 k.crc ||| put 8 k.retry ||| put 0 k.syncErr), (0x1C, put 16 k.lost ||| put 0 k.downs), (0x20, k.estrobe),
   (0x24, k.ewin), (0x28, put 30 k.klast ||| putB 29 k.derate ||| putB 28 k.single ||| putN 0 (min 16777215 (k.wls.foldl max 0 / 256))),
   (0x2C, k.gcut)]
/-- The governor and servo registers of cell c (R374, R405). -/
def State.servoRegs (s : State) (c : Nat) : List (Nat × W32) :=
  let x := s.getCell c
  let a := s.getLink (2 * c)
  let b := s.getLink (2 * c + 1)
  let valid := (List.range 5).foldl (fun w i => w ||| putB i (tabGet tsetReset x.tsets i).valid) 0
  [(0x880, put 16 x.govSp ||| put 8 x.govPers ||| put 0 x.govRel), (0x884, put 0 x.hlEvt),
   (0xC00, put 16 x.throw ||| putB 15 (s.servoOf c).on ||| putB 14 x.noGate ||| put 0 x.vtol), (0xC04, put 0 (s.servoOf c).vt),
   (0xC08, put 30 a.flSrc ||| put 0 a.tgt), (0xC0C, put 30 b.flSrc ||| put 0 b.tgt), (0xC10, valid),
   (0xC14, put 16 (ofInt 16 b.hdly) ||| put 0 (ofInt 16 a.hdly)), (0xC18, put 0 (ofInt 16 x.cdly)), (0xC1C, put 16 x.svUp ||| put 0 x.svDown),
   (0xC20, put 16 x.svSat ||| put 0 x.svDets), (0xC24, x.tests), (0xC28, x.nohits), (0xC40, put 8 a.eyeOpen ||| put 0 a.eyePhase),
   (0xC44, put 8 b.eyeOpen ||| put 0 b.eyePhase)]
def gateCode : GateSt → Nat | .unavailable => 0 | .cal => 1 | .uncal => 2 | .idle => 3 | .test => 4 | .blocked => 5
/-- The registers of a gate. -/
def Gate.regs (x : Gate) : List (Nat × W32) :=
  [(0x00, put 16 x.hgate ||| put 0 x.gwin),
   (0x04, put 20 x.gdly ||| put 18 x.testLvl ||| putB 17 x.autoClr ||| putB 16 x.recalRef ||| put 8 x.guard),
   (0x08, putN 28 (gateCode x.st) ||| putN 24 ((x.spit.map (·.lane)).getD 0) ||| putN 20 ((x.spit.map (·.plane)).getD 0) ||| put 0 x.nozzle),
   (0x0C, put 23 x.minw ||| putB 22 x.calOk ||| putB 21 x.blocked ||| put 0 x.idle), (0x10, putB 31 x.hit ||| put 0 x.tfb),
   (0x14, x.tests), (0x18, x.nohit), (0x1C, x.skip), (0x20, x.blk), (0x24, put 0 x.rounds), (0x28, put 0 x.evt)]
/-- The gate whose registers lie in the window of cell k at its block j, if any (R376, R406). -/
def State.gateAt (s : State) (k j : Nat) : Option Nat :=
  if k < 256 ∧ 4 * (s.getGate (4 * quadrantOf k + j)).owner.toNat = k then some (4 * quadrantOf k + j) else none
/-- A word of the window of cell c. -/
def State.readCell (s : State) (c a : Nat) : W32 :=
  if s.standsIn c then pick (s.spareRegs c) a
  else if a < 0x400 then pick (s.cellRegs c) a
  else if a < 0x800 then pick (s.schedRegs c) a
  else match slotAt a 0x800 0x40 2, slotAt a 0xC80 0x40 4 with
    | some e, _ => pick (s.linkRegs (2 * c + e.1)) e.2
    | _, some e => match s.gateAt c e.1 with | none => 0 | some g => pick (s.getGate g).regs e.2
    | none, none => pick (s.servoRegs c) a

/-! ### The whole of BAR0 (R127) -/

/-- The block of an address and its offset there, in the order of R127. -/
inductive Block where
  | glb | ringBell | queueBell | evt | flt | hk | mot | pos | pacer | chn | fuse | meter | feed | cell (c : Nat) | gap
deriving DecidableEq, Repr

/-- The block that holds address a. -/
def blockOf (a : Nat) : Block :=
  if a < 0x100000 then .glb else if a < 0x180000 then .ringBell else if a < 0x180100 then .queueBell
  else if a < 0x200000 then .gap else if a < 0x300000 then .evt else if a < 0x310000 then .flt else if a < 0x320000 then .hk
  else if a < 0x330000 then .mot else if a < 0x340000 then .pos else if a < 0x350000 then .pacer else if a < 0x360000 then .chn
  else if a < 0x370000 then .fuse else if a < 0x380000 then .meter else if a < 0x400000 then .feed
  else if a < 0x1000000 then .gap else if a < 0x2100000 then .cell ((a - 0x1000000) / 0x10000) else .gap

/-- The value at address a as function f reads it once the access is inside its view; doorbells and gaps read 0 (R13, R16, R131). -/
def State.regRead (s : State) (f a : Nat) : W32 :=
  match blockOf a with
  | .glb => s.readGlb a
  | .evt => s.readEvt f (a - 0x200000)
  | .flt => s.readFlt (a - 0x300000)
  | .hk => s.readHk (a - 0x310000)
  | .mot => (blockRead (a - 0x320000) 0 0x40 8 (fun n => (s.getMotor n).regs)).getD 0
  | .pos => s.readPos (a - 0x330000)
  | .pacer => s.readPacer (a - 0x340000)
  | .chn => s.readChn (a - 0x350000)
  | .fuse => s.readFuse (a - 0x360000)
  | .meter => s.readMeter (a - 0x370000)
  | .feed => s.readFeed f (a - 0x380000)
  | .cell c => s.readCell c ((a - 0x1000000) % 0x10000)
  | .ringBell => 0
  | .queueBell => 0
  | .gap => 0

/-- Low words of the 64-bit pairs (R17), as the register tables name them: an offset in an array of blocks, or an address. -/
def isPairLow (a : Nat) : Bool :=
  let at_ := fun (base size n : Nat) (offs : List Nat) => match slotAt a base size n with | none => false | some e => offs.contains e.2
  [0x700, 0x204000, 0x204008, 0x204040, 0x3C0008, 0x350010, 0x350024, 0x370008].contains a
    || at_ 0x3D0000 0x20 16 [0x08] || at_ 0x330000 0x40 8 [0x0C] || at_ 0x330400 0x40 16 [0x08, 0x18]
    || at_ 0x340000 0x80 8 [0x18, 0x20, 0x28, 0x30]
    || at_ 0x371000 0x200 16 ([0x00, 0x08] ++ (List.range 16).flatMap (fun p => [0x40 + 0x10 * p, 0x48 + 0x10 * p]))
    || at_ 0x1000000 0x10000 272 [0x20, 0x28, 0x410, 0x488, 0x490, 0x810, 0x850]
/-- The low word of a trigger's latch set, whose read also captures the position word (R284). -/
def isLatchLow (a : Nat) : Bool := match slotAt a 0x330400 0x40 16 with | none => false | some e => e.2 = 0x08 || e.2 = 0x18

end Sys2Proof.Machine
end

