-- ==== Sys2Proof/Machine/RegWrite.lean ====
section
/-! DEFINITION. What a write of each BAR0 register does (R13, R15, R16), block by block: reserved and read-only bits are ignored, a field
written with a value outside its range keeps its value, and W1C bits clear. -/

namespace Sys2Proof.Machine

/-- A field of a written word that takes it only within a range. -/
def inRange {n : Nat} (old : BitVec n) (v : W32) (at_ lo hi : Nat) : BitVec n :=
  if lo ≤ (fld v at_ n).toNat ∧ (fld v at_ n).toNat ≤ hi then fld v at_ n else old
/-- W1C bits of a register held at bits [n - 1 : 0] (R13). -/
def w1c {n : Nat} (old : BitVec n) (v : W32) : BitVec n := old &&& ~~~(v.setWidth n)
/-- A W1C flag at bit i. -/
def w1cBit (old : Bool) (v : W32) (i : Nat) : Bool := old && !bit v i

/-! ### GLB -/

/-- GLB_CLKCTL (R62, R90): DISC_EN = 0 freezes the trim and DISC reads FREE; a change of DISC raises event 317. The clock mode waits for
the next reset. -/
def State.putClkCtl (v : W32) (s : State) : State :=
  let s := if bit v 0 then s else s.setDisc .free
  { s with glb := { s.glb with clkMode := bit v 1, discEn := bit v 0 } }
/-- A write of GLB. -/
def State.putGlb (a : Nat) (v : W32) (s : State) : State :=
  if a = 0x124 then s.putClkCtl v
  else if a = 0x128 then { s with glb := { s.glb with rstCause := w1c s.glb.rstCause v } }
  else match slotAt a 0x400 4 68, slotAt a 0x580 4 4, slotAt a 0x600 4 16, slotAt a 0x8000 0x20 272 with
    | some (k, 0), _, _, _ =>
      let s := s.updQuad k (fun x => { x with refused := w1cBit x.refused v 31 })
      s.requestQuad k (fld v 16 5).toNat (fld v 2 2).toNat (fld v 8 3).toNat
    | _, some (i, 0), _, _ =>
      s.setDbgWin i { en := bit v 31, wren := bit v 30, cell := inRange (s.dbgWin i).cell v 0 0 271 }
    | _, _, some (g, 0), _ => s.selectGate g v
    | _, _, _, some (b, 0x18) => s.updBank b (fun x => { x with eValid := w1cBit x.eValid v 31 })
    | _, _, _, _ => s

/-! ### EVT, MSI-X, queue pairs, record rings -/

/-- A write of EVT_STATw by function f (R144): its own sources clear; a 1 for any other counts one stray access. -/
def State.putStat (f w : Nat) (v : W32) (s : State) : State :=
  let mask := s.srcMask f w
  let s := if v &&& ~~~mask = 0 then s else s.stray f
  let s := { s with evt := { s.evt with stat := s.evt.stat &&& ~~~(((v &&& mask).setWidth 384) <<< (32 * w)) } }
  s.settle
/-- A write of EVT_ENw by function f (R144): its own bits take the value; a request that rises is signalled. -/
def State.putEn (f w : Nat) (v : W32) (s : State) : State :=
  let mask := s.srcMask f w
  let s := if v &&& ~~~mask = 0 then s else s.stray f
  let was := s.evt.en
  let m384 := (mask.setWidth 384) <<< (32 * w)
  let s := { s with evt := { s.evt with en := (was &&& ~~~m384) ||| (((v &&& mask).setWidth 384) <<< (32 * w)) } }
  let s := (List.range 32).foldl (fun s i =>
    let src := 32 * w + i
    if s.request src && !bit was src then s.signal (s.getMap src).1 (s.getMap src).2 else s) s
  s.settle
/-- A write of EVT_MAPs (R144, R147). -/
def State.putMap (src : Nat) (v : W32) (s : State) : State :=
  ({ s with evt := { s.evt with maps := tabPut mapReset s.evt.maps src ((fld v 16 4).toNat, (fld v 0 7).toNat) } } : State).settle
/-- A write of one word of function f's MSI-X table (R143). -/
def State.putVec (f v off : Nat) (x : W32) (s : State) : State :=
  let u := fun (e : Vec) =>
    if off = 0 then { e with addr := setLow e.addr x } else if off = 4 then { e with addr := setHigh e.addr x }
    else if off = 8 then { e with data := x } else if off = 12 then { e with mask := bit x 0 } else e
  (s.updHost f (fun h => { h with vecs := tabPut vecReset h.vecs v (u (tabGet vecReset h.vecs v)) })).settleFn f
/-- QP_CTL.EN written as 1 while it is 0 (R150). -/
def HostFn.enable (h : HostFn) : HostFn :=
  if 4 ≤ h.sqLog.toNat ∧ h.sqLog.toNat ≤ 12 ∧ 4 ≤ h.cqLog.toNat ∧ h.cqLog.toNat ≤ 16 then
    { h with en := true, sqHead := 0, sqTail := 0, cqTail := 0, cqHead := 0, phase := true }
  else { h with cfgErr := true }
/-- PREC_CTL (R307): LOG2 outside 4-12 keeps its value (log entry 25). -/
def HostFn.putPrecCtl (h : HostFn) (v : W32) : HostFn :=
  let h := if h.prEn then h else { h with prLog := inRange h.prLog v 0 4 12 }
  if bit v 31 then (if h.prEn then h else { h with prEn := true, prTail := 0, prPhase := true }) else { h with prEn := false }
/-- A base address pair: a word of it, aligned to 4 KiB. -/
def putBase (x : W64) (high : Bool) (v : W32) : W64 := if high then setHigh x v else setLow x (v &&& 0xFFFFF000)
/-- A write of a queue-pair or record-ring register of a function (R149, R307). -/
def HostFn.putQp (h : HostFn) (off : Nat) (v : W32) : HostFn :=
  if off = 0x4000 ∨ off = 0x4004 then (if h.en then h else { h with sqBase := putBase h.sqBase (decide (off = 0x4004)) v })
  else if off = 0x4008 ∨ off = 0x400C then (if h.en then h else { h with cqBase := putBase h.cqBase (decide (off = 0x400C)) v })
  else if off = 0x4010 then (if h.en then h else { h with cqLog := fld v 16 5, sqLog := fld v 0 4 })
  else if off = 0x4014 then (if bit v 0 && !h.en then h.enable else h)
  else if off = 0x4018 then { h with cfgErr := w1cBit h.cfgErr v 31, sqErr := w1cBit h.sqErr v 30, cqErr := w1cBit h.cqErr v 29 }
  else if off = 0x4040 ∨ off = 0x4044 then (if h.prEn then h else { h with prBase := putBase h.prBase (decide (off = 0x4044)) v })
  else if off = 0x4048 then h.putPrecCtl v
  else h
/-- A write of EVT at offset a by function f. Entries that waited for EN are posted once it is set (R154). -/
def State.putEvt (f a : Nat) (v : W32) (s : State) : State :=
  match slotAt a 0x0000 4 12, slotAt a 0x0040 4 12, slotAt a 0x1000 4 384, slotAt a 0x8000 16 128 with
  | some (w, 0), _, _, _ => s.putStat f w v
  | _, some (w, 0), _, _ => s.putEn f w v
  | _, _, some (x, 0), _ => if f = 0 then s.putMap x v else s.stray f
  | _, _, _, some (x, off) => s.putVec f x off v
  | _, _, _, _ =>
    let s := s.updHost f (fun h => h.putQp a v)
    if a = 0x4014 then (State.drain f (s.getHost f).waiting.length s).serveAll f else s

/-! ### Doorbells (R131-R133, R151, R152) -/

/-- SQ_TAIL (R151): the new tail, or SQ_ERR. -/
def HostFn.ringSq (h : HostFn) (v : Nat) : HostFn :=
  if !h.en then h else if v < 2 ^ h.sqLog.toNat then { h with sqTail := BitVec.ofNat 12 v } else { h with sqErr := true }
/-- CQ_HEAD (R152): a value from the present head to CQ_TAIL frees the entries before it; any other sets CQ_ERR. -/
def HostFn.ringCq (h : HostFn) (v : Nat) : HostFn :=
  let size := 2 ^ h.cqLog.toNat
  if !h.en then h
  else if v < size ∧ (v + size - h.cqHead.toNat) % size ≤ h.unconsumed then { h with cqHead := BitVec.ofNat 16 v }
  else { h with cqErr := true }
/-- The packet at an index of a queue lies between SQ_HEAD and the tail. -/
def HostFn.queued (h : HostFn) (i : Nat) : Bool :=
  let size := 2 ^ h.sqLog.toNat
  decide (i < size) && decide ((i + size - h.sqHead.toNat) % size < (h.sqTail.toNat + size - h.sqHead.toNat) % size)
/-- The packets of no row among those that a doorbell brings (R156). -/
def HostFn.learn (l : List Unknown) (h : HostFn) : HostFn :=
  { h with unknown := (l ++ h.unknown.filter (fun u => !l.any (fun v => decide (v.index = u.index)))).filter (fun u => h.queued u.index.toNat) }
/-- A queue-pair doorbell of function f on lane l (R132, R133); the offsets between them are reserved (R16). -/
def State.queueBell (f l off : Nat) (v : W32) (unknown : List Unknown) (s : State) : State :=
  if off ≠ 0 ∧ off ≠ 4 then s
  else if f ≠ l then s.stray f
  else if (s.getLane l).st = .resetting then s
  else if off = 0 then (s.updHost l (fun h => (h.ringSq v.toNat).learn unknown)).serveAll l
  else
    let s := s.updHost l (fun h => h.ringCq v.toNat)
    (State.drain l (s.getHost l).waiting.length s).serveAll l

/-! ### FLT (R506) and HK (R487) -/

/-- FLT_INJCTL (R504): DONE and REFUSED clear, SRC and INST take the value, and ARM injects. -/
def State.putInj (v : W32) (s : State) : State :=
  let s := { s with flt := { s.flt with done := w1cBit s.flt.done v 29, injRef := w1cBit s.flt.injRef v 28,
                                        injSrc := fld v 16 5, injInst := fld v 0 16 } }
  if bit v 31 then s.armInject else s
/-- A write of FLT. -/
def State.putFlt (a : Nat) (v : W32) (s : State) : State :=
  if a = 0x000 then { s with flt := { s.flt with quiet := inRange s.flt.quiet v 16 10 65535, firstMin := fld v 10 2, histMin := fld v 8 2 } }
  else if a = 0x010 then { s with flt := { s.flt with rwin := inRange s.flt.rwin v 0 1 65535 } }
  else if a = 0x020 then s.putInj v
  else if a = 0x024 then { s with flt := { s.flt with injAddr := v } }
  else match slotAt a 0x080 4 32 with
    | some (i, 0) =>
      let s := s.updSrc i (fun x => { x with rlim := fld v 24 4 })
      if bit v 30 then s.clearPers i else s
    | _ => s
/-- HK_HTTHRn: thresholds in rising order up to 150 °C, or the write is discarded. -/
def Pin.putThr (x : Pin) (v : W32) : Pin :=
  if (fld v 24 8).toNat < (fld v 16 8).toNat ∧ (fld v 16 8).toNat < (fld v 8 8).toNat ∧ (fld v 8 8).toNat ≤ 150 then
    { x with warn := fld v 24 8, throt := fld v 16 8, shut := fld v 8 8, hyst := inRange x.hyst v 4 1 15 }
  else x
/-- HK_HTPARn: the range of BETA or IDEAL is that of the pin's type. -/
def Pin.putPar (x : Pin) (v : W32) : Pin :=
  { x with rnom := inRange x.rnom v 16 100 65535,
           beta := if x.diode then inRange x.beta v 0 15000 18000 else inRange x.beta v 0 1000 10000 }
/-- A write of HK. -/
def State.putHk (a : Nat) (v : W32) (s : State) : State :=
  let h := s.hk
  if a = 0x000 then { s with hk := { h with fast := bit v 31, trate := inRange h.trate v 16 128 255, grace := inRange h.grace v 8 10 255,
                                            dhyst := inRange h.dhyst v 4 1 15 } }
  else if a = 0x004 then { s with hk := { h with rstep := inRange h.rstep v 24 10 255, hold := inRange h.hold v 16 1 255 } }
  else match slotAt a 0x010 4 3, slotAt a 0x100 4 128, slotAt a 0x300 4 128, slotAt a 0x500 4 128 with
    | some (w, 0), _, _, _ => { s with hk := { h with supsts := h.supsts &&& ~~~((v.setWidth 85) <<< (32 * w)) } }
    | _, some (n, 0), _, _ => s.updPin n (fun x =>
        { x with en := bit v 31, diode := bit v 30, icur := bit v 29, zone := inRange x.zone v 16 0 63 })
    | _, _, some (n, 0), _ => s.updPin n (fun x => x.putThr v)
    | _, _, _, some (n, 0) => s.updPin n (fun x => x.putPar v)
    | _, _, _, _ => match slotAt a 0x700 4 128, slotAt a 0x900 4 32 with
      | some (n, 0), _ => s.updPin n (fun x => { x with crossed := w1cBit x.crossed v 28 })
      | _, some (n, 0) => s.updDie n (fun x => { x with crossed := w1cBit x.crossed v 28 })
      | _, _ => s

/-! ### MOT (R431) -/

/-- MOT_CFGn while the channel is OFF or BRAKED: a write that breaks the loop rate of R417, or that sets direct mode on a bound channel (R410), is
discarded. Leaving direct mode discards a pending commit (R419). -/
def Motor.putCfg (m : Motor) (v : W32) : Motor :=
  let n := { m with mode := inRange m.mode v 30 0 2, brken := bit v 29, iclk := bit v 28, loopDiv := inRange m.loopDiv v 26 0 2,
                    dt := inRange m.dt v 16 3 255, n := inRange m.n v 0 1172 9375 }
  if m.stopped ∧ 75000000 ≤ 32000 * n.n.toNat * 2 ^ n.loopDiv.toNat ∧ ¬(n.mode = 2 ∧ n.bound.isSome) then { n with commit := n.commit && decide (n.mode = 2) }
  else m
/-- MOT_THRn: BRKSPD lies above ZSPD; a write in which it does not leaves both (log entry 25). -/
def Motor.putThr (m : Motor) (v : W32) : Motor :=
  let m := { m with handoff := inRange m.handoff v 22 1 1023 }
  if 1 ≤ (fld v 0 11).toNat ∧ (fld v 0 11).toNat < (fld v 11 11).toNat then { m with brkSpd := fld v 11 11, zspd := fld v 0 11 } else m
/-- The loop writes the shadow duties of a channel that it drives, and the host's writes do not reach them (R419). -/
def Motor.ownDuties (m : Motor) : Bool := decide (m.st = .align) || decide (m.st = .ramp) || decide (m.st = .run)
/-- A write of a motor channel's register. COMMIT is taken in direct mode only (R419). -/
def Motor.put (m : Motor) (off : Nat) (v : W32) : Motor :=
  if off = 0x00 then m.putCfg v
  else if off = 0x04 then { m with spdSet := v }
  else if off = 0x08 then { m with tslew := inRange m.tslew v 24 1 255, trq := fld v 0 16 }
  else if off = 0x0C then { m with slew := inRange m.slew v 0 1 2147483647 }
  else if off = 0x10 then { m with ilim := fld v 16 15, spdMax := inRange m.spdMax v 0 10 30000 }
  else if off = 0x14 then
    (if m.stopped then { m with alignT := inRange m.alignT v 24 1 255, alignLvl := inRange m.alignLvl v 16 1 255,
                                rampT := inRange m.rampT v 8 1 255, retry := fld v 6 2 } else m)
  else if off = 0x18 then m.putThr v
  else if off = 0x1C then (if m.ownDuties then m else { m with dv := fld v 16 14, du := fld v 0 14 })
  else if off = 0x20 then { m with dw := if m.ownDuties then m.dw else fld v 0 14, commit := m.commit || (bit v 31 && decide (m.mode = 2)) }
  else if off = 0x38 then { m with evt := w1c m.evt (v &&& 0xF07) }
  else m

/-! ### POS (R306) and PACER (R338) -/

/-- POS_ECFGn (R281, R306). In OFF the reported position is P itself (log entry 25); IDXARM arms ONCE mode. -/
def Encoder.putCfg (e : Encoder) (v : W32) : Encoder :=
  let mode := inRange e.idxMode v 27 0 2
  { e with en := bit v 31, term := bit v 30, dirInv := bit v 29, idxMode := mode, idxVal := fld v 8 16, db := fld v 0 8,
           armed := e.armed || (bit v 26 && decide (mode = 2)), base := if mode = 0 then 0 else e.base }
/-- A write of an encoder's register. -/
def Encoder.put (e : Encoder) (off : Nat) (v : W32) : Encoder :=
  if off = 0x00 then e.putCfg v
  else if off = 0x04 then { e with win := inRange e.win v 0 10 10000 }
  else if off = 0x08 then { e with revSeen := w1cBit e.revSeen v 3, idxSeen := w1cBit e.idxSeen v 2, qerrSeen := w1cBit e.qerrSeen v 1,
                                   fltSeen := w1cBit e.fltSeen v 0 }
  else e
/-- A write of a trigger input's register. -/
def Trig.put (t : Trig) (off : Nat) (v : W32) : Trig :=
  if off = 0x00 then { t with en := bit v 31, encSel := fld v 28 3, evtEdge := fld v 26 2, holdoff := fld v 0 16 }
  else if off = 0x04 then { t with rValid := w1cBit t.rValid v 3, fValid := w1cBit t.fValid v 2, rOvr := w1cBit t.rOvr v 1,
                                   fOvr := w1cBit t.fOvr v 0 }
  else t
/-- The current reference takes its place anew where it names another encoder or ratio, so that X stands (R308; log entry 26). -/
def State.realign (p : Nat) (s : State) : State :=
  match (s.getPacer p).curRef with
  | none => s
  | some r => s.updPacer p (fun x =>
      { x with align := x.x - (s.getEnc (x.encOf r)).pos.toInt * x.kOf r, newRef := true, inbound := [] })
/-- POS_REFCFGp (R300, R303, R305): FORCEBACK always; the rest while no bound lane prints. A reference that is newly configured starts
QUALIFIED; a current secondary that is taken away is given up at the next boundary (log entry 26). -/
def State.putRefCfg (p : Nat) (v : W32) (s : State) : State :=
  let s := if bit v 29 then s.updPacer p (fun x => { x with force := true }) else s
  if !(s.printLanes p).isEmpty then s
  else
    let old := s.getPacer p
    let newPri := decide (fld v 20 3 ≠ old.pri)
    let newSec := decide (bit v 31 ≠ old.secEn) || decide (fld v 24 3 ≠ old.sec)
    let lost := !bit v 31 && decide (old.cur = .secondary)
    let s := s.updPacer p (fun x => { x with
      secEn := bit v 31, drEn := bit v 30, sec := fld v 24 3, pri := fld v 20 3, qlim := inRange x.qlim v 16 1 15
      lossMul := inRange x.lossMul v 8 2 255
      priSt := if newPri then .qualified else x.priSt
      secSt := if !bit v 31 then .off else if newSec then .qualified else x.secSt
      switching := x.switching || lost, switchDue := x.switchDue || lost })
    if (newPri && decide (old.cur = .primary)) || (newSec && !lost && decide (old.cur = .secondary)) then s.realign p else s
/-- A write of POS. -/
def State.putPos (a : Nat) (v : W32) (s : State) : State :=
  match slotAt a 0x000 0x40 8, slotAt a 0x400 0x40 16, slotAt a 0x800 0x40 8 with
  | some (n, off), _, _ => s.updEnc n (fun e => e.put off v)
  | _, some (t, off), _ => s.updTrig t (fun x => x.put off v)
  | _, _, some (p, off) =>
    if off = 0x00 then s.putRefCfg p v
    else if off = 0x08 ∧ (s.printLanes p).isEmpty then s.updPacer p (fun x => { x with cont := bit v 31, segLen := fld v 0 20 })
    else s
  | _, _, _ => s
/-- A configuration register of Pacer p (R338). -/
def Pacer.put (x : Pacer) (off : Nat) (v : W32) : Pacer :=
  if off = 0x00 then { x with w := inRange x.w v 20 1 4095, dmax := inRange x.dmax v 16 1 15, late := fld v 12 4,
                              qspan := inRange x.qspan v 10 0 2 }
  else if off = 0x04 then { x with lpitch := inRange x.lpitch v 0 0x4000 0x10000000 }
  else if off = 0x08 then { x with ratio := inRange x.ratio v 0 1 0xFFFFFFFF }
  else if off = 0x0C then { x with drlim := fld v 0 16 }
  else x
/-- A write of PACER: configuration only while no bound lane prints. -/
def State.putPacer (a : Nat) (v : W32) (s : State) : State :=
  match slotAt a 0x000 0x80 8 with
  | some (p, off) =>
    if off = 0x44 then s.updPacer p (fun x => { x with evt := w1c x.evt v })
    else if (s.printLanes p).isEmpty then
      let t := s.updPacer p (fun x => { x.put off v with lineN := if off = 0x04 then (x.put off v).lineAfter (x.posAt s.now) - 1 else x.lineN })
      if off = 0x08 ∧ (s.getPacer p).cur = .secondary then t.realign p else t
    else s
  | none => s

/-! ### CHN, METER, FEED -/

/-- A write of CHN (R464). -/
def State.putChn (a : Nat) (v : W32) (s : State) : State :=
  if a = 0 then (s.updChn (fun c => { c with lead := inRange c.lead v 16 3 65535, crcThr := inRange c.crcThr v 0 1 65535 })).leadRule else s
/-- A write of METER (R524): METER_VPLp_l, RWL for its lane. -/
def State.putMeter (a : Nat) (v : W32) (s : State) : State :=
  match slotAt a 0x1000 0x200 16 with
  | some (l, off) =>
    match slotAt off 0x140 4 48 with
    | some (i, 0) =>
      if (s.getLane l).locked then s else s.updMeter l (fun m => { m with vpl := tabPut (fun _ => 0) m.vpl i (fld v 0 24) })
    | _ => s
  | none => s
/-- FEED_WCFG of ring r (R197, R198, R204): fields first, then EN. Fields written while EN = 0 and BUSY = 1 act on
later channels: the burst that the ring still finishes keeps those that its channel began with (DESIGN CHOICE, log entry 66). -/
def State.putRingCfg (f r : Nat) (v : W32) (s : State) : State :=
  let was := (s.getRing r).en
  let s := s.updRing r (fun x =>
    let x := { x with refused := w1cBit x.refused v 29 }
    if was then x
    else
      let x := { x with burst := fld v 27 2, log2 := fld v 20 4 }
      if f = 0 then { x with line := fld v 16 4, cell := fld v 0 8 } else x)
  if bit v 31 && !was then s.enableRing r else if !bit v 31 && was then s.disableRing r else s
/-- A write of FEED at offset a by function f: the window discards and counts what is not the function's own (R204). -/
def State.putFeed (f a : Nat) (v : W32) (s : State) : State :=
  if a = 0x40000 then s.updHost f (fun h => { h with wsel := fld v 0 16 })
  else if a = 0x40008 ∨ a = 0x4000C ∨ a = 0x40010 then
    let r := (s.getHost f).wsel.toNat
    if s.ringLane r ≠ f then s.stray f
    else if a = 0x40010 then s.putRingCfg f r v
    else s.updRing r (fun x => if x.en then x else { x with base := putBase x.base (decide (a = 0x4000C)) v })
  else s

/-! ### Cell windows -/

/-- CELL_PVSEL (R340): the snapshot of an undecided strobe. -/
def State.snapshot (c : Nat) (v : W32) (s : State) : State :=
  let n := s.nextLine c + ((fld v 0 5).toNat : Int)
  let b := (s.getLink (2 * c + b2n (bit v 8))).strobes.find? (fun b => decide (b.n = n))
  let a := (s.getCell c).assigned n
  let code := fun (b : Strobe) => (match b.st with | .computed => 0 | .squashed => 1 | .waiting => 2 | .release => 3 : Nat)
  s.updCell c (fun x => { x with
    pvsel := put 0 (fld v 0 5) ||| putB 8 (bit v 8) |>.setWidth 9
    pv := match b with
      | none => { pvReset with line := int64 n }
      | some b =>
        { valid := true, st := BitVec.ofNat 2 (code b), km1 := BitVec.ofNat 2 (b.k - 1), loaded := b.acked, bank := decide (n % 2 = 1)
          data := (a.bind (·.m)).isSome, starved := (a.map (·.starved)).getD false, line := int64 n, ts1 := int64 b.ts1
          dline := BitVec.ofNat 32 ((a.bind (·.m)).getD 0) } })
/-- HL_CTLi (R356, R357, R374): EN written 0 and RETRAIN take the link DOWN; TICKLE and STSPER go to the head. -/
def State.putLinkCtl (l : Nat) (v : W32) (s : State) : State :=
  let old := s.getLink l
  let s := s.updLink l (fun k => { k with
    en := bit v 31, swing := inRange k.swing v 24 0 8, tickle := bit v 8, stsper := inRange k.stsper v 0 1 100 })
  let k := s.getLink l
  let s := if k.st = .up ∧ (k.tickle ≠ old.tickle ∨ k.stsper ≠ old.stsper) then s.sendCtl l k.drive else s
  if (old.en && !bit v 31) || (bit v 31 && bit v 30) then s.linkGoesDown l else s
/-- A register of link l: HL_CTL, or an energy limit that is RWL for the lane (R371). -/
def State.putLink (f l off : Nat) (locked : Bool) (v : W32) (s : State) : State :=
  if off = 0x00 then s.putLinkCtl l v
  else if off = 0x20 ∧ f = 0 ∧ !locked then s.updLink l (fun k => { k with estrobe := v })
  else if off = 0x24 ∧ f = 0 ∧ !locked then s.updLink l (fun k => { k with ewin := v })
  else s
/-- A register of gate g, written by the physical function (R379, R406): in TEST and CAL only RECAL of GATE_CFG2 counts. -/
def State.putGate (g off : Nat) (v : W32) (s : State) : State :=
  let x := s.getGate g
  let busy := decide (x.st = .test) || decide (x.st = .cal)
  if off = 0x00 then (if busy then s else s.updGate g (fun x =>
    { x with hgate := inRange x.hgate v 16 100 65535, gwin := inRange x.gwin v 0 1200 65535 }))
  else if off = 0x04 then
    (let s := if busy then s else s.updGate g (fun x => { x with
        gdly := fld v 20 12, testLvl := inRange x.testLvl v 18 1 3, autoClr := bit v 17, recalRef := w1cBit x.recalRef v 16
        guard := fld v 8 8 })
     if bit v 0 then s.recalGate g else s)
  else if off = 0x28 then s.updGate g (fun x => { x with evt := w1c x.evt v })
  else s
/-- A write in the window of cell c by function f; that of a spare that stands in has only CELL_EVT to be written (R23). -/
def State.putCell (f c a : Nat) (v : W32) (s : State) : State :=
  let locked := decide (c < 256) && (s.getLane (s.laneOf c)).locked
  if a = 0x1C then s.updCell c (fun x => { x with evt := w1c x.evt v })
  else if s.standsIn c then s
  else if a = 0x34 then s.updCell c (fun x => { x with ntsel := fld v 0 12 })
  else if a = 0x480 then s.snapshot c v
  else if a = 0x880 then
    (if f = 0 ∧ !locked then s.updCell c (fun x => { x with
      govSp := inRange x.govSp v 16 120 1200, govPers := inRange x.govPers v 8 1 255, govRel := inRange x.govRel v 0 1 255 }) else s)
  else if a = 0x884 then s.updCell c (fun x => { x with hlEvt := w1c x.hlEvt v })
  else if a = 0xC00 then
    (if f = 0 then forAll (linksOf c) (fun s l => s.retarget l)
      (s.updCell c (fun x => { x with throw := inRange x.throw v 16 100 65535, vtol := inRange x.vtol v 0 1 255 })) else s)
  else match slotAt a 0x800 0x40 2, slotAt a 0xC80 0x40 4 with
    | some (i, off), _ => s.putLink f (2 * c + i) off locked v
    | _, some (j, off) => match s.gateAt c j with | none => s | some g => if f = 0 then s.putGate g off v else s
    | none, none => s

/-! ### The whole of BAR0 -/

/-- A write of v at address a by function f, inside its view (R13, R16, R127). -/
def State.regPut (f a : Nat) (v : W32) (s : State) : State :=
  match blockOf a with
  | .glb => s.putGlb a v
  | .ringBell => if a % 8 = 0 then feedDoorbell f ((a - 0x100000) / 8) v s else s
  | .queueBell => s.queueBell f ((a - 0x180000) / 16) (a % 16) v []
  | .evt => s.putEvt f (a - 0x200000) v
  | .flt => s.putFlt (a - 0x300000) v
  | .hk => s.putHk (a - 0x310000) v
  | .mot => match slotAt (a - 0x320000) 0 0x40 8 with | none => s | some e => s.updMotor e.1 (fun m => m.put e.2 v)
  | .pos => s.putPos (a - 0x330000) v
  | .pacer => s.putPacer (a - 0x340000) v
  | .chn => s.putChn (a - 0x350000) v
  | .fuse => s
  | .meter => s.putMeter (a - 0x370000) v
  | .feed => s.putFeed f (a - 0x380000) v
  | .cell c => s.putCell f c ((a - 0x1000000) % 0x10000) v
  | .gap => s

end Sys2Proof.Machine
end

