-- ==== Sys2Proof/Machine/Access.lean ====
section
/-! DEFINITION. Host accesses (R17, R18, R77, R120, R126-R134): the view of each function, the shadow of each requester, accesses that hang on
a stopped clock, and the rows of the table that are accesses of one register. -/

namespace Sys2Proof.Machine

/-! ### The view of a virtual function (R127, R128) -/

/-- A read of address a by virtual function f lies inside its view. -/
def State.sees (s : State) (f a : Nat) : Bool :=
  match blockOf a with
  | .glb => true
  | .ringBell => decide (s.ringLane ((a - 0x100000) / 8) = f)
  | .queueBell => decide ((a - 0x180000) / 16 = f)
  | .evt => true
  | .flt => true
  | .hk => true
  | .mot => match slotAt (a - 0x320000) 0 0x40 8 with
    | none => false
    | some e => ((s.getMotor e.1).bound.map (·.val)).isSome && decide ((s.getMotor e.1).bound.map (·.val) = (s.getLane f).pacer)
  | .pos => true
  | .pacer => match slotAt (a - 0x340000) 0 0x80 8, slotAt (a - 0x340000) 0x800 8 16 with
    | some e, _ => decide ((s.getLane f).pacer = some e.1)
    | _, some e => decide (e.1 = f)
    | none, none => false
  | .chn => true
  | .fuse => (slotAt (a - 0x360000) 0x100 4 128).isSome
  | .meter => match slotAt (a - 0x370000) 0x1000 0x200 16 with | none => false | some e => decide (e.1 = f)
  | .feed => match slotAt (a - 0x380000) 0 4 65536 with
    | some e => decide (s.ringLane e.1 = f)
    | none => decide (a < 0x3D0000)
  | .cell c => decide (c < 256) && decide (s.laneOf c = f)
  | .gap => false

/-- A cell-window offset that holds a register; the reserved ones ignore writes (R16). -/
def State.cellNamed (s : State) (c o : Nat) : Bool :=
  (s.cellRegs c ++ s.schedRegs c ++ s.servoRegs c).any (fun e => decide (e.1 = o))
    || (match slotAt o 0x800 0x40 2, slotAt o 0xC80 0x40 4 with
        | some e, _ => (s.linkRegs (2 * c)).any (fun r => decide (r.1 = e.2))
        | _, some e => (match s.gateAt c e.1 with | none => false | some g => (s.getGate g).regs.any (fun r => decide (r.1 = e.2)))
        | none, none => false)
/-- A write of address a by virtual function f is taken by the block: not one that is read only to it (R128). -/
def State.mayWrite (s : State) (f a : Nat) : Bool :=
  s.sees f a && (match blockOf a with
    | .ringBell => true
    | .queueBell => true
    | .evt =>
      let o := a - 0x200000
      !(decide (o = 0x100) || decide (0x1000 ≤ o ∧ o < 0x1600) || [0x401C, 0x4020, 0x404C, 0x4050, 0x4054].contains o)
    | .feed => decide (0x3C0000 ≤ a)
    | .cell c =>
      let o := (a - 0x1000000) % 0x10000
      [0x1C, 0x34, 0x480, 0x800, 0x840, 0x884].contains o || !s.cellNamed c o
    | .glb => false
    | .flt => false
    | .hk => false
    | .mot => false
    | .pos => false
    | .pacer => false
    | .chn => false
    | .fuse => false
    | .meter => false
    | .gap => false)

/-! ### Reads and shadows (R17, R18, R284) -/

/-- What a 4-byte read of address a returns, with the requester's shadow before and after: the captured high word (or, for a latch set, the
captured position) once, a new capture at a low word, else the live value. -/
def State.readWord (s : State) (f a : Nat) (sh : Option Shadow) : W32 × Option Shadow :=
  let live := s.regRead f a
  match sh.filter (fun x => decide (x.high = a)), sh.filter (fun x => decide (x.high + 4 = a) && x.pos.isSome) with
  | some x, _ => (x.val, x.pos.map (fun v => { high := a + 4, val := v, pos := none }))
  | none, some x => (x.pos.getD live, some { x with pos := none })
  | none, none =>
    if isPairLow a then
      (live, some { high := a + 4, val := s.regRead f (a + 4), pos := if isLatchLow a then some (s.regRead f (a + 8)) else none })
    else (live, sh)
/-- What an aligned 8-byte read of the pair at a returns (R17): both words in one access. The shadow is as it was, but for a latch set, whose
position word is captured as by a read of the low word (R284). -/
def State.readPair (s : State) (f a : Nat) (sh : Option Shadow) : W64 × Option Shadow :=
  (s.regRead f (a + 4) ++ s.regRead f a, if isLatchLow a then some { high := a + 8, val := s.regRead f (a + 8), pos := none } else sh)
/-- A function reads a pair. -/
def State.hostReadPair (f a : Nat) (s : State) : State :=
  let r := s.readPair f a (s.getHost f).shadow
  s.updHost f (fun h => { h with rdata := r.1, shadow := r.2 })
/-- A function reads a register. -/
def State.hostReadReg (f a : Nat) (s : State) : State :=
  let r := s.readWord f a (s.getHost f).shadow
  s.updHost f (fun h => { h with rdata := r.1.setWidth 64, shadow := r.2 })

/-! ### Accesses that hang (R19, R77, R78, R129) -/

/-- The domain whose clock an access of address a needs, none for those that never hang (R78). -/
def State.target (s : State) (a : Nat) : Option Nat :=
  match blockOf a with
  | .mot => some dMOT
  | .pos => some dCHN
  | .pacer => some dCHN
  | .chn => some dCHN
  | .meter => some dMETA
  | .feed => some dFEED
  | .cell c => some (if c < 256 then s.workQuad c else quadOf c)
  | .glb => none
  | .ringBell => none
  | .queueBell => none
  | .evt => none
  | .flt => none
  | .hk => none
  | .fuse => none
  | .gap => none

/-- An access is outside the view of its function (R128). -/
def State.filtered (s : State) (f : Nat) : HeldAcc → Bool
  | .reg a w _ => decide (f ≠ 0) && !(if w then s.mayWrite f a else s.sees f a)
  | .pair a w => decide (f ≠ 0) && !(if w.isSome then s.mayWrite f a else s.sees f a)
  | .tail l _ _ => decide (f ≠ 0) && decide (f ≠ l)
  | .bad _ => false
  | .dbgRead .. => false
  | .dbgWrite .. => false
/-- The clock that address a needs is stopped. -/
def State.stoppedAt (s : State) (a : Nat) : Bool := match s.target a with | none => false | some d => !s.on d
/-- An access hangs on a stopped clock. -/
def State.hangs (s : State) (f : Nat) (x : HeldAcc) : Bool :=
  !s.filtered f x && (match x with
    | .reg a _ _ => s.stoppedAt a
    | .pair a _ => s.stoppedAt a
    | .tail _ _ _ => false
    | .bad _ => false
    | .dbgRead i _ _ _ => s.dbgHangs i
    | .dbgWrite i _ _ _ => s.dbgHangs i)
/-- An access that does not hang: filtered (R128), or carried out. A filtered read leaves the shadow as it is (DESIGN CHOICE, log entry 78). -/
def State.perform (f : Nat) (x : HeldAcc) (s : State) : State :=
  if s.filtered f x then
    match x with
    | .reg _ false _ => s.updHost f (fun h => { h with rdata := 0 })
    | .reg _ true _ => s.stray f
    | .pair _ none => s.updHost f (fun h => { h with rdata := 0 })
    | .pair _ (some _) => s.stray f
    | .tail _ _ _ => s.stray f
    | .bad _ => s
    | .dbgRead .. => s
    | .dbgWrite .. => s
  else
    match x with
    | .reg a false _ => s.hostReadReg f a
    | .reg a true v => s.regPut f a v
    | .pair a none => s.hostReadPair f a
    | .pair a (some v) => (s.regPut f a (lo v)).regPut f (a + 4) (hi v)
    | .tail l v u => s.queueBell f l 0 v u
    | .bad t => s.aer f (.completerAbort t)
    | .dbgRead i off len ecc => s.dbgReadNow i off len ecc
    | .dbgWrite i off data ecc => s.dbgWriteNow i off data ecc
/-- An access of BAR0; the debug windows lie in BAR2 (R126). -/
def HeldAcc.bar0 : HeldAcc → Bool
  | .reg .. => true
  | .pair .. => true
  | .tail .. => true
  | .bad _ => true
  | .dbgRead .. => false
  | .dbgWrite .. => false
/-- What the AER header log keeps of an access (R117). -/
def HeldAcc.tlp : HeldAcc → Tlp
  | .reg a w _ => ⟨w, a, 4⟩
  | .pair a w => ⟨w.isSome, a, 8⟩
  | .tail l _ _ => ⟨true, 0x180000 + 16 * l, 4⟩
  | .bad t => t
  | .dbgRead i off len _ => ⟨false, 524288 * i + off, len⟩
  | .dbgWrite i off data _ => ⟨true, 524288 * i + off, data.length⟩
/-- The host reaches function f: HOST runs, the link is up and the function is on the bus. -/
def State.reaches (s : State) (f : Nat) : Bool := s.on dHOST && s.glb.linkUp && s.present f
/-- An access of function f arrives (R77, R120): Unsupported Request in D3hot, held behind an access that hangs, or carried out. -/
def State.access (f : Nat) (x : HeldAcc) (s : State) : State :=
  let h := s.getHost f
  if !s.reaches f then s
  else if h.d3 then s.aer f (.unsupported x.tlp)
  else if (x.bar0 && !h.held.isEmpty) || s.hangs f x then s.updHost f (fun h => { h with held := h.held ++ [x] })
  else s.perform f x
/-- A 4-byte access of BAR0: one that is not aligned is malformed (R18). -/
def regAcc (a : Nat) (w : Bool) (v : W32) : HeldAcc := if a % 4 = 0 then .reg a w v else .bad ⟨w, a, 4⟩
/-- An 8-byte access of BAR0: one that is not an aligned access of a register pair is malformed (R18). -/
def pairAcc (a : Nat) (w : Option W64) : HeldAcc := if a % 8 = 0 && isPairLow a then .pair a w else .bad ⟨w.isSome, a, 8⟩
/-- An access of any size (R18). -/
def anyAcc (a size : Nat) (write : Bool) (data : W64) : HeldAcc :=
  if size = 4 then regAcc a write (lo data) else if size = 8 then pairAcc a (if write then some data else none) else .bad ⟨write, a, size⟩
/-- A write of a register by function f. -/
def State.write (f a : Nat) (v : W32) (s : State) : State := s.access f (regAcc a true v)

/-- The accesses of function f that can complete, in order, up to one that still hangs. -/
def State.completeHeld (f : Nat) : Nat → State → State
  | 0, s => s
  | n + 1, s =>
    match (s.getHost f).held with
    | [] => s
    | x :: rest => if s.hangs f x then s else State.completeHeld f n ((s.updHost f (fun h => { h with held := rest })).perform f x)
/-! ### Reads -/

/-- A Thinis core's read of a register or of a pair is carried out (R17). Registers that each function has of its own show a core those of
function 0 (DESIGN CHOICE, log entry 78). -/
def State.coreReadNow (i a : Nat) (wide : Bool) (s : State) : State :=
  let sh := (s.core i).shadow
  let r := if wide then s.readPair 0 a sh else ((s.readWord 0 a sh).1.setWidth 64, (s.readWord 0 a sh).2)
  s.setCore i (fun c => { c with rdata := r.1, shadow := r.2 })
/-- Core i reads registers: it runs an image or the boot ROM, or stands by. -/
def State.coreRuns (s : State) (i : Nat) : Bool :=
  s.on (dTHNA + i) && (decide ((s.core i).role = .active) || decide ((s.core i).role = .standby) || decide ((s.core i).role = .rom))
/-- A Thinis core reads a register (R17); a read into a stopped domain stays outstanding, and those after it queue behind it (R77; log entry
27). A read that R18 does not allow brings nothing. -/
def State.coreRead (i a : Nat) (wide : Bool) (s : State) : State :=
  let ok := if wide then a % 8 = 0 && isPairLow a else a % 4 = 0
  if !ok || !s.coreRuns i then s
  else if !(s.core i).held.isEmpty || s.stoppedAt a then s.setCore i (fun c => { c with held := c.held ++ [(a, wide)] })
  else s.coreReadNow i a wide
/-- The reads of core i that can complete, in order, up to one that still hangs. -/
def State.completeCore (i : Nat) : Nat → State → State
  | 0, s => s
  | n + 1, s =>
    match (s.core i).held with
    | [] => s
    | x :: rest =>
      if s.stoppedAt x.1 then s else State.completeCore i n ((s.setCore i (fun c => { c with held := rest })).coreReadNow i x.1 x.2)
/-- HUNG_ACCESS_COMPLETE (R77): the target's clock runs, the access completes, and those behind it go on. -/
def hungAccessComplete (rq : Requester) (s : State) : State :=
  match rq with
  | .func f => if s.reaches f.val then State.completeHeld f.val (s.getHost f.val).held.length s else s
  | .core c => if s.coreRuns c.val then State.completeCore c.val (s.core c.val).held.length s else s

/-- A read by a requester. -/
def State.readBy (rq : Requester) (a : Nat) (wide : Bool) (s : State) : State :=
  match rq with
  | .func f => s.access f.val (if wide then pairAcc a none else regAcc a false 0)
  | .core c => s.coreRead c.val a wide
/-- LOW_WORD_READ (R17): of the low word alone, or of the pair in one access. -/
def lowWordRead (rq : Requester) (a : Bar0) (wide : Bool) (s : State) : State := s.readBy rq a.toNat wide
/-- HIGH_WORD_READ (R17). -/
def highWordRead (rq : Requester) (a : Bar0) (s : State) : State := s.readBy rq a.toNat false

/-! ### Doorbells, queue pairs, rings -/

/-- SQ_TAIL (R132, R151), with the packets that it brings whose OPCODE is of no row. -/
def sqTail (f lane : Nat) (tail : W32) (unknown : List (BitVec 12 × W32 × Bool)) (s : State) : State :=
  s.access f (.tail lane tail (unknown.map (fun u => { index := u.1, tag := u.2.1, fence := u.2.2 })))
/-- CQ_HEAD (R132, R152). -/
def cqHead (f lane : Nat) (head : W32) (s : State) : State := s.write f (0x180004 + 16 * lane) head
/-- FEED_DOORBELL (R131, R183). -/
def ringDoorbell (f r : Nat) (pidx : W32) (s : State) : State := s.write f (0x100000 + 8 * r) pidx
/-- QP_ENABLE (R150). -/
def qpEnable (f : Nat) (s : State) : State := s.write f 0x204014 1
/-- RING_ENABLE (R198): FEED_WCFG with EN = 1. -/
def ringEnable (f : Nat) (v : W32) (s : State) : State := s.write f 0x3C0010 (v ||| 0x80000000)
/-- RING_DISABLE (R197): FEED_WCFG with EN = 0. -/
def ringDisable (f : Nat) (v : W32) (s : State) : State := s.write f 0x3C0010 (v &&& 0x7FFFFFFF)
/-- PREC_ENABLE (R307): PREC_CTL with EN = 1. -/
def precEnable (f : Nat) (v : W32) (s : State) : State := s.write f 0x204048 (v ||| 0x80000000)
/-- PREC_DISABLE (R307): PREC_CTL with EN = 0 and LOG2 as it stands. -/
def precDisable (f : Nat) (s : State) : State := s.write f 0x204048 (put 0 (s.getHost f).prLog)

/-! ### GLB -/

/-- A write of GLB_QCTLk that keeps the fields it does not name. -/
def State.quadWrite (f k : Nat) (v : BitVec 5) (d : BitVec 2) (x : BitVec 3) (s : State) : State :=
  s.write f (0x400 + 4 * k) (put 16 v ||| put 2 d ||| put 8 x)
/-- VSET_WRITE (R67). -/
def vsetWrite (f k : Nat) (code : BitVec 5) (s : State) : State := s.quadWrite f k code (s.getQuad k).divReq (s.getQuad k).skip
/-- DIVREQ_WRITE (R67). -/
def divreqWrite (f k : Nat) (code : BitVec 2) (s : State) : State := s.quadWrite f k (s.getQuad k).vset code (s.getQuad k).skip
/-- SKIP_WRITE (R67). -/
def skipWrite (f k : Nat) (code : BitVec 3) (s : State) : State := s.quadWrite f k (s.getQuad k).vset (s.getQuad k).divReq code
/-- PCIE_CLKMODE_WRITE (R62). -/
def pcieClkmodeWrite (f : Nat) (common : Bool) (s : State) : State := s.write f 0x124 (putB 1 common ||| putB 0 s.glb.discEn)
/-- DISC_EN_WRITE (R90). -/
def discEnWrite (f : Nat) (en : Bool) (s : State) : State := s.write f 0x124 (putB 1 s.glb.clkMode ||| putB 0 en)
/-- GATESEL_WRITE (R375). -/
def gateselWrite (f g : Nat) (v : W32) (s : State) : State := s.write f (0x600 + 4 * g) v

/-! ### Debug windows (R129, R215) -/

/-- DEBUG_WINDOW_READ. Bytes beyond the window's end lie in no window of its access and are cut off. -/
def debugWindowRead (i off len : Nat) (ecc : List (BlockIx × Ecc)) (s : State) : State :=
  s.access 0 (.dbgRead i off (min len (524288 - off)) ecc)
/-- DEBUG_WINDOW_WRITE. -/
def debugWindowWrite (i off : Nat) (data : List Byte) (ecc : List (BlockIx × Ecc)) (s : State) : State :=
  s.access 0 (.dbgWrite i off (data.take (524288 - off)) ecc)

/-! ### Events and MSI-X (R144) -/

/-- EVT_STAT_WRITE. -/
def evtStatWrite (f w : Nat) (v : W32) (s : State) : State := s.write f (0x200000 + 4 * w) v
/-- EVT_EN_WRITE. -/
def evtEnWrite (f w : Nat) (v : W32) (s : State) : State := s.write f (0x200040 + 4 * w) v
/-- EVT_MAP_WRITE. -/
def evtMapWrite (f src : Nat) (v : W32) (s : State) : State := s.write f (0x201000 + 4 * src) v
/-- MSIX_CONDITION_CLEAR: MSI-X Enable and Function Mask lie in configuration space, a vector's mask bit in its table. -/
def msixConditionClear (f : Nat) (c : MsixChange) (s : State) : State :=
  match c with
  | .enable on => if s.reaches f then (s.updHost f (fun h => { h with msixEn := on })).settleFn f else s
  | .maskAll on => if s.reaches f then (s.updHost f (fun h => { h with maskAll := on })).settleFn f else s
  | .maskVec v on => s.write f (0x20800C + 16 * v.val) (putB 0 on)

/-! ### Position, Pacers, cells -/

/-- IDXARM (R281). -/
def idxarm (f n : Nat) (s : State) : State := s.write f (0x330000 + 0x40 * n) (pick (s.getEnc n).regs 0 ||| putB 26 true)
/-- FORCEBACK (R303). -/
def forceback (f p : Nat) (s : State) : State := s.write f (0x330800 + 0x40 * p) (pick (s.getPacer p).refRegs 0 ||| putB 29 true)
/-- PVSEL_SNAPSHOT (R340). -/
def pvselSnapshot (f c : Nat) (v : W32) (s : State) : State := s.write f (0x1000480 + 0x10000 * c) v
/-- HL_CTLi of link l without its EN. -/
def State.linkCtl (s : State) (l : Nat) : W32 := pick (s.linkRegs l) 0 &&& 0x7FFFFFFF
/-- The address of HL_CTL of link l. -/
def linkCtlAddr (l : Nat) : Nat := 0x1000800 + 0x10000 * (l / 2) + 0x40 * (l % 2)
/-- LINK_EN_WRITE (R357). -/
def linkEnWrite (f l : Nat) (en : Bool) (s : State) : State := s.write f (linkCtlAddr l) (s.linkCtl l ||| putB 31 en)
/-- RETRAIN (R356): EN as it stands. -/
def retrain (f l : Nat) (s : State) : State := s.write f (linkCtlAddr l) (s.linkCtl l ||| putB 31 (s.getLink l).en ||| putB 30 true)
/-- RECAL (R379): GATE_CFG2g as it stands, with RECAL = 1. -/
def recal (f g : Nat) (s : State) : State :=
  let x := s.getGate g
  s.write f (0x1000C84 + 0x10000 * (4 * x.owner.toNat) + 0x40 * (g % 4)) ((pick x.regs 4 &&& 0xFFFEFFFF) ||| putB 0 true)

/-! ### Motors and faults -/

/-- DUTY_COMMIT (R419). -/
def dutyCommit (f n : Nat) (dw : BitVec 14) (s : State) : State := s.write f (0x320020 + 0x40 * n) (putB 31 true ||| put 0 dw)
/-- FLT_INJ_ARM (R504). -/
def fltInjArm (f : Nat) (v : W32) (s : State) : State := s.write f 0x300020 (v ||| 0x80000000)
/-- PERS_CLEAR (R497): RLIM as it stands. -/
def persClear (f src : Nat) (s : State) : State := s.write f (0x300080 + 4 * src) (putB 30 true ||| put 24 (s.getSrc src).rlim)

/-! ### Any other access -/

/-- REGISTER_WRITE (R13, R18): of one register, or of a pair in one access. -/
def registerWrite (f : Nat) (a : Bar0) (v : RegData) (s : State) : State :=
  match v with
  | .word v => s.write f a.toNat v
  | .pair low high => s.access f (pairAcc a.toNat (some (high ++ low)))
/-- An access that R18 does not allow: not a naturally aligned 4-byte one, nor a naturally aligned 8-byte one of a pair. -/
def malformed (a size : Nat) : Bool := !(decide (size = 4 ∧ a % 4 = 0) || (decide (size = 8 ∧ a % 8 = 0) && isPairLow a))
/-- COMPLETER_ABORT (R18): of a malformed access nothing is written, and the error is logged; an access that BAR0 takes is carried out. -/
def completerAbort (f : Nat) (a : Bar0) (size : Nat) (dir : AccessDir) (s : State) : State :=
  match dir with
  | .read => s.access f (anyAcc a.toNat size false 0)
  | .write data => s.access f (anyAcc a.toNat size true data)

/-- The block with no command waiting: while FIRECLK runs one FIRE tick passes (R5, R443), else nothing happens. Log entry 28. -/
def idle (s : State) : State := if s.fire then { s with time := s.time + 1 } else s

end Sys2Proof.Machine
end

