-- ==== Sys2Proof/Machine/ExecCommands.lean ====
section
/-! DEFINITION. The meaning of each command, as the step takes it: the commands of the queue pairs and the events that end them (chapters 5 to 18). Every term is a command, and answers a next state. -/

namespace Sys2Proof.Machine

/-- IDENTIFY (R168). -/
def execIdentify (q : LaneIx) (p : Packet) (s : State) : Host.Outcome State Fault Refusal :=
  .next (identify q p s)

/-- GET_LOG (R168). -/
def execGetLog (q : LaneIx) (p : Packet) (s : State) : Host.Outcome State Fault Refusal :=
  .next (getLog q p s)

/-- DEVICE_STATUS (R168). -/
def execDeviceStatus (q : LaneIx) (p : Packet) (s : State) : Host.Outcome State Fault Refusal :=
  .next (deviceStatus q p s)

/-- NOP (R168). -/
def execNop (q : LaneIx) (p : Packet) (s : State) : Host.Outcome State Fault Refusal :=
  .next (nop q p s)

/-- LANE_RESET (R136). -/
def execLaneReset (q : LaneIx) (p : Packet) (s : State) : Host.Outcome State Fault Refusal :=
  .next (laneResetCmd q p s)

/-- QUAD_ASSIGN (R123). -/
def execQuadAssign (q : LaneIx) (p : Packet) (s : State) : Host.Outcome State Fault Refusal :=
  .next (quadAssign q p s)

/-- LANE_STATUS (R168). -/
def execLaneStatus (q : LaneIx) (p : Packet) (s : State) : Host.Outcome State Fault Refusal :=
  .next (laneStatus q p s)

/-- HANDLE_QUERY (R168). -/
def execHandleQuery (q : LaneIx) (p : Packet) (s : State) : Host.Outcome State Fault Refusal :=
  .next (handleQuery q p s)

/-- ABORT (R167). -/
def execAbort (q : LaneIx) (p : Packet) (s : State) : Host.Outcome State Fault Refusal :=
  .next (abort q p s)

/-- CONFIG_LOAD (R257). -/
def execConfigLoad (q : LaneIx) (p : Packet) (s : State) : Host.Outcome State Fault Refusal :=
  .next (configLoad q p s)

/-- CONFIG_LOAD_DONE (R257). -/
def execConfigLoadDone (handle : W32) (img : List Byte) (s : State) : Host.Outcome State Fault Refusal :=
  .next (configLoadDone handle img s)

/-- CONFIG_COMMIT (R258). -/
def execConfigCommit (q : LaneIx) (p : Packet) (s : State) : Host.Outcome State Fault Refusal :=
  .next (configCommit q p s)

/-- CONFIG_PATCH (R259). -/
def execConfigPatch (q : LaneIx) (p : Packet) (s : State) : Host.Outcome State Fault Refusal :=
  .next (configPatch q p s)

/-- CONFIG_RELOAD (R261). -/
def execConfigReload (q : LaneIx) (p : Packet) (s : State) : Host.Outcome State Fault Refusal :=
  .next (configReload q p s)

/-- CONFIG_READ (R168). -/
def execConfigRead (q : LaneIx) (p : Packet) (s : State) : Host.Outcome State Fault Refusal :=
  .next (configRead q p s)

/-- CONFIG_DISCARD (R261). -/
def execConfigDiscard (q : LaneIx) (p : Packet) (s : State) : Host.Outcome State Fault Refusal :=
  .next (configDiscard q p s)

/-- PRINT_START (R168). -/
def execPrintStart (q : LaneIx) (p : Packet) (s : State) : Host.Outcome State Fault Refusal :=
  .next (printStart q p s)

/-- PRINT_STOP (R294). -/
def execPrintStop (q : LaneIx) (p : Packet) (s : State) : Host.Outcome State Fault Refusal :=
  .next (printStop q p s)

/-- SET_SPEED (R40). -/
def execSetSpeed (q : LaneIx) (p : Packet) (s : State) : Host.Outcome State Fault Refusal :=
  .next (setSpeed q p s)

/-- SET_CEILING (R39). -/
def execSetCeiling (q : LaneIx) (p : Packet) (s : State) : Host.Outcome State Fault Refusal :=
  .next (setCeiling q p s)

/-- WINDOW_ARM (R287). -/
def execWindowArm (q : LaneIx) (p : Packet) (s : State) : Host.Outcome State Fault Refusal :=
  .next (windowArm q p s)

/-- ALIGN_SET (R260). -/
def execAlignSet (q : LaneIx) (p : Packet) (s : State) : Host.Outcome State Fault Refusal :=
  .next (alignSet q p s)

/-- SPIT_TEST (R380). -/
def execSpitTest (q : LaneIx) (p : Packet) (s : State) : Host.Outcome State Fault Refusal :=
  .next (spitTest q p s)

/-- TEMPSET_LOAD (R393). -/
def execTempsetLoad (q : LaneIx) (p : Packet) (s : State) : Host.Outcome State Fault Refusal :=
  .next (tempsetLoad q p s)

/-- NOZZLE_MARK (R254). -/
def execNozzleMark (q : LaneIx) (p : Packet) (s : State) : Host.Outcome State Fault Refusal :=
  .next (nozzleMark q p s)

/-- SERVO_CTL (R385). -/
def execServoCtl (q : LaneIx) (p : Packet) (s : State) : Host.Outcome State Fault Refusal :=
  .next (servoCtl q p s)

/-- MOTOR_BIND (R410). -/
def execMotorBind (q : LaneIx) (p : Packet) (s : State) : Host.Outcome State Fault Refusal :=
  .next (motorBind q p s)

/-- MOTOR_ENABLE (R408). -/
def execMotorEnable (q : LaneIx) (p : Packet) (s : State) : Host.Outcome State Fault Refusal :=
  .next (motorEnable q p s)

/-- MOTOR_STOP (R423). -/
def execMotorStop (q : LaneIx) (p : Packet) (s : State) : Host.Outcome State Fault Refusal :=
  .next (motorStop q p s)

/-- MOTOR_CAL (R409). -/
def execMotorCal (q : LaneIx) (p : Packet) (s : State) : Host.Outcome State Fault Refusal :=
  .next (motorCal q p s)

/-- CHAIN_STATUS (R168). -/
def execChainStatus (q : LaneIx) (p : Packet) (s : State) : Host.Outcome State Fault Refusal :=
  .next (chainStatus q p s)

/-- CHAIN_JOIN (R447). -/
def execChainJoin (q : LaneIx) (p : Packet) (s : State) : Host.Outcome State Fault Refusal :=
  .next (chainJoin q p s)

/-- BATON_REQUEST (R449). -/
def execBatonRequest (q : LaneIx) (p : Packet) (s : State) : Host.Outcome State Fault Refusal :=
  .next (batonRequest q p s)

/-- RELAY_ONLY (R463). -/
def execRelayOnly (q : LaneIx) (p : Packet) (s : State) : Host.Outcome State Fault Refusal :=
  .next (relayOnly q p s)

/-- LEVEL_ENABLE (R461). -/
def execLevelEnable (q : LaneIx) (p : Packet) (s : State) : Host.Outcome State Fault Refusal :=
  .next (levelEnable q p s)

/-- METER_READ (R168). -/
def execMeterRead (q : LaneIx) (p : Packet) (s : State) : Host.Outcome State Fault Refusal :=
  .next (meterRead q p s)

/-- PERIOD_CLOSE (R517). -/
def execPeriodClose (q : LaneIx) (p : Packet) (s : State) : Host.Outcome State Fault Refusal :=
  .next (periodClose q p s)

/-- RECORD_READ (R519). -/
def execRecordRead (q : LaneIx) (p : Packet) (s : State) : Host.Outcome State Fault Refusal :=
  .next (recordRead q p s)

/-- FUSE_READ (R509). -/
def execFuseRead (q : LaneIx) (p : Packet) (s : State) : Host.Outcome State Fault Refusal :=
  .next (fuseRead q p s)

/-- FUSE_PROGRAM (R510). -/
def execFuseProgram (q : LaneIx) (p : Packet) (s : State) : Host.Outcome State Fault Refusal :=
  .next (fuseProgram q p s)

/-- FUSE_LOCK (R509). -/
def execFuseLock (q : LaneIx) (p : Packet) (s : State) : Host.Outcome State Fault Refusal :=
  .next (fuseLock q p s)

/-- DOMAIN_RESET (R85). -/
def execDomainReset (q : LaneIx) (p : Packet) (s : State) : Host.Outcome State Fault Refusal :=
  .next (domainReset q p s)

/-- DOMAIN_CYCLE (R86). -/
def execDomainCycle (q : LaneIx) (p : Packet) (s : State) : Host.Outcome State Fault Refusal :=
  .next (domainCycle q p s)

/-- SPARE_TAKEOVER (R263). -/
def execSpareTakeover (q : LaneIx) (p : Packet) (s : State) : Host.Outcome State Fault Refusal :=
  .next (spareTakeover q p s)

/-- SPARE_RETURN (R264). -/
def execSpareReturn (q : LaneIx) (p : Packet) (s : State) : Host.Outcome State Fault Refusal :=
  .next (spareReturn q p s)

/-- SELFTEST_CTL (R266). -/
def execSelftestCtl (q : LaneIx) (p : Packet) (s : State) : Host.Outcome State Fault Refusal :=
  .next (selftestCtl q p s)

/-- FEED_RESTART (R196). -/
def execFeedRestart (q : LaneIx) (p : Packet) (s : State) : Host.Outcome State Fault Refusal :=
  .next (feedRestart q p s)

/-- FAULT_CLEAR (R492). -/
def execFaultClear (q : LaneIx) (p : Packet) (s : State) : Host.Outcome State Fault Refusal :=
  .next (faultClear q p s)

/-- FW_LOAD (R513). -/
def execFwLoad (q : LaneIx) (p : Packet) (s : State) : Host.Outcome State Fault Refusal :=
  .next (fwLoad q p s)

/-- FW_LOAD_DONE (R513). -/
def execFwLoadDone (handle : W32) (img : List Byte) (s : State) : Host.Outcome State Fault Refusal :=
  .next (fwLoadDone handle img s)

/-- FW_ACTIVATE (R172). -/
def execFwActivate (q : LaneIx) (p : Packet) (s : State) : Host.Outcome State Fault Refusal :=
  .next (fwActivate q p s)

/-- CORE_SWAP (R172). -/
def execCoreSwap (q : LaneIx) (p : Packet) (s : State) : Host.Outcome State Fault Refusal :=
  .next (coreSwap q p s)

/-- FW_INFO (R168). -/
def execFwInfo (q : LaneIx) (p : Packet) (s : State) : Host.Outcome State Fault Refusal :=
  .next (fwInfo q p s)

end Sys2Proof.Machine
end

