-- ==== Sys2Proof/Machine/ExecHost.lean ====
section
/-! DEFINITION. The meaning of each command, as the step takes it: host accesses, resets of the bus and of functions, and failed reads (chapters 2, 4 and 5). Every term is a command, and answers a next state. -/

namespace Sys2Proof.Machine

/-- SQ_TAIL (R151). -/
def execSqTail (f : LaneIx) (lane : LaneIx) (tail : W32) (unknown : List (BitVec 12 × W32 × Bool)) (s : State) : Host.Outcome State Fault Refusal :=
  .next (sqTail f.val lane.val tail unknown s)

/-- CQ_HEAD (R152). -/
def execCqHead (f : LaneIx) (lane : LaneIx) (head : W32) (s : State) : Host.Outcome State Fault Refusal :=
  .next (cqHead f.val lane.val head s)

/-- FEED_DOORBELL (R183). -/
def execFeedDoorbell (f : LaneIx) (r : RingIx) (pidx : W32) (s : State) : Host.Outcome State Fault Refusal :=
  .next (ringDoorbell f.val r.val pidx s)

/-- QP_ENABLE (R150). -/
def execQpEnable (f : LaneIx) (s : State) : Host.Outcome State Fault Refusal :=
  .next (qpEnable f.val s)

/-- RING_ENABLE (R198). -/
def execRingEnable (f : LaneIx) (v : W32) (s : State) : Host.Outcome State Fault Refusal :=
  .next (ringEnable f.val v s)

/-- RING_DISABLE (R197). -/
def execRingDisable (f : LaneIx) (v : W32) (s : State) : Host.Outcome State Fault Refusal :=
  .next (ringDisable f.val v s)

/-- VSET_WRITE (R67). -/
def execVsetWrite (f : LaneIx) (k : QuadIx) (code : BitVec 5) (s : State) : Host.Outcome State Fault Refusal :=
  .next (vsetWrite f.val k.val code s)

/-- DIVREQ_WRITE (R67). -/
def execDivreqWrite (f : LaneIx) (k : QuadIx) (code : BitVec 2) (s : State) : Host.Outcome State Fault Refusal :=
  .next (divreqWrite f.val k.val code s)

/-- SKIP_WRITE (R67). -/
def execSkipWrite (f : LaneIx) (k : QuadIx) (code : BitVec 3) (s : State) : Host.Outcome State Fault Refusal :=
  .next (skipWrite f.val k.val code s)

/-- PCIE_CLKMODE_WRITE (R62). -/
def execPcieClkmodeWrite (f : LaneIx) (common : Bool) (s : State) : Host.Outcome State Fault Refusal :=
  .next (pcieClkmodeWrite f.val common s)

/-- DISC_EN_WRITE (R90). -/
def execDiscEnWrite (f : LaneIx) (en : Bool) (s : State) : Host.Outcome State Fault Refusal :=
  .next (discEnWrite f.val en s)

/-- DEBUG_WINDOW_READ (R129). -/
def execDebugWindowRead (i : Fin 4) (off : Fin 524288) (len : Nat) (ecc : List (BlockIx × Ecc)) (s : State) : Host.Outcome State Fault Refusal :=
  .next (debugWindowRead i.val off.val len ecc s)

/-- DEBUG_WINDOW_WRITE (R215). -/
def execDebugWindowWrite (i : Fin 4) (off : Fin 524288) (data : WindowData) (s : State) : Host.Outcome State Fault Refusal :=
  .next (debugWindowWrite i.val off.val data.bytes data.ecc s)

/-- EVT_STAT_WRITE (R144). -/
def execEvtStatWrite (f : LaneIx) (w : Fin 12) (v : W32) (s : State) : Host.Outcome State Fault Refusal :=
  .next (evtStatWrite f.val w.val v s)

/-- EVT_EN_WRITE (R144). -/
def execEvtEnWrite (f : LaneIx) (w : Fin 12) (v : W32) (s : State) : Host.Outcome State Fault Refusal :=
  .next (evtEnWrite f.val w.val v s)

/-- EVT_MAP_WRITE (R144). -/
def execEvtMapWrite (f : LaneIx) (src : SrcIx) (v : W32) (s : State) : Host.Outcome State Fault Refusal :=
  .next (evtMapWrite f.val src.val v s)

/-- MSIX_CONDITION_CLEAR (R144). -/
def execMsixConditionClear (f : LaneIx) (c : MsixChange) (s : State) : Host.Outcome State Fault Refusal :=
  .next (msixConditionClear f.val c s)

/-- LOW_WORD_READ (R17). -/
def execLowWordRead (rq : Requester) (a : PairRead) (s : State) : Host.Outcome State Fault Refusal :=
  .next (lowWordRead rq a.addr a.wide s)

/-- HIGH_WORD_READ (R17). -/
def execHighWordRead (rq : Requester) (a : Bar0) (s : State) : Host.Outcome State Fault Refusal :=
  .next (highWordRead rq a s)

/-- IDXARM (R281). -/
def execIdxarm (f : LaneIx) (n : Oct) (s : State) : Host.Outcome State Fault Refusal :=
  .next (idxarm f.val n.val s)

/-- FORCEBACK (R303). -/
def execForceback (f : LaneIx) (p : Oct) (s : State) : Host.Outcome State Fault Refusal :=
  .next (forceback f.val p.val s)

/-- PVSEL_SNAPSHOT (R340). -/
def execPvselSnapshot (f : LaneIx) (c : CellIx) (v : W32) (s : State) : Host.Outcome State Fault Refusal :=
  .next (pvselSnapshot f.val c.val v s)

/-- LINK_EN_WRITE (R357). -/
def execLinkEnWrite (f : LaneIx) (l : LinkIx) (en : Bool) (s : State) : Host.Outcome State Fault Refusal :=
  .next (linkEnWrite f.val l.val en s)

/-- RETRAIN (R356). -/
def execRetrain (f : LaneIx) (l : LinkIx) (s : State) : Host.Outcome State Fault Refusal :=
  .next (retrain f.val l.val s)

/-- GATESEL_WRITE (R375). -/
def execGateselWrite (f : LaneIx) (g : LaneIx) (v : W32) (s : State) : Host.Outcome State Fault Refusal :=
  .next (gateselWrite f.val g.val v s)

/-- RECAL (R379). -/
def execRecal (f : LaneIx) (g : LaneIx) (s : State) : Host.Outcome State Fault Refusal :=
  .next (recal f.val g.val s)

/-- DUTY_COMMIT (R419). -/
def execDutyCommit (f : LaneIx) (n : Oct) (dw : BitVec 14) (s : State) : Host.Outcome State Fault Refusal :=
  .next (dutyCommit f.val n.val dw s)

/-- FLT_INJ_ARM (R504). -/
def execFltInjArm (f : LaneIx) (v : W32) (s : State) : Host.Outcome State Fault Refusal :=
  .next (fltInjArm f.val v s)

/-- PERS_CLEAR (R497). -/
def execPersClear (f : LaneIx) (src : Fin 32) (s : State) : Host.Outcome State Fault Refusal :=
  .next (persClear f.val src.val s)

/-- PREC_ENABLE (R307). -/
def execPrecEnable (f : LaneIx) (v : W32) (s : State) : Host.Outcome State Fault Refusal :=
  .next (precEnable f.val v s)

/-- PREC_DISABLE (R307). -/
def execPrecDisable (f : LaneIx) (s : State) : Host.Outcome State Fault Refusal :=
  .next (precDisable f.val s)

/-- REGISTER_WRITE (R13). -/
def execRegisterWrite (f : LaneIx) (a : Bar0) (v : RegData) (s : State) : Host.Outcome State Fault Refusal :=
  .next (registerWrite f.val a v s)

/-- COMPLETER_ABORT (R18). -/
def execCompleterAbort (f : LaneIx) (a : Bar0) (size : Nat) (dir : AccessDir) (s : State) : Host.Outcome State Fault Refusal :=
  .next (completerAbort f.val a size dir s)

/-- HUNG_ACCESS_COMPLETE (R77). -/
def execHungAccessComplete (rq : Requester) (s : State) : Host.Outcome State Fault Refusal :=
  .next (hungAccessComplete rq s)

/-- CONVENTIONAL_RESET (R88). -/
def execConventionalReset (cause : PcieReset) (s : State) : Host.Outcome State Fault Refusal :=
  .next (conventionalReset cause s)

/-- FLR (R177). -/
def execFlr (f : LaneIx) (s : State) : Host.Outcome State Fault Refusal :=
  .next (flr f.val s)

/-- NUMVFS_WRITE (R142). -/
def execNumvfsWrite (en : Bool) (num : BitVec 16) (s : State) : Host.Outcome State Fault Refusal :=
  .next (numvfsWrite en num s)

/-- D3HOT_ENTRY (R120). -/
def execD3hotEntry (f : LaneIx) (s : State) : Host.Outcome State Fault Refusal :=
  .next (d3hotEntry f.val s)

/-- D0_RETURN (R120). -/
def execD0Return (f : LaneIx) (s : State) : Host.Outcome State Fault Refusal :=
  .next (d0Return f.val s)

/-- HOST_READ_ERROR (R534). -/
def execHostReadError (r : ReadFor) (cause : BusError) (s : State) : Host.Outcome State Fault Refusal :=
  .next (hostReadError r cause s)

end Sys2Proof.Machine
end

