-- ==== Sys2Proof/Machine/ExecPlant.lean ====
section
/-! DEFINITION. The meaning of each command, as the step takes it: the plant: motors, the chain, clocks, power, temperature, faults, fuses and firmware (chapters 2, 13 to 17). Every term is a command, and answers a next state. -/

namespace Sys2Proof.Machine

/-- QUAD_CAL_END (R396). -/
def execQuadCalEnd (k : QuadIx) (s : State) : Host.Outcome State Fault Refusal :=
  .next (quadCalEnd k.val s)

/-- LOOP_PERIOD (R411). -/
def execLoopPeriod (n : Oct) (m : MotorMeas) (s : State) : Host.Outcome State Fault Refusal :=
  .next (loopPeriod n.val m s)

/-- MOTOR_START (R420). -/
def execMotorStart (n : Oct) (spd : Int) (handoff : Bool) (s : State) : Host.Outcome State Fault Refusal :=
  .next (motorStart n.val spd handoff s)

/-- START_ATTEMPT_FAIL (R421). -/
def execStartAttemptFail (n : Oct) (s : State) : Host.Outcome State Fault Refusal :=
  .next (startAttemptFail n.val s)

/-- START_RETRY_GAP (R421). -/
def execStartRetryGap (n : Oct) (s : State) : Host.Outcome State Fault Refusal :=
  .next (startRetryGap n.val s)

/-- STOP_COMPLETE (R423). -/
def execStopComplete (n : Oct) (s : State) : Host.Outcome State Fault Refusal :=
  .next (stopComplete n.val s)

/-- BRAKE_TIMEOUT (R424). -/
def execBrakeTimeout (n : Oct) (s : State) : Host.Outcome State Fault Refusal :=
  .next (brakeTimeout n.val s)

/-- PORT_TRAINING (R435). -/
def execPortTraining (x : PortIx) (tr : PortTrain) (s : State) : Host.Outcome State Fault Refusal :=
  .next (portTraining x.val tr s)

/-- PORT_DOWN (R435). -/
def execPortDown (x : PortIx) (s : State) : Host.Outcome State Fault Refusal :=
  .next (portDown x.val s)

/-- HELLO_SEND (R435). -/
def execHelloSend (x : PortIx) (s : State) : Host.Outcome State Fault Refusal :=
  .next (helloSend x.val s)

/-- HELLO (R433). -/
def execHello (x : PortIx) (h : Hello) (crcOk : Bool) (s : State) : Host.Outcome State Fault Refusal :=
  .next (hello x.val h crcOk s)

/-- PRL_FRAME (R439). -/
def execPrlFrame (x : PortIx) (frame : List Byte) (codeOk : Bool) (s : State) : Host.Outcome State Fault Refusal :=
  .next (prlFrame x.val frame codeOk s)

/-- PRL_TIME_SYNC (R444). -/
def execPrlTimeSync (x : PortIx) (_src : BitVec 16) (time : W64) (corr : BitVec 48) (arrival : Tick) (s : State) : Host.Outcome State Fault Refusal :=
  .next (prlTimeSync x.val none time corr arrival s)

/-- PROBE_SEND (R448). -/
def execProbeSend (s : State) : Host.Outcome State Fault Refusal :=
  .next (probeSend s)

/-- PROBE (R434). -/
def execProbe (x : PortIx) (_src : BitVec 16) (b : ProbeBody) (arrival : Tick) (s : State) : Host.Outcome State Fault Refusal :=
  .next (probe x.val b arrival s)

/-- PROBE_REPLY (R448). -/
def execProbeReply (src : BitVec 16) (b : ReplyBody) (arrival : Tick) (s : State) : Host.Outcome State Fault Refusal :=
  .next (probeReply src b arrival s)

/-- JOIN (R447). -/
def execJoin (id : W64) (req : BitVec 16) (level : Byte) (s : State) : Host.Outcome State Fault Refusal :=
  .next (join id req level s)

/-- JOIN_REPLY (R447). -/
def execJoinReply (id : W64) (addr : BitVec 16) (s : State) : Host.Outcome State Fault Refusal :=
  .next (joinReply id addr s)

/-- JOIN_TIMEOUT (R447). -/
def execJoinTimeout (s : State) : Host.Outcome State Fault Refusal :=
  .next (joinTimeout s)

/-- REGISTER (R452). -/
def execRegister (src : BitVec 16) (ep : EpochIx) (levelKind : Bool) (level : Byte) (s : State) : Host.Outcome State Fault Refusal :=
  .next (register src ep.toNat levelKind level s)

/-- PREPARE (R455). -/
def execPrepare (ep : EpochIx) (level : Byte) (s : State) : Host.Outcome State Fault Refusal :=
  .next (prepare ep.toNat level s)

/-- ACK (R454). -/
def execAck (src : BitVec 16) (ep : EpochIx) (res : AckRes) (s : State) : Host.Outcome State Fault Refusal :=
  .next (ack src ep.toNat res s)

/-- COMMIT (R454). -/
def execCommit (ep : EpochIx) (s : State) : Host.Outcome State Fault Refusal :=
  .next (commitEpoch ep.toNat s)

/-- CANCEL (R455). -/
def execCancel (ep : EpochIx) (cause : CancelCause) (s : State) : Host.Outcome State Fault Refusal :=
  .next (cancelEpoch ep.toNat cause s)

/-- EPOCH_BOUNDARY (R454). -/
def execEpochBoundary (ep : EpochIx) (s : State) : Host.Outcome State Fault Refusal :=
  .next (epochBoundary ep.toNat s)

/-- BATON_REQ (R449). -/
def execBatonReq (src : BitVec 16) (id : W64) (s : State) : Host.Outcome State Fault Refusal :=
  .next (batonReq src id s)

/-- BATON_MOVE (R449). -/
def execBatonMove (id : W64) (ep : EpochIx) (s : State) : Host.Outcome State Fault Refusal :=
  .next (batonMove id ep.toNat s)

/-- TIME_SYNC_LOSS (R450). -/
def execTimeSyncLoss (s : State) : Host.Outcome State Fault Refusal :=
  .next (timeSyncLoss s)

/-- CLAIM (R450). -/
def execClaim (id : W64) (s : State) : Host.Outcome State Fault Refusal :=
  .next (claim id s)

/-- CLAIM_TIMER (R450). -/
def execClaimTimer (s : State) : Host.Outcome State Fault Refusal :=
  .next (claimTimer s)

/-- FW_BLOCK (R462). -/
def execFwBlock (off : Nat) (data : List Byte) (s : State) : Host.Outcome State Fault Refusal :=
  .next (fwBlock off data s)

/-- ALERT (R459). -/
def execAlert (_src : BitVec 16) (_port : PortIx) (s : State) : Host.Outcome State Fault Refusal :=
  .next (alert s)

/-- DISC_LOCKED (R58). -/
def execDiscLocked (err : Int) (s : State) : Host.Outcome State Fault Refusal :=
  .next (discLocked err s)

/-- DISC_UNLOCKED (R58). -/
def execDiscUnlocked (err : Int) (s : State) : Host.Outcome State Fault Refusal :=
  .next (discUnlocked err s)

/-- HK_ROUND_START (R470). -/
def execHkRoundStart (s : State) : Host.Outcome State Fault Refusal :=
  .next (hkRoundStart s)

/-- HK_ROUND_END (R471). -/
def execHkRoundEnd (m : HkMeas) (s : State) : Host.Outcome State Fault Refusal :=
  .next (hkRoundEnd m s)

/-- GRACE_EXPIRY (R475). -/
def execGraceExpiry (p : Oct) (s : State) : Host.Outcome State Fault Refusal :=
  .next (graceExpiry p.val s)

/-- RSTEP_EXPIRY (R475). -/
def execRstepExpiry (p : Oct) (s : State) : Host.Outcome State Fault Refusal :=
  .next (rstepExpiry p.val s)

/-- THROTTLE_RELEASE (R476). -/
def execThrottleRelease (p : Oct) (s : State) : Host.Outcome State Fault Refusal :=
  .next (throttleRelease p.val s)

/-- LADDER_HOLD (R473). -/
def execLadderHold (k : QuadIx) (s : State) : Host.Outcome State Fault Refusal :=
  .next (ladderHold k.val s)

/-- COLD_POWER_UP (R83). -/
def execColdPowerUp (cause : ColdCause) (lock : Bool) (s : State) : Host.Outcome State Fault Refusal :=
  .next (coldPowerUp cause lock s)

/-- PLL_LOCK_RETRY (R84). -/
def execPllLockRetry (lock : Bool) (s : State) : Host.Outcome State Fault Refusal :=
  .next (pllLockRetry lock s)

/-- POWER_FAIL (R101). -/
def execPowerFail (s : State) : Host.Outcome State Fault Refusal :=
  .next (powerFail s)

/-- PRST_N_PULSE (R89). -/
def execPrstNPulse (ns : Nat) (s : State) : Host.Outcome State Fault Refusal :=
  .next (prstNPulse ns s)

/-- ROOT_PLL_UNLOCK (R56). -/
def execRootPllUnlock (s : State) : Host.Outcome State Fault Refusal :=
  .next (rootPllUnlock s)

/-- RELOCK_RESTART (R501). -/
def execRelockRestart (s : State) : Host.Outcome State Fault Refusal :=
  .next (relockRestart s)

/-- TAP_INSTRUCTION (R116). -/
def execTapInstruction (code : Byte) (s : State) : Host.Outcome State Fault Refusal :=
  .next (tapInstruction code s)

/-- FAULT_REPORT (R488). -/
def execFaultReport (src : Fin 32) (cls : FaultClass) (inst : BitVec 16) (detail : W64) (t : Tick) (s : State) : Host.Outcome State Fault Refusal :=
  .next (faultReport src.val cls inst detail t s)

/-- RECORD_WRITE_DONE (R491). -/
def execRecordWriteDone (s : State) : Host.Outcome State Fault Refusal :=
  .next (recordWriteDone s)

/-- QUIET_EXPIRY (R496). -/
def execQuietExpiry (src : Fin 32) (s : State) : Host.Outcome State Fault Refusal :=
  .next (quietExpiry src.val s)

/-- WATCHDOG_EXPIRY (R499). -/
def execWatchdogExpiry (core : CoreIx) (s : State) : Host.Outcome State Fault Refusal :=
  .next (watchdogExpiry core.val s)

/-- LOCKSTEP_MISMATCH (R499). -/
def execLockstepMismatch (core : CoreIx) (s : State) : Host.Outcome State Fault Refusal :=
  .next (lockstepMismatch core.val s)

/-- STANDBY_RELOAD_DONE (R499). -/
def execStandbyReloadDone (s : State) : Host.Outcome State Fault Refusal :=
  .next (standbyReloadDone s)

/-- ALIVE_TOGGLE (R502). -/
def execAliveToggle (s : State) : Host.Outcome State Fault Refusal :=
  .next (aliveToggle s)

/-- BOOT_EPOCH_PROGRAM (R514). -/
def execBootEpochProgram (ok : Bool) (s : State) : Host.Outcome State Fault Refusal :=
  .next (bootEpochProgram ok s)

/-- SEAL (R519). -/
def execSeal (s : State) : Host.Outcome State Fault Refusal :=
  .next (sealRecord s)

/-- CHAINBOOT_FETCH (R512). -/
def execChainbootFetch (s : State) : Host.Outcome State Fault Refusal :=
  .next (chainbootFetch s)

/-- REGULATOR_READY (R66). -/
def execRegulatorReady (d : DomainIx) (s : State) : Host.Outcome State Fault Refusal :=
  .next (regulatorReady d.val s)

/-- DIVIDER_CHANGE_DONE (R66). -/
def execDividerChangeDone (k : QuadIx) (s : State) : Host.Outcome State Fault Refusal :=
  .next (dividerChangeDone k.val s)

/-- PAIR_FAULT_END (R276). -/
def execPairFaultEnd (n : Oct) (pair : EncPair) (s : State) : Host.Outcome State Fault Refusal :=
  .next (pairFaultEnd n.val pair s)

/-- ZERO_LENGTH_READ_DONE (R136). -/
def execZeroLengthReadDone (lane : LaneIx) (ok : Bool) (s : State) : Host.Outcome State Fault Refusal :=
  .next (zeroLengthReadDone lane.val ok s)

/-- COMMAND_READ_DONE (R258). -/
def execCommandReadDone (r : ReadFor) (data : List (List Byte)) (s : State) : Host.Outcome State Fault Refusal :=
  .next (commandReadDone r data s)

/-- TAKEOVER_COPY_DONE (R263). -/
def execTakeoverCopyDone (c : CellIx) (ecc : List (BlockIx × Ecc)) (s : State) : Host.Outcome State Fault Refusal :=
  .next (takeoverCopyDone c.val ecc s)

/-- CORE_SWAP_DONE (R172). -/
def execCoreSwapDone (s : State) : Host.Outcome State Fault Refusal :=
  .next (coreSwapDone s)

/-- FUSE_PULSE_DONE (R510). -/
def execFusePulseDone (ok : Bool) (s : State) : Host.Outcome State Fault Refusal :=
  .next (fusePulseDone ok s)

/-- MOTOR_CAL_DONE (R409). -/
def execMotorCalDone (n : Oct) (a : CalInput) (b : CalInput) (s : State) : Host.Outcome State Fault Refusal :=
  .next (motorCalDone n.val a b s)

/-- PERST_N_DEASSERT (R83). -/
def execPerstNDeassert (width : LinkWidth) (s : State) : Host.Outcome State Fault Refusal :=
  .next (perstNDeassert width s)

/-- INJECTION_END (R504). -/
def execInjectionEnd (s : State) : Host.Outcome State Fault Refusal :=
  .next (injectionEnd s)

end Sys2Proof.Machine
end

