-- ==== Sys2Proof/Machine/ExecPrint.lean ====
section
/-! DEFINITION. The meaning of each command, as the step takes it: the print path: feed engines, banks, cells, encoders, Pacers, head links and gates (chapters 6 to 12). Every term is a command, and answers a next state. -/

namespace Sys2Proof.Machine

/-- DESCRIPTOR_ARRIVAL (R185). -/
def execDescriptorArrival (r : RingIx) (raw : BitVec 512) (s : State) : Host.Outcome State Fault Refusal :=
  .next (descriptorArrival r.val raw s)

/-- CHANNEL_START (R191). -/
def execChannelStart (e : LaneIx) (s : State) : Host.Outcome State Fault Refusal :=
  .next (channelStart e.val s)

/-- READ_COMPLETION (R189). -/
def execReadCompletion (e : LaneIx) (data : List Byte) (s : State) : Host.Outcome State Fault Refusal :=
  .next (readCompletion e.val data s)

/-- BURST_ACK (R190). -/
def execBurstAck (e : LaneIx) (s : State) : Host.Outcome State Fault Refusal :=
  .next (burstAck e.val s).settleAssign

/-- CHANNEL_COMPLETE (R193). -/
def execChannelComplete (e : LaneIx) (s : State) : Host.Outcome State Fault Refusal :=
  .next (channelComplete e.val s)

/-- BUS_ERROR_STOP (R195). -/
def execBusErrorStop (e : LaneIx) (cause : BusError) (r : RingIx) (addr : W64) (s : State) : Host.Outcome State Fault Refusal :=
  .next (busErrorStop e.val cause r.val addr s).settleAssign

/-- CREDIT_WINDOW (R208). -/
def execCreditWindow (b : BankReads) (s : State) : Host.Outcome State Fault Refusal :=
  .next (creditWindow b.bank.val b.ecc s)

/-- SCRUB_READ (R218). -/
def execScrubRead (b : CellIx) (ecc : Ecc) (s : State) : Host.Outcome State Fault Refusal :=
  .next (scrubRead b.val ecc s)

/-- ROW_REPAIR (R219). -/
def execRowRepair (b : CellIx) (row : Fin 1024) (s : State) : Host.Outcome State Fault Refusal :=
  .next (rowRepair b.val row.val s)

/-- CONFIG_CHECK (R224). -/
def execConfigCheck (c : CellIx) (s : State) : Host.Outcome State Fault Refusal :=
  .next (configCheck c.val s)

/-- DATA_LINE_START (R228). -/
def execDataLineStart (c : CellIx) (ecc : List (BlockIx × Ecc)) (s : State) : Host.Outcome State Fault Refusal :=
  .next (dataLineStart c.val ecc s)

/-- DATA_LINE_PROCESSED (R250). -/
def execDataLineProcessed (c : CellIx) (s : State) : Host.Outcome State Fault Refusal :=
  .next (dataLineProcessed c.val s)

/-- EXCHANGE_ARRIVAL (R238). -/
def execExchangeArrival (c : CellIx) (side : Side) (m : Nat) (s : State) : Host.Outcome State Fault Refusal :=
  .next (exchangeArrival c.val side m s)

/-- TAKEOVER_FAIL (R265). -/
def execTakeoverFail (c : CellIx) (s : State) : Host.Outcome State Fault Refusal :=
  .next (takeoverFail c.val s)

/-- SELFTEST_TICK (R266). -/
def execSelftestTick (q : Fin 4) (s : State) : Host.Outcome State Fault Refusal :=
  .next (selftestTick q.val s)

/-- SELFTEST_DONE (R267). -/
def execSelftestDone (c : CellIx) (pass : Bool) (s : State) : Host.Outcome State Fault Refusal :=
  .next (selftestDone c.val pass s)

/-- CELL_BOUNDARY_TIMER (R310). -/
def execCellBoundaryTimer (c : CellIx) (s : State) : Host.Outcome State Fault Refusal :=
  .next (cellBoundaryTimer c.val s)

/-- ENCODER_EDGE (R277). -/
def execEncoderEdge (n : Oct) (a : Bool) (b : Bool) (t : Tick) (s : State) : Host.Outcome State Fault Refusal :=
  .next (encoderEdge n.val a b t s)

/-- PAIR_FAULT (R276). -/
def execPairFault (n : Oct) (pair : EncPair) (s : State) : Host.Outcome State Fault Refusal :=
  .next (pairFault n.val pair s)

/-- INDEX (R280). -/
def execIndex (n : Oct) (s : State) : Host.Outcome State Fault Refusal :=
  .next (index n.val s)

/-- SPEED_WINDOW (R282). -/
def execSpeedWindow (n : Oct) (t : Tick) (s : State) : Host.Outcome State Fault Refusal :=
  .next (speedWindow n.val t s)

/-- STILL (R282). -/
def execStill (n : Oct) (s : State) : Host.Outcome State Fault Refusal :=
  .next (still n.val s)

/-- EDGE_LEARN (R313). -/
def execEdgeLearn (p : Oct) (s : State) : Host.Outcome State Fault Refusal :=
  .next (edgeLearn p.val s)

/-- EDGE_OVERDUE (R313). -/
def execEdgeOverdue (p : Oct) (s : State) : Host.Outcome State Fault Refusal :=
  .next (edgeOverdue p.val s)

/-- PACER_LINE_BOUNDARY (R309). -/
def execPacerLineBoundary (p : Oct) (s : State) : Host.Outcome State Fault Refusal :=
  .next (pacerLineBoundary p.val s)

/-- PACER_MARK (R310). -/
def execPacerMark (p : Oct) (s : State) : Host.Outcome State Fault Refusal :=
  .next (pacerMark p.val s)

/-- FILL_TIMER (R42). -/
def execFillTimer (p : Oct) (s : State) : Host.Outcome State Fault Refusal :=
  .next (fillTimer p.val s)

/-- STROBE_COMMIT (R321). -/
def execStrobeCommit (l : LinkIx) (s : State) : Host.Outcome State Fault Refusal :=
  .next (strobeCommit l.val s)

/-- STROBE_RELEASE (R322). -/
def execStrobeRelease (l : LinkIx) (s : State) : Host.Outcome State Fault Refusal :=
  .next (strobeRelease l.val s)

/-- STROBE_DROP (R322). -/
def execStrobeDrop (l : LinkIx) (s : State) : Host.Outcome State Fault Refusal :=
  .next (strobeDrop l.val s)

/-- LATCH_LOAD (R316). -/
def execLatchLoad (l : LinkIx) (s : State) : Host.Outcome State Fault Refusal :=
  .next (latchLoad l.val s)

/-- LL_ACK (R348). -/
def execLlAck (l : LinkIx) (frame : RxFrame) (s : State) : Host.Outcome State Fault Refusal :=
  .next (llAck l.val frame s)

/-- LL_ACK_TIMEOUT (R348). -/
def execLlAckTimeout (l : LinkIx) (s : State) : Host.Outcome State Fault Refusal :=
  .next (llAckTimeout l.val s)

/-- REFERENCE_LOSS (R300). -/
def execReferenceLoss (p : Oct) (r : EncRef) (cause : LossCause) (s : State) : Host.Outcome State Fault Refusal :=
  .next (referenceLoss p.val r cause s)

/-- REFERENCE_REQUALIFIED (R302). -/
def execReferenceRequalified (p : Oct) (r : EncRef) (s : State) : Host.Outcome State Fault Refusal :=
  .next (referenceRequalified p.val r s)

/-- DRLIM (R333). -/
def execDrlim (p : Oct) (s : State) : Host.Outcome State Fault Refusal :=
  .next (drlim p.val s)

/-- TRIGGER_EDGE (R283). -/
def execTriggerEdge (tr : LaneIx) (fall : Bool) (t : Tick) (s : State) : Host.Outcome State Fault Refusal :=
  .next (triggerEdge tr.val fall t s)

/-- PRODUCT_RECORD (R297). -/
def execProductRecord (p : Oct) (s : State) : Host.Outcome State Fault Refusal :=
  .next (productRecord p.val s)

/-- LINK_TRAINING (R356). -/
def execLinkTraining (l : LinkIx) (tr : HeadTrain) (s : State) : Host.Outcome State Fault Refusal :=
  .next (linkTraining l.val tr s)

/-- LONG_RETRY (R354). -/
def execLongRetry (l : LinkIx) (s : State) : Host.Outcome State Fault Refusal :=
  .next (longRetry l.val s)

/-- HEAD_LINK_DOWN (R357). -/
def execHeadLinkDown (l : LinkIx) (cause : DownCause) (s : State) : Host.Outcome State Fault Refusal :=
  .next (headLinkDown l.val cause s)

/-- STATUS (R345). -/
def execStatus (l : LinkIx) (frame : RxFrame) (s : State) : Host.Outcome State Fault Refusal :=
  .next (status l.val frame s)

/-- HL_TIME_SYNC (R355). -/
def execHlTimeSync (l : LinkIx) (s : State) : Host.Outcome State Fault Refusal :=
  .next (hlTimeSync l.val s)

/-- CONFIG_RESEND (R361). -/
def execConfigResend (l : LinkIx) (s : State) : Host.Outcome State Fault Refusal :=
  .next (configResend l.val s)

/-- GOVERNOR_RELEASE (R370). -/
def execGovernorRelease (l : LinkIx) (s : State) : Host.Outcome State Fault Refusal :=
  .next (governorRelease l.val s)

/-- GATE_PULSE (R377). -/
def execGatePulse (g : LaneIx) (rise : Tick) (fall : Tick) (s : State) : Host.Outcome State Fault Refusal :=
  .next (gatePulse g.val rise fall s)

/-- GATE_CAL_END (R379). -/
def execGateCalEnd (g : LaneIx) (s : State) : Host.Outcome State Fault Refusal :=
  .next (gateCalEnd g.val s)

/-- TEST_LINE (R381). -/
def execTestLine (c : CellIx) (s : State) : Host.Outcome State Fault Refusal :=
  .next (testLine c.val s)

/-- TEST_WINDOW_CLOSE (R386). -/
def execTestWindowClose (g : LaneIx) (s : State) : Host.Outcome State Fault Refusal :=
  .next (testWindowClose g.val s)

/-- TEMP_INTERP (R394). -/
def execTempInterp (c : CellIx) (s : State) : Host.Outcome State Fault Refusal :=
  .next (tempInterp c.val s)

/-- TF_STEP (R395). -/
def execTfStep (c : CellIx) (s : State) : Host.Outcome State Fault Refusal :=
  .next (tfStep c.val s)

end Sys2Proof.Machine
end

