-- ==== Sys2Proof/Machine/Dispatch.lean ====
section
/-! DEFINITION. The dispatch of a command to its meaning: one arm per row of spec/opcode_table.json, in the table's order. -/

namespace Sys2Proof.Machine

def exec (i : Instr) (s : State) : Host.Outcome State Fault Refusal :=
  match i with
  | .identify q p => Sys2Proof.Machine.execIdentify q p s
  | .getLog q p => Sys2Proof.Machine.execGetLog q p s
  | .deviceStatus q p => Sys2Proof.Machine.execDeviceStatus q p s
  | .nop q p => Sys2Proof.Machine.execNop q p s
  | .laneReset q p => Sys2Proof.Machine.execLaneReset q p s
  | .quadAssign q p => Sys2Proof.Machine.execQuadAssign q p s
  | .laneStatus q p => Sys2Proof.Machine.execLaneStatus q p s
  | .handleQuery q p => Sys2Proof.Machine.execHandleQuery q p s
  | .abort q p => Sys2Proof.Machine.execAbort q p s
  | .configLoad q p => Sys2Proof.Machine.execConfigLoad q p s
  | .configLoadDone handle img => Sys2Proof.Machine.execConfigLoadDone handle img s
  | .configCommit q p => Sys2Proof.Machine.execConfigCommit q p s
  | .configPatch q p => Sys2Proof.Machine.execConfigPatch q p s
  | .configReload q p => Sys2Proof.Machine.execConfigReload q p s
  | .configRead q p => Sys2Proof.Machine.execConfigRead q p s
  | .configDiscard q p => Sys2Proof.Machine.execConfigDiscard q p s
  | .printStart q p => Sys2Proof.Machine.execPrintStart q p s
  | .printStop q p => Sys2Proof.Machine.execPrintStop q p s
  | .setSpeed q p => Sys2Proof.Machine.execSetSpeed q p s
  | .setCeiling q p => Sys2Proof.Machine.execSetCeiling q p s
  | .windowArm q p => Sys2Proof.Machine.execWindowArm q p s
  | .alignSet q p => Sys2Proof.Machine.execAlignSet q p s
  | .spitTest q p => Sys2Proof.Machine.execSpitTest q p s
  | .tempsetLoad q p => Sys2Proof.Machine.execTempsetLoad q p s
  | .nozzleMark q p => Sys2Proof.Machine.execNozzleMark q p s
  | .servoCtl q p => Sys2Proof.Machine.execServoCtl q p s
  | .motorBind q p => Sys2Proof.Machine.execMotorBind q p s
  | .motorEnable q p => Sys2Proof.Machine.execMotorEnable q p s
  | .motorStop q p => Sys2Proof.Machine.execMotorStop q p s
  | .motorCal q p => Sys2Proof.Machine.execMotorCal q p s
  | .chainStatus q p => Sys2Proof.Machine.execChainStatus q p s
  | .chainJoin q p => Sys2Proof.Machine.execChainJoin q p s
  | .batonRequest q p => Sys2Proof.Machine.execBatonRequest q p s
  | .relayOnly q p => Sys2Proof.Machine.execRelayOnly q p s
  | .levelEnable q p => Sys2Proof.Machine.execLevelEnable q p s
  | .meterRead q p => Sys2Proof.Machine.execMeterRead q p s
  | .periodClose q p => Sys2Proof.Machine.execPeriodClose q p s
  | .recordRead q p => Sys2Proof.Machine.execRecordRead q p s
  | .fuseRead q p => Sys2Proof.Machine.execFuseRead q p s
  | .fuseProgram q p => Sys2Proof.Machine.execFuseProgram q p s
  | .fuseLock q p => Sys2Proof.Machine.execFuseLock q p s
  | .domainReset q p => Sys2Proof.Machine.execDomainReset q p s
  | .domainCycle q p => Sys2Proof.Machine.execDomainCycle q p s
  | .spareTakeover q p => Sys2Proof.Machine.execSpareTakeover q p s
  | .spareReturn q p => Sys2Proof.Machine.execSpareReturn q p s
  | .selftestCtl q p => Sys2Proof.Machine.execSelftestCtl q p s
  | .feedRestart q p => Sys2Proof.Machine.execFeedRestart q p s
  | .faultClear q p => Sys2Proof.Machine.execFaultClear q p s
  | .fwLoad q p => Sys2Proof.Machine.execFwLoad q p s
  | .fwLoadDone handle img => Sys2Proof.Machine.execFwLoadDone handle img s
  | .fwActivate q p => Sys2Proof.Machine.execFwActivate q p s
  | .coreSwap q p => Sys2Proof.Machine.execCoreSwap q p s
  | .fwInfo q p => Sys2Proof.Machine.execFwInfo q p s
  | .sqTail f lane tail unknown => Sys2Proof.Machine.execSqTail f lane tail unknown s
  | .cqHead f lane head => Sys2Proof.Machine.execCqHead f lane head s
  | .feedDoorbell f r pidx => Sys2Proof.Machine.execFeedDoorbell f r pidx s
  | .qpEnable f => Sys2Proof.Machine.execQpEnable f s
  | .ringEnable f v => Sys2Proof.Machine.execRingEnable f v s
  | .ringDisable f v => Sys2Proof.Machine.execRingDisable f v s
  | .vsetWrite f k code => Sys2Proof.Machine.execVsetWrite f k code s
  | .divreqWrite f k code => Sys2Proof.Machine.execDivreqWrite f k code s
  | .skipWrite f k code => Sys2Proof.Machine.execSkipWrite f k code s
  | .pcieClkmodeWrite f common => Sys2Proof.Machine.execPcieClkmodeWrite f common s
  | .discEnWrite f en => Sys2Proof.Machine.execDiscEnWrite f en s
  | .debugWindowRead w off len ecc => Sys2Proof.Machine.execDebugWindowRead w off len ecc s
  | .debugWindowWrite w off data => Sys2Proof.Machine.execDebugWindowWrite w off data s
  | .evtStatWrite f w v => Sys2Proof.Machine.execEvtStatWrite f w v s
  | .evtEnWrite f w v => Sys2Proof.Machine.execEvtEnWrite f w v s
  | .evtMapWrite f src v => Sys2Proof.Machine.execEvtMapWrite f src v s
  | .msixConditionClear f c => Sys2Proof.Machine.execMsixConditionClear f c s
  | .lowWordRead rq a => Sys2Proof.Machine.execLowWordRead rq a s
  | .highWordRead rq a => Sys2Proof.Machine.execHighWordRead rq a s
  | .idxarm f n => Sys2Proof.Machine.execIdxarm f n s
  | .forceback f p => Sys2Proof.Machine.execForceback f p s
  | .pvselSnapshot f c v => Sys2Proof.Machine.execPvselSnapshot f c v s
  | .linkEnWrite f l en => Sys2Proof.Machine.execLinkEnWrite f l en s
  | .retrain f l => Sys2Proof.Machine.execRetrain f l s
  | .gateselWrite f g v => Sys2Proof.Machine.execGateselWrite f g v s
  | .recal f g => Sys2Proof.Machine.execRecal f g s
  | .dutyCommit f n dw => Sys2Proof.Machine.execDutyCommit f n dw s
  | .fltInjArm f v => Sys2Proof.Machine.execFltInjArm f v s
  | .persClear f src => Sys2Proof.Machine.execPersClear f src s
  | .precEnable f v => Sys2Proof.Machine.execPrecEnable f v s
  | .precDisable f => Sys2Proof.Machine.execPrecDisable f s
  | .registerWrite f a v => Sys2Proof.Machine.execRegisterWrite f a v s
  | .completerAbort f a size dir => Sys2Proof.Machine.execCompleterAbort f a size dir s
  | .hungAccessComplete rq => Sys2Proof.Machine.execHungAccessComplete rq s
  | .conventionalReset cause => Sys2Proof.Machine.execConventionalReset cause s
  | .flr f => Sys2Proof.Machine.execFlr f s
  | .numvfsWrite en num => Sys2Proof.Machine.execNumvfsWrite en num s
  | .d3hotEntry f => Sys2Proof.Machine.execD3hotEntry f s
  | .d0Return f => Sys2Proof.Machine.execD0Return f s
  | .hostReadError r cause => Sys2Proof.Machine.execHostReadError r cause s
  | .descriptorArrival r raw => Sys2Proof.Machine.execDescriptorArrival r raw s
  | .channelStart e => Sys2Proof.Machine.execChannelStart e s
  | .readCompletion e data => Sys2Proof.Machine.execReadCompletion e data s
  | .burstAck e => Sys2Proof.Machine.execBurstAck e s
  | .channelComplete e => Sys2Proof.Machine.execChannelComplete e s
  | .busErrorStop e cause r addr => Sys2Proof.Machine.execBusErrorStop e cause r addr s
  | .creditWindow b => Sys2Proof.Machine.execCreditWindow b s
  | .scrubRead b ecc => Sys2Proof.Machine.execScrubRead b ecc s
  | .rowRepair b row => Sys2Proof.Machine.execRowRepair b row s
  | .configCheck c => Sys2Proof.Machine.execConfigCheck c s
  | .dataLineStart c ecc => Sys2Proof.Machine.execDataLineStart c ecc s
  | .dataLineProcessed c => Sys2Proof.Machine.execDataLineProcessed c s
  | .exchangeArrival c side m => Sys2Proof.Machine.execExchangeArrival c side m s
  | .takeoverFail c => Sys2Proof.Machine.execTakeoverFail c s
  | .selftestTick q => Sys2Proof.Machine.execSelftestTick q s
  | .selftestDone c pass => Sys2Proof.Machine.execSelftestDone c pass s
  | .cellBoundaryTimer c => Sys2Proof.Machine.execCellBoundaryTimer c s
  | .encoderEdge n a b t => Sys2Proof.Machine.execEncoderEdge n a b t s
  | .pairFault n pair => Sys2Proof.Machine.execPairFault n pair s
  | .index n => Sys2Proof.Machine.execIndex n s
  | .speedWindow n t => Sys2Proof.Machine.execSpeedWindow n t s
  | .still n => Sys2Proof.Machine.execStill n s
  | .edgeLearn p => Sys2Proof.Machine.execEdgeLearn p s
  | .edgeOverdue p => Sys2Proof.Machine.execEdgeOverdue p s
  | .pacerLineBoundary p => Sys2Proof.Machine.execPacerLineBoundary p s
  | .pacerMark p => Sys2Proof.Machine.execPacerMark p s
  | .fillTimer p => Sys2Proof.Machine.execFillTimer p s
  | .strobeCommit l => Sys2Proof.Machine.execStrobeCommit l s
  | .strobeRelease l => Sys2Proof.Machine.execStrobeRelease l s
  | .strobeDrop l => Sys2Proof.Machine.execStrobeDrop l s
  | .latchLoad l => Sys2Proof.Machine.execLatchLoad l s
  | .llAck l frame => Sys2Proof.Machine.execLlAck l frame s
  | .llAckTimeout l => Sys2Proof.Machine.execLlAckTimeout l s
  | .referenceLoss p r cause => Sys2Proof.Machine.execReferenceLoss p r cause s
  | .referenceRequalified p r => Sys2Proof.Machine.execReferenceRequalified p r s
  | .drlim p => Sys2Proof.Machine.execDrlim p s
  | .triggerEdge tr fall t => Sys2Proof.Machine.execTriggerEdge tr fall t s
  | .productRecord p => Sys2Proof.Machine.execProductRecord p s
  | .linkTraining l tr => Sys2Proof.Machine.execLinkTraining l tr s
  | .longRetry l => Sys2Proof.Machine.execLongRetry l s
  | .headLinkDown l cause => Sys2Proof.Machine.execHeadLinkDown l cause s
  | .status l frame => Sys2Proof.Machine.execStatus l frame s
  | .hlTimeSync l => Sys2Proof.Machine.execHlTimeSync l s
  | .configResend l => Sys2Proof.Machine.execConfigResend l s
  | .governorRelease l => Sys2Proof.Machine.execGovernorRelease l s
  | .gatePulse g rise fall => Sys2Proof.Machine.execGatePulse g rise fall s
  | .gateCalEnd g => Sys2Proof.Machine.execGateCalEnd g s
  | .testLine c => Sys2Proof.Machine.execTestLine c s
  | .testWindowClose g => Sys2Proof.Machine.execTestWindowClose g s
  | .tempInterp c => Sys2Proof.Machine.execTempInterp c s
  | .tfStep c => Sys2Proof.Machine.execTfStep c s
  | .quadCalEnd k => Sys2Proof.Machine.execQuadCalEnd k s
  | .loopPeriod n m => Sys2Proof.Machine.execLoopPeriod n m s
  | .motorStart n spd handoff => Sys2Proof.Machine.execMotorStart n spd handoff s
  | .startAttemptFail n => Sys2Proof.Machine.execStartAttemptFail n s
  | .startRetryGap n => Sys2Proof.Machine.execStartRetryGap n s
  | .stopComplete n => Sys2Proof.Machine.execStopComplete n s
  | .brakeTimeout n => Sys2Proof.Machine.execBrakeTimeout n s
  | .portTraining x tr => Sys2Proof.Machine.execPortTraining x tr s
  | .portDown x => Sys2Proof.Machine.execPortDown x s
  | .helloSend x => Sys2Proof.Machine.execHelloSend x s
  | .hello x h crcOk => Sys2Proof.Machine.execHello x h crcOk s
  | .prlFrame x fr crcOk => Sys2Proof.Machine.execPrlFrame x fr crcOk s
  | .prlTimeSync x src time corr arrival => Sys2Proof.Machine.execPrlTimeSync x src time corr arrival s
  | .probeSend => Sys2Proof.Machine.execProbeSend s
  | .probe x src b arrival => Sys2Proof.Machine.execProbe x src b arrival s
  | .probeReply src b arrival => Sys2Proof.Machine.execProbeReply src b arrival s
  | .join id req level => Sys2Proof.Machine.execJoin id req level s
  | .joinReply id addr => Sys2Proof.Machine.execJoinReply id addr s
  | .joinTimeout => Sys2Proof.Machine.execJoinTimeout s
  | .register src ep levelKind level => Sys2Proof.Machine.execRegister src ep levelKind level s
  | .prepare ep level => Sys2Proof.Machine.execPrepare ep level s
  | .ack src ep res => Sys2Proof.Machine.execAck src ep res s
  | .commit ep => Sys2Proof.Machine.execCommit ep s
  | .cancel ep cause => Sys2Proof.Machine.execCancel ep cause s
  | .epochBoundary ep => Sys2Proof.Machine.execEpochBoundary ep s
  | .batonReq src id => Sys2Proof.Machine.execBatonReq src id s
  | .batonMove id ep => Sys2Proof.Machine.execBatonMove id ep s
  | .timeSyncLoss => Sys2Proof.Machine.execTimeSyncLoss s
  | .claim id => Sys2Proof.Machine.execClaim id s
  | .claimTimer => Sys2Proof.Machine.execClaimTimer s
  | .fwBlock off data => Sys2Proof.Machine.execFwBlock off data s
  | .alert src port => Sys2Proof.Machine.execAlert src port s
  | .discLocked err => Sys2Proof.Machine.execDiscLocked err s
  | .discUnlocked err => Sys2Proof.Machine.execDiscUnlocked err s
  | .hkRoundStart => Sys2Proof.Machine.execHkRoundStart s
  | .hkRoundEnd m => Sys2Proof.Machine.execHkRoundEnd m s
  | .graceExpiry p => Sys2Proof.Machine.execGraceExpiry p s
  | .rstepExpiry p => Sys2Proof.Machine.execRstepExpiry p s
  | .throttleRelease p => Sys2Proof.Machine.execThrottleRelease p s
  | .ladderHold k => Sys2Proof.Machine.execLadderHold k s
  | .coldPowerUp cause lock => Sys2Proof.Machine.execColdPowerUp cause lock s
  | .pllLockRetry lock => Sys2Proof.Machine.execPllLockRetry lock s
  | .powerFail => Sys2Proof.Machine.execPowerFail s
  | .prstNPulse ns => Sys2Proof.Machine.execPrstNPulse ns s
  | .rootPllUnlock => Sys2Proof.Machine.execRootPllUnlock s
  | .relockRestart => Sys2Proof.Machine.execRelockRestart s
  | .tapInstruction code => Sys2Proof.Machine.execTapInstruction code s
  | .faultReport src cls inst detail t => Sys2Proof.Machine.execFaultReport src cls inst detail t s
  | .recordWriteDone => Sys2Proof.Machine.execRecordWriteDone s
  | .quietExpiry src => Sys2Proof.Machine.execQuietExpiry src s
  | .watchdogExpiry core => Sys2Proof.Machine.execWatchdogExpiry core s
  | .lockstepMismatch core => Sys2Proof.Machine.execLockstepMismatch core s
  | .standbyReloadDone => Sys2Proof.Machine.execStandbyReloadDone s
  | .aliveToggle => Sys2Proof.Machine.execAliveToggle s
  | .bootEpochProgram ok => Sys2Proof.Machine.execBootEpochProgram ok s
  | .sealStep => Sys2Proof.Machine.execSeal s
  | .chainbootFetch => Sys2Proof.Machine.execChainbootFetch s
  | .regulatorReady d => Sys2Proof.Machine.execRegulatorReady d s
  | .dividerChangeDone k => Sys2Proof.Machine.execDividerChangeDone k s
  | .pairFaultEnd n pair => Sys2Proof.Machine.execPairFaultEnd n pair s
  | .zeroLengthReadDone lane ok => Sys2Proof.Machine.execZeroLengthReadDone lane ok s
  | .commandReadDone r data => Sys2Proof.Machine.execCommandReadDone r data s
  | .takeoverCopyDone c ecc => Sys2Proof.Machine.execTakeoverCopyDone c ecc s
  | .coreSwapDone => Sys2Proof.Machine.execCoreSwapDone s
  | .fusePulseDone ok => Sys2Proof.Machine.execFusePulseDone ok s
  | .motorCalDone n a b => Sys2Proof.Machine.execMotorCalDone n a b s
  | .perstNDeassert width => Sys2Proof.Machine.execPerstNDeassert width s
  | .injectionEnd => Sys2Proof.Machine.execInjectionEnd s

end Sys2Proof.Machine
end

