-- ==== Sys2Proof/Safety.lean ====
section
/-! DEFINITION. The terms the statements use: the canonical form of a state, what a command must pass to run, the completion entries it
posts, and what it leaves as it was. -/

namespace Sys2Proof.Machine

/-! ### Canonical form -/

/-- Every table of the state, the line store and host memory are in their one canonical form: indexes rise, and no listed copy of a
register equals its reset value. Equal parts are then equal data. -/
structure Canonical (s : State) : Prop where
  store   : Memory.wf s.store
  hostMem : s.hostMem.Pairwise (fun a b => a.1 < b.1)
  quads   : tabWf quadReset s.quads
  host    : tabWf hostReset s.host
  lanes   : tabWf laneReset s.lanes
  rings   : tabWf ringReset s.rings
  engines : tabWf engineReset s.engines
  reqs    : tabWf reqReset s.reqs
  banks   : tabWf bankReset s.banks
  cells   : tabWf cellReset s.cells
  tests   : tabWf testReset s.tests
  links   : tabWf linkReset s.links
  encs    : tabWf encReset s.encs
  trigs   : tabWf trigReset s.trigs
  pacers  : tabWf pacerReset s.pacers
  gates   : tabWf gateReset s.gates
  motors  : tabWf motorReset s.motors

/-- Every outstanding handle carries the number of the queue that allocated it in bits [31:28] (R164), and a queue is one of the 16. -/
def HandlesOwned (s : State) : Prop := ∀ o ∈ s.ops, o.queue < 16 ∧ o.handle.extractLsb' 28 4 = BitVec.ofNat 4 o.queue

/-- What the fuse controller is about to program is not programmed yet (R510, R514): each bit left of a FUSE-PROGRAM or FUSE-LOCK, and in a
powered part every boot-epoch bit from the one that is tried, the last bit of all among them. FUSE-PROGRAM never has a bit of the boot-epoch region. -/
structure FusesBlank (s : State) : Prop where
  prog  : ∀ p, s.fuse.prog = some p → p.bits.Nodup ∧ ∀ b ∈ p.bits,
    (p.lock = false → (128 * p.region + p.word < 512 ∨ 640 ≤ 128 * p.region + p.word) ∧ bit (s.getFuse p.region p.word) b = false) ∧
    (p.lock = true → (b = 0 → bit s.fuse.wl p.region = false) ∧ (b = 1 → bit s.fuse.rl p.region = false))
  epoch : s.glb.powered = true → s.fuse.epochPend = true → s.bootEpoch ≠ some 4095 ∧
    ∀ b, s.fuse.epochBit = some b → b < 4096 ∧ ∀ j, b ≤ j → j < 4096 → bit (s.getFuse 4 (j / 32)) (j % 32) = false

/-- Every fuse that reads 1 in s, a lock fuse too, reads 1 in t: no fuse returns to 0 (R507). -/
def FusesKept (s t : State) : Prop :=
  (∀ r w i, bit (s.getFuse r w) i = true → bit (t.getFuse r w) i = true) ∧
    ∀ r, (bit s.fuse.wl r = true → bit t.fuse.wl r = true) ∧ (bit s.fuse.rl r = true → bit t.fuse.rl r = true)

/-! ### Commands of a queue pair -/

/-- What R151, R156, R157, R161, R162, R512 and R526 ask of a command: the packet can be taken, with FENCE = 1 no handle of the lane is
outstanding, the ring holds no packet of no row, Thinis runs an image (or the command is one the boot ROM accepts), HWRDY is 1 (or its class
runs before it), LANE is valid, and no byte is bad for its fields fs. -/
structure Served (lane0 rom early : Bool) (fs : List Field) (q : LaneIx) (p : Packet) (s : State) (target0 : Bool := lane0) : Prop where
  takes : s.takes q.val = true
  free  : s.laneFree q.val p = true
  fence : pfence p = false ∨ s.handlesOf q.val = []
  rows  : (s.getHost q.val).unknown = []
  image : rom = true ∨ s.imageRuns = true
  ready : early = true ∨ s.glb.hwrdy = true
  class0 : lane0 = true → q.val = 0
  lane  : laneValid target0 q.val p s = true
  bytes : firstBad p fs = none

/-- Check 5 of R156: the target lane is in one of the states of R168, and not RESETTING (R163). -/
def InState (states : Option (List LaneSt)) (p : Packet) (s : State) : Prop :=
  (s.getLane p.lane.toNat).st ≠ .resetting ∧ ∀ l, states = some l → (s.getLane p.lane.toNat).st ∈ l

/-- Entry e is the one that queue q posts after the packet is taken, over host memory m: at CQ_TAIL where there is room, else waiting (R152,
R153, R158). SQ_HEAD has moved past the packet. -/
def Entered (q : Nat) (e : Entry) (m : Memory) (s t : State) : Prop :=
  let h := (s.takeHead q).getHost q
  (t.getHost q).sqHead = h.sqHead ∧
    (h.room = true → t.hostMem = hostWrite m (hostKey q (h.cqBase.toNat + 16 * h.cqTail.toNat)) (entryBytes h e)) ∧
    (h.room = false → t.hostMem = m ∧ (t.getHost q).waiting = [e])

/-- The one entry of an immediate command (R159). -/
def Answered (q : Nat) (p : Packet) (status : BitVec 16) (detail : Nat) (m : Memory) (s t : State) : Prop :=
  Entered q { tag := p.tag, handle := 0, status := status, detail := BitVec.ofNat 16 detail, hv := false, final := false } m s t

/-- The handle that queue q gives, and the operation it stands for (R164-R166). -/
def opOf (q : Nat) (p : Packet) (kind : OpKind) (s : State) : Op :=
  { handle := s.nextHandle q, tag := p.tag, queue := q, target := p.lane.toNat, kind := kind }

/-- A long command has begun: its handle is outstanding, the allocation counter has moved on, and the entry ACCEPTED is posted (R159, R166). -/
def Begun (q : Nat) (p : Packet) (kind : OpKind) (s t : State) : Prop :=
  t.ops = s.ops ++ [opOf q p kind s] ∧ (t.getHost q).next = (s.getHost q).next + 1 ∧
    Entered q { tag := p.tag, handle := s.nextHandle q, status := stAccepted, detail := 0, hv := true, final := false } s.hostMem s t

/-- There is room for two more entries on queue q (R153). -/
def RoomForTwo (q : Nat) (s : State) : Prop := (s.getHost q).unconsumed + 4 ≤ 2 ^ (s.getHost q).cqLog.toNat

/-- A long command has begun and ended: ACCEPTED is written to host memory, then what w writes, then the final entry after ACCEPTED, and no
handle is added (R159, R165). -/
def Ended (q : Nat) (p : Packet) (status : BitVec 16) (detail : Nat) (w : Memory → Memory) (s t : State) : Prop :=
  let h := (s.takeHead q).getHost q
  let h' := h.advanceCq
  let e : Entry := { tag := p.tag, handle := s.nextHandle q, status := stAccepted, detail := 0, hv := true, final := false }
  t.hostMem = hostWrite (w (hostWrite s.hostMem (hostKey q (h.cqBase.toNat + 16 * h.cqTail.toNat)) (entryBytes h e)))
    (hostKey q (h'.cqBase.toNat + 16 * h'.cqTail.toNat))
    (entryBytes h' { e with status := status, detail := BitVec.ofNat 16 detail, final := true })

/-! ### Accesses of BAR0 -/

/-- An access of function f arrives at the part and is carried out at once where its target runs: HOST runs, the link is up, the function
is on the bus and not in D3hot (R120), and none of its accesses hangs (R77). -/
structure Arrives (f : Nat) (s : State) : Prop where
  reaches : s.reaches f = true
  d0      : (s.getHost f).d3 = false
  free    : (s.getHost f).held = []

/-! ### What is left as it was -/

/-- t agrees with s in every field but those through which the part answers and signals: queue pairs and vectors, event status, host
memory, messages sent, handles, and the counter of free values. -/
def SamePlant (s t : State) : Prop :=
  ({ t with host := s.host, evt := s.evt, hostMem := s.hostMem, out := s.out, ops := s.ops, free := s.free } : State) = s

end Sys2Proof.Machine
end

