-- ==== Sys2Proof/WellFormed.lean ====
section
/-! DEFINITION. Well-formed commands: an operand that the syntax gives as a plain number or a list has a value that the field, the measurement
or the transfer it stands for can have. Every other command is well-formed. A meaning does not rest on it: an ill-formed term, which the
outside cannot bring, runs too. -/

namespace Sys2Proof

/-- Indexes that rise strictly and stay below n. -/
def risingBelow (n : Nat) : List Nat → Bool
  | [] => true
  | [a] => decide (a < n)
  | a :: b :: t => decide (a < b) && risingBelow n (b :: t)

/-- The measurements of a housekeeping round (R470): pins 0-127, die sensors 0-31 and rails 0-84, each at most once. -/
def HkMeas.wf (m : HkMeas) : Bool :=
  risingBelow 128 (m.pins.map (·.1)) && risingBelow 32 (m.die.map (·.1)) && risingBelow 85 (m.rails.map (·.1))

/-- The operand checks, one arm per constructor. -/
def Instr.wf (i : Instr) : Bool :=
  match i with
  | .identify _ _ => true
  | .getLog _ _ => true
  | .deviceStatus _ _ => true
  | .nop _ _ => true
  | .laneReset _ _ => true
  | .quadAssign _ _ => true
  | .laneStatus _ _ => true
  | .handleQuery _ _ => true
  | .abort _ _ => true
  | .configLoad _ _ => true
  | .configLoadDone _ _ => true
  | .configCommit _ _ => true
  | .configPatch _ _ => true
  | .configReload _ _ => true
  | .configRead _ _ => true
  | .configDiscard _ _ => true
  | .printStart _ _ => true
  | .printStop _ _ => true
  | .setSpeed _ _ => true
  | .setCeiling _ _ => true
  | .windowArm _ _ => true
  | .alignSet _ _ => true
  | .spitTest _ _ => true
  | .tempsetLoad _ _ => true
  | .nozzleMark _ _ => true
  | .servoCtl _ _ => true
  | .motorBind _ _ => true
  | .motorEnable _ _ => true
  | .motorStop _ _ => true
  | .motorCal _ _ => true
  | .chainStatus _ _ => true
  | .chainJoin _ _ => true
  | .batonRequest _ _ => true
  | .relayOnly _ _ => true
  | .levelEnable _ _ => true
  | .meterRead _ _ => true
  | .periodClose _ _ => true
  | .recordRead _ _ => true
  | .fuseRead _ _ => true
  | .fuseProgram _ _ => true
  | .fuseLock _ _ => true
  | .domainReset _ _ => true
  | .domainCycle _ _ => true
  | .spareTakeover _ _ => true
  | .spareReturn _ _ => true
  | .selftestCtl _ _ => true
  | .feedRestart _ _ => true
  | .faultClear _ _ => true
  | .fwLoad _ _ => true
  | .fwLoadDone _ _ => true
  | .fwActivate _ _ => true
  | .coreSwap _ _ => true
  | .fwInfo _ _ => true
  | .sqTail _ _ _ _ => true
  | .cqHead _ _ _ => true
  | .feedDoorbell _ _ _ => true
  | .qpEnable _ => true
  | .ringEnable _ _ => true
  | .ringDisable _ _ => true
  | .vsetWrite _ _ _ => true
  | .divreqWrite _ _ _ => true
  | .skipWrite _ _ _ => true
  | .pcieClkmodeWrite _ _ => true
  | .discEnWrite _ _ => true
  | .debugWindowRead _ off len _ => decide (1 ≤ len ∧ off.val + len ≤ 524288)
  | .debugWindowWrite _ off data => decide (1 ≤ data.bytes.length ∧ off.val + data.bytes.length ≤ 524288)
  | .evtStatWrite _ _ _ => true
  | .evtEnWrite _ _ _ => true
  | .evtMapWrite _ _ _ => true
  | .msixConditionClear _ _ => true
  | .lowWordRead _ _ => true
  | .highWordRead _ _ => true
  | .idxarm _ _ => true
  | .forceback _ _ => true
  | .pvselSnapshot _ _ _ => true
  | .linkEnWrite _ _ _ => true
  | .retrain _ _ => true
  | .gateselWrite _ _ _ => true
  | .recal _ _ => true
  | .dutyCommit _ _ _ => true
  | .fltInjArm _ _ => true
  | .persClear _ _ => true
  | .precEnable _ _ => true
  | .precDisable _ => true
  | .registerWrite _ _ _ => true
  | .completerAbort _ _ size _ => decide (1 ≤ size)
  | .hungAccessComplete _ => true
  | .conventionalReset _ => true
  | .flr _ => true
  | .numvfsWrite _ _ => true
  | .d3hotEntry _ => true
  | .d0Return _ => true
  | .hostReadError _ _ => true
  | .descriptorArrival _ _ => true
  | .channelStart _ => true
  | .readCompletion _ data => decide (1 ≤ data.length)
  | .burstAck _ => true
  | .channelComplete _ => true
  | .busErrorStop _ _ _ _ => true
  | .creditWindow _ => true
  | .scrubRead _ _ => true
  | .rowRepair _ _ => true
  | .configCheck _ => true
  | .dataLineStart _ _ => true
  | .dataLineProcessed _ => true
  | .exchangeArrival _ _ _ => true
  | .takeoverFail _ => true
  | .selftestTick _ => true
  | .selftestDone _ _ => true
  | .cellBoundaryTimer _ => true
  | .encoderEdge _ _ _ _ => true
  | .pairFault _ _ => true
  | .index _ => true
  | .speedWindow _ _ => true
  | .still _ => true
  | .edgeLearn _ => true
  | .edgeOverdue _ => true
  | .pacerLineBoundary _ => true
  | .pacerMark _ => true
  | .fillTimer _ => true
  | .strobeCommit _ => true
  | .strobeRelease _ => true
  | .strobeDrop _ => true
  | .latchLoad _ => true
  | .llAck _ _ => true
  | .llAckTimeout _ => true
  | .referenceLoss _ _ _ => true
  | .referenceRequalified _ _ => true
  | .drlim _ => true
  | .triggerEdge _ _ _ => true
  | .productRecord _ => true
  | .linkTraining _ _ => true
  | .longRetry _ => true
  | .headLinkDown _ _ => true
  | .status _ _ => true
  | .hlTimeSync _ => true
  | .configResend _ => true
  | .governorRelease _ => true
  | .gatePulse _ rise fall => decide (rise ≤ fall)
  | .gateCalEnd _ => true
  | .testLine _ => true
  | .testWindowClose _ => true
  | .tempInterp _ => true
  | .tfStep _ => true
  | .quadCalEnd _ => true
  | .loopPeriod _ _ => true
  | .motorStart _ _ _ => true
  | .startAttemptFail _ => true
  | .startRetryGap _ => true
  | .stopComplete _ => true
  | .brakeTimeout _ => true
  | .portTraining _ tr => decide (tr.lanes.length = 4)
  | .portDown _ => true
  | .helloSend _ => true
  | .hello _ _ _ => true
  | .prlFrame _ frame _ => decide (frame.length ≤ 276)
  | .prlTimeSync _ _ _ _ _ => true
  | .probeSend => true
  | .probe _ _ _ _ => true
  | .probeReply _ _ _ => true
  | .join _ _ _ => true
  | .joinReply _ _ => true
  | .joinTimeout => true
  | .register _ _ _ _ => true
  | .prepare _ _ => true
  | .ack _ _ _ => true
  | .commit _ => true
  | .cancel _ _ => true
  | .epochBoundary _ => true
  | .batonReq _ _ => true
  | .batonMove _ _ => true
  | .timeSyncLoss => true
  | .claim _ => true
  | .claimTimer => true
  | .fwBlock off data => decide (off < 2 ^ 32 ∧ data.length ≤ 252)
  | .alert _ _ => true
  | .discLocked _ => true
  | .discUnlocked _ => true
  | .hkRoundStart => true
  | .hkRoundEnd m => m.wf
  | .graceExpiry _ => true
  | .rstepExpiry _ => true
  | .throttleRelease _ => true
  | .ladderHold _ => true
  | .coldPowerUp _ _ => true
  | .pllLockRetry _ => true
  | .powerFail => true
  | .prstNPulse _ => true
  | .rootPllUnlock => true
  | .relockRestart => true
  | .tapInstruction _ => true
  | .faultReport src _ _ _ _ => decide (src.val ≤ 18)
  | .recordWriteDone => true
  | .quietExpiry _ => true
  | .watchdogExpiry _ => true
  | .lockstepMismatch _ => true
  | .standbyReloadDone => true
  | .aliveToggle => true
  | .bootEpochProgram _ => true
  | .sealStep => true
  | .chainbootFetch => true
  | .regulatorReady _ => true
  | .dividerChangeDone _ => true
  | .pairFaultEnd _ _ => true
  | .zeroLengthReadDone _ _ => true
  | .commandReadDone _ _ => true
  | .takeoverCopyDone _ _ => true
  | .coreSwapDone => true
  | .fusePulseDone _ => true
  | .motorCalDone _ _ _ => true
  | .perstNDeassert _ => true
  | .injectionEnd => true

/-- The commands whose operands have a check. -/
def Instr.checked (i : Instr) : Bool :=
  match i with
  | .identify _ _ => false
  | .getLog _ _ => false
  | .deviceStatus _ _ => false
  | .nop _ _ => false
  | .laneReset _ _ => false
  | .quadAssign _ _ => false
  | .laneStatus _ _ => false
  | .handleQuery _ _ => false
  | .abort _ _ => false
  | .configLoad _ _ => false
  | .configLoadDone _ _ => false
  | .configCommit _ _ => false
  | .configPatch _ _ => false
  | .configReload _ _ => false
  | .configRead _ _ => false
  | .configDiscard _ _ => false
  | .printStart _ _ => false
  | .printStop _ _ => false
  | .setSpeed _ _ => false
  | .setCeiling _ _ => false
  | .windowArm _ _ => false
  | .alignSet _ _ => false
  | .spitTest _ _ => false
  | .tempsetLoad _ _ => false
  | .nozzleMark _ _ => false
  | .servoCtl _ _ => false
  | .motorBind _ _ => false
  | .motorEnable _ _ => false
  | .motorStop _ _ => false
  | .motorCal _ _ => false
  | .chainStatus _ _ => false
  | .chainJoin _ _ => false
  | .batonRequest _ _ => false
  | .relayOnly _ _ => false
  | .levelEnable _ _ => false
  | .meterRead _ _ => false
  | .periodClose _ _ => false
  | .recordRead _ _ => false
  | .fuseRead _ _ => false
  | .fuseProgram _ _ => false
  | .fuseLock _ _ => false
  | .domainReset _ _ => false
  | .domainCycle _ _ => false
  | .spareTakeover _ _ => false
  | .spareReturn _ _ => false
  | .selftestCtl _ _ => false
  | .feedRestart _ _ => false
  | .faultClear _ _ => false
  | .fwLoad _ _ => false
  | .fwLoadDone _ _ => false
  | .fwActivate _ _ => false
  | .coreSwap _ _ => false
  | .fwInfo _ _ => false
  | .sqTail _ _ _ _ => false
  | .cqHead _ _ _ => false
  | .feedDoorbell _ _ _ => false
  | .qpEnable _ => false
  | .ringEnable _ _ => false
  | .ringDisable _ _ => false
  | .vsetWrite _ _ _ => false
  | .divreqWrite _ _ _ => false
  | .skipWrite _ _ _ => false
  | .pcieClkmodeWrite _ _ => false
  | .discEnWrite _ _ => false
  | .debugWindowRead _ _ _ _ => true
  | .debugWindowWrite _ _ _ => true
  | .evtStatWrite _ _ _ => false
  | .evtEnWrite _ _ _ => false
  | .evtMapWrite _ _ _ => false
  | .msixConditionClear _ _ => false
  | .lowWordRead _ _ => false
  | .highWordRead _ _ => false
  | .idxarm _ _ => false
  | .forceback _ _ => false
  | .pvselSnapshot _ _ _ => false
  | .linkEnWrite _ _ _ => false
  | .retrain _ _ => false
  | .gateselWrite _ _ _ => false
  | .recal _ _ => false
  | .dutyCommit _ _ _ => false
  | .fltInjArm _ _ => false
  | .persClear _ _ => false
  | .precEnable _ _ => false
  | .precDisable _ => false
  | .registerWrite _ _ _ => false
  | .completerAbort _ _ _ _ => true
  | .hungAccessComplete _ => false
  | .conventionalReset _ => false
  | .flr _ => false
  | .numvfsWrite _ _ => false
  | .d3hotEntry _ => false
  | .d0Return _ => false
  | .hostReadError _ _ => false
  | .descriptorArrival _ _ => false
  | .channelStart _ => false
  | .readCompletion _ _ => true
  | .burstAck _ => false
  | .channelComplete _ => false
  | .busErrorStop _ _ _ _ => false
  | .creditWindow _ => false
  | .scrubRead _ _ => false
  | .rowRepair _ _ => false
  | .configCheck _ => false
  | .dataLineStart _ _ => false
  | .dataLineProcessed _ => false
  | .exchangeArrival _ _ _ => false
  | .takeoverFail _ => false
  | .selftestTick _ => false
  | .selftestDone _ _ => false
  | .cellBoundaryTimer _ => false
  | .encoderEdge _ _ _ _ => false
  | .pairFault _ _ => false
  | .index _ => false
  | .speedWindow _ _ => false
  | .still _ => false
  | .edgeLearn _ => false
  | .edgeOverdue _ => false
  | .pacerLineBoundary _ => false
  | .pacerMark _ => false
  | .fillTimer _ => false
  | .strobeCommit _ => false
  | .strobeRelease _ => false
  | .strobeDrop _ => false
  | .latchLoad _ => false
  | .llAck _ _ => false
  | .llAckTimeout _ => false
  | .referenceLoss _ _ _ => false
  | .referenceRequalified _ _ => false
  | .drlim _ => false
  | .triggerEdge _ _ _ => false
  | .productRecord _ => false
  | .linkTraining _ _ => false
  | .longRetry _ => false
  | .headLinkDown _ _ => false
  | .status _ _ => false
  | .hlTimeSync _ => false
  | .configResend _ => false
  | .governorRelease _ => false
  | .gatePulse _ _ _ => true
  | .gateCalEnd _ => false
  | .testLine _ => false
  | .testWindowClose _ => false
  | .tempInterp _ => false
  | .tfStep _ => false
  | .quadCalEnd _ => false
  | .loopPeriod _ _ => false
  | .motorStart _ _ _ => false
  | .startAttemptFail _ => false
  | .startRetryGap _ => false
  | .stopComplete _ => false
  | .brakeTimeout _ => false
  | .portTraining _ _ => true
  | .portDown _ => false
  | .helloSend _ => false
  | .hello _ _ _ => false
  | .prlFrame _ _ _ => true
  | .prlTimeSync _ _ _ _ _ => false
  | .probeSend => false
  | .probe _ _ _ _ => false
  | .probeReply _ _ _ => false
  | .join _ _ _ => false
  | .joinReply _ _ => false
  | .joinTimeout => false
  | .register _ _ _ _ => false
  | .prepare _ _ => false
  | .ack _ _ _ => false
  | .commit _ => false
  | .cancel _ _ => false
  | .epochBoundary _ => false
  | .batonReq _ _ => false
  | .batonMove _ _ => false
  | .timeSyncLoss => false
  | .claim _ => false
  | .claimTimer => false
  | .fwBlock _ _ => true
  | .alert _ _ => false
  | .discLocked _ => false
  | .discUnlocked _ => false
  | .hkRoundStart => false
  | .hkRoundEnd _ => true
  | .graceExpiry _ => false
  | .rstepExpiry _ => false
  | .throttleRelease _ => false
  | .ladderHold _ => false
  | .coldPowerUp _ _ => false
  | .pllLockRetry _ => false
  | .powerFail => false
  | .prstNPulse _ => false
  | .rootPllUnlock => false
  | .relockRestart => false
  | .tapInstruction _ => false
  | .faultReport _ _ _ _ _ => true
  | .recordWriteDone => false
  | .quietExpiry _ => false
  | .watchdogExpiry _ => false
  | .lockstepMismatch _ => false
  | .standbyReloadDone => false
  | .aliveToggle => false
  | .bootEpochProgram _ => false
  | .sealStep => false
  | .chainbootFetch => false
  | .regulatorReady _ => false
  | .dividerChangeDone _ => false
  | .pairFaultEnd _ _ => false
  | .zeroLengthReadDone _ _ => false
  | .commandReadDone _ _ => false
  | .takeoverCopyDone _ _ => false
  | .coreSwapDone => false
  | .fusePulseDone _ => false
  | .motorCalDone _ _ _ => false
  | .perstNDeassert _ => false
  | .injectionEnd => false

end Sys2Proof
end

