-- ==== Sys2Proof/Certificates/Slice0/Obligations.lean ====
section
/-! DEFINITION. The statements of this model, for the provers. -/

open Sys2Proof Sys2Proof.Machine

/-- A step runs the command at the front of the queue on the state whose queue holds the others; an empty queue is one tick (log entry 28).
R5, R54, 95_what_each_step_holds.md. -/
def Obligations.StepRunsTheFrontCommand : Prop :=
  (∀ (c : Instr) (rest : List Instr) (s : State), step { s with pending := c :: rest } = exec c { s with pending := rest }) ∧
  ∀ s : State, s.pending = [] →
    (s.fire = true → step s = .next { s with time := s.time + 1 }) ∧ (s.fire = false → step s = .next s)

/-- IDENTIFY, DEVICE-STATUS, LANE-STATUS, CHAIN-STATUS and FW-INFO write their buffer, answer SUCCESS and change nothing else. R156, R159,
R168, R169, R461. -/
def Obligations.BufferCommandsAnswer : Prop :=
  ∀ (q : LaneIx) (p : Packet) (s : State),
    let wrote := fun (n : Nat) (t : State) => SamePlant s t ∧ t.ops = s.ops ∧
      Answered q.val p stOk 0 (s.freeBuf q.val (pnum p 8 8) n).hostMem s t
    (Served true true true [fAny 8 8] q p s → InState none p s →
      (∃ t, exec (.identify q p) s = .next t ∧ wrote 4096 t) ∧ (∃ t, exec (.fwInfo q p) s = .next t ∧ wrote 1024 t)) ∧
    (Served true false true [fAny 8 8] q p s → InState none p s →
      (∃ t, exec (.deviceStatus q p) s = .next t ∧ wrote 512 t) ∧ (∃ t, exec (.chainStatus q p) s = .next t ∧ wrote 1024 t)) ∧
    (Served false false true [fAny 8 8] q p s → InState none p s → ∃ t, exec (.laneStatus q p) s = .next t ∧ wrote 256 t)

/-- GET-LOG, FUSE-READ, METER-READ and RECORD-READ write what they read; NOP, HANDLE-QUERY and ABORT answer; a command under FENCE waits.
R161, R165, R167, R168, R490, R491, R492, R509, R516, R518, R519. -/
def Obligations.ReadOutCommandsAnswer : Prop :=
  ∀ (q : LaneIx) (p : Packet) (s : State),
    let answers := fun (st : BitVec 16) (d : Nat) (m : Memory) (t : State) => SamePlant s t ∧ t.ops = s.ops ∧ t.free = s.free ∧
      Answered q.val p st d m s t
    (Served true false true [fAny 8 8, fMax p 16 1 1] q p s → InState none p s → ∃ t, exec (.getLog q p) s = .next t ∧
      answers stOk 0 (s.dma q.val (pnum p 8 8)
        (if pnum p 16 1 = 0 then s.firstBytes else (List.range 32).flatMap s.historyBytes)).hostMem t) ∧
    (Served true true true [fMax p 8 1 15, fMax p 10 2 127, fMax p 12 2 (128 - pnum p 10 2), fAny 16 8] q p s → InState none p s →
      ∃ t, exec (.fuseRead q p) s = .next t ∧
        (bit s.fuse.rl (pnum p 8 1) = true → answers stFuseLocked 0 s.hostMem t) ∧
        (bit s.fuse.rl (pnum p 8 1) = false → answers stOk 0 (s.dma q.val (pnum p 16 8)
          ((s.fuseWords (pnum p 8 1) (pnum p 10 2) (pnum p 12 2)).flatMap (fun v => leBytes v.toNat 4))).hostMem t)) ∧
    (Served false false true [fAny 8 8] q p s → InState none p s → ∃ t, exec (.meterRead q p) s = .next t ∧
      answers stOk 0 (s.dma q.val (pnum p 8 8) (planeBytes (tabGet (fun _ => 0) (s.getMeter p.lane.toNat).drops)
        (tabGet (fun _ => 0) (s.getMeter p.lane.toNat).vols))).hostMem t) ∧
    (Served false false true [fAny 8 8, fAny 16 8] q p s → InState none p s → ∃ t, exec (.recordRead q p) s = .next t ∧
      (∀ r, (s.getMeter p.lane.toNat).recs.find? (fun r => decide (r.period.toNat = pnum p 16 8)) = some r →
        answers stOk 0 (s.dma q.val (pnum p 8 8) (s.recordBytes r)).hostMem t) ∧
      ((s.getMeter p.lane.toNat).recs.find? (fun r => decide (r.period.toNat = pnum p 16 8)) = none →
        answers stBadParam 16 s.hostMem t)) ∧
    (Served false false true [] q p s → InState none p s → ∃ t, exec (.nop q p) s = .next t ∧ SamePlant s t ∧ t.ops = s.ops ∧
      Answered q.val p stOk 0 s.hostMem s t) ∧
    (Served false false true [fAny 8 4] q p s → InState none p s →
      let h := BitVec.ofNat 32 (pnum p 8 4)
      (∃ t, exec (.handleQuery q p) s = .next t ∧ SamePlant s t ∧ t.ops = s.ops ∧
        Answered q.val p stOk (if s.outstanding q.val h then 1 else 0) s.hostMem s t) ∧
      (s.outstanding q.val h = false → ∃ t, exec (.abort q p) s = .next t ∧ SamePlant s t ∧ t.ops = s.ops ∧
        Answered q.val p stBadHandle 0 s.hostMem s t) ∧
      (∀ o slot addr len, s.outstanding q.val h = true → s.running h = some o → o.kind = .configLoad slot addr len → o.queue = q.val →
        (s.getHost q.val).room = true → ∃ t, exec (.abort q p) s = .next t ∧ SamePlant s t ∧ ∀ x ∈ t.ops, x.handle ≠ h)) ∧
    ((s.getHost q.val).unknown = [] →
      (s.takes q.val = true → s.laneFree q.val p = true → pfence p = true → s.handlesOf q.val ≠ [] → ∀ e ∈ commandRows, exec (e.2 q p) s =
        .next ((s.takeHead q.val).updHost q.val
          (HostFn.setFence (some { cmd := some (e.1, p), tag := p.tag, handles := s.handlesOf q.val })))) ∧
      ∀ f, (s.getHost q.val).fence = some f → f.cmd = some (0x0100, p) → s.fenceOver f = true → s.serves q.val = true → s.imageRuns = true →
        laneValid false q.val p s = true → (s.getLane p.lane.toNat).st ≠ .resetting → s.laneFree q.val p = true → s.assign = none →
        exec (.nop q p) s = .next ((s.updHost q.val (HostFn.setFence none)).answer q.val p.tag stOk 0))

/-- SET-SPEED, SET-CEILING, CONFIG-DISCARD and WINDOW-ARM have their one effect, answer SUCCESS and change nothing else. R39, R40, R168, R257,
R261, R287, R288, R385. -/
def Obligations.LaneCommandsTakeEffect : Prop :=
  ∀ (q : LaneIx) (p : Packet) (s : State),
    let l := p.lane.toNat
    (Served false false false [fMax p 8 4 12500000] q p s → InState stCP p s → ∃ t, exec (.setSpeed q p) s = .next t ∧
      SamePlant (s.updLane l (fun x => { x with rate := BitVec.ofNat 32 (pnum p 8 4) })) t ∧ Answered q.val p stOk 0 s.hostMem s t) ∧
    (∀ k, Served false false false [fAny 8 4] q p s → InState stCP p s → (s.getLane l).pacer = some k →
      ∃ t, exec (.setCeiling q p) s = .next t ∧ bit t.evt.stat 371 = true ∧ Answered q.val p stOk 0 s.hostMem s t ∧
        SamePlant (s.updPacer k (fun x => { x with ceil := if pnum p 8 4 = 0 then 0xFFFFFFFF else BitVec.ofNat 32 (pnum p 8 4) })) t) ∧
    (Served false false false [fMax p 8 1 1] q p s → InState none p s → s.held (.slot l (pnum p 8 1)) = false →
      s.slotLocked l (pnum p 8 1) = false → ∃ t, exec (.configDiscard q p) s = .next t ∧
        SamePlant (s.updLane l (fun x => x.setSlot (pnum p 8 1) none)) t ∧ Answered q.val p stOk 0 s.hostMem s t) ∧
    (∀ k, (s.getLane l).pacer = some k →
      Served false false false [⟨8, 1, decide (pnum p 8 1 < 32) && !(s.getPacer k).cont⟩,
        ⟨9, 1, (decide (pnum p 9 1 < 32) || decide (pnum p 9 1 = 0xFF)) && decide (pnum p 9 1 ≠ pnum p 8 1)⟩, fMax p 12 4 (2 ^ 31 - 1),
        ⟨16, 4, decide (pnum p 16 4 < 2 ^ 31) && !(decide (pnum p 9 1 = 0xFF) && decide (pnum p 16 4 = 0))⟩] q p s →
      InState stP p s → (s.getPacer k).live.length < 8 → ∃ t, exec (.windowArm q p) s = .next t ∧
        Answered q.val p stOk 0 s.hostMem s t ∧ SamePlant { s with pacers := t.pacers } t ∧
        (t.getPacer k).windows = (s.getPacer k).windows ++ [{ newWindow (s.getPacer k).nextWin (s.getPacer k).freeSlot .armed with
          start := BitVec.ofNat 8 (pnum p 8 1), stop := BitVec.ofNat 8 (pnum p 9 1), offset := pnum p 12 4, length := pnum p 16 4 }])

/-- QUAD-ASSIGN, FEED-RESTART, SELFTEST-CTL, MOTOR-BIND, NOZZLE-MARK and RELAY-ONLY have their effect. R123, R168, R196, R254, R266, R410,
R463. -/
def Obligations.ServiceCommandsTakeEffect : Prop :=
  ∀ (q : LaneIx) (p : Packet) (s : State),
    (let quads := (List.range 64).filter (fun k => (BitVec.ofNat 64 (pnum p 8 8)).getLsbD k)
     Served true false true [fAny 8 8, fMax p 16 1 15] q p s → s.present (pnum p 16 1) = true →
      (∀ l ∈ pnum p 16 1 :: quads.map (fun k => (s.getQuad k).owner.toNat), (s.getLane l).st = .idle) →
      (∀ k ∈ quads, s.quadNamed k = false) → (∀ r ∈ s.quadRings quads, (s.getRing r).en = false ∧ (s.getRing r).busy = false) →
      ∃ t, exec (.quadAssign q p) s = .next t ∧ Answered q.val p stOk 0 s.hostMem s t ∧ SamePlant { s with quads := t.quads, lanes := t.lanes } t ∧
        (∀ k, t.getQuad k = if k ∈ quads then { s.getQuad k with owner := Fin.ofNat 16 (pnum p 16 1) } else s.getQuad k) ∧
        ∀ l < 16, t.getLane l = { s.getLane l with inForce := (s.getLane l).inForce.filter (fun y => decide (t.laneOf y.cell = l)) }) ∧
    (Served true false false [fMax p 8 1 15] q p s → InState none p s → (s.getEngine (pnum p 8 1)).stopped = true →
      ∃ t, exec (.feedRestart q p) s = .next t ∧ SamePlant (s.restartEngine (pnum p 8 1)) t ∧ Answered q.val p stOk 0 s.hostMem s t) ∧
    (Served true false false [fMax p 8 1 15, fMax p 9 1 1] q p s → InState none p s → ∃ t, exec (.selftestCtl q p) s = .next t ∧
      Answered q.val p stOk 0 s.hostMem s t ∧ SamePlant { s with tests := t.tests } t ∧
      ∀ i < 4, (t.getTest i).on = if (pnum p 8 1).testBit i then decide (pnum p 9 1 = 1) else (s.getTest i).on) ∧
    (Served true false false [⟨8, 1, decide (pnum p 8 1 < 8) && !(decide (pnum p 9 1 ≠ 0xFF) && decide ((s.getMotor (pnum p 8 1)).mode = 2))⟩,
        ⟨9, 1, decide (pnum p 9 1 < 8) || decide (pnum p 9 1 = 0xFF)⟩, ⟨12, 4, decide (pnum p 9 1 = 0xFF) || decide (pnum p 12 4 ≠ 0)⟩] q p s false →
      InState none p s → ((s.getMotor (pnum p 8 1)).bound = none ∨ channelOwn q p s = true) → (s.getMotor (pnum p 8 1)).stopped = true →
      s.held (.channel (pnum p 8 1)) = false → ∃ t, exec (.motorBind q p) s = .next t ∧ Answered q.val p stOk 0 s.hostMem s t ∧ SamePlant { s with motors := t.motors } t ∧
        (pnum p 9 1 = 0xFF → (t.getMotor (pnum p 8 1)).bound = none) ∧
        (pnum p 9 1 ≠ 0xFF → ((t.getMotor (pnum p 8 1)).bound.map (·.val)) = some (pnum p 9 1) ∧
          (t.getMotor (pnum p 8 1)).ratio = BitVec.ofNat 32 (pnum p 12 4))) ∧
    (Served false false false [fMax p 8 4 1048575, fMax p 12 1 1] q p s → InState stCP p s →
      s.laneOf (pnum p 8 4 / 4096) = p.lane.toNat → ∃ t, exec (.nozzleMark q p) s = .next t ∧ t.hostMem = s.hostMem ∧
        SamePlant { s with cells := t.cells } t ∧ (t.getCell (pnum p 8 4 / 4096)).marks = (s.getCell (pnum p 8 4 / 4096)).marks ++
          [{ noz := pnum p 8 4 % 4096, clear := decide (pnum p 12 1 = 1), queue := q.val, tag := p.tag }]) ∧
    (Served true false true [fMax p 8 1 1] q p s → InState none p s → ∃ t, exec (.relayOnly q p) s = .next t ∧
      (pnum p 8 1 = 1 → t.chn.st = .relayOnly) ∧ (pnum p 8 1 = 0 → s.chn.rcause = .command → t.chn.st ≠ .relayOnly))

/-- CONFIG-LOAD, TEMPSET-LOAD, FW-LOAD, FW-ACTIVATE, CORE-SWAP, MOTOR-CAL, MOTOR-ENABLE, CHAIN-JOIN, BATON-REQUEST and PERIOD-CLOSE begin.
R159, R164, R166, R168, R172, R257, R393, R398, R447, R512, R528. -/
def Obligations.LoadCommandsBegin : Prop :=
  ∀ (q : LaneIx) (p : Packet) (s : State), s.noHandle q.val = none →
    let l := p.lane.toNat
    (Served false false false [fAny 8 8, fMax p 16 4 33554432, fMax p 20 1 1] q p s → InState none p s →
      s.held (.slot l (pnum p 20 1)) = false → s.slotLocked l (pnum p 20 1) = false → ∃ t, exec (.configLoad q p) s = .next t ∧
        Begun q.val p (.configLoad (pnum p 20 1) (BitVec.ofNat 64 (pnum p 8 8)) (pnum p 16 4)) s t ∧
        SamePlant (s.updLane l (fun x => x.setSlot (pnum p 20 1) none)) t) ∧
    (Served false false false [fMax p 8 1 4, fAny 16 8, fAny 24 4] q p s → InState stCP p s → s.held (.tset l (pnum p 8 1)) = false →
      pnum p 24 4 = 1024 * (s.cellsOf l).length → ∃ t, exec (.tempsetLoad q p) s = .next t ∧
        Begun q.val p (.tempsetLoad (pnum p 8 1) (BitVec.ofNat 64 (pnum p 16 8)) (pnum p 24 4)) s t ∧ SamePlant s t) ∧
    (∀ i, Served true true true [fAny 8 8, if pnum p 20 1 = 1 then fAny 16 4 else fMax p 16 4 1048576, fMax p 20 1 1] q p s →
      InState none p s → s.held .core = false → s.loadTarget = some i → ∃ t, exec (.fwLoad q p) s = .next t ∧
        Begun q.val p (.fwLoad (decide (pnum p 20 1 = 1)) (BitVec.ofNat 64 (pnum p 8 8)) (pnum p 16 4)) s t ∧
        SamePlant { s with thn := { s.thn with fwSeen := true, fetch := if pnum p 20 1 = 1 then some (s.chn.syncPort, 0) else none } } t) ∧
    (∀ x, Served true false true [] q p s → InState none p s → s.held .core = false → s.standbyImage = some x →
      (s.chn.st = .member → spanOk s.minLevel s.maxLevel x.level.toNat = true) → ∃ t, exec (.fwActivate q p) s = .next t ∧
        Begun q.val p .fwActivate s t ∧ SamePlant { s with thn := { s.thn with paused := true, swap := some (s.nextHandle q.val) } } t) ∧
    (∀ j, Served true false true [] q p s → InState none p s → s.held .core = false → s.standbyCore = some j →
      s.standbyImage = s.activeImage → ∃ t, exec (.coreSwap q p) s = .next t ∧
        Begun q.val p .coreSwap s t ∧ SamePlant { s with thn := { s.thn with paused := true, swap := some (s.nextHandle q.val) } } t) ∧
    (Served false false false [fMax p 8 1 7] q p s → InState none p s → channelOwn q p s = true →
      (s.getMotor (pnum p 8 1)).stopped = true → s.held (.channel (pnum p 8 1)) = false → ∃ t, exec (.motorCal q p) s = .next t ∧
        Begun q.val p (.motorCal (pnum p 8 1)) s t ∧ SamePlant (s.updMotor (pnum p 8 1) (fun m => { m with st := .cal, brakeHeld := false })) t) ∧
    (Served true false true [fMax p 8 2 65534] q p s → InState none p s → s.chn.st ≠ .relayOnly → s.held .chain = false →
      s.anyPrint = false → ∃ t, exec (.chainJoin q p) s = .next t ∧ Begun q.val p (.chainJoin (BitVec.ofNat 16 (pnum p 8 2))) s t ∧
        SamePlant { s with chn := { s.chn with st := .joining, baton := false, probeBack := false, joinAddr := BitVec.ofNat 16 (pnum p 8 2), probeAt := s.now } } t) ∧
    (let n := pnum p 8 1
     let m := s.getMotor n
     Served false false false [fMax p 8 1 7, ⟨9, 1, decide (pnum p 9 1 ≤ 1) && !(decide (pnum p 9 1 ≠ 1) && decide (m.mode = 1))⟩] q p s →
      InState stCP p s → channelOwn q p s = true → m.stopped = true → s.held (.channel n) = false →
      (pnum p 9 1 = 1 → m.failA = false ∧ m.failB = false ∧ m.calValid = true) → m.mode ≠ 2 → s.wanted { m with ending := false } ≠ 0 →
      ∃ t, exec (.motorEnable q p) s = .next t ∧ Begun q.val p (.motorEnable n) s t ∧ (t.getMotor n).st = .ready) ∧
    (Served true false true [] q p s → InState none p s → s.chn.st ≠ .relayOnly → s.held .chain = false → s.holder = false →
      s.chn.move = none → ∃ t, exec (.batonRequest q p) s = .next t ∧ Begun q.val p .batonRequest s t ∧
        ∃ f : PrlFrame, ∃ o, t.out = .prl s.originPorts f.bytes :: o ∧ f.says (.batonReq s.unitId) = true) ∧
    (Served false false true [fAny 8 8] q p s → InState stCP p s → s.held (.period l) = false →
      (s.fuse.epochExh = true ∨ (s.meter.seqLost = false ∧ s.meter.seqNo + s.meter.closed.length < 2 ^ 48)) →
      ∃ t, exec (.periodClose q p) s = .next t ∧ Begun q.val p .periodClose s t ∧
        SamePlant (s.closePeriod l (s.nextHandle q.val) (BitVec.ofNat 64 (pnum p 8 8))) t)

/-- CONFIG-COMMIT, CONFIG-PATCH, ALIGN-SET, PRINT-START, PRINT-STOP and LEVEL-ENABLE begin a change for their epoch. R168, R210, R258, R259,
R260, R294, R452, R461, R535. -/
def Obligations.ChangeCommandsBegin : Prop :=
  ∀ (q : LaneIx) (p : Packet) (s : State), s.noHandle q.val = none →
    let l := p.lane.toNat
    let change := fun (lane : Nat) (kind : ChangeKind) (ep : Nat) (cells : List Nat) (ready : Bool) (t : State) =>
      t.changes = s.changes ++ [{ lane := lane, kind := kind, ep := ep, cells := cells, handle := s.nextHandle q.val, ready := ready,
                                  prepared := false, committed := false, windows := false }]
    let open_ := fun (ep : Nat) => ∀ x ∈ s.chn.preps, x.ep ≠ ep
    (∀ v, Served false false false [slotHolds false p s, fEpoch p 16 s] q p s → InState stIC p s → relayBad 16 p s = false →
      s.held (.slot l (pnum p 8 1)) = false → s.held (.config l) = false → s.held (.print l) = false →
      (∀ o ∈ s.ops, o.target = l → ∀ a b c, o.kind ≠ .spitTest a b c) → (s.getLane l).slot (pnum p 8 1) = some v →
      s.widthOk l v.copies = true → open_ (pnum p 16 8) → ∃ t, exec (.configCommit q p) s = .next t ∧
        Begun q.val p (.configCommit (pnum p 8 1) (pnum p 16 8)) s t ∧ change l (.commit (pnum p 8 1)) (pnum p 16 8) v.cells false t) ∧
    (∀ v, Served false false false [slotHolds true p s, fEpoch p 16 s] q p s → InState stCP p s → relayBad 16 p s = false →
      s.held (.slot l (pnum p 8 1)) = false → s.held (.config l) = false → (s.getLane l).slot (pnum p 8 1) = some v →
      s.widthOk l (mergeCopies (s.getLane l).inForce v.copies) = true → open_ (pnum p 16 8) → ∃ t, exec (.configPatch q p) s = .next t ∧
        Begun q.val p (.configPatch (pnum p 8 1) (pnum p 16 8)) s t ∧
        change l (.patch (pnum p 8 1)) (pnum p 16 8) (s.cellsOf l) false t) ∧
    (∀ y, let k := pnum p 10 2
      let shift := signed 16 (pnum p 12 2)
      s.forceOf k = some y →
      Served false false false [⟨8, 1, decide (pnum p 8 1 ≤ 15) && decide (y.plane = pnum p 8 1)⟩, fMax p 10 2 511,
        ⟨12, 2, decide (-64 ≤ shift ∧ shift ≤ 64)⟩, fMax p 16 4 9599,
        ⟨20, 2, decide (pnum p 20 2 ≤ 15) && decide (pnum p 20 2 + (linkCfg y (k % 2)).redofs ≤ 15)⟩, fEpoch p 24 s] q p s →
      InState stCP p s → s.laneOf (k / 2) = l → relayBad 24 p s = false → s.held (.config l) = false → open_ (pnum p 24 8) →
      ∃ t, exec (.alignSet q p) s = .next t ∧
        Begun q.val p (.alignSet k shift (pnum p 20 2) (pnum p 16 4) (pnum p 24 8)) s t ∧ change l .align (pnum p 24 8) [k / 2] true t ∧
        (t.getCell (k / 2)).shadow = threeCopies { alignCopy k shift (pnum p 20 2) (pnum p 16 4) y with gen := (s.getCell (k / 2)).gen + 1 }) ∧
    (Served false false false [fEpoch p 16 s] q p s → InState stC p s → relayBad 16 p s = false → (s.getLane l).fmax ≠ 0 →
      s.held (.print l) = false → open_ (pnum p 16 8) → ∃ t, exec (.printStart q p) s = .next t ∧
        Begun q.val p (.printStart (pnum p 16 8)) s t ∧ change l .printStart (pnum p 16 8) (s.cellsOf l) true t) ∧
    (Served false false false [fMax p 8 1 1, fEpoch p 16 s] q p s → InState stP p s → relayBad 16 p s = false →
      s.held (.print l) = false → open_ (pnum p 16 8) → ∃ t, exec (.printStop q p) s = .next t ∧
        Begun q.val p (.printStop (pnum p 8 1) (pnum p 16 8)) s t ∧
        change l (.printStop (pnum p 8 1)) (pnum p 16 8) (s.cellsOf l) true t) ∧
    (Served true false true [⟨8, 1, decide (pnum p 8 1 ≠ 0)⟩, fEpoch p 16 s] q p s → InState none p s → relayBad 16 p s = false →
      s.held .chain = false → pnum p 16 8 ≠ 0 → open_ (pnum p 16 8) →
      (s.holder = true → pnum p 8 1 ≤ (s.chn.known.map (fun m => m.level.toNat)).foldl min s.ownLevel ∧ pnum p 8 1 ≤ s.opLevel + 1) →
      ∃ t, exec (.levelEnable q p) s = .next t ∧ Begun q.val p (.levelEnable (BitVec.ofNat 8 (pnum p 8 1)) (pnum p 16 8)) s t ∧
        change 0 (.level (BitVec.ofNat 8 (pnum p 8 1))) (pnum p 16 8) [] true t)

/-- CONFIG-RELOAD, CONFIG-READ, and BATON-REQUEST, MOTOR-ENABLE, LEVEL-ENABLE and FUSE-LOCK with nothing to wait for, end at once. R168, R261,
R391, R408, R449, R461, R509. -/
def Obligations.CommandsThatEndAtOnce : Prop :=
  ∀ (q : LaneIx) (p : Packet) (s : State), s.noHandle q.val = none → RoomForTwo q.val s → (∀ o ∈ s.ops, o.handle ≠ s.nextHandle q.val) →
    let l := p.lane.toNat
    (Served false false false [] q p s → InState stCP p s → s.held (.config l) = false → ∃ t, exec (.configReload q p) s = .next t ∧
      Ended q.val p stOk 0 id s t ∧ t.ops = s.ops ∧ t.lanes = s.lanes ∧
      ∀ x ∈ (s.getLane l).inForce, (t.getCell x.cell).divergent = false) ∧
    (Served false false false [fAny 8 8, fMax p 16 2 255, fAny 18 1, fAny 20 4] q p s → InState stCP p s →
      s.laneOf (pnum p 16 2) = l → ∃ t, exec (.configRead q p) s = .next t ∧
      Ended q.val p stOk 0 (fun m => (State.freeBuf q.val (pnum p 8 8) (pnum p 20 4) { s with hostMem := m }).hostMem) s t ∧ t.ops = s.ops ∧ t.cells = s.cells) ∧
    (Served true false true [] q p s → InState none p s → s.chn.st ≠ .relayOnly → s.held .chain = false → s.holder = true →
      ∃ t, exec (.batonRequest q p) s = .next t ∧ Ended q.val p stOk 0 id s t ∧ t.ops = s.ops ∧ SamePlant s t) ∧
    (let n := pnum p 8 1
     let m := s.getMotor n
     Served false false false [fMax p 8 1 7, ⟨9, 1, decide (pnum p 9 1 ≤ 1) && !(decide (pnum p 9 1 ≠ 1) && decide (m.mode = 1))⟩] q p s →
      InState stCP p s → channelOwn q p s = true → m.stopped = true → s.held (.channel n) = false →
      (pnum p 9 1 = 1 → m.failA = false ∧ m.failB = false ∧ m.calValid = true) → (m.mode = 2 ∨ s.wanted { m with ending := false } = 0) →
      ∃ t, exec (.motorEnable q p) s = .next t ∧ Ended q.val p stOk 0 id s t ∧ t.ops = s.ops ∧
        (t.getMotor n).st = (if m.mode = 2 then .direct else .ready) ∧ (t.getMotor n).brakeHeld = false ∧ (t.getMotor n).profile = decide (pnum p 9 1 = 1)) ∧
    (Served true false true [⟨8, 1, decide (pnum p 8 1 ≠ 0)⟩, fEpoch p 16 s] q p s → InState none p s → s.held .chain = false →
      pnum p 16 8 = 0 → s.levelOk (pnum p 8 1) = true → ∃ t, exec (.levelEnable q p) s = .next t ∧
        t.ops = s.ops ∧ t.chn.ol = BitVec.ofNat 8 (pnum p 8 1)) ∧
    (Served true false true [fMax p 8 1 15, ⟨9, 1, decide (pnum p 9 1 < 4) && !decide (pnum p 8 1 = 0 ∧ 2 ≤ pnum p 9 1) &&
        !decide (pnum p 8 1 = 4 ∧ pnum p 9 1 % 2 = 1)⟩] q p s → InState none p s → s.held .fuse = false →
      bit s.fuse.wl (pnum p 8 1) = true → bit s.fuse.rl (pnum p 8 1) = true → s.inWindow = true → s.fuse.prog = none →
      ∃ t, exec (.fuseLock q p) s = .next t ∧ Ended q.val p stOk 0 id s t ∧ t.ops = s.ops ∧ SamePlant s t)

/-- FUSE-PROGRAM and FUSE-LOCK begin with the bits still to program, and FUSE-PROGRAM of a locked region programs nothing. R168, R508, R509,
R510, R511. -/
def Obligations.FuseCommandsBegin : Prop :=
  ∀ (q : LaneIx) (p : Packet) (s : State), s.noHandle q.val = none → InState none p s → s.held .fuse = false →
    let r := pnum p 8 1
    let prog := Served true false true [fMax p 8 1 15, fMax p 10 2 127, ⟨12, 4, !(decide (r = 5 ∧ pnum p 10 2 = 1) &&
      (match s.activeSlot with | none => false | some k => (BitVec.ofNat 32 (pnum p 12 4)).getLsbD k))⟩] q p s
    let lock := Served true false true [fMax p 8 1 15, ⟨9, 1, decide (pnum p 9 1 < 4) && !decide (r = 0 ∧ 2 ≤ pnum p 9 1) &&
      !decide (r = 4 ∧ pnum p 9 1 % 2 = 1)⟩] q p s
    let bits := (List.range 32).filter (fun i => (BitVec.ofNat 32 (pnum p 12 4)).getLsbD i && !bit (s.getFuse r (pnum p 10 2)) i)
    let locks := [0, 1].filter (fun i => (BitVec.ofNat 8 (pnum p 9 1)).getLsbD i && !(if i = 0 then bit s.fuse.wl r else bit s.fuse.rl r))
    (prog → bit s.fuse.wl r = false → pnum p 12 4 &&& progMask r (pnum p 10 2) = pnum p 12 4 → s.inWindow = true → bits ≠ [] →
      ∃ t, exec (.fuseProgram q p) s = .next t ∧ Begun q.val p .fuseProgram s t ∧ SamePlant { s with fuse := { s.fuse with
        prog := some { handle := s.nextHandle q.val, region := r, word := pnum p 10 2, bits := bits, pulses := 0, lock := false } } } t) ∧
    (prog → bit s.fuse.wl r = true → RoomForTwo q.val s → (∀ o ∈ s.ops, o.handle ≠ s.nextHandle q.val) →
      ∃ t, exec (.fuseProgram q p) s = .next t ∧ Ended q.val p stFuseLocked 0 id s t ∧ SamePlant s t) ∧
    (lock → s.inWindow = true → locks ≠ [] → ∃ t, exec (.fuseLock q p) s = .next t ∧ Begun q.val p .fuseLock s t ∧
      SamePlant { s with fuse := { s.fuse with
        prog := some { handle := s.nextHandle q.val, region := r, word := 0, bits := locks, pulses := 0, lock := true } } } t)

/-- SPARE-TAKEOVER and SPARE-RETURN start a takeover; DOMAIN-RESET and DOMAIN-CYCLE of MOT and FEED reset the domain. R81, R85, R86, R168,
R262, R263, R264. -/
def Obligations.SpareAndDomainCommandsBegin : Prop :=
  ∀ (q : LaneIx) (p : Packet) (s : State), s.noHandle q.val = none → InState none p s →
    (let c := pnum p 8 2
     ∀ k, Served true false false [fMax p 8 2 255, ⟨10, 2, decide (pnum p 10 2 = 0xFFFF) || decide (256 ≤ pnum p 10 2 ∧ pnum p 10 2 < 272)⟩] q p s →
      s.spareFor c (pnum p 10 2) = some k → (s.getCell c).svc = .inService → s.held (.cell c) = false → s.held (.cell k) = false →
      k ≠ c → ∃ t, exec (.spareTakeover q p) s = .next t ∧ Begun q.val p (.spareTakeover c k) s t ∧ (t.getCell c).tkoActive = true ∧
        (t.getCell c).tkoStep = 1 ∧ (t.getCell c).tkoPeer = k ∧ (t.getCell k).svc = .copying ∧ (t.getCell k).server = c) ∧
    (let c := pnum p 8 2
     Served true false false [fMax p 8 2 255] q p s → (s.getCell c).svc = .stoodIn → s.on (quadOf c) = true → (s.getCell c).passed = true →
      s.held (.cell c) = false → s.held (.cell (s.getCell c).server) = false → ∃ t, exec (.spareReturn q p) s = .next t ∧
        Begun q.val p (.spareReturn c (s.getCell c).server) s t ∧ SamePlant (s.updCell c (fun x => { x with
          tkoActive := true, tkoStep := 1, tkoPeer := x.server, tkoBlocks := 0 })) t) ∧
    (Served true false false [fMax p 8 1 79] q p s → s.held (.domain (pnum p 8 1)) = false → pnum p 8 1 = dMOT →
      (∀ n < 8, (s.getMotor n).stopped = true) →
      (∃ t, exec (.domainReset q p) s = .next t ∧ t.motors = [] ∧ bit t.glb.rstCause 5 = true ∧ t.cells = s.cells ∧ t.lanes = s.lanes) ∧
      (∃ t, exec (.domainCycle q p) s = .next t ∧ Begun q.val p (.domainCycle dMOT (pforce p)) s t ∧ bit t.glb.pwr dMOT = false ∧
        bit t.glb.clk dMOT = false ∧ t.motors = [] ∧ (s.fire = true → s.glb.failing = false → ∃ u, exec (.regulatorReady (Fin.ofNat 80 dMOT)) t = .next u ∧
          bit u.glb.pwr dMOT = true ∧ bit u.glb.clk dMOT = true ∧ bit u.glb.rstCause 5 = true ∧
          ∀ n < 8, u.getMotor n = { motorReset n with st := .cal })))

/-- LANE-RESET, MOTOR-STOP, SPIT-TEST (PURGE), SERVO-CTL and FAULT-CLEAR have their effect. R135, R136, R140, R163, R168, R380, R385, R423,
R426, R492. -/
def Obligations.StoppingCommandsTakeEffect : Prop :=
  ∀ (q : LaneIx) (p : Packet) (s : State),
    let l := p.lane.toNat
    (Served false false true [] q p s → (s.getLane l).reset = none →
      ∃ t, exec (.laneReset q p) s = .next t ∧ (t.getLane l).st = .resetting ∧ ∀ o ∈ t.ops, o.queue ≠ l) ∧
    (∀ r, Served false false true [] q p s → (s.getLane l).reset = some r → ∃ t, exec (.laneReset q p) s = .next t ∧
      SamePlant (s.updLane l (fun x => { x with reset := some { r with issuers := r.issuers ++ [(q.val, p.tag, false)] } })) t ∧
        t.hostMem = s.hostMem) ∧
    (let n := pnum p 8 1
     Served false false false [fMax p 8 1 7, fMax p 9 1 1] q p s → InState none p s → channelOwn q p s = true → s.noHandle q.val = none →
      (∀ o ∈ s.ops, motorOp true true true n o = false) → (s.getMotor n).st = .run → (s.getMotor n).atRest = false →
      ∃ t, exec (.motorStop q p) s = .next t ∧ Begun q.val p (.motorStop n) s t ∧
        SamePlant (if pnum p 9 1 = 1 then s.updMotor n (fun m => { m with ending := true, rampStop := true })
          else s.updMotor n (fun m => { m.brake with ending := true })) t) ∧
    (Served false false false [fMax p 8 1 15, fMax p 9 1 2, ⟨10, 2, decide (1 ≤ pnum p 10 2 ∧ pnum p 10 2 ≤ 1024)⟩] q p s →
      InState stCP p s → (s.getLane l).fmax ≠ 0 → s.noHandle q.val = none → pnum p 9 1 = 2 →
      (∀ g ∈ s.planeGates l (pnum p 8 1), (s.getGate g).st ≠ .test ∧ (s.getGate g).spit = none ∧ g ∉ s.gatesHeld) →
      s.planeOf l (pnum p 8 1) ≠ [] → ∃ t, exec (.spitTest q p) s = .next t ∧ Begun q.val p (.spitTest (pnum p 8 1) 2 (pnum p 10 2)) s t ∧
        ∀ c ∈ s.planeOf l (pnum p 8 1), (s.nextHandle q.val, pnum p 10 2) ∈ (t.getCell c).purge) ∧
    (Served false false false [fMax p 8 1 15, fMax p 9 1 1, ⟨12, 4, if pnum p 12 4 = 0 then !decide (pnum p 9 1 = 1)
        else decide (1000 ≤ pnum p 12 4 ∧ pnum p 12 4 ≤ 50000)⟩] q p s → InState stCP p s → ∃ t, exec (.servoCtl q p) s = .next t ∧
      Answered q.val p stOk 0 s.hostMem s t ∧
      tabGet servoReset (t.getLane l).servos (pnum p 8 1) = { vt := BitVec.ofNat 16 (pnum p 12 4), on := decide (pnum p 9 1 = 1) }) ∧
    (Served true false false [] q p s → InState none p s → ∃ t, exec (.faultClear q p) s = .next t ∧ Answered q.val p stOk 0 s.hostMem s t ∧
      SamePlant { s with flt := if s.flt.writing.isSome then { s.flt with clearDue := true }
                                else { s.flt with first := none, ovf := 0 } } t)

/-- A register write or read is carried out, stray, refused, held or aborted by alignment, view, power state and clock; a pair's reads agree.
R13, R16, R17, R18, R77, R78, R120, R127, R128. -/
def Obligations.AccessesGoToTheirBlock : Prop :=
  ∀ (f : LaneIx) (a : Bar0) (v : W32) (s : State),
    let runs := ∀ d, s.target a.toNat = some d → s.on d = true
    (Arrives f.val s → a.toNat % 4 = 0 → (f.val = 0 ∨ s.mayWrite f.val a.toNat = true) →
      (runs → exec (.registerWrite f a (.word v)) s = .next (s.regPut f.val a.toNat v)) ∧
      (runs → a.toNat % 8 = 0 → isPairLow a.toNat = true → ∀ w, exec (.registerWrite f a (.pair v w)) s =
        .next ((s.regPut f.val a.toNat v).regPut f.val (a.toNat + 4) w)) ∧
      (∀ d, s.target a.toNat = some d → s.on d = false →
        exec (.registerWrite f a (.word v)) s = .next (s.updHost f.val (fun h => { h with held := h.held ++ [.reg a.toNat true v] })))) ∧
    (Arrives f.val s → a.toNat % 4 = 0 → f.val ≠ 0 → s.mayWrite f.val a.toNat = false →
      exec (.registerWrite f a (.word v)) s = .next (s.stray f.val)) ∧
    (∀ size dir data, Arrives f.val s →
      (malformed a.toNat size = true → exec (.completerAbort f a size dir) s = .next (s.aer f.val (.completerAbort ⟨(match dir with | .write _ => true | _ => false), a.toNat, size⟩))) ∧
      (size = 4 → a.toNat % 4 = 0 → exec (.completerAbort f a size (.write data)) s = exec (.registerWrite f a (.word (lo data))) s)) ∧
    (s.reaches f.val = true → (s.getHost f.val).d3 = true → a.toNat % 4 = 0 →
      exec (.registerWrite f a (.word v)) s = .next (s.aer f.val (.unsupported ⟨true, a.toNat, 4⟩))) ∧
    (s.reaches f.val = true → (s.getHost f.val).held = [.reg a.toNat true v] → (f.val = 0 ∨ s.mayWrite f.val a.toNat = true) → runs →
      exec (.hungAccessComplete (.func f)) s =
        .next ((s.updHost f.val (fun h => { h with held := [] })).regPut f.val a.toNat v)) ∧
    (∀ b : Bar0, Arrives f.val s → a.toNat % 8 = 0 → b.toNat = a.toNat + 4 → isPairLow a.toNat = true →
      isLatchLow a.toNat = false → (f.val = 0 ∨ (s.sees f.val a.toNat = true ∧ s.sees f.val b.toNat = true)) → runs →
      (∀ d, s.target b.toNat = some d → s.on d = true) → (s.getHost f.val).shadow = none →
      (∃ t u, exec (.lowWordRead (.func f) ⟨a, false⟩) s = .next t ∧ SamePlant s t ∧
        (t.getHost f.val).rdata = (s.regRead f.val a.toNat).setWidth 64 ∧ exec (.highWordRead (.func f) b) t = .next u ∧ SamePlant s u ∧
        (u.getHost f.val).rdata = (s.regRead f.val b.toNat).setWidth 64 ∧ (u.getHost f.val).shadow = none) ∧
      (∃ t, exec (.highWordRead (.func f) b) s = .next t ∧ SamePlant s t ∧ (t.getHost f.val).rdata = (s.regRead f.val b.toNat).setWidth 64) ∧
      ∃ t, exec (.lowWordRead (.func f) ⟨a, true⟩) s = .next t ∧ SamePlant s t ∧ (t.getHost f.val).shadow = none ∧
        (t.getHost f.val).rdata = s.regRead f.val b.toNat ++ s.regRead f.val a.toNat) ∧
    (∀ c : CoreIx, s.coreRuns c.val = true → (s.core c.val).held = [] → (s.core c.val).shadow = none → a.toNat % 4 = 0 → runs →
      (∃ t, exec (.lowWordRead (.core c) ⟨a, false⟩) s = .next t ∧ SamePlant { s with thn := t.thn } t ∧
        (t.core c.val).rdata = (s.regRead 0 a.toNat).setWidth 64) ∧
      ∃ t, exec (.highWordRead (.core c) a) s = .next t ∧ SamePlant { s with thn := t.thn } t ∧
        (t.core c.val).rdata = (s.regRead 0 a.toNat).setWidth 64)

/-- SQ-TAIL, CQ-HEAD and the feed doorbell move their index; a value out of range sets its error; a packet of no row gets BAD-OPCODE. R131,
R132, R151, R152, R155, R156, R183. -/
def Obligations.DoorbellsMoveTheirIndex : Prop :=
  ∀ (f : LaneIx) (v : W32) (s : State), Arrives f.val s → (s.getLane f.val).st ≠ .resetting →
    let h := s.getHost f.val
    (∀ us, h.en = true → v.toNat < 2 ^ h.sqLog.toNat → ∃ t, exec (.sqTail f f v us) s = .next t ∧ SamePlant s t ∧
      (t.getHost f.val).sqTail = BitVec.ofNat 12 v.toNat ∧ (t.getHost f.val).sqErr = h.sqErr) ∧
    (∀ us, h.en = true → 2 ^ h.sqLog.toNat ≤ v.toNat → ∃ t, exec (.sqTail f f v us) s = .next t ∧ SamePlant s t ∧
      (t.getHost f.val).sqTail = h.sqTail ∧ (t.getHost f.val).sqErr = true) ∧
    (h.en = true → h.unknown = [] → h.fence = none → v.toNat < 2 ^ h.sqLog.toNat →
      exec (.sqTail f f v []) s = .next (s.updHost f.val (fun h => { h with sqTail := BitVec.ofNat 12 v.toNat }))) ∧
    (∀ tag, let u := s.updHost f.val (fun h => { h with sqTail := BitVec.ofNat 12 v.toNat })
      h.unknown = [] → h.sqHead.toNat < 2 ^ h.sqLog.toNat → v.toNat < 2 ^ h.sqLog.toNat → v.toNat ≠ h.sqHead.toNat → h.sqLog.toNat ≤ 12 →
      u.takes f.val = true → s.imageRuns = true → ∃ t, exec (.sqTail f f v [(h.sqHead, tag, false)]) s = .next t ∧ SamePlant s t ∧
        Entered f.val { tag := tag, handle := 0, status := stBadOpcode, detail := 0, hv := false, final := false } s.hostMem u t) ∧
    (h.en = true → v.toNat < 2 ^ h.cqLog.toNat → (v.toNat + 2 ^ h.cqLog.toNat - h.cqHead.toNat) % 2 ^ h.cqLog.toNat ≤ h.unconsumed →
      ∃ t, exec (.cqHead f f v) s = .next t ∧ SamePlant s t ∧ (t.getHost f.val).cqHead = BitVec.ofNat 16 v.toNat ∧
        (t.getHost f.val).cqErr = h.cqErr) ∧
    (h.en = true → 2 ^ h.cqLog.toNat ≤ v.toNat → ∃ t, exec (.cqHead f f v) s = .next t ∧ SamePlant s t ∧
      (t.getHost f.val).cqHead = h.cqHead ∧ (t.getHost f.val).cqErr = true) ∧
    (∀ r : RingIx, s.ringLane r.val = f.val → (s.getRing r.val).st = .run ∨ (s.getRing r.val).st = .stopped →
      (v.toNat < (s.getRing r.val).size →
        exec (.feedDoorbell f r v) s = .next (s.updRing r.val (fun x => { x with pidx := BitVec.ofNat 12 v.toNat }))) ∧
      ((s.getRing r.val).size ≤ v.toNat → exec (.feedDoorbell f r v) s = .next (s.updRing r.val (fun x => { x with err := errDoorbell }))))

/-- A doorbell of a lane or ring that is not the function's own is discarded and counted, and one of a lane that is RESETTING only discarded.
R133. -/
def Obligations.DoorbellsOfOthersAreStray : Prop :=
  ∀ (f : LaneIx) (v : W32) (us : List (BitVec 12 × W32 × Bool)) (s : State), Arrives f.val s →
    let counted := s.updHost f.val (fun h => { h with stray := satInc h.stray })
    (∀ l : LaneIx, l ≠ f → exec (.sqTail f l v us) s = .next counted ∧ exec (.cqHead f l v) s = .next counted) ∧
    (∀ r : RingIx, s.ringLane r.val ≠ f.val → exec (.feedDoorbell f r v) s = .next counted) ∧
    ((s.getLane f.val).st = .resetting → exec (.sqTail f f v us) s = .next s ∧ exec (.cqHead f f v) s = .next s ∧
      ∀ r : RingIx, s.ringLane r.val = f.val → exec (.feedDoorbell f r v) s = .next s)

/-- EN written to 1 with both sizes valid sets both queues' indexes to 0 and PHASE to 1; with a size invalid CFG_ERR is set and EN stays 0.
R150. -/
def Obligations.QueuePairsEnableEmpty : Prop :=
  ∀ (f : LaneIx) (s : State), Arrives f.val s → (s.getHost f.val).en = false →
    let h := s.getHost f.val
    let valid := 4 ≤ h.sqLog.toNat ∧ h.sqLog.toNat ≤ 12 ∧ 4 ≤ h.cqLog.toNat ∧ h.cqLog.toNat ≤ 16
    (valid → exec (.qpEnable f) s = .next (State.drain f.val h.waiting.length (s.updHost f.val (fun x => { x with
      en := true, sqHead := 0, sqTail := 0, cqTail := 0, cqHead := 0, phase := true })))) ∧
    (¬ valid → exec (.qpEnable f) s = .next (s.updHost f.val (fun x => { x with cfgErr := true })))

/-- FEED_WCFG and PREC_CTL enable and disable their ring. R180, R197, R198, R204, R307. -/
def Obligations.EnablesTakeEffect : Prop :=
  ∀ (f : LaneIx) (v : W32) (s : State), Arrives f.val s →
    let h := s.getHost f.val
    (h.prEn = false → 4 ≤ (fld v 0 4).toNat → (fld v 0 4).toNat ≤ 12 →
      exec (.precEnable f v) s = .next (s.updHost f.val (fun x => { x with
        prEn := true, prLog := fld v 0 4, prTail := 0, prPhase := true }))) ∧
    (∃ t, exec (.precDisable f) s = .next t ∧ SamePlant s t ∧ (t.getHost f.val).prEn = false) ∧
    (s.on dFEED = true → s.ringLane h.wsel.toNat = f.val → (s.getRing h.wsel.toNat).en = false → (s.getRing h.wsel.toNat).busy = false →
      (f.val ≠ 0 ∨ (fld v 0 8 = (s.getRing h.wsel.toNat).cell ∧ fld v 16 4 = (s.getRing h.wsel.toNat).line)) →
      4 ≤ (fld v 20 4).toNat → (fld v 20 4).toNat ≤ 12 → (s.getEngine (engineOf h.wsel.toNat)).stopped = false →
      (s.getLane f.val).st ≠ .resetting → (∀ e ∈ s.rings, e.2.en = false) → ∃ t, exec (.ringEnable f v) s = .next t ∧
        SamePlant { s with rings := t.rings } t ∧ (t.getRing h.wsel.toNat).en = true ∧ (t.getRing h.wsel.toNat).st = .run ∧
        (t.getRing h.wsel.toNat).pidx = 0 ∧ (t.getRing h.wsel.toNat).cidx = 0 ∧ (t.getRing h.wsel.toNat).log2 = fld v 20 4) ∧
    (s.on dFEED = true → s.ringLane h.wsel.toNat = f.val → (s.getRing h.wsel.toNat).en = true →
      (s.getRing h.wsel.toNat).st ≠ .disabled → (s.getEngine (engineOf h.wsel.toNat)).chans = [] → ∃ t, exec (.ringDisable f v) s = .next t ∧
        (t.getRing h.wsel.toNat).en = false ∧ (t.getRing h.wsel.toNat).st = .disabled ∧ (t.getRing h.wsel.toNat).pre = [])

/-- A request of VSET, DIVREQ or SKIP that fits is taken, one that does not is refused whole; GLB_CLKCTL takes CLKMODE and DISC_EN. R57, R62,
R67, R90, R128. -/
def Obligations.QuadAndClockWrites : Prop :=
  ∀ (k : QuadIx) (vs : BitVec 5) (d : BitVec 2) (x : BitVec 3) (b : Bool) (s : State),
    let y := s.getQuad k.val
    (Arrives 0 s → Canonical s →
      exec (.vsetWrite 0 k vs) s = .next (s.requestQuad k.val vs.toNat y.divReq.toNat y.skip.toNat) ∧
      exec (.divreqWrite 0 k d) s = .next (s.requestQuad k.val y.vset.toNat d.toNat y.skip.toNat) ∧
      exec (.skipWrite 0 k x) s = .next (s.requestQuad k.val y.vset.toNat y.divReq.toNat x.toNat)) ∧
    (Arrives 0 s → (vs = y.vset ∨ s.supplyFits k.val vs.toNat = true) → ∃ t, exec (.vsetWrite 0 k vs) s = .next t ∧
      (t.getQuad k.val).vset = vs ∧ SamePlant { s with quads := t.quads } t) ∧
    (Arrives 0 s → (d = y.divReq ∨ s.clockFits k.val d.toNat y.skip.toNat y.vset.toNat = true) → ∃ t, exec (.divreqWrite 0 k d) s = .next t ∧
      (t.getQuad k.val).divReq = d ∧ SamePlant { s with quads := t.quads } t) ∧
    (Arrives 0 s → (x = y.skip ∨ s.clockFits k.val y.divReq.toNat x.toNat y.vset.toNat = true) → ∃ t, exec (.skipWrite 0 k x) s = .next t ∧
      (t.getQuad k.val).skip = x ∧ SamePlant { s with quads := t.quads } t) ∧
    (Arrives 0 s → vs ≠ y.vset → s.supplyFits k.val vs.toNat = false →
      exec (.vsetWrite 0 k vs) s = .next (s.updQuad k.val (fun z => { z with refused := true }))) ∧
    (Arrives 0 s → (d ≠ y.divReq → s.clockFits k.val d.toNat y.skip.toNat y.vset.toNat = false →
      exec (.divreqWrite 0 k d) s = .next (s.updQuad k.val (fun z => { z with refused := true }))) ∧
      (x ≠ y.skip → s.clockFits k.val y.divReq.toNat x.toNat y.vset.toNat = false →
      exec (.skipWrite 0 k x) s = .next (s.updQuad k.val (fun z => { z with refused := true })))) ∧
    (Arrives 0 s → s.glb.discEn = true → exec (.pcieClkmodeWrite 0 b) s = .next { s with glb := { s.glb with clkMode := b } }) ∧
    (Arrives 0 s → ∃ t, exec (.pcieClkmodeWrite 0 b) s = .next t ∧ t.glb.clkMode = b ∧ t.glb.discEn = s.glb.discEn ∧
      SamePlant { s with glb := t.glb } t) ∧
    (Arrives 0 s → ∃ t, exec (.discEnWrite 0 b) s = .next t ∧ t.glb.discEn = b ∧ (b = false → t.glb.disc = .free) ∧
      t.glb.clkMode = s.glb.clkMode ∧ SamePlant { s with glb := t.glb } t) ∧
    (∀ f : LaneIx, f ≠ 0 → Arrives f.val s → exec (.vsetWrite f k vs) s = .next (s.stray f.val) ∧
      exec (.pcieClkmodeWrite f b) s = .next (s.stray f.val) ∧ exec (.discEnWrite f b) s = .next (s.stray f.val))

/-- An open debug window reads its bank's bytes, and writes them where WREN is 1; a closed one reads zeros and discards writes. R129, R205,
R215. -/
def Obligations.DebugWindowsReachTheirBank : Prop :=
  ∀ (i : Fin 4) (off : Fin 524288) (len : Nat) (data : List Byte) (ecc : List (BlockIx × Ecc)) (s : State), Arrives 0 s →
    let w := s.dbgWin i.val
    let b := w.cell.toNat
    ((Instr.debugWindowRead i off len ecc).wf = true →
      (w.en = false → ∃ t, exec (.debugWindowRead i off len ecc) s = .next t ∧ SamePlant s t ∧
        (t.getHost 0).dbgData = List.replicate len 0) ∧
      (w.en = true → s.on (dLS (quadrantOf b)) = true → s.ueAmong b (blocksOf off.val len) ecc = [] →
        ∃ t, exec (.debugWindowRead i off len ecc) s = .next t ∧ t.store = s.store ∧
        (t.getHost 0).dbgData = s.store.readBytes (storeKey b off.val) len) ∧
      (w.en = true → s.on (dLS (quadrantOf b)) = true → s.ueAmong b (blocksOf off.val len) ecc ≠ [] →
        ∃ t, exec (.debugWindowRead i off len ecc) s = .next t ∧ (t.getHost 0).dbgData = List.replicate len 0xFF ∧
        Aer.poisoned ∈ (t.getHost 0).aer)) ∧
    ((Instr.debugWindowWrite i off ⟨data, ecc⟩).wf = true →
      ((w.en && w.wren) = false → (w.en = false ∨ s.on (dLS (quadrantOf b)) = true) → exec (.debugWindowWrite i off ⟨data, ecc⟩) s = .next s) ∧
      (w.en = true → w.wren = true → s.on (dLS (quadrantOf b)) = true → b < 256 → s.workOf b = b → s.serverOf b = b →
        (s.getCell b).tkoActive = false → ∃ t, exec (.debugWindowWrite i off ⟨data, ecc⟩) s = .next t ∧
        t.store.readBytes (storeKey b off.val) data.length = data ∧
        ∀ a, (a < storeKey b off.val ∨ storeKey b off.val + data.length ≤ a) → t.store.read a = s.store.read a))

/-- EVT_STAT clears, EVT_EN and EVT_MAP set, and a change of MSI-X Enable, Function Mask or a vector's mask lets held messages go. R143, R144,
R147. -/
def Obligations.EventWritesTakeEffect : Prop :=
  ∀ (f : LaneIx) (w : Fin 12) (v : W32) (src : SrcIx) (vec : Fin 128) (b : Bool) (s : State), Arrives f.val s →
    (∃ t, exec (.evtStatWrite f w v) s = .next t ∧ SamePlant s t ∧ t.evt.en = s.evt.en ∧ t.evt.maps = s.evt.maps ∧
      t.evt.stat = s.evt.stat &&& ~~~(((v &&& s.srcMask f.val w.val).setWidth 384) <<< (32 * w.val))) ∧
    (∃ t, exec (.evtEnWrite f w v) s = .next t ∧ SamePlant s t ∧ t.evt.stat = s.evt.stat ∧ t.evt.maps = s.evt.maps ∧
      t.evt.en = (s.evt.en &&& ~~~((s.srcMask f.val w.val).setWidth 384 <<< (32 * w.val))) |||
        (((v &&& s.srcMask f.val w.val).setWidth 384) <<< (32 * w.val))) ∧
    (f.val = 0 → ∃ t, exec (.evtMapWrite f src v) s = .next t ∧ SamePlant s t ∧ t.evt.stat = s.evt.stat ∧ t.evt.en = s.evt.en ∧
      t.getMap src.val = ((fld v 16 4).toNat, (fld v 0 7).toNat)) ∧
    (f.val ≠ 0 → exec (.evtMapWrite f src v) s = .next (s.stray f.val)) ∧
    (∃ t, exec (.msixConditionClear f (.enable b)) s = .next t ∧ SamePlant s t ∧ t.evt = s.evt ∧ (t.getHost f.val).msixEn = b) ∧
    (∃ t, exec (.msixConditionClear f (.maskAll b)) s = .next t ∧ SamePlant s t ∧ t.evt = s.evt ∧ (t.getHost f.val).maskAll = b) ∧
    (∃ t, exec (.msixConditionClear f (.maskVec vec b)) s = .next t ∧ SamePlant s t ∧ t.evt = s.evt ∧
      (tabGet vecReset (t.getHost f.val).vecs vec.val).mask = b)

/-- The single-register rows of encoders, Pacers, links, gates, motors and the fault block have their effect. R281, R303, R340, R356, R357,
R375, R379, R419, R497, R504. -/
def Obligations.PlantWritesTakeEffect : Prop :=
  ∀ (s : State), Arrives 0 s →
    (∀ n : Oct, s.on dCHN = true → (s.getEnc n.val).idxMode = 2 → ∃ t, exec (.idxarm 0 n) s = .next t ∧ SamePlant { s with encs := t.encs } t ∧
      (t.getEnc n.val).armed = true ∧ (t.getEnc n.val).idxMode = 2 ∧ (t.getEnc n.val).pos = (s.getEnc n.val).pos) ∧
    (∀ p : Oct, s.on dCHN = true → ∃ t, exec (.forceback 0 p) s = .next t ∧ (t.getPacer p.val).force = true ∧
      t.cells = s.cells ∧ t.encs = s.encs ∧ ∀ k, k ≠ p.val → t.getPacer k = s.getPacer k) ∧
    (∀ (c : CellIx) (v : W32), c.val < 256 → s.on (s.workQuad c.val) = true →
      (s.getLink (2 * c.val + b2n (bit v 8))).strobes = [] → ∃ t, exec (.pvselSnapshot 0 c v) s = .next t ∧
      SamePlant { s with cells := t.cells } t ∧ (t.getCell c.val).pv = { pvReset with line := int64 (s.nextLine c.val + ((fld v 0 5).toNat : Int)) }) ∧
    (∀ l : LinkIx, s.on (s.workQuad (l.val / 2)) = true →
      (∃ t, exec (.retrain 0 l) s = .next t ∧ ((s.getLink l.val).en = true → (t.getLink l.val).st = .down)) ∧
      (∃ t, exec (.linkEnWrite 0 l false) s = .next t ∧ (t.getLink l.val).en = false ∧
        ((s.getLink l.val).en = true → (t.getLink l.val).st = .down)) ∧
      (∃ t, exec (.linkEnWrite 0 l true) s = .next t ∧ (t.getLink l.val).en = true)) ∧
    (∀ (g : LaneIx) (v : W32), (s.getGate g.val).st = .uncal → ∃ t, exec (.gateselWrite 0 g v) s = .next t ∧
      (¬ (16 * (g.val / 4) ≤ (fld v 16 6).toNat ∧ (fld v 16 6).toNat < 16 * (g.val / 4) + 16) →
        (t.getGate g.val).refused = true ∧ (t.getGate g.val).owner = (s.getGate g.val).owner) ∧
      (16 * (g.val / 4) ≤ (fld v 16 6).toNat → (fld v 16 6).toNat < 16 * (g.val / 4) + 16 →
        (∀ h < 16, h ≠ g.val → h / 4 = g.val / 4 → (s.getGate h).serve &&& fld v 0 16 = 0) →
        (t.getGate g.val).owner = fld v 16 6 ∧ (t.getGate g.val).serve = fld v 0 16)) ∧
    (∀ g : LaneIx, (s.getGate g.val).st = .idle → s.on (s.workQuad (4 * (s.getGate g.val).owner.toNat)) = true →
      s.gateAt (4 * (s.getGate g.val).owner.toNat) (g.val % 4) = some g.val →
      (∀ c ∈ s.servedCells g.val, (s.getLane (s.laneOf c)).st ≠ .print) → ∃ t, exec (.recal 0 g) s = .next t ∧ (t.getGate g.val).st = .cal ∧
        (t.getGate g.val).calOk = false ∧ (t.getGate g.val).open_ = (s.getGate g.val).open_) ∧
    (∀ (n : Oct) (dw : BitVec 14), s.on dMOT = true → (s.getMotor n.val).mode = 2 → (s.getMotor n.val).ownDuties = false → exec (.dutyCommit 0 n dw) s =
      .next (s.updMotor n.val (fun m => { m with dw := dw, commit := true }))) ∧
    (∀ v : W32, s.flt.pend = true → ∃ t, exec (.fltInjArm 0 v) s = .next t ∧ t.flt.injRef = true ∧ t.flt.pend = true ∧
      t.flt.injSrc = fld v 16 5 ∧ t.flt.injInst = fld v 0 16 ∧ SamePlant { s with flt := t.flt } t) ∧
    (∀ v : W32, s.flt.pend = false → (fld v 16 5).toNat ∈ [0, 1, 3, 7, 11, 15] → ∃ t, exec (.fltInjArm 0 v) s = .next t ∧
      t.flt.pend = true ∧ t.flt.hitSrc = (fld v 16 5).toNat ∧ t.flt.hitInst = (fld v 0 16).toNat ∧ SamePlant { s with flt := t.flt } t) ∧
    (∀ i : Fin 32, ∃ t, exec (.persClear 0 i) s = .next t ∧ (t.getSrc i.val).pers = false ∧ (t.getSrc i.val).times = [] ∧
      (t.getSrc i.val).rlim = (s.getSrc i.val).rlim ∧ SamePlant { s with flt := t.flt } t)

/-- Descriptors arrive, channels start, read, are acknowledged and complete, and a bus error stops the engine. R184, R185, R187, R188, R189,
R190, R191, R192, R193, R195. -/
def Obligations.FeedEnginesMoveDescriptors : Prop :=
  ∀ (s : State), s.on dFEED = true →
    (∀ (r : RingIx) (raw : BitVec 512), (s.getRing r.val).stale = 0 → s.fetches r.val = true →
      let d := readDesc s r.val (s.fetchIdx r.val) raw
      let ring := s.getRing r.val
      (d.own = true → d.bad = false → (∀ x ∈ ring.pre, x.own = true ∧ x.bad = false) → ∃ t, exec (.descriptorArrival r raw) s = .next t ∧
        SamePlant { s with rings := t.rings, engines := t.engines } t ∧ t.getRing r.val = { ring with pre := ring.pre ++ [d] }) ∧
      (d.own = false → ring.pre = [] → s.inService r.val = 0 → ∃ t, exec (.descriptorArrival r raw) s = .next t ∧
        SamePlant { s with rings := t.rings, engines := t.engines } t ∧ t.getRing r.val = { ring with st := .error, err := errNotOwned, pre := [] }) ∧
      (d.own = true → d.bad = true → ring.pre = [] → s.inService r.val = 0 → ∃ t, exec (.descriptorArrival r raw) s = .next t ∧
        t.getRing r.val = { ring with pre := [], cidx := BitVec.ofNat 12 ((d.idx + 1) % ring.size) })) ∧
    (∀ (e : LaneIx) r d ds, let x := s.getEngine e.val
      x.stopped = false → (∀ c ∈ x.chans, c.total ≤ c.issued) → s.nextRing e.val = some r → (s.getRing r).pre = d :: ds →
      ∃ t, exec (.channelStart e) s = .next t ∧ t.getRing r = { s.getRing r with pre := ds } ∧ (t.getEngine e.val).last = r ∧
        ((t.getEngine e.val).chans.map (fun c => { c with issued := 0 })) = x.chans.map (fun c => { c with issued := 0 }) ++
          [{ id := x.nextId, ring := r, fn := s.ringLane r, at_ := (s.getRing r).base.toNat + 64 * d.idx, cell := (s.getRing r).cell.toNat
             line := (s.getRing r).line.toNat, burst := burstSize (s.getRing r).burst, desc := d, total := d.total, limit := d.total
             issued := 0, buf := [], got := 0, wrote := 0, acked := 0 }] ∧
        (t.getReq (reqKey (s.getRing r).cell.toNat (s.getRing r).line.toNat)).taken =
          (s.getReq (reqKey (s.getRing r).cell.toNat (s.getRing r).line.toNat)).taken + d.total ∧
        (x.chans = [] → x.reads = [] → 0 < d.total → s.rings = [(r, s.getRing r)] → (s.getRing r).stale = 0 → ((t.getEngine e.val).reads.head?).map (fun y => (y.addr, y.left)) =
          some (d.base.toNat, readLen (mrrsBytes (s.getHost (s.ringLane r)).mrrs) d.base.toNat d.span))) ∧
    (∀ (e : LaneIx) (data : List Byte) d ds, (s.getEngine e.val).reads = d :: ds → data ≠ [] → data.length ≤ d.left →
      ∃ t, exec (.readCompletion e data) s = .next t ∧ t.rings = s.rings ∧
        (d.dead = false → ∀ c, (s.getEngine e.val).chans.find? (fun y => decide (y.id = d.chan)) = some c →
          (((t.getEngine e.val).chans.find? (fun y => decide (y.id = d.chan))).map (·.got)) =
            some (c.got + min data.length (c.limit - c.got))) ∧
        (d.dead = true → t.store = s.store ∧
          (t.getEngine e.val).chans.map (·.got) = (s.getEngine e.val).chans.map (·.got))) ∧
    (∀ (e : LaneIx) c, (s.getEngine e.val).chans.find? (fun c => decide (c.acked < c.wrote)) = some c →
      ∃ t, exec (.burstAck e) s = .next t ∧
        (t.getEngine e.val).bursts = (s.getEngine e.val).bursts + 1 ∧
        (t.getReq (reqKey c.cell c.line)).wptr = (s.getReq (reqKey c.cell c.line)).wptr + c.burst) ∧
    (∀ (e : LaneIx) ch rest, (s.getEngine e.val).chans = ch :: rest → ch.total ≤ ch.acked * ch.burst →
      (s.getRing ch.ring).pre = [] → exec (.channelComplete e) s =
        .next ((s.updEngine e.val (fun x => { x with chans := rest })).settleLsOff.writeBackAt ch.fn ch.at_ ch.ring ch.desc.idx wbOk
          ch.acked)) ∧
    (∀ (e : LaneIx) (cause : BusError) (r : RingIx) (a : W64), (s.getEngine e.val).stopped = false → engineOf r.val = e.val →
      (s.getRing r.val).stale = 0 → (∀ d ∈ (s.getEngine e.val).reads, d.ring = r.val → d.addr = a.toNat → d.dead = false) →
      ∃ t, exec (.busErrorStop e cause r a) s = .next t ∧ (t.getEngine e.val).stopped = true ∧ (t.getEngine e.val).cause = causeCode cause ∧
        (t.getEngine e.val).errRing = BitVec.ofNat 16 r.val ∧ (t.getEngine e.val).errAddr = a ∧ (t.getEngine e.val).chans = [] ∧
        ((s.getRing r.val).st = .run → (s.getRing r.val).busy = false →
          (t.getRing r.val).st = .error ∧ (t.getRing r.val).err = errBus ∧ (t.getRing r.val).pre = []) ∧
        ∀ k, k ≠ r.val → engineOf k = e.val → (s.getRing k).st = .run → (s.getRing k).busy = false → (t.getRing k).st = .stopped)

/-- A credit window refills the credits, scrub moves on and records what it finds, and a row that is due goes to a free spare row. R208, R212,
R216, R217, R218, R219, R232. -/
def Obligations.LineStoreMaintenance : Prop :=
  ∀ (b : CellIx) (s : State), s.on (dLS (quadrantOf b.val)) = true →
    let x := s.getBank b.val
    let c := s.workOf b.val
    let cr := creditsOf (s.cfg c)
    ((s.getCell c).tkoActive = false → (s.cfg c).mode ≠ 1 → ∀ ecc, exec (.creditWindow ⟨b, ecc⟩) s = .next (s.updBank b.val (fun x => if x.adm
      then { x with crFeed := x.resFeed.toNat, crDbg := x.resDbg.toNat, crScrub := 2, crTko := x.resTko.toNat, crData := cr.1, crMask := cr.2.1
                    crCont := cr.2.2 }
      else { x with crFeed := 0, crDbg := 0, crScrub := 0, crTko := 0, crData := 0, crMask := 0, crCont := 0 }))) ∧
    (∀ row h, c < 256 → s.serverOf c = b.val → x.adm = true → (s.getCell c).tkoActive = false → (s.cfg c).mode = 1 → s.cellOn c = true →
      s.proc c = true → (s.getCell c).intakeRow = some (row, h) → 2 * row + 1 < s.complete c → x.poison = [] → s.flt.pend = false →
      ∃ t, exec (.creditWindow ⟨b, []⟩) s = .next t ∧ t.store = s.store ∧ t.getCell c =
        (s.getCell c).takeHalf row h (s.cellRead c (lineOff (s.cfg c) (2 * row) + 1024 * h) 1024) []) ∧
    (∀ ecc, s.flt.pend = false → ∃ t, exec (.scrubRead b ecc) s = .next t ∧ (t.getBank b.val).scrub = (x.scrub + 1) % 8192 ∧
      t.store = s.store ∧
      (x.poison.contains x.scrub = false → ecc = .clean → (t.getBank b.val).ce = x.ce ∧ (t.getBank b.val).ue = x.ue) ∧
      (x.poison.contains x.scrub = false → ecc = .corrected → (t.getBank b.val).ce = satInc x.ce ∧ (t.getBank b.val).ue = x.ue ∧
        (t.getBank b.val).eBlock = BitVec.ofNat 13 x.scrub) ∧
      (x.poison.contains x.scrub = true ∨ ecc = .uncorrectable → (t.getBank b.val).ue = satInc x.ue ∧
        x.scrub ∈ (t.getBank b.val).poison ∧ x.scrub / 8 ∈ (t.getBank b.val).due)) ∧
    (∀ (row : Fin 1024) i, x.due.contains row.val = true → x.freeSpare = some i → ∃ t, exec (.rowRepair b row) s = .next t ∧
      bit (t.getBank b.val).soft i = true ∧ (i, row.val) ∈ (t.getBank b.val).remap ∧ row.val ∉ (t.getBank b.val).due ∧
      (t.getBank b.val).lastRow = BitVec.ofNat 10 row.val)

/-- A complete data line enters the pipeline, leaves it into its output slot, an exchange value arrives, and the boundary timer runs. R43,
R217, R228, R238, R239, R250, R310. -/
def Obligations.DataLinesPassThePipeline : Prop :=
  ∀ (c : CellIx) (s : State),
    let x := s.cfg c.val
    let cell := s.getCell c.val
    (s.cellOn c.val = true → s.proc c.val = true → x.mode ≠ 1 → cell.pipe = none → (∀ r ∈ cell.slots, r.m % 48 ≠ cell.nextM % 48) →
      cell.skipM = [] → cell.nextM < s.complete c.val → s.flt.pend = false → (s.getBank (s.serverOf c.val)).poison = [] →
      ((s.getBank (s.serverOf c.val)).adm = true → 16 ≤ (s.getBank (s.serverOf c.val)).crData) →
      ∃ t, exec (.dataLineStart c []) s = .next t ∧ (t.getCell c.val).nextM = cell.nextM + 1 ∧ t.store = s.store ∧
        ((t.getCell c.val).pipe.map (·.m)) = some cell.nextM ∧
        ((t.getCell c.val).pipe.map (·.levels)) = some (unpackLevels (ccOf x) (s.cellRead c.val (lineOff x cell.nextM) 1024))) ∧
    (∀ p, s.cellOn c.val = true → s.proc c.val = true → cell.pipe = some p → s.xchgHeld c.val p.m = true →
      exec (.dataLineProcessed c) s = .next (s.updCell c.val (fun y => { y with
        pipe := none, outM := p.m + 1
        slots := y.slots ++ [{ m := p.m, drops := s.shapeLine c.val p, conc := concealedOf (s.cfg c.val) p, cols := zeroedOf (s.cfg c.val) p }] }))) ∧
    (∀ side m, s.cellOn c.val = true → (cell.xval side m).isSome = false → ∃ t, exec (.exchangeArrival c side m) s = .next t ∧
      SamePlant { s with cells := t.cells } t ∧ (t.getCell c.val).xin = cell.xin.map (fun v =>
        if !v.here && decide (v.side = side) && decide (v.m = m) then { v with here := true } else v)) ∧
    (c.val < 256 → s.fire = true → s.changes = [] → (∀ k, (s.getQuad k).job = .none) → cell.tkoActive = false → cell.testHold = false →
      (s.getLane (s.laneOf c.val)).reset = none → cell.idleAt + msTicks < 2 ^ 64 → ∃ t, exec (.cellBoundaryTimer c) s = .next t ∧
        t.now = max s.now (cell.idleAt + msTicks) ∧ (t.getCell c.val).idleAt = t.now)

/-- ENCODER-EDGE counts by the deadband rule, PAIR-FAULT and its end mark the pair, INDEX counts laps, SPEED-WINDOW and STILL set the speed.
R275, R276, R277, R278, R280, R281, R282. -/
def Obligations.EncodersFollowTheirPairs : Prop :=
  ∀ (n : Oct) (s : State), s.on dCHN = true →
    let e := s.getEnc n.val
    (∀ lvA lvB t, s.fire = true → e.en = true →
      let a := if e.fltA then e.lvA else lvA
      let b := if e.fltB then e.lvB else lvB
      let d := (grey a b + 4 - grey e.lvA e.lvB) % 4
      let raw := if (decide (d = 1) != e.dirInv) then e.raw + 1 else e.raw - 1
      let off := if e.rev then e.pos.toInt - raw.toInt else raw.toInt - e.pos.toInt
      ∃ u, exec (.encoderEdge n lvA lvB t) s = .next u ∧ (u.getEnc n.val).lvA = a ∧ (u.getEnc n.val).lvB = b ∧ u.cells = s.cells ∧
        (∀ k, k ≠ n.val → u.getEnc k = s.getEnc k) ∧
        (d = 0 → (u.getEnc n.val).raw = e.raw ∧ (u.getEnc n.val).pos = e.pos ∧ (u.getEnc n.val).qerr = e.qerr) ∧
        (d = 2 → (u.getEnc n.val).raw = e.raw ∧ (u.getEnc n.val).pos = e.pos ∧ (u.getEnc n.val).qerr = satInc e.qerr) ∧
        (d = 1 ∨ d = 3 → (u.getEnc n.val).raw = raw ∧ (u.getEnc n.val).qerr = e.qerr ∧
          (0 < off → (u.getEnc n.val).pos = raw ∧ (u.getEnc n.val).rev = e.rev ∧ (u.getEnc n.val).lastEdge = t) ∧
          (off ≤ 0 → -(e.db.toNat : Int) ≤ off → (u.getEnc n.val).pos = e.pos ∧ (u.getEnc n.val).rev = e.rev) ∧
          (off < -(e.db.toNat : Int) → (u.getEnc n.val).pos = raw ∧ (u.getEnc n.val).rev = !e.rev ∧ (u.getEnc n.val).revSeen = true))) ∧
    (∀ pair, ∃ u, exec (.pairFault n pair) s = .next u ∧ SamePlant { s with encs := u.encs, pacers := u.pacers } u ∧
      (u.getEnc n.val).fltSeen = true ∧ (u.getEnc n.val).fltA = (e.fltA || decide (pair = .a)) ∧
      (u.getEnc n.val).fltB = (e.fltB || decide (pair = .b)) ∧ (u.getEnc n.val).fltZ = (e.fltZ || decide (pair = .z))) ∧
    (∀ pair, ∃ u, exec (.pairFaultEnd n pair) s = .next u ∧ SamePlant { s with encs := u.encs } u ∧
      (u.getEnc n.val).fltSeen = e.fltSeen ∧ (u.getEnc n.val).fltA = (e.fltA && decide (pair ≠ .a)) ∧
      (u.getEnc n.val).fltB = (e.fltB && decide (pair ≠ .b)) ∧ (u.getEnc n.val).fltZ = (e.fltZ && decide (pair ≠ .z))) ∧
    (e.en = true → e.fltZ = false → (∀ p, e.lastIdx = some p → e.db.toNat < (e.pos.toInt - p.toInt).natAbs) →
      ∃ u, exec (.index n) s = .next u ∧ SamePlant { s with encs := u.encs } u ∧
        (u.getEnc n.val).laps = (if e.rev then e.laps - 1 else e.laps + 1) ∧ (u.getEnc n.val).idxSeen = true ∧ (u.getEnc n.val).pos = e.pos ∧
        ((e.idxMode = 1 ∨ (e.idxMode = 2 ∧ e.armed = true)) → (u.getEnc n.val).base = e.pos - e.idxVal.setWidth 64) ∧
        (e.idxMode ≠ 1 → ¬ (e.idxMode = 2 ∧ e.armed = true) → (u.getEnc n.val).base = e.base) ∧
        (e.idxMode = 2 → (u.getEnc n.val).armed = false) ∧ (s.on dHOST = true → bit u.evt.stat (277 + 2 * n.val) = true)) ∧
    (∀ t, t ≠ e.winEnd s.now → exec (.speedWindow n t) s = .next s) ∧
    (s.fire = true → ∃ u, exec (.speedWindow n (e.winEnd s.now)) s = .next u ∧ SamePlant { s with encs := u.encs, time := u.time } u ∧
      u.time = (s.at_ (e.winEnd s.now)).time ∧ (u.getEnc n.val).winStart = u.now ∧ (u.getEnc n.val).winN = 0 ∧ (u.getEnc n.val).winNow = e.win ∧
      (2 ≤ e.winN → e.winFirst ≠ e.winLast →
        (u.getEnc n.val).spd.toNat = min ((e.winN - 1) * 19200000000 / (e.winLast - e.winFirst)) 0xFFFFFFFF) ∧
      (e.winN < 2 → u.now ≠ e.lastEdge → (u.getEnc n.val).spd.toNat = min e.spd.toNat (19200000000 / (u.now - e.lastEdge)))) ∧
    (s.fire = true → ∃ u, exec (.still n) s = .next u ∧ (u.getEnc n.val).spd = 0 ∧ (u.getEnc n.val).isStill = true ∧
      u.time = (s.at_ (e.lastEdge + 100 * msTicks)).time ∧ u.links = s.links ∧
      ∀ p < 8, (s.getPacer p).follows n.val ≠ none → (s.getPacer p).st = .track ∨ (s.getPacer p).st = .wait →
        (u.getPacer p).st = .stopped ∧ (u.getPacer p).schedule = false)

/-- EDGE-LEARN starts, tracks or restarts the prediction from the learned edge, and EDGE-OVERDUE is a false start that ends in WAIT. R279,
R313, R314, R315, R323, R330, R531. -/
def Obligations.PacersFollowTheirReference : Prop :=
  ∀ (p : Oct) (s : State) (e : PEdge) (rest : List PEdge) (r : EncRef), s.on dCHN = true → s.fire = true →
    let x := s.getPacer p.val
    let k := x.kOf r
    let seed := qOf ((e.t : Int) - e.prev) 1 k
    let eps : Int := (e.t : Int) - x.tickAt e.x
    let run := (e.t :: x.run).take 5
    let j := min (2 ^ x.qspan.toNat) (run.length - 1)
    let qn := qOf ((e.t : Int) - (run.getD j 0 : Nat)) (max 1 j) k
    x.curRef = some r →
    (x.inbound = e :: rest → x.newRef = false → x.st = .stopped → ∃ t, exec (.edgeLearn p) s = .next t ∧
      (t.getPacer p.val).st = .wait ∧ (t.getPacer p.val).run = [e.t] ∧ (t.getPacer p.val).inbound = rest ∧ t.cells = s.cells) ∧
    (x.inbound = e :: rest → e.regain = false → x.st = .wait → ∃ t, exec (.edgeLearn p) s = .next t ∧ (t.getPacer p.val).inbound = rest ∧
      (qFits seed = true → (t.getPacer p.val).st = .track ∧ (t.getPacer p.val).q = BitVec.ofInt 32 seed ∧
        (t.getPacer p.val).seedT = e.t ∧ (t.getPacer p.val).seedX = e.x ∧ (t.getPacer p.val).schedule = true) ∧
      (qFits seed = false → (t.getPacer p.val).st = .wait ∧ (t.getPacer p.val).schedule = false ∧ (t.getPacer p.val).q = x.q)) ∧
    (x.inbound = e :: rest → e.regain = true → x.st = .wait ∨ x.st = .track → ∃ t, exec (.edgeLearn p) s = .next t ∧ (t.getPacer p.val).st = x.st ∧
      (t.getPacer p.val).q = x.q ∧ (t.getPacer p.val).lastX = x.lastX ∧ t.cells = s.cells ∧ ∀ l, (t.getLink l).decided = (s.getLink l).decided ∧
        (t.getLink l).strobes.map (fun b => { b with ok := none }) = (s.getLink l).strobes.map (fun b => { b with ok := none })) ∧
    (x.inbound = e :: rest → e.regain = false → x.newRef = false → x.st = .track → ∃ t, exec (.edgeLearn p) s = .next t ∧ (t.getPacer p.val).inbound = rest ∧
      (-(x.w.toNat : Int) ≤ eps → eps ≤ x.w.toNat → qFits qn = true → (t.getPacer p.val).st = .track ∧
        (t.getPacer p.val).q = BitVec.ofInt 32 qn ∧ (t.getPacer p.val).seedT = e.t ∧ (t.getPacer p.val).seedX = e.x ∧
        (t.getPacer p.val).fstart = x.fstart ∧ t.cells = s.cells) ∧
      (eps < -(x.w.toNat : Int) → (t.getPacer p.val).fstart = satInc x.fstart ∧ bit (t.getPacer p.val).evt 1 = true ∧
        (qFits seed = true → (t.getPacer p.val).st = .track ∧ (t.getPacer p.val).q = BitVec.ofInt 32 seed))) ∧
    (x.st = .track → (∀ y ∈ x.inbound, x.overdueAt r < (y.t : Int) + 32) → ∃ t, exec (.edgeOverdue p) s = .next t ∧
      (t.getPacer p.val).st = .wait ∧ (t.getPacer p.val).schedule = false ∧ (t.getPacer p.val).fstart = satInc x.fstart ∧
      bit (t.getPacer p.val).evt 1 = true ∧ t.time = (s.at_ (x.overdueAt r).toNat).time ∧ t.cells = s.cells)

/-- REFERENCE-LOSS, REFERENCE-REQUALIFIED and DRLIM change the state of a Pacer's references. R300, R301, R302, R303, R333. -/
def Obligations.ReferencesAreLostAndRegained : Prop :=
  ∀ (p : Oct) (r : EncRef) (cause : LossCause) (s : State), s.on dCHN = true →
    let x := s.getPacer p.val
    (s.fire = true → x.refSt r = .qualified → s.lossHolds p.val r cause = true → ∃ t, exec (.referenceLoss p r cause) s = .next t ∧
      (t.getPacer p.val).lossCause = lossCode cause ∧ (t.getPacer p.val).cur = x.cur ∧ t.cells = s.cells ∧
      (x.curRef = some r → (t.getPacer p.val).refSt r = .lost ∧ (t.getPacer p.val).switching = true ∧ (t.getPacer p.val).switchDue = true) ∧
      (x.curRef ≠ some r → (t.getPacer p.val).refSt r = .requal ∧ (t.getPacer p.val).reqOf r = 0 ∧ t.links = s.links)) ∧
    (s.fire = true → (x.refSt r ≠ .qualified ∨ s.lossHolds p.val r cause = false) → exec (.referenceLoss p r cause) s = .next s) ∧
    (x.refSt r = .requal → 1024 ≤ (x.reqOf r).toNat → ∃ t, exec (.referenceRequalified p r) s = .next t ∧
      SamePlant { s with pacers := t.pacers } t ∧ (t.getPacer p.val).refSt r = .qualified ∧ (t.getPacer p.val).cur = x.cur) ∧
    (s.fire = true → x.st = .dead → x.drlim ≠ 0 → ∃ t, exec (.drlim p) s = .next t ∧ (t.getPacer p.val).st = .none ∧
      (t.getPacer p.val).cur = .none ∧ (t.getPacer p.val).schedule = false ∧ bit (t.getPacer p.val).evt 3 = true ∧
      t.time = (s.at_ (x.drFrom + x.drlim.toNat * msTicks)).time ∧ t.cells = s.cells)

/-- PACER-LINE-BOUNDARY and PACER-MARK take the next boundary or mark and the reference due there, and FILL-TIMER takes the fills of the bound
lanes. R42, R301, R303, R309, R310. -/
def Obligations.PacersTakeTheirBoundaries : Prop :=
  ∀ (p : Oct) (s : State), s.on dCHN = true →
    let x := s.getPacer p.val
    (s.fire = true → x.predicts = true → ∃ t, exec (.pacerLineBoundary p) s = .next t ∧ (t.getPacer p.val).lineN = x.lineN + 1 ∧
      t.time = (s.at_ (x.tickAt (x.bpos (x.lineN + 1))).toNat).time ∧ (t.getPacer p.val).lineT = t.now ∧
      (x.force = true → x.switchDue = false → x.cur = .secondary → x.priSt = .qualified →
        (t.getPacer p.val).cur = .primary ∧ (t.getPacer p.val).force = false ∧ (t.getPacer p.val).switches = satInc x.switches)) ∧
    (x.predicts = false → exec (.pacerLineBoundary p) s = .next s) ∧
    (s.fire = true → ∃ t, exec (.pacerMark p) s = .next t ∧ (t.getPacer p.val).lineT = x.lineT + msTicks ∧
      t.time = (s.at_ (x.lineT + msTicks)).time ∧ (t.getPacer p.val).lineN = x.lineN ∧
      (x.switchDue = true → x.drEn = true → (x.cur ≠ .primary ∨ x.secEn = false ∨ x.secSt ≠ .qualified) →
        (t.getPacer p.val).cur = .dead ∧ (t.getPacer p.val).st = .dead)) ∧
    (x.st ≠ .track → x.st ≠ .dead → ∃ t, exec (.fillTimer p) s = .next t ∧ t.cells = s.cells ∧ t.links = s.links ∧
      ∀ l ∈ s.boundLanes p.val, (t.getLane l).fill = BitVec.ofNat 16 (s.laneFill l) ∧
        (t.getLane l).derate = decide (s.laneFill l < ((s.getLane l).copy.map (fun c => c.lwm)).getD 0)) ∧
    (x.st = .track ∨ x.st = .dead → exec (.fillTimer p) s = .next s)

/-- TRIGGER-EDGE latches time and position unless HOLDOFF runs, and PRODUCT-RECORD gives the records of the oldest decided window. R283, R297,
R298. -/
def Obligations.TriggersLatchAndRecordsFollow : Prop :=
  ∀ (s : State), s.on dCHN = true →
    (∀ (i : LaneIx) (fall : Bool) (t : Tick), s.fire = true →
      let g := s.getTrig i.val
      let pos := ((s.getEnc g.encSel.toNat).pos).setWidth 32
      (g.en = true → g.until_ ≤ t → ∃ u, exec (.triggerEdge i fall t) s = .next u ∧ (u.getTrig i.val).level = !fall ∧
        (u.getTrig i.val).count = g.count + 1 ∧ (u.getTrig i.val).until_ = t + g.holdoff.toNat * usTicks ∧
        (fall = false → (u.getTrig i.val).rValid = true ∧ (u.getTrig i.val).rTime = BitVec.ofNat 64 t ∧ (u.getTrig i.val).rPos = pos ∧
          (u.getTrig i.val).rOvr = (g.rOvr || g.rValid) ∧ (u.getTrig i.val).fTime = g.fTime) ∧
        (fall = true → (u.getTrig i.val).fValid = true ∧ (u.getTrig i.val).fTime = BitVec.ofNat 64 t ∧ (u.getTrig i.val).fPos = pos ∧
          (u.getTrig i.val).fOvr = (g.fOvr || g.fValid) ∧ (u.getTrig i.val).rTime = g.rTime)) ∧
      (g.en = false ∨ t < g.until_ → exec (.triggerEdge i fall t) s = .next ((s.at_ t).updTrig i.val (fun g => { g with level := !fall })))) ∧
    (∀ (p : Oct) w, (s.getPacer p.val).windows.find? (s.windowDone p.val) = some w → w.lanes.Nodup →
      ∃ u, exec (.productRecord p) s = .next u ∧
        ((s.getPacer p.val).closed w = true → ∀ y ∈ (u.getPacer p.val).windows, y.id ≠ w.id) ∧
        ((s.getPacer p.val).closed w = false → ∀ y ∈ (u.getPacer p.val).windows, y.id = w.id →
          y = { (s.getPacer p.val).settled w with recorded := true }) ∧
        bit (u.getPacer p.val).evt 0 = true ∧ (u.getPacer p.val).lastPc = ((s.getPacer p.val).settled w).pc ∧ u.cells = s.cells ∧ u.links = s.links ∧
        ∀ l ∈ w.lanes, (u.getHost l).prSeq = (s.getHost l).prSeq + 1 ∧
          ((s.getHost l).prEn = false → (u.getHost l).prLost = satInc (s.getHost l).prLost ∧ (u.getHost l).prTail = (s.getHost l).prTail) ∧
          ((s.getHost l).prEn = true → (u.getHost l).prTail.toNat = ((s.getHost l).prTail.toNat + 1) % 2 ^ (s.getHost l).prLog.toNat % 65536 ∧
            (u.getHost l).prLost = (s.getHost l).prLost))

/-- LATCH-LOAD goes out for the next line of a link, LL-ACK acknowledges it, and a failure sends it once more. R316, R343, R346, R347, R348. -/
def Obligations.LatchLoadsAreSentAndAcknowledged : Prop :=
  ∀ (l : LinkIx) (s : State), s.fire = true → s.cellOn (l.val / 2) = true → (s.getLink l.val).st = .up →
    let k := s.getLink l.val
    let again := fun (b : Strobe) (t : State) => (t.getLink l.val).retry = satInc k.retry ∧
      (∃ y ∈ (t.getLink l.val).strobes, y.n = b.n ∧ y.resent = true) ∧
      t.out = .head l.val (latchFrame b.n ((s.codes l.val b).map (fun e => (e.1, e.2.2)))) :: s.out
    (∀ b, k.strobes.find? (fun b => !b.sent && !b.dark) = some b → (∀ d, k.decided = some d → b.n - 2 ≤ d) → s.loadable l.val b = true →
      ∃ t, exec (.latchLoad l) s = .next t ∧ SamePlant { s with links := t.links, time := t.time } t ∧
        ∃ y ∈ (t.getLink l.val).strobes, y.n = b.n ∧ y.sent = true ∧ y.acked = false ∧
          t.out = .head l.val (latchFrame b.n ((t.codes l.val y).map (fun e => (e.1, e.2.2)))) :: s.out) ∧
    (∀ (rx : RxFrame) b, let frame := rx.bytes
      rx.codeOk = true → frame.length = 6 → frame[0]? = some 0x22 → frameOk frame = true →
      k.strobes.find? (fun b => b.sent && !b.acked && decide ((b.n % 65536).toNat = ofLe ((frame.drop 1).take 2))) = some b →
      (frame[3]? = some 0x00 → ∃ t, exec (.llAck l rx) s = .next t ∧ SamePlant { s with links := t.links } t ∧ t.out = s.out ∧
        ∃ y ∈ (t.getLink l.val).strobes, y.n = b.n ∧ y.acked = true) ∧
      (frame[3]? = some 0x01 → b.resent = false → ∃ t, exec (.llAck l rx) s = .next t ∧
        SamePlant { s with links := t.links } t ∧ again b t) ∧
      (frame[3]? = some 0x01 → b.resent = true → exec (.llAck l rx) s = .next s)) ∧
    (∀ rx : RxFrame, ¬ (rx.codeOk = true ∧ rx.bytes.length = 6 ∧ rx.bytes[0]? = some 0x22 ∧ frameOk rx.bytes = true) → ∃ t, exec (.llAck l rx) s = .next t ∧
      t.getLink l.val = { k with crc := satInc k.crc } ∧ t.cells = s.cells ∧ bit (t.getSrc 7).outCls 0 = true) ∧
    (∀ b, k.strobes.find? (fun b => b.sent && !b.acked && !b.resent) = some b → ∃ t, exec (.llAckTimeout l) s = .next t ∧
      SamePlant { s with links := t.links, time := t.time } t ∧ again b t ∧
      t.time = (s.at_ (b.sentAt + latchTicks + 2 * k.oneway.toNat + 200)).time) ∧
    (k.strobes.find? (fun b => b.sent && !b.acked && !b.resent) = none → exec (.llAckTimeout l) s = .next s)

/-- STROBE-COMMIT, STROBE-RELEASE and STROBE-DROP decide the first undecided line of a link: on time, late within LATEMAX, or not at all.
R319, R320, R321, R322, R326, R345, R350, R457. -/
def Obligations.StrobesAreDecided : Prop :=
  ∀ (l : LinkIx) (s : State) (b : Strobe) (bs : List Strobe), (s.getLink l.val).strobes = b :: bs → s.decides l.val = true →
    b.test = none → b.purge = false →
    (∀ d, (s.getLink (2 * (l.val / 2) + (1 - l.val % 2))).decided = some d → d < b.n) →
    let c := l.val / 2
    let lane := s.getLane (s.laneOf c)
    let due := s.at_ b.tc.toNat
    let fired := fun (r : Int) (t : State) => (t.getLink l.val).decided = some b.n ∧ (t.getLink l.val).rPrev = some r ∧
      (b.dark = false → ∀ i < b.k, Out.head l.val (strobeFrame b.n i b.k b.wset
        (subTick r b.k b.sp i).toNat) ∈ t.out) ∧
      (t.getCell c).schLate = (if b.ts1 < r then satInc (s.getCell c).schLate else (s.getCell c).schLate)
    let dropped := fun (t : State) => (t.getLink l.val).decided = some b.n ∧ (t.getLink l.val).rPrev = (s.getLink l.val).rPrev ∧
      (t.getCell c).schDrop = if b.quiet then (s.getCell c).schDrop else satInc (s.getCell c).schDrop
    let kept := fun (x : State) (b : Strobe) => b.dark = true ∨ b.sent = false ∨ x.moreCuts l.val b = []
    let resent := fun (t : State) => (t.getLink l.val).decided = (s.getLink l.val).decided ∧ t.cells = s.cells ∧
      ∃ y ∈ (t.getLink l.val).strobes, y.n = b.n ∧ y.st = .release ∧ y.ok = none ∧ y.acked = false ∧ y.sent = true
    let release := fun (t0 : Nat) => max b.ts1 (max ((t0 : Int) + leadTicks) (s.spacedFrom l.val))
    (b.st = .computed ∨ b.st = .waiting → lane.hold = true → ∃ t, exec (.strobeCommit l) s = .next t ∧ dropped t) ∧
    (b.st = .computed ∨ b.st = .waiting → lane.hold = false → (s.now : Int) ≤ b.tc → due.canCommit l.val b = true → (b.from_ : Int) ≤ b.tc →
      s.spacedFrom l.val ≤ b.ts1 → (kept due b → ∃ t, exec (.strobeCommit l) s = .next t ∧ fired b.ts1 t) ∧
        (¬ kept due b → ∃ t, exec (.strobeCommit l) s = .next t ∧ resent t)) ∧
    (b.st = .computed ∨ b.st = .waiting → lane.hold = false → b.dark = true → (s.getCell c).bare = false →
      ∃ t, exec (.strobeCommit l) s = .next t ∧ fired b.ts1 t) ∧
    (b.st = .computed ∨ b.st = .waiting → lane.hold = false → (b.dark = false ∨ (s.getCell c).bare = true) → b.tc < (s.now : Int) → ∃ t, exec (.strobeCommit l) s = .next t ∧
      SamePlant { s with links := t.links } t ∧ t.out = s.out ∧ (t.getLink l.val).decided = (s.getLink l.val).decided ∧
      ∃ y ∈ (t.getLink l.val).strobes, y.n = b.n ∧ y.st = .release) ∧
    (∀ t0, b.st = .release → b.ok = some t0 → (∀ m, s.lateLimit l.val = some m → release t0 - b.ts1 ≤ m) →
      (kept (s.at_ (release t0 - leadTicks).toNat) { b with ts1 := release t0 } → ∃ t, exec (.strobeRelease l) s = .next t ∧
        fired (release t0) t) ∧
      (¬ kept (s.at_ (release t0 - leadTicks).toNat) { b with ts1 := release t0 } → ∃ t, exec (.strobeRelease l) s = .next t ∧ resent t)) ∧
    (∀ m, b.st ≠ .computed → s.lateLimit l.val = some m → b.ok = none → s.canCommit l.val b = false →
      ∃ t, exec (.strobeDrop l) s = .next t ∧ dropped t) ∧
    (∀ m t0, b.st ≠ .computed → s.lateLimit l.val = some m → b.ok = some t0 → m < release t0 - b.ts1 →
      ∃ t, exec (.strobeDrop l) s = .next t ∧ dropped t)

/-- TEST-LINE places a purge line on both links of a CONFIGURED cell, or a test nozzle on the link that has one to test. R380, R381, R382. -/
def Obligations.TestLinesArePlaced : Prop :=
  ∀ (c : CellIx) (s : State), c.val < 256 → s.fire = true → s.cellOn c.val = true →
    let lane := s.getLane (s.laneOf c.val)
    let n := (s.getCell c.val).specN
    lane.st = .configured → lane.spacing ≠ 0 →
    (s.purgeDue c.val = true → ∃ t, exec (.testLine c) s = .next t ∧ SamePlant { s with links := t.links, cells := t.cells, time := t.time } t ∧
      t.getCell c.val = { s.getCell c.val with specN := n + 1 } ∧
      ∀ l ∈ linksOf c.val, ∃ b, (t.getLink l).strobes = (s.getLink l).strobes ++ [b] ∧ b.n = n ∧ b.purge = true ∧ b.st = .computed ∧
        ((∀ k ∈ linksOf c.val, (∀ z ∈ (s.getLink k).strobes, z.ts1 + lane.spacing < 2 ^ 64) ∧
            ∀ r, (s.getLink k).rPrev = some r → r + lane.spacing < 2 ^ 64) →
          ∀ y, (s.getLink l).strobes.getLast? = some y → y.ts1 + lane.spacing ≤ (t.now : Int) + leadTicks)) ∧
    (∀ l x, l ∈ linksOf c.val → s.purgeDue c.val = false → (∀ k ∈ linksOf c.val, (s.getLink k).strobes = [] ∧ (s.getLink k).rPrev = none) →
      s.testFor l n ((s.now : Int) + leadTicks) = some x → ∃ t, exec (.testLine c) s = .next t ∧ t.time = s.time ∧
        t.getCell c.val = { s.getCell c.val with specN := n + 1 } ∧
        ∃ b, (t.getLink l).strobes = [b] ∧ b.n = n ∧ b.test = some x ∧ b.purge = false ∧ b.st = .computed)

/-- LINK-TRAINING, LONG-RETRY, HEAD-LINK-DOWN, STATUS, HL-TIME-SYNC, CONFIG-RESEND and GOVERNOR-RELEASE move a head link. R343, R345, R354,
R355, R356, R357, R361, R370, R397. -/
def Obligations.HeadLinksTrainAndReport : Prop :=
  ∀ (l : LinkIx) (s : State), s.fire = true →
    let k := s.getLink l.val
    (∀ tr : HeadTrain, s.on (s.workQuad (l.val / 2)) = true → k.en = true → k.held = false → k.st ≠ .up → k.st ≠ .long →
      let sum := tr.rts.sum
      let one := (roundDiv sum 32).toNat
      let close := tr.rts.length = 16 ∧ ∀ r ∈ tr.rts, ((16 * r : Nat) : Int) - sum ≤ 32 ∧ (sum : Int) - (16 * r : Nat) ≤ 32
      ((eyeOf tr.eye).1 < 8 → ∃ t, exec (.linkTraining l tr) s = .next t ∧ SamePlant { s with links := t.links } t ∧ (t.getLink l.val).st = .down) ∧
      (8 ≤ (eyeOf tr.eye).1 → tr.aligned = true → close → 240 < one → ∃ t, exec (.linkTraining l tr) s = .next t ∧
        (t.getLink l.val).st = .long ∧ (t.getLink l.val).trains = k.trains) ∧
      (8 ≤ (eyeOf tr.eye).1 → tr.aligned = true → close → one ≤ 240 → tr.loaded = true → statusOk tr.ident = true → statusOk tr.sync = true →
          (syncDiffOf tr.sync).natAbs ≤ 1 → bit (BitVec.ofNat 5 (byteAt tr.sync.bytes 4)) 1 = false → bit (BitVec.ofNat 5 (byteAt tr.sync.bytes 4)) 2 = false → ∃ t, exec (.linkTraining l tr) s = .next t ∧ (t.getLink l.val).st = .up ∧ (t.getLink l.val).trains = satInc k.trains ∧
          (t.getLink l.val).conceal = false ∧ (t.getLink l.val).hid = BitVec.ofNat 64 (numAt tr.sync.bytes 7 8) ∧ (t.getLink l.val).temp = signed 16 (numAt tr.sync.bytes 2 2) ∧ (t.getLink l.val).oneway.toNat = one ∧
          (k.trims = [] → k.seen = false → (t.getLink l.val).trims = []) ∧ t.time = s.time)) ∧
    (s.on (s.workQuad (l.val / 2)) = true → k.st = .long → exec (.longRetry l) s = .next ((s.at_ (k.syncAt + 100 * msTicks)).updLink l.val
      (fun k => { k with st := .detect }))) ∧
    (k.st = .up → s.on (s.workQuad (l.val / 2)) = true → exec (.headLinkDown l .power) s = .next s) ∧
    (∀ cause, k.st = .up → (cause ≠ .power ∨ s.on (s.workQuad (l.val / 2)) = false) → ∃ t, exec (.headLinkDown l cause) s = .next t ∧ (t.getLink l.val).st = .down ∧ (t.getLink l.val).conceal = true ∧
      (t.getLink l.val).downs = satInc k.downs ∧ (t.getLink l.val).drive = false ∧ t.lanes = s.lanes) ∧
    (s.cellOn (l.val / 2) = true → k.st = .up → ∀ rx : RxFrame,
      let frame := rx.bytes
      let hflt : BitVec 5 := BitVec.ofNat 5 (byteAt frame 4)
      (statusOk rx = true → s.injHits 7 l.val = false → bit hflt 1 = false → bit hflt 2 = false → ∃ t, exec (.status l rx) s = .next t ∧ (t.getLink l.val).st = .up ∧
          (t.getLink l.val).cfgSeq = BitVec.ofNat 8 (byteAt frame 1) ∧ (t.getLink l.val).temp = signed 16 (numAt frame 2 2) ∧
          (t.getLink l.val).hflt = hflt ∧ (t.getLink l.val).stale = false ∧ (t.getLink l.val).stsAt = s.now ∧
          (t.getLink l.val).hid = BitVec.ofNat 64 (numAt frame 7 8) ∧
          (byteAt frame 6 ≠ 0 → (t.getLink l.val).lost = satAdd k.lost (byteAt frame 6)) ∧ (byteAt frame 6 = 0 → (t.getLink l.val).lost = k.lost) ∧
          (t.getLink l.val).syncErr = (if (syncDiffOf rx).natAbs ≤ 1 ∨ k.synced = false then k.syncErr else satInc k.syncErr)) ∧
      (statusOk rx = false → ∃ t, exec (.status l rx) s = .next t ∧
        t.getLink l.val = { k with crc := satInc k.crc })) ∧
    (s.cellOn (l.val / 2) = true → k.st = .up → ∃ t, exec (.hlTimeSync l) s = .next t ∧ t.time = (s.at_ (k.syncAt + msTicks)).time ∧
      (t.getLink l.val).syncAt = t.now ∧ Out.head l.val (timeFrame (t.now + k.oneway.toNat)) ∈ t.out) ∧
    (s.cellOn (l.val / 2) = true → k.st = .up → k.unacked ≠ [] → ∃ t, exec (.configResend l) s = .next t ∧
      t.time = (s.at_ (k.cfgAt + 240000)).time ∧ t.out = (k.unacked.map (Out.head l.val)).reverse ++ s.out ∧
      t.getLink l.val = { k with cfgAt := t.now } ∧ SamePlant { s with links := t.links, time := t.time } t) ∧
    (s.cellOn (l.val / 2) = true → k.derate = true → ∃ t, exec (.governorRelease l) s = .next t ∧ (t.getLink l.val).derate = false ∧
      (t.getLink l.val).single = false ∧ (t.getLink l.val).fgov = 0xFFFFFFFF ∧ t.lanes = s.lanes ∧
      t.time = (s.at_ (k.calmFrom + (s.getCell (l.val / 2)).govRel.toNat * 10 * msTicks)).time)

/-- PORT-TRAINING, PORT-DOWN, HELLO-SEND, HELLO, PRL-FRAME and FW-BLOCK move the ports and the relay. R432, R433, R435, R436, R437, R439,
R441, R442, R459, R462. -/
def Obligations.ChainPortsRelay : Prop :=
  ∀ (x : PortIx) (s : State), s.fire = true →
    let p := s.getPort x.val
    let identity := fun (h : Hello) (kept : Bool) (t : State) =>
      (t.getPort x.val).st = (if kept then .train else if wiringOk x.val h.port then .up else .miswired) ∧
      (t.getPort x.val).nid = h.id ∧ (t.getPort x.val).nlevel = h.level ∧
      (x.val = pW → t.chn.spur = (wiringOk x.val h.port && !(h.role && decide (h.port.val = pE))))
    (∀ tr : PortTrain, p.st ≠ .up →
      let even := fun (rts : List Nat) => rts.length = 16 ∧ ∀ r ∈ rts, ((16 * r : Nat) : Int) - rts.sum ≤ 32 ∧ (rts.sum : Int) - (16 * r : Nat) ≤ 32
      let pass := fun (n : Nat) => ∀ i < n, ∃ v, tr.lanes[i]? = some (some v) ∧ ∀ j < n, ∀ w, tr.lanes[j]? = some (some w) → v ≤ w + 96
      let width : BitVec 2 := widthOf tr.lanes
      (pass 4 → width = 3) ∧ (pass 2 → ¬ pass 4 → width = 2) ∧ (pass 1 → ¬ pass 2 → width = 1) ∧ (¬ pass 1 → width = 0) ∧
      (width ≠ 0 → even (tr.rts.take 16) → ∃ t, exec (.portTraining x tr) s = .next t ∧ identity tr.hello false t ∧ (t.getPort x.val).width = width ∧
        (t.getPort x.val).oneway = BitVec.ofNat 32 (roundDiv (tr.rts.take 16).sum 32).toNat) ∧
      (width ≠ 0 → tr.rts.length ≤ 16 → ¬ even tr.rts → ∃ t, exec (.portTraining x tr) s = .next t ∧ identity tr.hello true t ∧
        (t.getPort x.val).width = width ∧ (t.getPort x.val).oneway = p.oneway) ∧
      (width = 0 → ∃ t, exec (.portTraining x tr) s = .next t ∧ (t.getPort x.val).st = .down ∧ (t.getPort x.val).width = 0)) ∧
    (p.st ≠ .down → ∃ t, exec (.portDown x) s = .next t ∧ (t.getPort x.val).st = .down ∧ (t.getPort x.val).width = 0 ∧
      (s.on dHOST = true → bit t.evt.stat (308 + x.val) = true) ∧
      (s.on dCHN = true → s.chn.st = .member → s.chn.spur = false → x.val = pE ∨ x.val = pW →
        (s.chn.baton = true → t.chn.closed = false) ∧
        (s.chn.baton = false → ∃ ports, ∃ f : PrlFrame, Out.prl ports f.bytes ∈ t.out ∧ f.says (.alert (if x.val = pE then 0 else 1)) = true))) ∧
    (p.st ≠ .down → exec (.helloSend x) s = .next (s.sendOn [x.val] (.hello (s.helloOn x.val)))) ∧
    (∀ h : Hello, p.st ≠ .down → s.injHits 15 x.val = false → (∃ t, exec (.hello x h true) s = .next t ∧ identity h (decide (p.st = .train)) t) ∧
      ∃ t, exec (.hello x h false) s = .next t ∧ (t.getPort x.val).err = satInc p.err ∧ (t.getPort x.val).st = p.st) ∧
    (∀ frame ok, p.st = .up →
      let fr := prlFrom frame
      (ok = false ∨ prlOk frame = false → ∃ t, exec (.prlFrame x frame ok) s = .next t ∧ (t.getPort x.val).err = satInc p.err ∧ (t.getPort x.val).fwd = p.fwd) ∧
      (ok = true → prlOk frame = true → 3 ≤ fr.type.toNat → fr.type.toNat ≤ 0x11 → (s.chn.spur = true ∨ fr.inj ≠ s.chn.addr ∨ (x.val ≠ pE ∧ x.val ≠ pW)) →
        (s.chn.heard.contains (fr.src, fr.seq) = true → exec (.prlFrame x frame ok) s = .next s) ∧
        (s.chn.heard.contains (fr.src, fr.seq) = false →
          (s.forUs fr.dst = true → exec (.prlFrame x frame ok) s =
            .next ((s.updChn (fun c => { c with heard := ((fr.src, fr.seq) :: c.heard).take 64 })).deliver x.val fr)) ∧
          (s.forUs fr.dst = false → fr.dst ≠ 0xFFFF → 2 ≤ fr.hops.toNat → s.forwardPorts x.val ≠ [] → ∃ t, ∃ f : PrlFrame, exec (.prlFrame x frame ok) s = .next t ∧
            t.out = .prl (s.forwardPorts x.val) f.bytes :: s.out ∧ f.hops = fr.hops - 1 ∧ f.type = fr.type ∧ f.src = fr.src ∧
            f.seq = fr.seq ∧ (fr.type ≠ 0x03 → f.data = fr.data) ∧ (t.getPort x.val).fwd = p.fwd + 1)))) ∧
    (∀ y n data, s.thn.fetch = some (y, n) → exec (.fwBlock n data) s = .next { s with thn := { s.thn with fetch := some (y, n + data.length) } } ∧
      ∀ off, off ≠ n → exec (.fwBlock off data) s = .next s)

/-- PRL-TIME-SYNC follows the holder's time, its loss leads to a claim and the baton, and an epoch boundary applies what is due. R443, R444,
R450, R452, R454, R456. -/
def Obligations.ChainTimeIsFollowed : Prop :=
  ∀ (s : State), s.fire = true → s.on dCHN = true →
    (∀ (x : PortIx) src time corr arrival, s.holder = false → s.chn.st = .member ∨ s.chn.st = .relayOnly →
      let u := s.at_ arrival
      let fine : Int := 256 * ((arrival : Int) - time.toNat - (s.getPort x.val).oneway.toNat) - corr.toNat
      let off := roundDiv fine 256
      ∃ t, exec (.prlTimeSync x src time corr arrival) s = .next t ∧ t.chn.offset = ofInt 24 (satInt 23 off) ∧ t.chn.claimFrom = none ∧
        t.chn.syncPort = s.discPort x.val ∧ t.lanes = s.lanes ∧
        (s.chn.loadNext = true → t.time = u.time - BitVec.ofInt 64 off ∧ t.chn.loadNext = false ∧ t.chn.load = none) ∧
        (s.chn.loadNext = false → t.time = u.time ∧ (fine.natAbs ≤ 256 → t.chn.load = none) ∧
          (256 < fine.natAbs → t.chn.load = some (ofInt 64 off) ∧ t.chn.held = s.anyPrint))) ∧
    (s.chn.st = .member → s.chn.baton = false → s.chn.claimFrom = none → ∃ t, exec .timeSyncLoss s = .next t ∧
      t.time = (s.at_ (s.chn.syncAt + 5 * msTicks)).time ∧ t.chn.claimFrom = some t.now ∧ t.chn.baton = false ∧
      ∃ ports, ∃ f : PrlFrame, Out.prl ports f.bytes ∈ t.out ∧ f.says (.claim s.unitId) = true) ∧
    (∀ id : W64, (id.toNat < s.unitId.toNat → exec (.claim id) s = .next (s.updChn (fun c => { c with claimFrom := none, syncAt := s.now }))) ∧
      (s.unitId.toNat ≤ id.toNat → exec (.claim id) s = .next s)) ∧
    (∀ t0, s.chn.claimFrom = some t0 → ∃ t, exec .claimTimer s = .next t ∧ t.time = (s.at_ (s.chn.claimAt + msTicks)).time ∧
      (t0 + 3 * msTicks ≤ t.now → t.chn.baton = true ∧ t.chn.batonId = s.unitId ∧ t.chn.claimFrom = none) ∧
      (t.now < t0 + 3 * msTicks → t.chn.baton = s.chn.baton ∧ t.chn.claimAt = t.now ∧ ∃ ports, ∃ f : PrlFrame, Out.prl ports f.bytes ∈ t.out ∧ f.says (.claim s.unitId) = true)) ∧
    (∀ E : EpochIx,
      let ep := E.toNat
      let u := s.at_ (ep * 65536)
      (∀ off, s.changes = [] → s.holder = false → s.chn.move = none → s.chn.load = some off → ∃ t, exec (.epochBoundary E) s = .next t ∧
        (s.anyPrint = false → t.time = u.time - off ∧ t.chn.load = none ∧ t.chn.steps = satInc s.chn.steps) ∧
        (s.anyPrint = true → t.time = u.time ∧ t.chn.load = some off ∧ t.chn.held = true)) ∧
      (∀ e, s.changes = [] → s.holder = false → s.chn.move = none → s.chn.load = none →
        s.chn.epochs.find? (fun e => decide (e.1 = ep) && e.2.2) = some e → e.2.1 ≠ 0 → ∃ t, exec (.epochBoundary E) s = .next t ∧
        t.chn.ol = e.2.1 ∧ t.time = u.time ∧ ∀ y ∈ t.chn.epochs, ep < y.1) ∧
      (∀ ch, s.changes = [ch] → ch.ep = ep → ch.prepared = true → ch.committed = false → s.holder = false → s.chn.move = none → s.chn.load = none →
        ∃ t, exec (.epochBoundary E) s = .next t ∧ t.changes = [] ∧ t.chn.missed = satInc s.chn.missed ∧
          ((s.getLane ch.lane).st = .print → (t.getLane ch.lane).hold = true)) ∧
      (s.changes = [] → s.chn.st = .member → s.chn.baton = true → s.chn.preps = [] → s.chn.regs = [] → s.chn.asks = [] → s.chn.joins = [] →
        s.chn.move = none → s.chn.load = none → ∃ t, exec (.epochBoundary E) s = .next t ∧ t.time = u.time ∧
          ∃ ports, ∃ f : PrlFrame, Out.prl ports f.bytes ∈ t.out ∧ f.says (.timeSync u.time) = true))

/-- PROBE-SEND, PROBE, PROBE-REPLY, JOIN, JOIN-REPLY, JOIN-TIMEOUT, BATON-REQ, BATON-MOVE and ALERT keep the chain's members and its baton.
R434, R447, R448, R449, R451, R459, R460. -/
def Obligations.MembersJoinAndHand : Prop :=
  ∀ (s : State), s.fire = true → s.on dCHN = true →
    let sent := fun (m : PrlMsg) (t : State) => ∃ ports, ∃ f : PrlFrame, Out.prl ports f.bytes ∈ t.out ∧ f.says m = true
    (s.chn.st = .member → s.chn.baton = true →
      (∃ t b, exec .probeSend s = .next t ∧ t.time = (s.at_ (s.chn.probeAt + msTicks)).time ∧ t.chn.probeAt = t.now ∧ sent (.probe b) t ∧
        t.chn.known = (s.chn.known.filter (fun m => decide (m.misses < 3))).map (fun m => { m with misses := m.misses + 1 }) ∧
        t.chn.closed = (s.chn.closed && s.chn.probeBack)) ∧
      (∀ src b arrival, ∃ t, exec (.probeReply src b arrival) s = .next t ∧ ∃ m ∈ t.chn.known, m.addr = src ∧ m.id = b.id ∧
        m.level = b.level ∧ m.misses = 0 ∧ m.missed = b.missed ∧ m.oneway = ((b.arrival.toNat : Int) - s.departure b.arrival.toNat).toNat) ∧
      (∀ id (req : BitVec 16) (level : Byte),
        let used := s.chn.addr :: (s.chn.known.filter (fun m => decide (m.id ≠ id))).map (·.addr)
        (s.chn.preps ≠ [] → exec (.join id req level) s = .next (s.updChn (fun c => { c with joins := c.joins ++ [(id, req.toNat, level)] }))) ∧
        (s.chn.preps = [] → spanOk s.minLevel s.maxLevel level.toNat = false → ∃ t, exec (.join id req level) s = .next t ∧
          sent (.joinReply id 0) t ∧ t.chn.known = s.chn.known) ∧
        (s.chn.preps = [] → spanOk s.minLevel s.maxLevel level.toNat = true → req ≠ 0 → req ≠ 0xFFFF → req ∉ used →
          ∃ t, exec (.join id req level) s = .next t ∧ sent (.joinReply id req) t ∧ ∃ m ∈ t.chn.known, m.addr = req ∧ m.id = id ∧ m.level = level) ∧
        (∀ a : BitVec 16, s.chn.preps = [] → spanOk s.minLevel s.maxLevel level.toNat = true → req = 0 → a ≠ 0 → a ∉ used →
          (∀ b : BitVec 16, b ≠ 0 → b.toNat < a.toNat → b ∈ used) → ∃ t, exec (.join id req level) s = .next t ∧ sent (.joinReply id a) t ∧
          ∃ m ∈ t.chn.known, m.addr = a ∧ m.id = id ∧ m.level = level) ∧
        (s.chn.preps = [] → req ≠ 0 → req ∈ used → ∃ t, exec (.join id req level) s = .next t ∧ sent (.joinReply id 0) t ∧ t.chn.known = s.chn.known))) ∧
    (∀ (x : PortIx) src b arrival,
      (s.chn.st = .unjoined → exec (.probe x src b arrival) s = .next (s.at_ arrival)) ∧
      (s.chn.st = .joining → spanOk b.lmin.toNat b.lmax.toNat s.ownLevel = true → ∃ t, exec (.probe x src b arrival) s = .next t ∧
        sent s.joinMsg t ∧ t.chn.st = .joining) ∧
      (s.chn.st = .member → s.chn.baton = false → ∃ t, exec (.probe x src b arrival) s = .next t ∧ t.chn.batonId = b.id ∧
        t.chn.guard = b.guard ∧ t.chn.closed = b.closed ∧ t.chn.leadAct = b.lead ∧ t.chn.ol = b.ol ∧
        (spanOk b.lmin.toNat b.lmax.toNat s.ownLevel = true → (∃ r : ReplyBody, sent (.probeReply r) t ∧ r.id = s.unitId ∧ r.arrival = BitVec.ofNat 64 arrival ∧ r.missed = s.chn.missed) ∧ t.chn.st = .member) ∧
        (spanOk b.lmin.toNat b.lmax.toNat s.ownLevel = false → t.chn.st = .relayOnly ∧ t.chn.rcause = .level)) ∧
      (s.chn.st = .member → s.chn.baton = true → b.id = s.unitId → ∃ t, exec (.probe x src b arrival) s = .next t ∧
        (x.val = pW → t.chn.closed = true) ∧ (x.val ≠ pW → t.chn = s.chn)) ∧
      (s.chn.st = .member → s.chn.baton = true → b.id.toNat < s.unitId.toNat → ∃ t, exec (.probe x src b arrival) s = .next t ∧
        t.chn.move = some (b.id, t.epoch + 1))) ∧
    (∀ addr, s.chn.st = .joining → ∃ t, exec (.joinReply s.unitId addr) s = .next t ∧ t.lanes = s.lanes ∧
      (addr = 0 → t.chn.st = .unjoined ∧ t.chn.baton = true) ∧
      (addr ≠ 0 → t.chn.st = .member ∧ t.chn.addr = addr ∧ t.chn.joined = true ∧ t.chn.baton = false)) ∧
    (s.chn.st = .joining → s.chn.probeBack = false → ∃ t, exec .joinTimeout s = .next t ∧ t.time = (s.at_ (s.chn.probeAt + 5 * msTicks)).time ∧ t.chn.st = .member ∧
      t.chn.baton = true ∧ t.chn.known = [] ∧ t.chn.addr = if s.chn.joinAddr = 0 then 1 else s.chn.joinAddr) ∧
    (∀ src id, s.chainHolder = true → (s.chn.move = none → exec (.batonReq src id) s = .next (s.updChn (fun c => { c with asks := c.asks ++ [(src, id)] }))) ∧
      (s.chn.move ≠ none → ∃ t, exec (.batonReq src id) s = .next t ∧ (∃ ports, Out.roleContended ports src ∈ t.out) ∧ t.chn.asks = s.chn.asks)) ∧
    (∀ id ep, s.chn.st = .member → ∃ t, exec (.batonMove id ep) s = .next t ∧ t.chn.move = some (id, ep.toNat) ∧
      t.lanes = s.lanes) ∧
    (∀ src port, s.chainHolder = true → ∃ t b, exec (.alert src port) s = .next t ∧ t.chn.closed = false ∧ sent (.probe b) t ∧
      ∀ p ∈ s.chn.preps, sent (.prepare p.ep p.level) t)

/-- REGISTER, PREPARE, ACK, COMMIT and CANCEL complete, and carry a change to its epoch. R452, R454, R455, R456, R458. -/
def Obligations.EpochFramesTakeEffect : Prop :=
  ∀ (E : EpochIx) (s : State), s.fire = true → s.on dCHN = true →
    let ep := E.toNat
    let sent := fun (m : PrlMsg) (t : State) => ∃ ports, ∃ f : PrlFrame, Out.prl ports f.bytes ∈ t.out ∧ f.says m = true
    (∀ src kind level, s.chn.baton = true → s.chn.st = .member →
      let fits := level.toNat ≤ (s.chn.known.map (fun m => m.level.toNat)).foldl min s.ownLevel ∧ level.toNat ≤ s.opLevel + 1
      ((∀ p ∈ s.chn.preps, p.ep ≠ ep) → (kind = true → fits) → exec (.register src E kind level) s = .next (s.updChn (fun c => { c with
        regs := c.regs ++ [{ src := src, ep := ep, levelKind := kind, level := level }] }))) ∧
      ((∃ p ∈ s.chn.preps, p.ep = ep) → src ≠ s.chn.addr → ∃ t, exec (.register src E kind level) s = .next t ∧
        sent (.cancel ep .late src) t ∧ t.chn.regs = s.chn.regs) ∧
      ((∀ p ∈ s.chn.preps, p.ep ≠ ep) → kind = true → ¬ fits → src ≠ s.chn.addr → ∃ t, exec (.register src E kind level) s = .next t ∧
        sent (.cancel ep .level src) t ∧ t.chn.regs = s.chn.regs)) ∧
    (∀ level, s.chn.baton = false → s.chn.st = .member → ∃ t, exec (.prepare E level) s = .next t ∧
      sent (.ack ep (s.prepareResult ep)) t ∧ (ep, level, false) ∈ t.chn.epochs ∧
      t.changes = s.changes.map (fun ch => if ch.ep = ep ∧ s.prepareResult ep = .ready then { ch with prepared := true } else ch)) ∧
    (∀ src r p, s.chn.baton = true → s.chn.st = .member → s.chn.preps.find? (fun p => decide (p.ep = ep)) = some p →
      ∃ t, exec (.ack src E r) s = .next t ∧ (∃ p' ∈ t.chn.preps, p'.ep = ep ∧ (src, r) ∈ p'.acks) ∧
      (r ≠ .notReady → (∀ a ∈ s.chn.addr :: s.chn.known.map (·.addr), a = src ∨ ∃ k ∈ p.acks, k.1 = a ∧ k.2 ≠ .notReady) →
        s.now ≤ (ep - s.chn.guard.toNat) * 65536 → p.sent = false → p.dead = false →
        sent (.commit ep) t ∧ ∃ p' ∈ t.chn.preps, p'.ep = ep ∧ p'.sent = true)) ∧
    (s.chn.baton = false → (ep * 65536 ≤ s.now → exec (.commit E) s = .next s) ∧
      (s.now < ep * 65536 → ∃ t, exec (.commit E) s = .next t ∧ t.lanes = s.lanes ∧ t.cells = s.cells ∧
        t.changes = s.changes.map (fun ch => if ch.ep = ep ∧ ch.prepared then { ch with committed := true } else ch) ∧
        t.chn.epochs = s.chn.epochs.map (fun e => if e.1 = ep then (e.1, e.2.1, true) else e))) ∧
    (∀ cause, s.chn.baton = false → ep ≠ 0 → ∃ t, exec (.cancel E cause) s = .next t ∧ (∀ ch ∈ t.changes, ch.ep ≠ ep) ∧
      (∀ e ∈ t.chn.epochs, e.1 ≠ ep) ∧ (∀ c, (s.getCell c).saved = none → (s.getCell c).nozNext = [] → t.getCell c = s.getCell c) ∧
      (ep * 65536 ≤ s.now → ∀ l < 16, (s.getLane l).hold = true → (t.getLane l).unhold = true) ∧
      (s.now < ep * 65536 → t.lanes = s.lanes))

/-- HK-ROUND-START begins a round, and HK-ROUND-END gives every pin and die sensor its reading, whether it is broken, and its level. R466,
R467, R468, R470, R471, R481, R487. -/
def Obligations.HousekeepingRoundsMeasure : Prop :=
  ∀ (s : State), s.alive = true →
    (s.hk.measuring = false → exec .hkRoundStart s = .next { s with hk := { s.hk with measuring := true, fastAct := s.fastRounds } }) ∧
    (s.hk.measuring = true → exec .hkRoundStart s = .next s) ∧
    (∀ m : HkMeas, s.hk.measuring = false → exec (.hkRoundEnd m) s = .next s) ∧
    (∀ m : HkMeas, s.hk.measuring = true → ∃ t, exec (.hkRoundEnd m) s = .next t ∧
      t.time = (s.at_ m.t).time ∧ t.hk.measuring = false ∧ t.hk.rounds = s.hk.rounds + 1 ∧ t.hk.vin = BitVec.ofNat 16 (min 65535 m.vin) ∧
      (∀ n v, n < 128 → (s.getPin n).en = true → m.pins.find? (fun e => decide (e.1 = n)) = some (n, v) →
        let p := s.getPin n
        let temp := if pinBroken p.diode v then brokenTemp else p.reads v
        (t.getPin n).temp = temp ∧ (t.getPin n).broken = pinBroken p.diode v ∧
          (t.getPin n).level = BitVec.ofNat 2 (sensorLevel p.thr p.hyst.toNat p.level.toNat temp)) ∧
      (∀ d ok v, d < 32 → m.die.find? (fun e => decide (e.1 = d)) = some (d, ok, v) →
        let temp := if ok then v else brokenTemp
        (t.getDie d).temp = temp ∧ (t.getDie d).broken = !ok ∧
          (t.getDie d).level = BitVec.ofNat 2 (sensorLevel dieThr s.hk.dhyst.toNat (s.getDie d).level.toNat temp)) ∧
      (∀ r mv, r < 85 → s.flt.pend = false → (r, mv) ∈ m.rails → s.railBad r mv = true → r ∈ s.hk.lastBad →
        bit t.hk.supsts r = true))

/-- GRACE-EXPIRY, RSTEP-EXPIRY, THROTTLE-RELEASE, LADDER-HOLD, DIVIDER-CHANGE-DONE and REGULATOR-READY act on the limits, rungs, clocks and
supplies. R66, R72, R473, R474, R475, R476. -/
def Obligations.HeatLowersTheRate : Prop :=
  ∀ (s : State), s.alive = true →
    (∀ p : Oct, let r := s.getTreq p.val
      r.req = true →
      (∀ c v rest, r.due = (c, v) :: rest → ∃ t, exec (.graceExpiry p) s = .next t ∧ t.getTreq p.val = { r with enf := true, due := rest } ∧
        t.getPacer p.val = { s.getPacer p.val with thr := v.setWidth 32 } ∧ (s.on dHOST = true → bit t.evt.stat 369 = true) ∧
        SamePlant { s with time := (s.at_ (c + s.hk.grace.toNat * msTicks)).time, hk := t.hk, pacers := t.pacers } t) ∧
      (s.throttled p.val = true → ∃ t, exec (.rstepExpiry p) s = .next t ∧
        t.getTreq p.val = { r with target := s.lowered r.target.toNat, asked := t.now, due := r.due ++ [(t.now, s.lowered r.target.toNat)] } ∧ (s.on dHOST = true → bit t.evt.stat 368 = true) ∧
        SamePlant { s with time := (s.at_ (r.asked + s.hk.rstep.toNat * msTicks)).time, hk := t.hk } t) ∧
      (∀ c, s.throttled p.val = false → r.calmFrom = some c → ∃ t, exec (.throttleRelease p) s = .next t ∧
        t.getTreq p.val = { r with req := false, enf := false, due := [], calmFrom := none } ∧ (t.getPacer p.val).thr = 0xFFFFFFFF ∧
        SamePlant { s with time := (s.at_ (c + s.hk.hold.toNat * 10 * msTicks)).time, hk := t.hk, pacers := t.pacers } t)) ∧
    (∀ (k : QuadIx) c, let x := s.getQuad k.val
      x.calib = true → x.rung ≠ 0 → s.quadHot k.val = false → x.coolFrom = some c → ∃ t, exec (.ladderHold k) s = .next t ∧
        (t.getQuad k.val).rung = x.rung - 1 ∧ (t.getQuad k.val).coolFrom = some t.now ∧
        SamePlant { s with time := (s.at_ (c + s.hk.hold.toNat * 10 * msTicks)).time, quads := t.quads } t) ∧
    (∀ k : QuadIx, let x := s.getQuad k.val
      s.fire = true → bit s.glb.pwr k.val = true →
      (∀ g, x.goDiv = some g → (∀ j h, (s.getQuad j).job ≠ .starting h) → ∃ t, exec (.dividerChangeDone k) s = .next t ∧
        SamePlant { s with quads := t.quads } t ∧ (t.getQuad k.val).divAct = g.1 ∧ (t.getQuad k.val).skipAct = g.2)) ∧
    (∀ d : DomainIx, let x := s.getQuad d.val
      d.val < 68 → s.fire = true → s.glb.failing = false → bit s.glb.pwr d.val = true → (∀ h, x.job ≠ .ramping h) → x.vWait = true →
      ∃ t, exec (.regulatorReady d) s = .next t ∧ SamePlant { s with quads := t.quads } t ∧
        (t.getQuad d.val).vact = BitVec.ofNat 5 (s.supplyFor d.val (s.targetOf d.val).1 (s.targetOf d.val).2))

/-- FAULT-REPORT marks its source and starts a record, RECORD-WRITE-DONE stores it, QUIET-EXPIRY recovers the source, ALIVE toggles, and an
injection ends. R488, R490, R491, R493, R496, R497, R502, R504. -/
def Obligations.FaultsAreRecordedAndRecover : Prop :=
  ∀ (s : State), s.alive = true →
    (∀ (src : Fin 32) cls inst detail t, src.val ≤ 18 → cls ∈ classesOf src.val → ∃ u, exec (.faultReport src cls inst detail t) s = .next u ∧
      (u.getSrc src.val).cls = classCode cls ∧ bit (u.getSrc src.val).outCls (classCode cls).toNat = true ∧
      u.time = (s.at_ t).time ∧ (reportStands src.val inst.toNat cls detail.toNat = true → inst.toNat ∈ (u.getSrc src.val).conds) ∧
      (s.on dHOST = true → bit u.evt.stat (336 + (classCode cls).toNat) = true) ∧
      (s.flt.histMin.toNat ≤ (classCode cls).toNat → s.flt.frozen = false → s.flt.writing = none → ∃ r f,
        u.flt.writing = some (s.flt.head.toNat, r, f) ∧ r.source = BitVec.ofNat 8 src.val ∧ r.inst = inst ∧ r.detail = detail ∧ r.seq = s.flt.seq ∧
          r.time = u.time)) ∧
    (∀ i r first, s.flt.writing = some (i, r, first) → s.flt.stopDue = none → ∃ t, exec .recordWriteDone s = .next t ∧
      SamePlant { s with flt := t.flt } t ∧ t.flt.writing = none ∧ tabGet recReset t.flt.hist i = r ∧ t.flt.head = s.flt.head + 1 ∧
      t.flt.seq = s.flt.seq ∧ (s.flt.clearDue = true → t.flt.first = none ∧ t.flt.ovf = 0) ∧
      (s.flt.clearDue = false → t.flt.ovf = s.flt.ovf ∧ t.flt.first = if first then some r else s.flt.first)) ∧
    (∀ src : Fin 32, let x := s.getSrc src.val
      let u := s.at_ (x.quietAt + s.flt.quiet.toNat * msTicks)
      let over_ := x.rlim ≠ 0 ∧ x.rlim.toNat ≤ u.recentRecoveries ((u.now :: x.times).take 15)
      x.outCls ≠ 0 → x.conds = [] → s.flt.writing = none → ∃ t, exec (.quietExpiry src) s = .next t ∧ t.time = u.time ∧
        (t.getSrc src.val).outCls = 0 ∧ (t.getSrc src.val).rcnt = satInc x.rcnt ∧
        (x.inj = true → (t.getSrc src.val).pers = x.pers ∧ (t.getSrc src.val).times = x.times) ∧
        (x.inj = false → over_ → (t.getSrc src.val).pers = true) ∧
        (x.inj = false → x.pers = false → over_ → bit t.flt.cause 1 = true) ∧
        (x.inj = false → ¬ over_ → (t.getSrc src.val).pers = x.pers) ∧ (s.on dHOST = true → bit t.evt.stat 341 = true)) ∧
    (s.outClass 3 = false → s.glb.failing = false → ∃ t, exec .aliveToggle s = .next t ∧ SamePlant { s with flt := t.flt, time := (s.at_ t.flt.aliveAt).time } t ∧
      t.flt.alive = !s.flt.alive ∧ s.now ≤ t.flt.aliveAt ∧ ∃ n, 1 ≤ n ∧ t.flt.aliveAt = s.flt.aliveAt + 600000 * n) ∧
    (s.outClass 3 = true ∨ s.glb.failing = true → exec .aliveToggle s = .next s) ∧
    (∀ t0, s.flt.injUntil = some t0 → ∃ t, exec .injectionEnd s = .next t ∧ t.flt.injUntil = none ∧ 0 ∉ (t.getSrc 10).conds ∧
      t.time = (s.at_ t0).time ∧ t.cells = s.cells)

/-- A watchdog expiry or lockstep mismatch resets the core, the standby takes over, and the reset core stands by again after its reload. R172,
R173, R499. -/
def Obligations.ThinisCoresFailOver : Prop :=
  ∀ (i : CoreIx) (s : State),
    let j := otherCore i.val
    let fails := fun (src : Nat) (t : State) => (t.core i.val).role = .reloading ∧ (t.core i.val).image = none ∧
      bit (t.getSrc src).outCls 1 = true ∧ i.val ∈ (t.getSrc src).conds ∧ t.thn.paused = false ∧ t.time = s.time ∧ (s.changes = [] → t.cells = s.cells) ∧
      ((s.core i.val).role = .standby → t.core j = s.core j) ∧
      ((s.core i.val).role ≠ .standby → (s.core j).role = .standby → t.core j = { s.core j with role := .active }) ∧
      ((s.core i.val).role ≠ .standby → (s.core j).role ≠ .standby → t.core j = s.core j ∧ bit (t.getSrc 18).outCls 1 = true ∧ bit t.flt.cause 4 = true)
    (s.coreLive i.val = true → (∃ t, exec (.watchdogExpiry i) s = .next t ∧ fails 9 t) ∧ (∃ t, exec (.lockstepMismatch i) s = .next t ∧ fails 8 t)) ∧
    (s.coreLive i.val = false → exec (.watchdogExpiry i) s = .next s ∧ exec (.lockstepMismatch i) s = .next s) ∧
    (s.reloading = some i.val → s.on (dTHNA + i.val) = true → ∃ t, exec .standbyReloadDone s = .next t ∧ t.core j = s.core j ∧ t.time = s.time ∧
      ((s.core j).role = .active → (t.core i.val).role = .standby ∧ (t.core i.val).image = (s.core j).image ∧
        i.val ∉ (t.getSrc 8).conds ∧ i.val ∉ (t.getSrc 9).conds) ∧
      ((s.core j).role ≠ .active → (t.core i.val).role = .empty))

/-- LOOP-PERIOD takes what is measured, loads duties, slews the reference of a running channel, leads a start on and counts overruns. R408,
R411, R412, R413, R414, R415, R417, R418, R419, R420, R431. -/
def Obligations.MotorChannelsRunTheirLoop : Prop :=
  ∀ (n : Oct) (y : MotorMeas) (s : State), s.on dMOT = true →
    let m := s.getMotor n.val
    let u := s.updMotor n.val (Motor.measured y)
    let x := Motor.measured y m
    let raw := m.usable (s.motorTarget m)
    let cut := fun (d : BitVec 14) => if m.n.toNat < d.toNat then m.n else d
    let runs := m.loopCnt + 1 = 2 ^ m.loopDiv.toNat
    (x.spd = y.spd ∧ x.dir = decide (y.spd < 0) ∧ x.st = m.st ∧ x.ref = m.ref ∧ x.trqRef = m.trqRef ∧ (x.liveU, x.liveV, x.liveW) = (m.liveU, m.liveV, m.liveW) ∧
      (m.loopCnt < 2 ^ m.loopDiv.toNat → m.profile = true → runs → x.sampA = y.isa.toInt - m.ofsA.toInt ∧ x.sampB = y.isb.toInt - m.ofsB.toInt) ∧
      (m.loopCnt < 2 ^ m.loopDiv.toNat → ¬ runs → x.sampA = m.sampA ∧ x.sampB = m.sampB)) ∧
    (m.st = .off ∨ m.st = .cal ∨ m.st = .braked ∨ m.st = .fault → exec (.loopPeriod n y) s = .next u) ∧
    (m.st = .ready → s.wanted m = 0 → exec (.loopPeriod n y) s = .next u) ∧
    (m.st = .ready → s.wanted m ≠ 0 → ∃ t, exec (.loopPeriod n y) s = .next t ∧ SamePlant { s with motors := t.motors } t ∧
      (t.getMotor n.val).st = .check ∧ (t.getMotor n.val).back = decide (s.wanted m < 0) ∧ (t.getMotor n.val).spd = y.spd) ∧
    (m.st = .direct → m.commit = false → exec (.loopPeriod n y) s = .next (u.driveGates n.val)) ∧
    (m.st = .direct → m.commit = true → exec (.loopPeriod n y) s = .next ((u.updMotor n.val (fun m => { m with
      liveU := cut m.du, liveV := cut m.dv, liveW := cut m.dw, commit := false })).driveGates n.val)) ∧
    (m.st = .run → m.mode ≠ 1 → m.ending = false → y.overrun = false → raw ≠ 0 → 0 ≤ raw * m.ref → -m.slimit ≤ raw → raw ≤ m.slimit →
      (if x.loopCnt = 0 then y.vlim = false ∧ y.clim = false ∧ m.scaled = false else m.vlim = false ∧ m.clim = false) →
      ∃ t, exec (.loopPeriod n y) s = .next t ∧ (t.getMotor n.val).st = .run ∧ (t.getMotor n.val).spd = y.spd ∧
        ((t.getMotor n.val).ref, (t.getMotor n.val).rem) = slewStep m.ref raw m.rem (m.slew.toNat * m.n.toNat) 75000000 ∧
        (t.getMotor n.val).liveU = cut m.du ∧ (t.getMotor n.val).liveV = cut m.dv ∧ (t.getMotor n.val).liveW = cut m.dw ∧
        (t.getMotor n.val).ovrRun = (if x.loopCnt = 0 then 0 else m.ovrRun) ∧ t.pacers = s.pacers) ∧
    (m.st = .run → m.mode = 1 → m.ending = false → y.overrun = false → (m.bound = none ∨ raw ≠ 0) →
      let top : Int := 10 * m.spdMax.toNat
      let cap := if m.bound.isSome then min top ((s.motorTarget m).natAbs : Int) else top
      ∃ t, exec (.loopPeriod n y) s = .next t ∧ (t.getMotor n.val).st = .run ∧ (t.getMotor n.val).spd = y.spd ∧
        ((y.spd.natAbs : Int) < cap → (t.getMotor n.val).slim = false ∧ ((t.getMotor n.val).trqRef, (t.getMotor n.val).rem) =
          slewStep m.trqRef m.trq.toInt m.rem (m.tslew.toNat * 32767 * m.n.toNat) 19200000) ∧
        (cap ≤ (y.spd.natAbs : Int) → (t.getMotor n.val).slim = true ∧ (t.getMotor n.val).trqRef.natAbs ≤ m.trqRef.natAbs)) ∧
    (m.st = .align → s.wanted m ≠ 0 → decide (s.wanted m < 0) = m.back → y.overrun = false → ∃ t, exec (.loopPeriod n y) s = .next t ∧
      SamePlant { s with motors := t.motors } t ∧
      (m.spent + 2 * m.n.toNat < 150000 * m.alignT.toNat → (t.getMotor n.val).st = .align ∧ (t.getMotor n.val).spent = m.spent + 2 * m.n.toNat) ∧
      (150000 * m.alignT.toNat ≤ m.spent + 2 * m.n.toNat → (t.getMotor n.val).st = .ramp ∧ (t.getMotor n.val).ref = 0)) ∧
    (m.st = .ramp → s.wanted m ≠ 0 → decide (s.wanted m < 0) = m.back → y.handoff = false → y.overrun = false → ∃ t, exec (.loopPeriod n y) s = .next t ∧
      SamePlant { s with motors := t.motors } t ∧ (t.getMotor n.val).st = .ramp ∧ ((t.getMotor n.val).ref, (t.getMotor n.val).rem) =
        slewStep m.ref m.handoffRef m.rem (m.handoff.toNat * 10000 * m.n.toNat) (75000000 * m.rampT.toNat)) ∧
    (m.st ∈ [MotorSt.align, .ramp, .run, .braking, .coast] → x.loopCnt = 0 → y.overrun = true → 2 ≤ m.ovrRun → ∃ t, exec (.loopPeriod n y) s = .next t ∧
      (t.getMotor n.val).st = .fault ∧ (t.getMotor n.val).fcause = 2 ∧ (t.getMotor n.val).ovr = satInc m.ovr ∧
      bit (t.getSrc 16).outCls 1 = true ∧ n.val ∈ (t.getSrc 16).conds)

/-- MOTOR-START, START-ATTEMPT-FAIL, START-RETRY-GAP, STOP-COMPLETE, BRAKE-TIMEOUT and MOTOR-CAL-DONE move a channel between its states. R398,
R409, R420, R421, R422, R423, R424. -/
def Obligations.MotorsStartAndStop : Prop :=
  ∀ (n : Oct) (s : State), s.on dMOT = true →
    let m := s.getMotor n.val
    let want := s.wanted m
    (∀ (spd : Int) (handoff : Bool), m.st = .ready ∨ m.st = .check → want ≠ 0 → m.gap = false → ∃ t, exec (.motorStart n spd handoff) s = .next t ∧
      SamePlant { s with motors := t.motors } t ∧ (t.getMotor n.val).spd = spd ∧ (t.getMotor n.val).back = decide (want < 0) ∧
      ((spd.natAbs : Int) < m.zeroF → (t.getMotor n.val).st = .align ∧ (t.getMotor n.val).ref = 0 ∧ (t.getMotor n.val).spent = 0) ∧
      (m.zeroF ≤ spd.natAbs → decide (spd < 0) = decide (want < 0) → m.handoffF ≤ spd.natAbs →
        (t.getMotor n.val).st = .run ∧ (t.getMotor n.val).ref = spd) ∧
      (m.zeroF ≤ spd.natAbs → ¬ (decide (spd < 0) = decide (want < 0) ∧ m.handoffF ≤ spd.natAbs) →
        (t.getMotor n.val).st = (if m.brken then .braking else .coast) ∧ (t.getMotor n.val).starting = true)) ∧
    (∀ spd : Int, m.st = .ramp → want ≠ 0 → decide (want < 0) = m.back → m.gap = false →
      (m.handoffF ≤ 2 * (m.ref.natAbs : Int) → ∃ t, exec (.motorStart n spd true) s = .next t ∧ SamePlant { s with motors := t.motors } t ∧
        (t.getMotor n.val).st = .run ∧ (t.getMotor n.val).ref = if m.back then -m.handoffF else m.handoffF) ∧
      exec (.motorStart n spd false) s = .next s) ∧
    (m.st = .ramp ∨ m.st = .run → (m.tries + 1 ≤ m.retry.toNat → ∃ t, exec (.startAttemptFail n) s = .next t ∧ SamePlant { s with motors := t.motors } t ∧
        (t.getMotor n.val).st = .check ∧ (t.getMotor n.val).gap = true ∧ (t.getMotor n.val).starts = satInc m.starts ∧
        (t.getMotor n.val).tries = m.tries + 1) ∧
      (m.retry.toNat ≤ m.tries → ∃ t, exec (.startAttemptFail n) s = .next t ∧ (t.getMotor n.val).st = .fault ∧ (t.getMotor n.val).fcause = 1 ∧
        (t.getMotor n.val).faults = satInc m.faults ∧ bit (t.getMotor n.val).evt 1 = true)) ∧
    (m.gap = true → exec (.startRetryGap n) s = .next (s.updMotor n.val (fun m => { m with gap := false, spent := 0 }))) ∧
    (m.st = .braking ∨ m.st = .coast → m.atRest = true → ∃ t, exec (.stopComplete n) s = .next t ∧ SamePlant { s with motors := t.motors } t ∧
      (t.getMotor n.val).ref = 0 ∧ (t.getMotor n.val).ending = false ∧
      (m.ending = true → (t.getMotor n.val).st = (if m.brken then .braked else .off) ∧ (t.getMotor n.val).fcause = 0) ∧
      (m.ending = false → m.starting = true → (t.getMotor n.val).st = .align) ∧
      (m.ending = false → m.starting = false → want ≠ 0 → (t.getMotor n.val).st = .check) ∧
      (m.ending = false → m.starting = false → want = 0 → (t.getMotor n.val).st = .ready)) ∧
    (m.st = .braking → m.atRest = false → ∃ t, exec (.brakeTimeout n) s = .next t ∧ (t.getMotor n.val).st = .fault ∧
      (t.getMotor n.val).fcause = 3 ∧ (t.getMotor n.val).brakeHeld = true ∧ bit (t.getSrc 16).outCls 1 = true) ∧
    (∀ a b : CalInput, m.st = .cal → ∃ t, exec (.motorCalDone n a b) s = .next t ∧ SamePlant { s with motors := t.motors } t ∧
      t.getMotor n.val = { m with st := .off, calValid := true, failA := calFails a, failB := calFails b,
                                  ofsA := ofInt 16 (calOffset a), ofsB := ofInt 16 (calOffset b) })

/-- GATE-PULSE, GATE-CAL-END and TEST-WINDOW-CLOSE calibrate a gate, stamp the drop of an open test, and give each test its outcome. R377,
R379, R384, R386, R389, R400. -/
def Obligations.GatesTimeTheirTests : Prop :=
  ∀ (g : LaneIx) (s : State),
    let x := s.getGate g.val
    (∀ rise fall, (Instr.gatePulse g rise fall).wf = true → s.gateOn g.val = true → x.st ≠ .unavailable →
      let w := fall - rise
      let stamp := (rise + fall) / 2
      ∃ t, exec (.gatePulse g rise fall) s = .next t ∧ SamePlant { s with gates := t.gates, time := (s.at_ rise).time } t ∧
        (t.getGate g.val).st = x.st ∧
        (x.st ≠ .cal → (t.getGate g.val).idle = x.idle ∧ (t.getGate g.val).high = x.high ∧ (t.getGate g.val).maxBin = x.maxBin) ∧
        (x.st = .cal → (t.getGate g.val).high = x.high + (min fall (x.calFrom + 32 * msTicks) - rise) ∧
          (fall ≤ x.calFrom + 32 * msTicks → (t.getGate g.val).idle = satInc x.idle ∧
            (t.getGate g.val).maxBin = some (max (x.maxBin.getD 0) (min 63 (w / 6)))) ∧
          (x.calFrom + 32 * msTicks < fall → (t.getGate g.val).idle = x.idle ∧ (t.getGate g.val).maxBin = x.maxBin)) ∧
        (4095 < w → (t.getGate g.val).blk = satInc x.blk ∧ (t.getGate g.val).open_ = x.open_.map (fun t =>
          if t.lo ≤ (rise : Int) ∧ (rise : Int) ≤ t.hi then { t with skip := true } else t)) ∧
        (w ≤ 4095 → x.minw.toNat ≤ w → (t.getGate g.val).open_ = x.open_.map (fun t =>
          if t.cross.isNone ∧ t.lo ≤ (stamp : Int) ∧ (stamp : Int) ≤ t.hi then { t with cross := some stamp } else t)) ∧
        (w ≤ 4095 → w < x.minw.toNat → (t.getGate g.val).open_ = x.open_)) ∧
    (s.fire = true → x.st = .cal → ∃ t, exec (.gateCalEnd g) s = .next t ∧ t.time = (s.at_ (x.calFrom + 32 * msTicks)).time ∧
      (t.getGate g.val).calOk = true ∧ t.links = s.links ∧
      (19200000 < x.high ∨ x.maxBin = some 63 → (t.getGate g.val).st = .blocked ∧ (t.getGate g.val).blocked = true ∧ bit (t.getGate g.val).evt 4 = true) ∧
      (x.high ≤ 19200000 → x.maxBin ≠ some 63 → (t.getGate g.val).blocked = false ∧ bit (t.getGate g.val).evt 3 = true ∧
        (t.getGate g.val).minw = BitVec.ofNat 9 (match x.maxBin with | none => 12 | some b => 6 * (b + 2)) ∧
        (t.getGate g.val).st = if x.spit.isSome ∧ (s.getQuad (s.workQuad (4 * x.owner.toNat))).calib then .test else .idle)) ∧
    (∀ a rest, s.fire = true → x.open_ = a :: rest →
      let c := a.noz / 4096
      let u := s.at_ a.hi.toNat
      let counts := a.skip = false ∧ (s.servoOf c).vt ≠ 0 ∧ x.st = .test ∧ (s.getLink (a.noz / 2048)).st = .up
      (x.spit = none → ∃ t, exec (.testWindowClose g) s = .next t ∧ SamePlant { s with gates := t.gates, time := u.time } t ∧
        t.getGate g.val = { x with open_ := rest, skip := satInc x.skip }) ∧
      (∀ sp, x.spit = some sp → counts → rest ≠ [] → ∃ t, exec (.testWindowClose g) s = .next t ∧ t.time = u.time ∧
        (t.getGate g.val).open_ = rest ∧ (t.getGate g.val).tests = satInc x.tests ∧ (t.getGate g.val).skip = x.skip ∧
        (t.getCell c).tests = satInc (s.getCell c).tests ∧ (t.getGate g.val).hit = a.cross.isSome ∧
        (a.cross = none → (t.getGate g.val).nohit = satInc x.nohit ∧ (t.getCell c).nohits = satInc (s.getCell c).nohits) ∧
        (∀ st, a.cross = some st → (t.getGate g.val).nohit = x.nohit ∧ (t.getCell c).nohits = (s.getCell c).nohits ∧
          (0 ≤ (st : Int) - a.tx - x.gdly.toNat → (st : Int) - a.tx - x.gdly.toNat < 1048576 →
            (t.getGate g.val).tfb = ofInt 20 ((st : Int) - a.tx - x.gdly.toNat)))) ∧
      (∀ sp, x.spit = some sp → a.skip = true → rest ≠ [] → ∃ t, exec (.testWindowClose g) s = .next t ∧
        (t.getGate g.val).skip = satInc x.skip ∧ (t.getGate g.val).tests = x.tests ∧ (t.getGate g.val).open_ = rest ∧ t.cells = s.cells) ∧
      (∀ sp, x.spit = some sp → a.skip = true → rest = [] → sp.todo = [] → sp.left = 1 → ∃ t, exec (.testWindowClose g) s = .next t ∧
        (t.getGate g.val).skip = satInc x.skip ∧ (t.getGate g.val).spit = none ∧ (t.getGate g.val).rounds = x.rounds + 1 ∧
        bit (t.getGate g.val).evt 0 = true ∧ (x.st = .test → (t.getGate g.val).st = if x.blocked then .blocked else if x.calOk then .idle else .uncal)))

/-- TEMP-INTERP interpolates a cell's temperature sets, and TF-STEP moves the flight times of its links by one tick. R390, R391, R394, R395. -/
def Obligations.FlightTimesFollowTemperature : Prop :=
  ∀ (c : CellIx) (s : State), c.val < 256 → s.cellOn c.val = true →
    let x := s.getCell c.val
    (∃ t, exec (.tempInterp c) s = .next t ∧ SamePlant { s with cells := t.cells, links := t.links } t ∧
      t.getCell c.val = { x with cdly := interpolate (x.setsOf TempSet.cdly) (s.getDie (sensorOf (s.workQuad c.val))).temp } ∧
      (∀ k, k ≠ c.val → t.getCell k = s.getCell k) ∧ (∀ k, k / 2 ≠ c.val → t.getLink k = s.getLink k) ∧
      ∀ i < 2, let l := 2 * c.val + i
        (s.stale l = false → (t.getLink l).hdly = interpolate (x.setsOf (if i = 0 then TempSet.hdly0 else TempSet.hdly1)) (s.getLink l).temp ∧
          (t.getLink l).tfnom = interpolate (x.setsOf (fun v => ((if i = 0 then v.tf0 else v.tf1 : Nat) : Int))) (s.getLink l).temp) ∧
        (s.stale l = true → (t.getLink l).hdly = (s.getLink l).hdly ∧ (t.getLink l).tfnom = (s.getLink l).tfnom)) ∧
    (∃ t, exec (.tfStep c) s = .next t ∧ SamePlant { s with links := t.links } t ∧ (∀ k, k / 2 ≠ c.val → t.getLink k = s.getLink k) ∧
      ∀ l ∈ linksOf c.val, let k := s.getLink l
        (k.tf.toNat < k.tgt.toNat → t.getLink l = { k with tf := k.tf + 1 }) ∧ (k.tgt.toNat < k.tf.toNat → t.getLink l = { k with tf := k.tf - 1 }) ∧
        (k.tf = k.tgt → t.getLink l = k))

/-- CONFIG-LOAD-DONE fills the slot of an image that compiles and leaves it empty otherwise, and CONFIG-CHECK resolves a cell's three copies.
R224, R256, R257, R261. -/
def Obligations.ConfigurationsAreLoadedAndChecked : Prop :=
  ∀ (s : State),
    (∀ (h : W32) (bytes : List Byte) o n addr len, s.on dHOST = true → s.imageRuns = true → s.thn.paused = false →
      s.running h = some o → o.kind = .configLoad n addr len →
      let img := imageFrom bytes
      (s.imageFails o.target len img = none → ∃ t, exec (.configLoadDone h bytes) s = .next t ∧
        SamePlant (s.updLane o.target (fun x => x.setSlot n (some (Slot.mk (decide (img.kind = 1)) (ImgRef.mk o.queue addr len img.crc)
          ((img.sections.filter (fun x => x.hasCopy)).map compileCopy) (img.sections.map (·.cell)))))) t) ∧
      (∀ d, s.imageFails o.target len img = some d → ∃ t, exec (.configLoadDone h bytes) s = .next t ∧ SamePlant s t)) ∧
    (∀ c : CellIx, let x := s.getCell c.val
      s.on (s.workQuad c.val) = true →
      (∀ b, x.active = threeCopies b → ∃ t, exec (.configCheck c) s = .next t ∧ SamePlant { s with cells := t.cells, flt := t.flt } t ∧
        t.getCell c.val = { x with divergent := false } ∧ c.val ∉ (t.getSrc 4).conds) ∧
      (∀ b z, x.active = [⟨b, true⟩, ⟨b, true⟩, ⟨z, false⟩] → ∃ t, exec (.configCheck c) s = .next t ∧
        t.getCell c.val = { x with active := threeCopies b, divergent := false } ∧ (s.on dHOST = true → bit t.evt.stat 344 = true) ∧
        bit (t.getSrc 4).outCls 0 = true) ∧
      (∀ a y z, x.active = [⟨a, true⟩, ⟨y, false⟩, ⟨z, false⟩] → x.divergent = false → ∃ t, exec (.configCheck c) s = .next t ∧
        t.getCell c.val = { x with divergent := true } ∧ (s.on dHOST = true → bit t.evt.stat 345 = true) ∧
        bit (t.getSrc 4).outCls 1 = true))

/-- TAKEOVER-COPY-DONE copies a cell's bank, TAKEOVER-FAIL keeps the work where it is, SELFTEST-TICK starts a test and SELFTEST-DONE ends it.
R261, R262, R263, R264, R265, R266, R267. -/
def Obligations.SparesTakeOverAndAreTested : Prop :=
  ∀ (s : State),
    (∀ c : CellIx, let x := s.getCell c.val
      let src := s.serverOf c.val
      let dst := if src = c.val then x.tkoPeer else c.val
      s.on (dLS (quadrantOf c.val)) = true → x.tkoActive = true → x.tkoStep = 1 ∨ x.tkoStep = 2 → s.flt.pend = false → Memory.wf s.store → dst ≠ src →
      ∃ t, exec (.takeoverCopyDone c []) s = .next t ∧ (t.getBank dst).poison = (s.getBank src).poison ∧
        (t.getCell c.val).tkoStep = (if s.proc c.val then 3 else 4) ∧ t.lanes = s.lanes ∧ t.links = s.links ∧
        (∀ off < 524288, t.store.read (storeKey dst off) = s.store.read (storeKey src off)) ∧
        ∀ a, a / 524288 ≠ dst → t.store.read a = s.store.read a) ∧
    (∀ c : CellIx, let x := s.getCell c.val
      x.tkoActive = true → x.tkoStep ≠ 0 → x.tkoStep.toNat ≤ 4 → s.serverOf c.val = c.val → x.tkoPeer ≠ c.val →
      ∃ t, exec (.takeoverFail c) s = .next t ∧ (t.getCell c.val).tkoActive = false ∧ (t.getCell c.val).tkoStep = 0 ∧
        (t.getCell c.val).svc = x.svc ∧ (t.getCell x.tkoPeer).svc = .free ∧ bit (t.getCell c.val).evt evTkoFail = true ∧ t.store = s.store ∧
        bit (t.getSrc 17).outCls 1 = true) ∧
    (∀ (q : Fin 4) c, s.imageRuns = true → s.on (dLS q.val) = true → (s.getTest q.val).on = true → s.sparesUsed q.val = false → (s.getTest q.val).cell = none →
      s.nextTested q.val = some c →
      ((s.getLane (s.laneOf c)).st = .idle → ∃ t, exec (.selftestTick q) s = .next t ∧ t.lanes = s.lanes ∧ (∀ l, l / 2 ≠ c → t.getLink l = s.getLink l) ∧
        (∀ a, a / 524288 ≠ c → t.store.read a = s.store.read a) ∧ (t.getCell c).active = [] ∧ (t.getCell c).noz = [] ∧
        (t.getTest q.val).cell = some c ∧ (t.getCell c).svc = .underTest ∧ (t.getCell c).tkoStep = 5 ∧ ∀ k, k ≠ c → t.getCell k = s.getCell k) ∧
      (∀ k, (s.getLane (s.laneOf c)).st ≠ .idle → (s.freeSpares q.val).find? (fun k => !s.held (.cell k)) = some k →
        ∃ t, exec (.selftestTick q) s = .next t ∧ (t.getTest q.val).cell = some c ∧ (t.getCell c).tkoActive = true ∧
          (t.getCell c).tkoStep = 1 ∧ (t.getCell c).tkoPeer = k ∧ (t.getCell k).svc = .copying ∧ (t.getCell k).server = c)) ∧
    (∀ (c : CellIx) (pass : Bool), let x := s.getCell c.val
      let lane := s.getLane (s.laneOf c.val)
      (s.getTest (quadrantOf c.val)).cell = some c.val → x.tkoStep = 5 → s.on (dLS (quadrantOf c.val)) = true →
      (∀ e ∈ s.cells, e.2.testHold = false) → ∃ t, exec (.selftestDone c pass) s = .next t ∧
        (t.getCell c.val).bistV = true ∧ (t.getCell c.val).bistP = pass ∧ (t.getCell c.val).bistRuns = satInc x.bistRuns ∧
        (t.getCell c.val).bistFails = (if pass then x.bistFails else satInc x.bistFails) ∧ (s.on dHOST = true → bit t.evt.stat 347 = true) ∧
        (c.val < 256 → pass = true → x.refill = none → lane.image = none → lane.tsRefs = [] → x.server = c.val →
          (t.getCell c.val).svc = .inService ∧ (t.getCell c.val).tkoActive = false) ∧
        (c.val < 256 → pass = true → x.refill = none → lane.image = none → lane.tsRefs = [] → x.server ≠ c.val →
          (t.getCell c.val).tkoActive = true ∧ (t.getCell c.val).tkoStep = 1 ∧ (t.getCell c.val).tkoPeer = x.server) ∧
        (c.val < 256 → pass = true → x.refill = none → lane.image.isSome = true ∨ lane.tsRefs ≠ [] → (t.getCell c.val).tkoStep = 6 ∧
          (t.getCell c.val).svc = x.svc ∧ (t.getCell c.val).server = x.server ∧ (t.getCell c.val).refill =
            some { image := lane.image.isSome, sets := lane.tsRefs.map (·.1), test := true, failed := false }) ∧
        (c.val < 256 → pass = false → (t.getCell c.val).svc = .retired ∧ bit (t.getSrc 17).outCls 1 = true) ∧
        (256 ≤ c.val → (t.getCell c.val).svc = (if pass then .free else .spareRetired) ∧ (t.getCell c.val).tkoActive = false))

/-- FLR and a fall of NumVFs start lane resets with no completion, D3HOT-ENTRY and D0-RETURN only move the function's power state. R120, R121,
R135, R142, R144, R177. -/
def Obligations.FunctionsLeaveAndReturn : Prop :=
  ∀ (s : State), s.on dHOST = true → s.glb.linkUp = true →
    (∀ f : LaneIx, s.present f.val = true → ∃ t, exec (.flr f) s = .next t ∧
      (∃ r, (t.getLane f.val).reset = some r ∧ r.flr = true ∧ ((s.getLane f.val).reset = none → r.issuers = [])) ∧
      ((s.getLane f.val).reset = none → (t.getLane f.val).st = .resetting ∧ ∀ o ∈ t.ops, o.queue ≠ f.val) ∧
      (t.getHost f.val).d3 = false ∧ (t.getHost f.val).msixEn = false ∧ (t.getHost f.val).held = [] ∧ (t.getHost f.val).shadow = none ∧
      t.meter = s.meter ∧ t.glb = (if f.val = 0 then { s.glb with vfEn := false, numVfs := 0 } else s.glb)) ∧
    (∀ (en : Bool) (num : BitVec 16), ∃ t, exec (.numvfsWrite en num) s = .next t ∧ t.glb = { s.glb with vfEn := en, numVfs := num } ∧
      (∀ l < 16, s.present l = true → t.present l = false → (s.getLane l).reset = none → (t.getLane l).st = .resetting) ∧
      ∀ l < 16, s.present l = false ∨ t.present l = true → (t.getLane l).st = (s.getLane l).st) ∧
    (∀ f : LaneIx, s.present f.val = true →
      exec (.d3hotEntry f) s = .next (s.updHost f.val (fun h => { h with d3 := true })) ∧
      ∃ t, exec (.d0Return f) s = .next t ∧ (t.getHost f.val).d3 = false ∧ SamePlant s t ∧ t.ops = s.ops ∧ t.evt = s.evt ∧ t.hostMem = s.hostMem ∧
        (∀ g < 16, g ≠ f.val → t.getHost g = s.getHost g) ∧
        ∀ v < 128, bit (s.getHost f.val).pba v = true →
          (s.anyRequest f.val v = false → bit (t.getHost f.val).pba v = false) ∧
          (s.anyRequest f.val v = true → t.canSend f.val v = true → bit (t.getHost f.val).pba v = false ∧ Out.msix f.val v ∈ t.out) ∧
          (s.anyRequest f.val v = true → t.canSend f.val v = false → bit (t.getHost f.val).pba v = true))

/-- ZERO-LENGTH-READ-DONE completes: it posts the entry of a lane reset, clears the lane's events and queue pair, and leaves the lane IDLE.
R136, R137, R138, R140, R149, R166, R199. -/
def Obligations.LaneResetsEnd : Prop :=
  ∀ (l : LaneIx) (ok : Bool) (r : LaneReset) (s : State),
    s.alive = true → (s.getLane l.val).reset = some r → r.cells = [] → r.engines = [] → s.corePosts = true →
    (l.val = 0 ∨ ∀ o ∈ s.ops, s.runsOn l.val o = false ∧ actsOn l.val o = false) →
    ∃ t, exec (.zeroLengthReadDone l ok) s = .next t ∧
      (t.getLane l.val).st = .idle ∧ (t.getLane l.val).reset = none ∧ (t.getLane l.val).locked = false ∧ (t.getLane l.val).fill = 0 ∧
      (t.getLane l.val).inForce = (s.getLane l.val).inForce ∧
      (t.getHost l.val).en = false ∧ (t.getHost l.val).sqHead = 0 ∧ (t.getHost l.val).sqTail = 0 ∧ (t.getHost l.val).cqTail = 0 ∧
      (t.getHost l.val).stray = 0 ∧ (t.getHost l.val).vecs = [] ∧ (t.getHost l.val).pba = 0 ∧
      (t.getHost l.val).next = (s.getHost l.val).next ∧ (t.getHost l.val).prSeq = (s.getHost l.val).prSeq ∧
      (∀ src < 384, (s.getMap src).1 = l.val → bit t.evt.stat src = false) ∧ t.evt.maps = s.evt.maps ∧ t.meter = s.meter ∧
      (∀ c < 272, (t.getCell c).noz = (s.getCell c).noz ∧ (t.getCell c).active = (s.getCell c).active) ∧
      (∀ c < 256, s.laneOf c = l.val → (t.getCell c).nextM = 0 ∧ (t.getCell c).slots = [] ∧ (t.getCell c).pipe = none) ∧
      (∀ n < 4096, s.laneOf (s.getRing n).cell.toNat = l.val → (t.getRing n).st = .disabled ∧ (t.getRing n).en = false ∧
        (t.getRing n).pidx = 0 ∧ (t.getRing n).cidx = 0 ∧ (t.getRing n).base = (s.getRing n).base) ∧
      bit t.glb.rstCause 4 = true ∧
      (r.issuers = [] → t.hostMem = s.hostMem) ∧
      (∀ tag first, r.issuers = [(l.val, tag, first)] → r.flr = false → (s.getHost l.val).en = true →
        t.hostMem = hostWrite s.hostMem (hostKey l.val ((s.getHost l.val).cqBase.toNat + 16 * (s.getHost l.val).cqTail.toNat))
          (entryBytes (s.getHost l.val) { tag := tag, handle := 0, status := stOk, detail := BitVec.ofNat 16 (if first then r.released else 0), hv := false, final := false }))

/-- CONVENTIONAL-RESET resets HOST and FEED and nothing else, PERST-N-DEASSERT trains the link, TAP-INSTRUCTION may take the pins. R62, R88,
R114, R115, R116, R117, R142, R154, R166. -/
def Obligations.BusResetsKeepPrinting : Prop :=
  ∀ (s : State),
    (∀ cause : PcieReset, s.on dHOST = true → Canonical s → s.assign = none → s.glb.lsOff = [] → (∀ l, (s.getLane l).reset = none) →
      ∃ t, exec (.conventionalReset cause) s = .next t ∧
      t.glb = { s.glb with linkUp := false, vfEn := false, numVfs := 0, vfBar := 0, rstCause := setBit s.glb.rstCause (if cause = .perst then 2 else 3) true,
                           clkModeOn := if cause = .linkDown then s.glb.clkModeOn else s.glb.clkMode } ∧
      t.rings = [] ∧ t.engines = [] ∧
      (∀ f < 16, (t.getHost f).en = false ∧ (t.getHost f).sqTail = 0 ∧ (t.getHost f).sqHead = 0 ∧ (t.getHost f).d3 = false ∧ (t.getHost f).prEn = false ∧
        (t.getHost f).held = [] ∧ (t.getHost f).next = (s.getHost f).next ∧ (t.getHost f).prSeq = (s.getHost f).prSeq ∧
        (t.getHost f).waiting = (s.getHost f).waiting) ∧
      (∀ src < 384, s.request src = true → (s.getMap src).2 < 128 → bit (t.getHost (s.getMap src).1).pba (s.getMap src).2 = true) ∧
      t.lanes = s.lanes ∧ t.cells = s.cells ∧ t.pacers = s.pacers ∧ t.meter = s.meter ∧ t.ops = s.ops ∧ t.store = s.store ∧ t.thn = s.thn ∧
      t.evt = s.evt ∧ t.hostMem = s.hostMem) ∧
    (∀ w : LinkWidth, s.on dHOST = true →
      exec (.perstNDeassert w) s = .next { s with glb := { s.glb with linkUp := true, width := w } }) ∧
    (∀ code : Byte, s.aonRuns = true → ∃ t, exec (.tapInstruction code) s = .next t ∧ t.glb.tapIr = tapCode code ∧ t.glb.tapDr = tapCapture (tapCode code) ∧ (code = 0x02 → t.glb.tapDr = some 0x1960054F) ∧ ({ t with glb := s.glb } : State) = s ∧
      (code ∈ [0x00#8, 0x03, 0x04, 0x05, 0x06] → ∀ d, t.on d = false) ∧
      (code ∉ [0x00#8, 0x03, 0x04, 0x05, 0x06] → ∀ d, t.on d = s.on d))

/-- COMMAND-READ-DONE and HOST-READ-ERROR end the read of a command or of a refill. R224, R258, R261, R393, R534. -/
def Obligations.ReadsReturnToTheirCommand : Prop :=
  ∀ (s : State), s.on dHOST = true → s.imageRuns = true → s.thn.paused = false →
    (∀ (h : W32) o n addr len (data : List (List Byte)), s.running h = some o → o.kind = .tempsetLoad n addr len →
      let sets := s.setsFrom o.target data.flatten
      (∀ e ∈ sets, e.2.2 = true ∧ tsetOk e.2.1 = true) → (sets.map (·.1)).Nodup →
      ∃ t, exec (.commandReadDone (.handle h) data) s = .next t ∧ SamePlant { s with cells := t.cells, lanes := t.lanes } t ∧
        (∀ e ∈ sets, tabGet tsetReset (t.getCell e.1).tsets n = e.2.1) ∧
        (t.getLane o.target).tsRefs = (n, ⟨o.queue, addr, len, 0⟩) :: (s.getLane o.target).tsRefs.filter (fun e => decide (e.1 ≠ n))) ∧
    (∀ (h : W32) o n ep ch v (data : List (List Byte)), s.running h = some o → o.kind = .configCommit n ep → s.changeOf h = some ch → ch.ready = false →
      (s.getLane ch.lane).slot n = some v →
      let i := imageFrom data.flatten
      ∃ t, exec (.commandReadDone (.handle h) data) s = .next t ∧
        (s.commitFails ch.lane v i = none → t.changeOf h = some { ch with ready := true } ∧ t.lanes = s.lanes ∧ t.ops = s.ops) ∧
        ((s.commitFails ch.lane v i).isSome = true → t.changeOf h = none ∧ t.lanes = s.lanes ∧
          ((∀ c ∈ ch.cells, (s.getCell c).saved = none ∧ (s.getCell c).nozNext = []) → ∀ c, t.getCell c = s.getCell c))) ∧
    (∀ (k : QuadIx) g sets (data : List (List Byte)), (s.getQuad k.val).job = .restoring g true sets →
      let imgs := data.map imageFrom
      let lane := s.getLane (s.getQuad k.val).owner.toNat
      ∃ t, exec (.commandReadDone (.quad k) data) s = .next t ∧
        (refillOk lane imgs = true → ∀ c ∈ s.lostCells k.val, (t.getCell c).erased = false ∧
          ((t.getCell c).noz, (t.getCell c).waves) = refillTables c imgs) ∧
        (refillOk lane imgs = false → t.cells = s.cells ∧ (t.getQuad k.val).job = .none)) ∧
    (∀ (h : W32) cause o, s.running h = some o →
      ((∃ n addr len, o.kind = .configLoad n addr len) ∨ (∃ n addr len, o.kind = .tempsetLoad n addr len) ∨ (∃ addr len, o.kind = .fwLoad false addr len) →
        ∃ t, exec (.hostReadError (.handle h) cause) s = .next t ∧ SamePlant s t ∧ (t.getHost o.queue).aer = aerOf cause :: (s.getHost o.queue).aer) ∧
      (∀ ch n v, (∃ ep, o.kind = .configCommit n ep) ∨ (∃ ep, o.kind = .configPatch n ep) → s.changeOf h = some ch → ch.ready = false →
        (s.getLane o.target).slot n = some v → ∃ t, exec (.hostReadError (.handle h) cause) s = .next t ∧ t.changeOf h = none ∧ t.lanes = s.lanes ∧
          ((∀ c ∈ ch.cells, (s.getCell c).saved = none ∧ (s.getCell c).nozNext = []) → ∀ c, t.getCell c = s.getCell c) ∧
          (t.getHost v.ref.fn).aer = aerOf cause :: (s.getHost v.ref.fn).aer)) ∧
    (∀ cause (k : QuadIx) g sets i, (s.getQuad k.val).job = .restoring g true sets → (s.getLane (s.getQuad k.val).owner.toNat).image = some i →
      ∃ t, exec (.hostReadError (.quad k) cause) s = .next t ∧ (t.getQuad k.val).job = .none ∧ t.cells = s.cells ∧
        (t.getHost i.fn).aer = aerOf cause :: (s.getHost i.fn).aer)

/-- QUAD-CAL-END ends a quad's calibration, and the last one sets HWRDY; DISC-LOCKED and DISC-UNLOCKED move the discipline state. R57, R58,
R59, R83, R264, R473, R486. -/
def Obligations.QuadsCalibrateAndDisciplineLocks : Prop :=
  ∀ (s : State),
    (∀ (k : QuadIx) h, s.on k.val = true → (s.getQuad k.val).job = .calibrating h → ∃ t, exec (.quadCalEnd k) s = .next t ∧
      (t.getQuad k.val).calib = true ∧ (t.getQuad k.val).rung = (if s.quadHot k.val then 3 else 0) ∧ t.lanes = s.lanes ∧ t.meter = s.meter ∧
      (s.glb.hwrdy = false → (t.getQuad k.val).job = .none ∧
        ((∀ j < 68, j ≠ k.val → if bit s.glb.pwr j then (s.getQuad j).calib = true else (s.getQuad j).shutdown = true) →
          (bit s.glb.pwr k.val = true ∨ (s.getQuad k.val).shutdown = true) → t.glb.hwrdy = true)) ∧
      (s.glb.hwrdy = true → ∀ c < 256, quadOf c = k.val → (s.getCell c).svc = .stoodIn → (s.getCell c).tkoActive = false →
        (t.getCell c).tkoActive = true ∧ (t.getCell c).tkoStep = 1 ∧ (t.getCell c).tkoPeer = (s.getCell c).server)) ∧
    (∀ err : Int, s.fire = true → s.glb.discEn = true →
      let g := (s.trimBy err).glb
      (s.glb.disc = .acquire → err.natAbs < 50 → g.unable = false → ∃ t, exec (.discLocked err) s = .next t ∧
        SamePlant { s with glb := { g with disc := .locked } } t ∧ (s.on dHOST = true → bit t.evt.stat 317 = true)) ∧
      (s.glb.disc = .locked → 200 < err.natAbs → ∃ t, exec (.discUnlocked err) s = .next t ∧
        SamePlant { s with glb := { g with disc := .acquire } } t ∧ (s.on dHOST = true → bit t.evt.stat 317 = true)) ∧
      (g.unable = true ↔ 100000 < (s.glb.trim - err).natAbs) ∧
      (-100000 ≤ s.glb.trim → s.glb.trim ≤ 100000 → -100000 ≤ g.trim ∧ g.trim ≤ 100000 ∧ (g.trim - s.glb.trim).natAbs ≤ 500 * (s.now - s.glb.trimAt) / (1000 * msTicks)))

/-- COLD-POWER-UP brings up every domain once the root PLL locks, PLL-LOCK-RETRY tries again, and POWER-FAIL sheds the load. R82, R83, R84,
R101, R512, R514, R515, R520. -/
def Obligations.PowerComesAndGoes : Prop :=
  ∀ (s : State),
    (∀ cause : ColdCause, s.glb.powered = false ∨ s.glb.failing = true →
      (∃ t, exec (.coldPowerUp cause true) s = .next t ∧ t.glb.powered = true ∧ t.glb.failing = false ∧ t.glb.rootLock = true ∧ t.glb.hwrdy = false ∧
        (∀ d < 80, bit t.glb.pwr d = true ∧ bit t.glb.clk d = true) ∧ t.thn.a.role = .rom ∧ (∀ l < 16, (t.getLane l).st = .idle) ∧ t.ops = [] ∧
        (∀ k < 68, (t.getQuad k).job = .calibrating none ∧ (t.getQuad k).divAct = 2) ∧ (∀ n < 8, (t.getMotor n).st = .cal) ∧
        t.meter = resetMeter ∧ t.fuse.words = s.fuse.words ∧ t.fuse.wl = s.fuse.wl ∧ t.fuse.rl = s.fuse.rl ∧ t.hostMem = s.hostMem ∧
        t.pending = s.pending ∧ t.glb.rstCause = (if cause = .vin then 1 else 2) ∧ t.glb.clkModeOn = bit (s.getFuse 5 2) 0 ∧
        (s.bootEpoch = some 4095 → t.fuse.epochExh = true ∧ t.fuse.epochPend = false ∧ bit t.evt.stat 374 = true ∧ bit t.flt.cause 3 = true) ∧
        (s.bootEpoch ≠ some 4095 → t.fuse.epochExh = false ∧ t.fuse.epochPend = true)) ∧
      (∃ t, exec (.coldPowerUp cause false) s = .next t ∧ t.glb.powered = true ∧ t.glb.rootLock = false ∧ t.fuse.words = s.fuse.words ∧
        (∀ d < 80, d ≠ dAON → bit t.glb.pwr d = false ∧ bit t.glb.clk d = false) ∧ bit (t.getSrc 10).outCls 3 = true ∧
        t.glb.rstCause = (if cause = .vin then 1 else 2))) ∧
    (s.alive = true → s.glb.failing = false → s.glb.rootLock = false → bit s.glb.pwr dHOST = false →
      exec (.pllLockRetry false) s = .next s ∧ ∃ t, exec (.pllLockRetry true) s = .next t ∧ t.glb.rootLock = true ∧ t.thn.a.role = .rom ∧
        (∀ d < 80, 68 ≤ d ∨ (s.getQuad d).shutdown = false → bit t.glb.pwr d = true ∧ bit t.glb.clk d = true) ∧ t.fuse = s.fuse ∧ t.meter = s.meter) ∧
    (s.glb.powered = true → s.glb.failing = false → ∃ t, exec .powerFail s = .next t ∧ t.glb.failing = true ∧ t.glb.linkUp = false ∧
      (∀ d < 80, if d = dAON ∨ d = dCHN ∨ d = dMETA then bit t.glb.pwr d = bit s.glb.pwr d ∧ bit t.glb.clk d = bit s.glb.clk d
        else bit t.glb.pwr d = false ∧ bit t.glb.clk d = false) ∧ t.meter = s.meter ∧ t.fuse = s.fuse ∧ t.chn = s.chn)

/-- PRST_N pulses shorter than 1 us are ignored, and those from 1 us to 10 us cause a cold reset or are ignored. R89. -/
def Obligations.ResetPulsesAreTimed : Prop :=
  ∀ (ns : Nat) (s : State),
    (ns < 1000 → exec (.prstNPulse ns) s = .next s) ∧
    (1000 ≤ ns → ns < 10000 → ∃ t, exec (.prstNPulse ns) s = .next t ∧
      (({ t with free := s.free } : State) = s ∨ ({ t with free := s.free } : State) = s.coldState)) ∧
    (10000 ≤ ns → s.glb.powered = true → exec (.prstNPulse ns) s = .next s.coldState ∧ s.coldState.glb.powered = false ∧
      s.coldState.fuse.words = s.fuse.words ∧ s.coldState.ops = [] ∧ s.coldState.lanes = [] ∧ s.coldState.meter = resetMeter)

/-- ROOT-PLL-UNLOCK stops every clock but AON's and holds chain time, and RELOCK-RESTART restarts all but AON and META. R56, R61, R88, R434,
R444, R489, R501. -/
def Obligations.RootClockIsLostAndReturns : Prop :=
  ∀ (s : State), s.alive = true →
    (s.glb.rootLock = true → ∃ t, exec .rootPllUnlock s = .next t ∧ t.glb.rootLock = false ∧ t.fire = false ∧ t.time = s.time ∧
      (∀ d < 80, bit t.glb.clk d = decide (d = dAON)) ∧ t.glb.pwr = s.glb.pwr ∧ (∀ x < 4, (t.getPort x).st = .down) ∧ t.chn.closed = false ∧
      bit (t.getSrc 10).outCls 3 = true ∧ 0 ∈ (t.getSrc 10).conds ∧ t.lanes = s.lanes ∧ t.meter = s.meter ∧ t.fuse = s.fuse ∧ t.ops = s.ops) ∧
    (s.glb.rootLock = false → s.glb.failing = false → bit s.glb.pwr dHOST = true → Canonical s → ∃ t, exec .relockRestart s = .next t ∧ t.glb.rootLock = true ∧
      t.glb.hwrdy = false ∧ t.glb.linkUp = false ∧ t.chn.loadNext = true ∧ t.thn.a.role = .rom ∧ (∀ l < 16, (t.getLane l).st = .idle) ∧ t.ops = [] ∧
      (∀ d < 80, 68 ≤ d ∨ (s.getQuad d).shutdown = false → bit t.glb.pwr d = true ∧ bit t.glb.clk d = true) ∧
      (∀ k < 68, (s.getQuad k).shutdown = false → (t.getQuad k).job = .calibrating none) ∧
      (∀ k < 68, (s.getQuad k).shutdown = true → bit t.glb.pwr k = false ∧ (t.getQuad k).shutdown = true) ∧
      (∀ f < 16, (t.getHost f).en = false ∧ (t.getHost f).next = (s.getHost f).next) ∧
      t.fuse = s.fuse ∧ t.meter = s.meter ∧ (s.now + 168 * msTicks < 2 ^ 64 → s.now ≤ t.now) ∧ t.glb.rstCause = s.glb.rstCause)

/-- FW-LOAD-DONE authenticates an image, CHAINBOOT-FETCH asks the first port whose neighbour runs an image, CORE-SWAP-DONE swaps the cores.
R172, R499, R511, R512, R513, R528. -/
def Obligations.FirmwareArrivesAndSwaps : Prop :=
  ∀ (s : State),
    (∀ h x i, s.loadTarget = some i →
      let put := fun (ok : Bool) (t : State) =>
        (t.core i).image = (if ok then some (fwInfoOf x) else none) ∧ t.thn.fetch = none ∧ (s.on dHOST = true → bit t.evt.stat 351 = true) ∧
          (t.core i).role = (if ok then (if s.romServes then .active else .standby) else if s.romServes then .rom else .empty) ∧
          (s.romServes = true → ok = true → t.thn.b.role = .reloading) ∧ SamePlant { s with thn := t.thn } t
      (∀ o chain addr len, s.running h = some o → o.kind = .fwLoad chain addr len →
        ∃ t, exec (.fwLoadDone h x) s = .next t ∧ put (s.authentic (if chain then none else some len) x) t) ∧
      (s.running h = none → s.romServes = true → s.thn.fetch.isSome = true → (∀ o ∈ s.ops, ∀ c a l, o.kind ≠ .fwLoad c a l) →
        ∃ t, exec (.fwLoadDone h x) s = .next t ∧ put (s.authentic none x) t ∧
          t.thn.boots = (if s.authentic none x then s.thn.boots else s.thn.boots + 1))) ∧
    (∀ x, s.romServes = true → s.on dTHNA = true → s.glb.hwrdy = true → bit (s.getFuse 5 2) 1 = true → s.thn.fwSeen = false → s.thn.fetch = none →
      s.thn.boots = 0 → [pW, pE, pA, pB].find? (fun x => s.portUp x && decide ((s.getPort x).nlevel ≠ 0)) = some x →
      ∃ t, exec .chainbootFetch s = .next t ∧ t.time = (s.at_ s.thn.bootAt).time ∧
        t.thn = { s.thn with fetch := some (x, 0), bootAt := t.now + 1000 * msTicks } ∧ SamePlant { s with thn := t.thn, time := t.time } t) ∧
    (∀ h i j, s.thn.swap = some h → s.activeCore = some i → s.standbyCore = some j → s.thn.paused = true → s.fire = true →
      ∃ t, exec .coreSwapDone s = .next t ∧ (t.core i).role = .standby ∧ (t.core j).role = .active ∧ (t.core i).image = (s.core i).image ∧
        (t.core j).image = (s.core j).image ∧ t.thn.paused = false ∧ t.thn.swap = none ∧ (s.on dHOST = true → bit t.evt.stat 348 = true) ∧
        SamePlant { s with thn := t.thn } t)

/-- FUSE-PULSE-DONE programs one bit after another, BOOT-EPOCH-PROGRAM raises the boot epoch, and SEAL gives the oldest closed period its
record. R507, R508, R510, R514, R515, R518, R519, R520, R521. -/
def Obligations.FusesAndSealsAdvance : Prop :=
  ∀ (s : State), s.alive = true →
    (∀ p b rest, s.fuse.prog = some p → p.bits = b :: rest →
      (p.lock = false → ∃ t, exec (.fusePulseDone true) s = .next t ∧ SamePlant { s with fuse := t.fuse } t ∧
        t.fuse.words = (s.setFuse p.region p.word (setBit (s.getFuse p.region p.word) b true)).fuse.words ∧ t.fuse.wl = s.fuse.wl ∧ t.fuse.rl = s.fuse.rl ∧
        t.fuse.prog = if rest = [] then none else if s.inWindow then some { p with bits := rest, pulses := 0 } else none) ∧
      (p.lock = true → ∃ t, exec (.fusePulseDone true) s = .next t ∧ SamePlant { s with fuse := t.fuse } t ∧ t.fuse.words = s.fuse.words ∧
        t.fuse.wl = (if b = 0 then setBit s.fuse.wl p.region true else s.fuse.wl) ∧
        t.fuse.rl = (if b = 1 then setBit s.fuse.rl p.region true else s.fuse.rl)) ∧
      (p.pulses < 2 → exec (.fusePulseDone false) s = .next { s with fuse := { s.fuse with prog := some { p with pulses := p.pulses + 1 } } }) ∧
      (2 ≤ p.pulses → p.lock = false → ∃ t, exec (.fusePulseDone false) s = .next t ∧ SamePlant { s with fuse := t.fuse } t ∧ t.fuse.prog = none ∧
        (∀ r w i, 128 * r + w ≠ 128 * p.region + p.word ∨ i ≠ b → bit (t.getFuse r w) i = bit (s.getFuse r w) i) ∧
        t.fuse.wl = s.fuse.wl ∧ t.fuse.rl = s.fuse.rl)) ∧
    (s.fuse.epochPend = true → s.glb.hwrdy = true → s.hk.fastAct = false → s.fuse.prog = none → s.inWindow = true →
      let b := s.fuse.epochBit.getD ((s.bootEpoch.map (· + 1)).getD 0)
      b < 4096 → (∀ e, s.bootEpoch = some e → e < b) →
      (∃ t, exec (.bootEpochProgram true) s = .next t ∧ SamePlant { s with fuse := t.fuse } t ∧ t.bootEpoch = some b ∧ t.fuse.epochPend = false ∧
        t.fuse.epochBit = none) ∧
      (s.fuse.epochPulses < 2 → exec (.bootEpochProgram false) s =
        .next { s with fuse := { s.fuse with epochBit := some b, epochPulses := s.fuse.epochPulses + 1 } }) ∧
      (2 ≤ s.fuse.epochPulses → ∃ t, exec (.bootEpochProgram false) s = .next t ∧
        (∀ r w i, 128 * r + w ≠ 512 + b / 32 ∨ i ≠ b % 32 → bit (t.getFuse r w) i = bit (s.getFuse r w) i) ∧
        (b < 4095 → SamePlant { s with fuse := t.fuse } t ∧ t.fuse.epochPend = true ∧ t.fuse.epochBit = some (b + 1) ∧ t.fuse.epochPulses = 0) ∧
        (b = 4095 → t.fuse.epochExh = true ∧ t.fuse.epochPend = false ∧ bit t.flt.cause 3 = true ∧ (s.on dHOST = true → bit t.evt.stat 374 = true)))) ∧
    (∀ (c : Closed) (rest : List Closed), s.meter.closed = c :: rest → bit s.glb.clk dMETA = true → s.fuse.epochPend = false →
    let m := s.getMeter c.lane
    let ep := s.bootEpoch.getD 0
    let late := !m.recs.isEmpty && decide (c.wall.toInt < m.wall.toInt)
    let r : PRec := { lane := c.lane, flags := c.flags ||| BitVec.ofNat 8 (b2n late + 16 * b2n s.fuse.epochExh)
                      period := BitVec.ofNat 64 (ep % 4096 * 2 ^ 48 + (m.count + 1) % 2 ^ 48)
                      nonce := BitVec.ofNat 64 (ep % 4096 * 2 ^ 48 + s.meter.seqNo % 2 ^ 48), tStart := c.tStart, tEnd := c.tEnd
                      wall := c.wall, planes := c.planes }
    ∃ t, exec .sealStep s = .next t ∧ SamePlant { s with meter := t.meter } t ∧ t.meter.closed = rest ∧
      (t.getMeter c.lane).recs = (r :: m.recs).take 64 ∧ (t.getMeter c.lane).count = m.count + 1 ∧
      t.meter.seqNo = (if s.fuse.epochExh then s.meter.seqNo else s.meter.seqNo + 1) ∧
      (∀ l, l ≠ c.lane → t.getMeter l = s.getMeter l) ∧
      (s.on dHOST = true → bit t.evt.stat 372 = true ∧ (late = true → bit t.evt.stat 375 = true)) ∧
      (s.meter.seqNo < 2 ^ 48 → r.nonce.toNat = ep % 4096 * 2 ^ 48 + s.meter.seqNo))

/-- The reset state has the invariants of the model and the reset values of the event, queue-pair and motor registers. R147, R149, R431, R507,
R508. -/
def Obligations.TheResetStateIsWellFormed : Prop :=
  Canonical State.reset ∧ HandlesOwned State.reset ∧ FusesBlank State.reset ∧ State.reset.pending = [] ∧
    (∀ w < 12, State.reset.regRead 0 (0x200040 + 4 * w) = if w = 10 ∨ w = 11 then 0xFFFF else 0) ∧
    (∀ l < 16, State.reset.getMap (320 + l) = (l, 0) ∧ State.reset.getMap (352 + l) = (l, 1)) ∧
    State.reset.regRead 0 0x204010 = 0x00040004 ∧ State.reset.regRead 0 0x204018 = 0x00010000 ∧ State.reset.regRead 0 0x320000 = 0x200F1250

/-- Every step keeps the line store, host memory and every register table in canonical form. R83, R88, R207. -/
def Obligations.EveryStepKeepsTheCanonicalForm : Prop :=
  ∀ (s t : State), Canonical s → step s = .next t → Canonical t

/-- Every step takes exactly the front command off the queue, and every outstanding handle keeps naming the queue that allocated it. R164,
R165, R166. -/
def Obligations.EveryStepTakesOneCommandAndKeepsHandles : Prop :=
  ∀ (s t : State), step s = .next t → t.pending = s.pending.tail ∧ (HandlesOwned s → HandlesOwned t)

/-- Nothing returns a programmed fuse to 0: no command, reset or power cycle. R507, R508, R509, R510, R514. -/
def Obligations.NoStepClearsAFuse : Prop :=
  ∀ (s t : State), FusesBlank s → step s = .next t → FusesBlank t ∧ FusesKept s t
end

