-- ==== Sys2Proof/Laws/State.lean ====
section
/-! SUPPORT. What each update of the state leaves as it was: one lemma per update, a conjunct per field, all by rfl, so that no proof
unfolds a record update; and what each table reads after a write. -/

namespace Sys2Proof.Machine

/-! ### Tables -/

theorem tabGet_filter_ne {α : Type} (d : Nat → α) (t : Tab α) (k j : Nat) (h : j ≠ k) :
    tabGet d (t.filter (fun e => decide (e.1 ≠ k))) j = tabGet d t j := by
  induction t with
  | nil => rfl
  | cons e t ih =>
    obtain ⟨i, v⟩ := e
    by_cases hi : i = k
    · subst hi
      have hs : ((i, v) :: t).filter (fun e => decide (e.1 ≠ i)) = t.filter (fun e => decide (e.1 ≠ i)) := by simp
      rw [hs, ih, tabGet, if_neg (Ne.symm h)]
    · simp only [List.filter_cons, hi, ne_eq, not_false_eq_true, decide_true, if_true, tabGet, ih]

theorem tabGet_filter_self {α : Type} (d : Nat → α) (t : Tab α) (k : Nat) :
    tabGet d (t.filter (fun e => decide (e.1 ≠ k))) k = d k := by
  induction t with
  | nil => rfl
  | cons e t ih =>
    obtain ⟨i, v⟩ := e
    by_cases hi : i = k
    · subst hi
      have hs : ((i, v) :: t).filter (fun e => decide (e.1 ≠ i)) = t.filter (fun e => decide (e.1 ≠ i)) := by simp
      rw [hs, ih]
    · simp only [List.filter_cons, hi, ne_eq, not_false_eq_true, decide_true, if_true, tabGet, if_false, ih]

theorem tabGet_tabIns_self {α : Type} (d : Nat → α) (t : Tab α) (k : Nat) (v : α) (h : ∀ e ∈ t, e.1 ≠ k) :
    tabGet d (tabIns k v t) k = v := by
  induction t with
  | nil => simp [tabIns, tabGet]
  | cons e t ih =>
    obtain ⟨i, w⟩ := e
    have hi : i ≠ k := h (i, w) (by simp)
    by_cases hk : k < i
    · simp [tabIns, hk, tabGet]
    · simp [tabIns, hk, tabGet, hi, ih (fun e he => h e (by simp [he]))]

theorem tabGet_tabIns_ne {α : Type} (d : Nat → α) (t : Tab α) (k j : Nat) (v : α) (h : j ≠ k) :
    tabGet d (tabIns k v t) j = tabGet d t j := by
  induction t with
  | nil => simp [tabIns, tabGet, Ne.symm h]
  | cons e t ih =>
    obtain ⟨i, w⟩ := e
    by_cases hk : k < i <;> simp [tabIns, hk, tabGet, ih, Ne.symm h]

/-- A written index reads as it was written. -/
@[simp] theorem tabGet_tabPut_self {α : Type} [DecidableEq α] (d : Nat → α) (t : Tab α) (k : Nat) (v : α) :
    tabGet d (tabPut d t k v) k = v := by
  unfold tabPut
  by_cases hv : v = d k
  · simp only [hv, if_true]; exact tabGet_filter_self d t k
  · simp only [hv, if_false]
    exact tabGet_tabIns_self d _ k v (fun e he => by simpa using (List.mem_filter.mp he).2)

/-- A write leaves every other index as it was. -/
theorem tabGet_tabPut_ne {α : Type} [DecidableEq α] (d : Nat → α) (t : Tab α) (k j : Nat) (v : α) (h : j ≠ k) :
    tabGet d (tabPut d t k v) j = tabGet d t j := by
  unfold tabPut
  by_cases hv : v = d k
  · simp only [hv, if_true]; exact tabGet_filter_ne d t k j h
  · simp only [hv, if_false]
    rw [tabGet_tabIns_ne d _ k j v h, tabGet_filter_ne d t k j h]

theorem tabIns_mem {α : Type} (k : Nat) (v : α) (t : Tab α) (e : Nat × α) (h : e ∈ tabIns k v t) : e = (k, v) ∨ e ∈ t := by
  induction t with
  | nil => simpa [tabIns] using h
  | cons x t ih =>
    obtain ⟨i, w⟩ := x
    unfold tabIns at h
    split at h
    · simpa using h
    · rcases List.mem_cons.mp h with rfl | h
      · simp
      · rcases ih h with rfl | h <;> simp [*]

theorem tabIns_rising {α : Type} (k : Nat) (v : α) (t : Tab α) (h : t.Pairwise (fun a b => a.1 < b.1)) (hk : ∀ e ∈ t, e.1 ≠ k) :
    (tabIns k v t).Pairwise (fun a b => a.1 < b.1) := by
  induction t with
  | nil => simp [tabIns]
  | cons x t ih =>
    obtain ⟨i, w⟩ := x
    have hx := List.pairwise_cons.mp h
    have hi : i ≠ k := hk (i, w) (by simp)
    unfold tabIns
    split
    · rename_i hlt
      refine List.pairwise_cons.mpr ⟨?_, h⟩
      intro e he
      rcases List.mem_cons.mp he with rfl | he
      · exact hlt
      · exact Nat.lt_trans hlt (hx.1 e he)
    · rename_i hlt
      refine List.pairwise_cons.mpr ⟨?_, ih hx.2 (fun e he => hk e (by simp [he]))⟩
      intro e he
      rcases tabIns_mem k v t e he with rfl | he
      · show i < k
        omega
      · exact hx.1 e he

/-- A write keeps the canonical form. -/
theorem tabWf_tabPut {α : Type} [DecidableEq α] (d : Nat → α) (t : Tab α) (k : Nat) (v : α) (h : tabWf d t) :
    tabWf d (tabPut d t k v) := by
  have hf : (t.filter (fun e => decide (e.1 ≠ k))).Pairwise (fun a b => a.1 < b.1) := h.1.filter _
  have hm : ∀ e ∈ t.filter (fun e => decide (e.1 ≠ k)), e.2 ≠ d e.1 := fun e he => h.2 e (List.mem_filter.mp he).1
  unfold tabPut
  by_cases hv : v = d k
  · simp only [hv, if_true]; exact ⟨hf, hm⟩
  · simp only [hv, if_false]
    refine ⟨tabIns_rising k v _ hf (fun e he => by simpa using (List.mem_filter.mp he).2), ?_⟩
    intro e he
    rcases tabIns_mem k v _ e he with rfl | he
    · exact hv
    · exact hm e he

/-- Changing every entry keeps the canonical form. -/
theorem tabWf_tabMap {α : Type} [DecidableEq α] (d : Nat → α) (u : Nat → α → α) (t : Tab α) (h : tabWf d t) :
    tabWf d (tabMap d u t) := by
  obtain ⟨h1, _⟩ := h
  induction t with
  | nil => exact ⟨List.Pairwise.nil, fun _ h => absurd h List.not_mem_nil⟩
  | cons x t ih =>
    have hx := List.pairwise_cons.mp h1
    have ih := ih hx.2 (by simp_all)
    have hlow : ∀ e ∈ tabMap d u t, x.1 < e.1 := by
      intro e he
      obtain ⟨y, hy, hye⟩ := List.mem_filterMap.mp he
      split at hye
      · cases hye
      · cases hye; exact hx.1 y hy
    unfold tabMap at ih hlow ⊢
    by_cases hv : u x.1 x.2 = d x.1
    · simpa [List.filterMap_cons, hv] using ih
    · simp only [List.filterMap_cons, hv, if_false]
      refine ⟨List.pairwise_cons.mpr ⟨hlow, ih.1⟩, ?_⟩
      intro e he
      rcases List.mem_cons.mp he with rfl | he
      · exact hv
      · exact ih.2 e he

/-- Dropping entries keeps the canonical form. -/
theorem tabWf_filter {α : Type} [DecidableEq α] (d : Nat → α) (p : Nat × α → Bool) (t : Tab α) (h : tabWf d t) :
    tabWf d (t.filter p) :=
  ⟨h.1.filter _, fun e he => h.2 e (List.mem_filter.mp he).1⟩

/-! ### Memory -/

/-- A byte of the line store reads as it was written. -/
@[simp] theorem Memory.read_write_self (m : Memory) (a : Nat) (v : Byte) : (m.write a v).read a = v := tabGet_tabPut_self ..

/-- A write of one byte leaves every other byte as it was. -/
theorem Memory.read_write_ne (m : Memory) (a b : Nat) (v : Byte) (h : b ≠ a) : (m.write a v).read b = m.read b :=
  tabGet_tabPut_ne _ _ _ _ _ h

/-- Every write of the line store keeps its canonical form. -/
theorem Memory.wf_writeBytes (bs : List Byte) : ∀ (m : Memory) (a : Nat), m.wf → (m.writeBytes a bs).wf := by
  induction bs with
  | nil => intro m a h; exact h
  | cons b bs ih => intro m a h; exact ih _ _ (tabWf_tabPut _ _ _ _ h)

/-- Bytes outside the written range read as they did. -/
theorem Memory.read_writeBytes_out (bs : List Byte) : ∀ (m : Memory) (a b : Nat), (b < a ∨ a + bs.length ≤ b) →
    (m.writeBytes a bs).read b = m.read b := by
  induction bs with
  | nil => intro m a b _; rfl
  | cons x bs ih =>
    intro m a b h
    simp only [List.length_cons] at h
    show (Memory.writeBytes (m.write a x) (a + 1) bs).read b = _
    rw [ih _ _ _ (by omega), Memory.read_write_ne _ _ _ _ (by omega)]

/-- Host memory stays a list of rising addresses. -/
theorem hostWrite_rising (bs : List Byte) : ∀ (m : Memory) (a : Nat), m.Pairwise (fun x y => x.1 < y.1) →
    (hostWrite m a bs).Pairwise (fun x y => x.1 < y.1) := by
  induction bs with
  | nil => intro m a h; exact h
  | cons b bs ih =>
    intro m a h
    exact ih _ _ (tabIns_rising _ _ _ (h.filter _) (fun e he => by simpa using (List.mem_filter.mp he).2))

/-! ### Updates of the state -/

@[simp] theorem State.setQuad_frame (s : State) (k : Nat) (v : Quad) :
    (s.setQuad k v).time = s.time ∧ (s.setQuad k v).glb = s.glb ∧ (s.setQuad k v).host = s.host ∧ (s.setQuad k v).evt = s.evt ∧
    (s.setQuad k v).lanes = s.lanes ∧ (s.setQuad k v).ops = s.ops ∧ (s.setQuad k v).assign = s.assign ∧ (s.setQuad k v).changes = s.changes ∧
    (s.setQuad k v).rings = s.rings ∧ (s.setQuad k v).engines = s.engines ∧ (s.setQuad k v).reqs = s.reqs ∧ (s.setQuad k v).banks = s.banks ∧
    (s.setQuad k v).store = s.store ∧ (s.setQuad k v).cells = s.cells ∧ (s.setQuad k v).tests = s.tests ∧ (s.setQuad k v).links = s.links ∧
    (s.setQuad k v).encs = s.encs ∧ (s.setQuad k v).trigs = s.trigs ∧ (s.setQuad k v).pacers = s.pacers ∧ (s.setQuad k v).gates = s.gates ∧
    (s.setQuad k v).motors = s.motors ∧ (s.setQuad k v).chn = s.chn ∧ (s.setQuad k v).hk = s.hk ∧ (s.setQuad k v).flt = s.flt ∧
    (s.setQuad k v).thn = s.thn ∧ (s.setQuad k v).fuse = s.fuse ∧ (s.setQuad k v).meter = s.meter ∧ (s.setQuad k v).hostMem = s.hostMem ∧
    (s.setQuad k v).free = s.free ∧ (s.setQuad k v).out = s.out ∧ (s.setQuad k v).pending = s.pending :=
  by and_intros <;> rfl

@[simp] theorem State.updQuad_frame (s : State) (k : Nat) (u : Quad → Quad) :
    (s.updQuad k u).time = s.time ∧ (s.updQuad k u).glb = s.glb ∧ (s.updQuad k u).host = s.host ∧ (s.updQuad k u).evt = s.evt ∧
    (s.updQuad k u).lanes = s.lanes ∧ (s.updQuad k u).ops = s.ops ∧ (s.updQuad k u).assign = s.assign ∧ (s.updQuad k u).changes = s.changes ∧
    (s.updQuad k u).rings = s.rings ∧ (s.updQuad k u).engines = s.engines ∧ (s.updQuad k u).reqs = s.reqs ∧ (s.updQuad k u).banks = s.banks ∧
    (s.updQuad k u).store = s.store ∧ (s.updQuad k u).cells = s.cells ∧ (s.updQuad k u).tests = s.tests ∧ (s.updQuad k u).links = s.links ∧
    (s.updQuad k u).encs = s.encs ∧ (s.updQuad k u).trigs = s.trigs ∧ (s.updQuad k u).pacers = s.pacers ∧ (s.updQuad k u).gates = s.gates ∧
    (s.updQuad k u).motors = s.motors ∧ (s.updQuad k u).chn = s.chn ∧ (s.updQuad k u).hk = s.hk ∧ (s.updQuad k u).flt = s.flt ∧
    (s.updQuad k u).thn = s.thn ∧ (s.updQuad k u).fuse = s.fuse ∧ (s.updQuad k u).meter = s.meter ∧ (s.updQuad k u).hostMem = s.hostMem ∧
    (s.updQuad k u).free = s.free ∧ (s.updQuad k u).out = s.out ∧ (s.updQuad k u).pending = s.pending :=
  by and_intros <;> rfl

@[simp] theorem State.getQuad_setQuad (s : State) (k : Nat) (v : Quad) : (s.setQuad k v).getQuad k = v := tabGet_tabPut_self ..

@[simp] theorem State.getQuad_updQuad (s : State) (k : Nat) (u : Quad → Quad) : (s.updQuad k u).getQuad k = u (s.getQuad k) :=
  tabGet_tabPut_self ..

theorem State.getQuad_updQuad_ne (s : State) (k j : Nat) (u : Quad → Quad) (h : j ≠ k) : (s.updQuad k u).getQuad j = s.getQuad j :=
  tabGet_tabPut_ne _ _ _ _ _ h

@[simp] theorem State.setHost_frame (s : State) (k : Nat) (v : HostFn) :
    (s.setHost k v).time = s.time ∧ (s.setHost k v).glb = s.glb ∧ (s.setHost k v).quads = s.quads ∧ (s.setHost k v).evt = s.evt ∧
    (s.setHost k v).lanes = s.lanes ∧ (s.setHost k v).ops = s.ops ∧ (s.setHost k v).assign = s.assign ∧ (s.setHost k v).changes = s.changes ∧
    (s.setHost k v).rings = s.rings ∧ (s.setHost k v).engines = s.engines ∧ (s.setHost k v).reqs = s.reqs ∧ (s.setHost k v).banks = s.banks ∧
    (s.setHost k v).store = s.store ∧ (s.setHost k v).cells = s.cells ∧ (s.setHost k v).tests = s.tests ∧ (s.setHost k v).links = s.links ∧
    (s.setHost k v).encs = s.encs ∧ (s.setHost k v).trigs = s.trigs ∧ (s.setHost k v).pacers = s.pacers ∧ (s.setHost k v).gates = s.gates ∧
    (s.setHost k v).motors = s.motors ∧ (s.setHost k v).chn = s.chn ∧ (s.setHost k v).hk = s.hk ∧ (s.setHost k v).flt = s.flt ∧
    (s.setHost k v).thn = s.thn ∧ (s.setHost k v).fuse = s.fuse ∧ (s.setHost k v).meter = s.meter ∧ (s.setHost k v).hostMem = s.hostMem ∧
    (s.setHost k v).free = s.free ∧ (s.setHost k v).out = s.out ∧ (s.setHost k v).pending = s.pending :=
  by and_intros <;> rfl

@[simp] theorem State.updHost_frame (s : State) (k : Nat) (u : HostFn → HostFn) :
    (s.updHost k u).time = s.time ∧ (s.updHost k u).glb = s.glb ∧ (s.updHost k u).quads = s.quads ∧ (s.updHost k u).evt = s.evt ∧
    (s.updHost k u).lanes = s.lanes ∧ (s.updHost k u).ops = s.ops ∧ (s.updHost k u).assign = s.assign ∧ (s.updHost k u).changes = s.changes ∧
    (s.updHost k u).rings = s.rings ∧ (s.updHost k u).engines = s.engines ∧ (s.updHost k u).reqs = s.reqs ∧ (s.updHost k u).banks = s.banks ∧
    (s.updHost k u).store = s.store ∧ (s.updHost k u).cells = s.cells ∧ (s.updHost k u).tests = s.tests ∧ (s.updHost k u).links = s.links ∧
    (s.updHost k u).encs = s.encs ∧ (s.updHost k u).trigs = s.trigs ∧ (s.updHost k u).pacers = s.pacers ∧ (s.updHost k u).gates = s.gates ∧
    (s.updHost k u).motors = s.motors ∧ (s.updHost k u).chn = s.chn ∧ (s.updHost k u).hk = s.hk ∧ (s.updHost k u).flt = s.flt ∧
    (s.updHost k u).thn = s.thn ∧ (s.updHost k u).fuse = s.fuse ∧ (s.updHost k u).meter = s.meter ∧ (s.updHost k u).hostMem = s.hostMem ∧
    (s.updHost k u).free = s.free ∧ (s.updHost k u).out = s.out ∧ (s.updHost k u).pending = s.pending :=
  by and_intros <;> rfl

@[simp] theorem State.getHost_setHost (s : State) (k : Nat) (v : HostFn) : (s.setHost k v).getHost k = v := tabGet_tabPut_self ..

@[simp] theorem State.getHost_updHost (s : State) (k : Nat) (u : HostFn → HostFn) : (s.updHost k u).getHost k = u (s.getHost k) :=
  tabGet_tabPut_self ..

theorem State.getHost_updHost_ne (s : State) (k j : Nat) (u : HostFn → HostFn) (h : j ≠ k) : (s.updHost k u).getHost j = s.getHost j :=
  tabGet_tabPut_ne _ _ _ _ _ h

@[simp] theorem State.setLane_frame (s : State) (k : Nat) (v : Lane) :
    (s.setLane k v).time = s.time ∧ (s.setLane k v).glb = s.glb ∧ (s.setLane k v).quads = s.quads ∧ (s.setLane k v).host = s.host ∧
    (s.setLane k v).evt = s.evt ∧ (s.setLane k v).ops = s.ops ∧ (s.setLane k v).assign = s.assign ∧ (s.setLane k v).changes = s.changes ∧
    (s.setLane k v).rings = s.rings ∧ (s.setLane k v).engines = s.engines ∧ (s.setLane k v).reqs = s.reqs ∧ (s.setLane k v).banks = s.banks ∧
    (s.setLane k v).store = s.store ∧ (s.setLane k v).cells = s.cells ∧ (s.setLane k v).tests = s.tests ∧ (s.setLane k v).links = s.links ∧
    (s.setLane k v).encs = s.encs ∧ (s.setLane k v).trigs = s.trigs ∧ (s.setLane k v).pacers = s.pacers ∧ (s.setLane k v).gates = s.gates ∧
    (s.setLane k v).motors = s.motors ∧ (s.setLane k v).chn = s.chn ∧ (s.setLane k v).hk = s.hk ∧ (s.setLane k v).flt = s.flt ∧
    (s.setLane k v).thn = s.thn ∧ (s.setLane k v).fuse = s.fuse ∧ (s.setLane k v).meter = s.meter ∧ (s.setLane k v).hostMem = s.hostMem ∧
    (s.setLane k v).free = s.free ∧ (s.setLane k v).out = s.out ∧ (s.setLane k v).pending = s.pending :=
  by and_intros <;> rfl

@[simp] theorem State.updLane_frame (s : State) (k : Nat) (u : Lane → Lane) :
    (s.updLane k u).time = s.time ∧ (s.updLane k u).glb = s.glb ∧ (s.updLane k u).quads = s.quads ∧ (s.updLane k u).host = s.host ∧
    (s.updLane k u).evt = s.evt ∧ (s.updLane k u).ops = s.ops ∧ (s.updLane k u).assign = s.assign ∧ (s.updLane k u).changes = s.changes ∧
    (s.updLane k u).rings = s.rings ∧ (s.updLane k u).engines = s.engines ∧ (s.updLane k u).reqs = s.reqs ∧ (s.updLane k u).banks = s.banks ∧
    (s.updLane k u).store = s.store ∧ (s.updLane k u).cells = s.cells ∧ (s.updLane k u).tests = s.tests ∧ (s.updLane k u).links = s.links ∧
    (s.updLane k u).encs = s.encs ∧ (s.updLane k u).trigs = s.trigs ∧ (s.updLane k u).pacers = s.pacers ∧ (s.updLane k u).gates = s.gates ∧
    (s.updLane k u).motors = s.motors ∧ (s.updLane k u).chn = s.chn ∧ (s.updLane k u).hk = s.hk ∧ (s.updLane k u).flt = s.flt ∧
    (s.updLane k u).thn = s.thn ∧ (s.updLane k u).fuse = s.fuse ∧ (s.updLane k u).meter = s.meter ∧ (s.updLane k u).hostMem = s.hostMem ∧
    (s.updLane k u).free = s.free ∧ (s.updLane k u).out = s.out ∧ (s.updLane k u).pending = s.pending :=
  by and_intros <;> rfl

@[simp] theorem State.getLane_setLane (s : State) (k : Nat) (v : Lane) : (s.setLane k v).getLane k = v := tabGet_tabPut_self ..

@[simp] theorem State.getLane_updLane (s : State) (k : Nat) (u : Lane → Lane) : (s.updLane k u).getLane k = u (s.getLane k) :=
  tabGet_tabPut_self ..

theorem State.getLane_updLane_ne (s : State) (k j : Nat) (u : Lane → Lane) (h : j ≠ k) : (s.updLane k u).getLane j = s.getLane j :=
  tabGet_tabPut_ne _ _ _ _ _ h

@[simp] theorem State.setRing_frame (s : State) (k : Nat) (v : Ring) :
    (s.setRing k v).time = s.time ∧ (s.setRing k v).glb = s.glb ∧ (s.setRing k v).quads = s.quads ∧ (s.setRing k v).host = s.host ∧
    (s.setRing k v).evt = s.evt ∧ (s.setRing k v).lanes = s.lanes ∧ (s.setRing k v).ops = s.ops ∧ (s.setRing k v).assign = s.assign ∧
    (s.setRing k v).changes = s.changes ∧ (s.setRing k v).engines = s.engines ∧ (s.setRing k v).reqs = s.reqs ∧ (s.setRing k v).banks = s.banks ∧
    (s.setRing k v).store = s.store ∧ (s.setRing k v).cells = s.cells ∧ (s.setRing k v).tests = s.tests ∧ (s.setRing k v).links = s.links ∧
    (s.setRing k v).encs = s.encs ∧ (s.setRing k v).trigs = s.trigs ∧ (s.setRing k v).pacers = s.pacers ∧ (s.setRing k v).gates = s.gates ∧
    (s.setRing k v).motors = s.motors ∧ (s.setRing k v).chn = s.chn ∧ (s.setRing k v).hk = s.hk ∧ (s.setRing k v).flt = s.flt ∧
    (s.setRing k v).thn = s.thn ∧ (s.setRing k v).fuse = s.fuse ∧ (s.setRing k v).meter = s.meter ∧ (s.setRing k v).hostMem = s.hostMem ∧
    (s.setRing k v).free = s.free ∧ (s.setRing k v).out = s.out ∧ (s.setRing k v).pending = s.pending :=
  by and_intros <;> rfl

@[simp] theorem State.updRing_frame (s : State) (k : Nat) (u : Ring → Ring) :
    (s.updRing k u).time = s.time ∧ (s.updRing k u).glb = s.glb ∧ (s.updRing k u).quads = s.quads ∧ (s.updRing k u).host = s.host ∧
    (s.updRing k u).evt = s.evt ∧ (s.updRing k u).lanes = s.lanes ∧ (s.updRing k u).ops = s.ops ∧ (s.updRing k u).assign = s.assign ∧
    (s.updRing k u).changes = s.changes ∧ (s.updRing k u).engines = s.engines ∧ (s.updRing k u).reqs = s.reqs ∧ (s.updRing k u).banks = s.banks ∧
    (s.updRing k u).store = s.store ∧ (s.updRing k u).cells = s.cells ∧ (s.updRing k u).tests = s.tests ∧ (s.updRing k u).links = s.links ∧
    (s.updRing k u).encs = s.encs ∧ (s.updRing k u).trigs = s.trigs ∧ (s.updRing k u).pacers = s.pacers ∧ (s.updRing k u).gates = s.gates ∧
    (s.updRing k u).motors = s.motors ∧ (s.updRing k u).chn = s.chn ∧ (s.updRing k u).hk = s.hk ∧ (s.updRing k u).flt = s.flt ∧
    (s.updRing k u).thn = s.thn ∧ (s.updRing k u).fuse = s.fuse ∧ (s.updRing k u).meter = s.meter ∧ (s.updRing k u).hostMem = s.hostMem ∧
    (s.updRing k u).free = s.free ∧ (s.updRing k u).out = s.out ∧ (s.updRing k u).pending = s.pending :=
  by and_intros <;> rfl

@[simp] theorem State.getRing_setRing (s : State) (k : Nat) (v : Ring) : (s.setRing k v).getRing k = v := tabGet_tabPut_self ..

@[simp] theorem State.getRing_updRing (s : State) (k : Nat) (u : Ring → Ring) : (s.updRing k u).getRing k = u (s.getRing k) :=
  tabGet_tabPut_self ..

theorem State.getRing_updRing_ne (s : State) (k j : Nat) (u : Ring → Ring) (h : j ≠ k) : (s.updRing k u).getRing j = s.getRing j :=
  tabGet_tabPut_ne _ _ _ _ _ h

@[simp] theorem State.setEngine_frame (s : State) (k : Nat) (v : Engine) :
    (s.setEngine k v).time = s.time ∧ (s.setEngine k v).glb = s.glb ∧ (s.setEngine k v).quads = s.quads ∧ (s.setEngine k v).host = s.host ∧
    (s.setEngine k v).evt = s.evt ∧ (s.setEngine k v).lanes = s.lanes ∧ (s.setEngine k v).ops = s.ops ∧ (s.setEngine k v).assign = s.assign ∧
    (s.setEngine k v).changes = s.changes ∧ (s.setEngine k v).rings = s.rings ∧ (s.setEngine k v).reqs = s.reqs ∧ (s.setEngine k v).banks = s.banks ∧
    (s.setEngine k v).store = s.store ∧ (s.setEngine k v).cells = s.cells ∧ (s.setEngine k v).tests = s.tests ∧ (s.setEngine k v).links = s.links ∧
    (s.setEngine k v).encs = s.encs ∧ (s.setEngine k v).trigs = s.trigs ∧ (s.setEngine k v).pacers = s.pacers ∧ (s.setEngine k v).gates = s.gates ∧
    (s.setEngine k v).motors = s.motors ∧ (s.setEngine k v).chn = s.chn ∧ (s.setEngine k v).hk = s.hk ∧ (s.setEngine k v).flt = s.flt ∧
    (s.setEngine k v).thn = s.thn ∧ (s.setEngine k v).fuse = s.fuse ∧ (s.setEngine k v).meter = s.meter ∧ (s.setEngine k v).hostMem = s.hostMem ∧
    (s.setEngine k v).free = s.free ∧ (s.setEngine k v).out = s.out ∧ (s.setEngine k v).pending = s.pending :=
  by and_intros <;> rfl

@[simp] theorem State.updEngine_frame (s : State) (k : Nat) (u : Engine → Engine) :
    (s.updEngine k u).time = s.time ∧ (s.updEngine k u).glb = s.glb ∧ (s.updEngine k u).quads = s.quads ∧ (s.updEngine k u).host = s.host ∧
    (s.updEngine k u).evt = s.evt ∧ (s.updEngine k u).lanes = s.lanes ∧ (s.updEngine k u).ops = s.ops ∧ (s.updEngine k u).assign = s.assign ∧
    (s.updEngine k u).changes = s.changes ∧ (s.updEngine k u).rings = s.rings ∧ (s.updEngine k u).reqs = s.reqs ∧ (s.updEngine k u).banks = s.banks ∧
    (s.updEngine k u).store = s.store ∧ (s.updEngine k u).cells = s.cells ∧ (s.updEngine k u).tests = s.tests ∧ (s.updEngine k u).links = s.links ∧
    (s.updEngine k u).encs = s.encs ∧ (s.updEngine k u).trigs = s.trigs ∧ (s.updEngine k u).pacers = s.pacers ∧ (s.updEngine k u).gates = s.gates ∧
    (s.updEngine k u).motors = s.motors ∧ (s.updEngine k u).chn = s.chn ∧ (s.updEngine k u).hk = s.hk ∧ (s.updEngine k u).flt = s.flt ∧
    (s.updEngine k u).thn = s.thn ∧ (s.updEngine k u).fuse = s.fuse ∧ (s.updEngine k u).meter = s.meter ∧ (s.updEngine k u).hostMem = s.hostMem ∧
    (s.updEngine k u).free = s.free ∧ (s.updEngine k u).out = s.out ∧ (s.updEngine k u).pending = s.pending :=
  by and_intros <;> rfl

@[simp] theorem State.getEngine_setEngine (s : State) (k : Nat) (v : Engine) : (s.setEngine k v).getEngine k = v := tabGet_tabPut_self ..

@[simp] theorem State.getEngine_updEngine (s : State) (k : Nat) (u : Engine → Engine) : (s.updEngine k u).getEngine k = u (s.getEngine k) :=
  tabGet_tabPut_self ..

theorem State.getEngine_updEngine_ne (s : State) (k j : Nat) (u : Engine → Engine) (h : j ≠ k) : (s.updEngine k u).getEngine j = s.getEngine j :=
  tabGet_tabPut_ne _ _ _ _ _ h

@[simp] theorem State.setReq_frame (s : State) (k : Nat) (v : ReqLine) :
    (s.setReq k v).time = s.time ∧ (s.setReq k v).glb = s.glb ∧ (s.setReq k v).quads = s.quads ∧ (s.setReq k v).host = s.host ∧
    (s.setReq k v).evt = s.evt ∧ (s.setReq k v).lanes = s.lanes ∧ (s.setReq k v).ops = s.ops ∧ (s.setReq k v).assign = s.assign ∧
    (s.setReq k v).changes = s.changes ∧ (s.setReq k v).rings = s.rings ∧ (s.setReq k v).engines = s.engines ∧ (s.setReq k v).banks = s.banks ∧
    (s.setReq k v).store = s.store ∧ (s.setReq k v).cells = s.cells ∧ (s.setReq k v).tests = s.tests ∧ (s.setReq k v).links = s.links ∧
    (s.setReq k v).encs = s.encs ∧ (s.setReq k v).trigs = s.trigs ∧ (s.setReq k v).pacers = s.pacers ∧ (s.setReq k v).gates = s.gates ∧
    (s.setReq k v).motors = s.motors ∧ (s.setReq k v).chn = s.chn ∧ (s.setReq k v).hk = s.hk ∧ (s.setReq k v).flt = s.flt ∧
    (s.setReq k v).thn = s.thn ∧ (s.setReq k v).fuse = s.fuse ∧ (s.setReq k v).meter = s.meter ∧ (s.setReq k v).hostMem = s.hostMem ∧
    (s.setReq k v).free = s.free ∧ (s.setReq k v).out = s.out ∧ (s.setReq k v).pending = s.pending :=
  by and_intros <;> rfl

@[simp] theorem State.updReq_frame (s : State) (k : Nat) (u : ReqLine → ReqLine) :
    (s.updReq k u).time = s.time ∧ (s.updReq k u).glb = s.glb ∧ (s.updReq k u).quads = s.quads ∧ (s.updReq k u).host = s.host ∧
    (s.updReq k u).evt = s.evt ∧ (s.updReq k u).lanes = s.lanes ∧ (s.updReq k u).ops = s.ops ∧ (s.updReq k u).assign = s.assign ∧
    (s.updReq k u).changes = s.changes ∧ (s.updReq k u).rings = s.rings ∧ (s.updReq k u).engines = s.engines ∧ (s.updReq k u).banks = s.banks ∧
    (s.updReq k u).store = s.store ∧ (s.updReq k u).cells = s.cells ∧ (s.updReq k u).tests = s.tests ∧ (s.updReq k u).links = s.links ∧
    (s.updReq k u).encs = s.encs ∧ (s.updReq k u).trigs = s.trigs ∧ (s.updReq k u).pacers = s.pacers ∧ (s.updReq k u).gates = s.gates ∧
    (s.updReq k u).motors = s.motors ∧ (s.updReq k u).chn = s.chn ∧ (s.updReq k u).hk = s.hk ∧ (s.updReq k u).flt = s.flt ∧
    (s.updReq k u).thn = s.thn ∧ (s.updReq k u).fuse = s.fuse ∧ (s.updReq k u).meter = s.meter ∧ (s.updReq k u).hostMem = s.hostMem ∧
    (s.updReq k u).free = s.free ∧ (s.updReq k u).out = s.out ∧ (s.updReq k u).pending = s.pending :=
  by and_intros <;> rfl

@[simp] theorem State.getReq_setReq (s : State) (k : Nat) (v : ReqLine) : (s.setReq k v).getReq k = v := tabGet_tabPut_self ..

@[simp] theorem State.getReq_updReq (s : State) (k : Nat) (u : ReqLine → ReqLine) : (s.updReq k u).getReq k = u (s.getReq k) :=
  tabGet_tabPut_self ..

theorem State.getReq_updReq_ne (s : State) (k j : Nat) (u : ReqLine → ReqLine) (h : j ≠ k) : (s.updReq k u).getReq j = s.getReq j :=
  tabGet_tabPut_ne _ _ _ _ _ h

@[simp] theorem State.setBank_frame (s : State) (k : Nat) (v : Bank) :
    (s.setBank k v).time = s.time ∧ (s.setBank k v).glb = s.glb ∧ (s.setBank k v).quads = s.quads ∧ (s.setBank k v).host = s.host ∧
    (s.setBank k v).evt = s.evt ∧ (s.setBank k v).lanes = s.lanes ∧ (s.setBank k v).ops = s.ops ∧ (s.setBank k v).assign = s.assign ∧
    (s.setBank k v).changes = s.changes ∧ (s.setBank k v).rings = s.rings ∧ (s.setBank k v).engines = s.engines ∧ (s.setBank k v).reqs = s.reqs ∧
    (s.setBank k v).store = s.store ∧ (s.setBank k v).cells = s.cells ∧ (s.setBank k v).tests = s.tests ∧ (s.setBank k v).links = s.links ∧
    (s.setBank k v).encs = s.encs ∧ (s.setBank k v).trigs = s.trigs ∧ (s.setBank k v).pacers = s.pacers ∧ (s.setBank k v).gates = s.gates ∧
    (s.setBank k v).motors = s.motors ∧ (s.setBank k v).chn = s.chn ∧ (s.setBank k v).hk = s.hk ∧ (s.setBank k v).flt = s.flt ∧
    (s.setBank k v).thn = s.thn ∧ (s.setBank k v).fuse = s.fuse ∧ (s.setBank k v).meter = s.meter ∧ (s.setBank k v).hostMem = s.hostMem ∧
    (s.setBank k v).free = s.free ∧ (s.setBank k v).out = s.out ∧ (s.setBank k v).pending = s.pending :=
  by and_intros <;> rfl

@[simp] theorem State.updBank_frame (s : State) (k : Nat) (u : Bank → Bank) :
    (s.updBank k u).time = s.time ∧ (s.updBank k u).glb = s.glb ∧ (s.updBank k u).quads = s.quads ∧ (s.updBank k u).host = s.host ∧
    (s.updBank k u).evt = s.evt ∧ (s.updBank k u).lanes = s.lanes ∧ (s.updBank k u).ops = s.ops ∧ (s.updBank k u).assign = s.assign ∧
    (s.updBank k u).changes = s.changes ∧ (s.updBank k u).rings = s.rings ∧ (s.updBank k u).engines = s.engines ∧ (s.updBank k u).reqs = s.reqs ∧
    (s.updBank k u).store = s.store ∧ (s.updBank k u).cells = s.cells ∧ (s.updBank k u).tests = s.tests ∧ (s.updBank k u).links = s.links ∧
    (s.updBank k u).encs = s.encs ∧ (s.updBank k u).trigs = s.trigs ∧ (s.updBank k u).pacers = s.pacers ∧ (s.updBank k u).gates = s.gates ∧
    (s.updBank k u).motors = s.motors ∧ (s.updBank k u).chn = s.chn ∧ (s.updBank k u).hk = s.hk ∧ (s.updBank k u).flt = s.flt ∧
    (s.updBank k u).thn = s.thn ∧ (s.updBank k u).fuse = s.fuse ∧ (s.updBank k u).meter = s.meter ∧ (s.updBank k u).hostMem = s.hostMem ∧
    (s.updBank k u).free = s.free ∧ (s.updBank k u).out = s.out ∧ (s.updBank k u).pending = s.pending :=
  by and_intros <;> rfl

@[simp] theorem State.getBank_setBank (s : State) (k : Nat) (v : Bank) : (s.setBank k v).getBank k = v := tabGet_tabPut_self ..

@[simp] theorem State.getBank_updBank (s : State) (k : Nat) (u : Bank → Bank) : (s.updBank k u).getBank k = u (s.getBank k) :=
  tabGet_tabPut_self ..

theorem State.getBank_updBank_ne (s : State) (k j : Nat) (u : Bank → Bank) (h : j ≠ k) : (s.updBank k u).getBank j = s.getBank j :=
  tabGet_tabPut_ne _ _ _ _ _ h

@[simp] theorem State.setCell_frame (s : State) (k : Nat) (v : Cell) :
    (s.setCell k v).time = s.time ∧ (s.setCell k v).glb = s.glb ∧ (s.setCell k v).quads = s.quads ∧ (s.setCell k v).host = s.host ∧
    (s.setCell k v).evt = s.evt ∧ (s.setCell k v).lanes = s.lanes ∧ (s.setCell k v).ops = s.ops ∧ (s.setCell k v).assign = s.assign ∧
    (s.setCell k v).changes = s.changes ∧ (s.setCell k v).rings = s.rings ∧ (s.setCell k v).engines = s.engines ∧ (s.setCell k v).reqs = s.reqs ∧
    (s.setCell k v).banks = s.banks ∧ (s.setCell k v).store = s.store ∧ (s.setCell k v).tests = s.tests ∧ (s.setCell k v).links = s.links ∧
    (s.setCell k v).encs = s.encs ∧ (s.setCell k v).trigs = s.trigs ∧ (s.setCell k v).pacers = s.pacers ∧ (s.setCell k v).gates = s.gates ∧
    (s.setCell k v).motors = s.motors ∧ (s.setCell k v).chn = s.chn ∧ (s.setCell k v).hk = s.hk ∧ (s.setCell k v).flt = s.flt ∧
    (s.setCell k v).thn = s.thn ∧ (s.setCell k v).fuse = s.fuse ∧ (s.setCell k v).meter = s.meter ∧ (s.setCell k v).hostMem = s.hostMem ∧
    (s.setCell k v).free = s.free ∧ (s.setCell k v).out = s.out ∧ (s.setCell k v).pending = s.pending :=
  by and_intros <;> rfl

@[simp] theorem State.updCell_frame (s : State) (k : Nat) (u : Cell → Cell) :
    (s.updCell k u).time = s.time ∧ (s.updCell k u).glb = s.glb ∧ (s.updCell k u).quads = s.quads ∧ (s.updCell k u).host = s.host ∧
    (s.updCell k u).evt = s.evt ∧ (s.updCell k u).lanes = s.lanes ∧ (s.updCell k u).ops = s.ops ∧ (s.updCell k u).assign = s.assign ∧
    (s.updCell k u).changes = s.changes ∧ (s.updCell k u).rings = s.rings ∧ (s.updCell k u).engines = s.engines ∧ (s.updCell k u).reqs = s.reqs ∧
    (s.updCell k u).banks = s.banks ∧ (s.updCell k u).store = s.store ∧ (s.updCell k u).tests = s.tests ∧ (s.updCell k u).links = s.links ∧
    (s.updCell k u).encs = s.encs ∧ (s.updCell k u).trigs = s.trigs ∧ (s.updCell k u).pacers = s.pacers ∧ (s.updCell k u).gates = s.gates ∧
    (s.updCell k u).motors = s.motors ∧ (s.updCell k u).chn = s.chn ∧ (s.updCell k u).hk = s.hk ∧ (s.updCell k u).flt = s.flt ∧
    (s.updCell k u).thn = s.thn ∧ (s.updCell k u).fuse = s.fuse ∧ (s.updCell k u).meter = s.meter ∧ (s.updCell k u).hostMem = s.hostMem ∧
    (s.updCell k u).free = s.free ∧ (s.updCell k u).out = s.out ∧ (s.updCell k u).pending = s.pending :=
  by and_intros <;> rfl

@[simp] theorem State.getCell_setCell (s : State) (k : Nat) (v : Cell) : (s.setCell k v).getCell k = v := tabGet_tabPut_self ..

@[simp] theorem State.getCell_updCell (s : State) (k : Nat) (u : Cell → Cell) : (s.updCell k u).getCell k = u (s.getCell k) :=
  tabGet_tabPut_self ..

theorem State.getCell_updCell_ne (s : State) (k j : Nat) (u : Cell → Cell) (h : j ≠ k) : (s.updCell k u).getCell j = s.getCell j :=
  tabGet_tabPut_ne _ _ _ _ _ h

@[simp] theorem State.setTest_frame (s : State) (k : Nat) (v : SelfTest) :
    (s.setTest k v).time = s.time ∧ (s.setTest k v).glb = s.glb ∧ (s.setTest k v).quads = s.quads ∧ (s.setTest k v).host = s.host ∧
    (s.setTest k v).evt = s.evt ∧ (s.setTest k v).lanes = s.lanes ∧ (s.setTest k v).ops = s.ops ∧ (s.setTest k v).assign = s.assign ∧
    (s.setTest k v).changes = s.changes ∧ (s.setTest k v).rings = s.rings ∧ (s.setTest k v).engines = s.engines ∧ (s.setTest k v).reqs = s.reqs ∧
    (s.setTest k v).banks = s.banks ∧ (s.setTest k v).store = s.store ∧ (s.setTest k v).cells = s.cells ∧ (s.setTest k v).links = s.links ∧
    (s.setTest k v).encs = s.encs ∧ (s.setTest k v).trigs = s.trigs ∧ (s.setTest k v).pacers = s.pacers ∧ (s.setTest k v).gates = s.gates ∧
    (s.setTest k v).motors = s.motors ∧ (s.setTest k v).chn = s.chn ∧ (s.setTest k v).hk = s.hk ∧ (s.setTest k v).flt = s.flt ∧
    (s.setTest k v).thn = s.thn ∧ (s.setTest k v).fuse = s.fuse ∧ (s.setTest k v).meter = s.meter ∧ (s.setTest k v).hostMem = s.hostMem ∧
    (s.setTest k v).free = s.free ∧ (s.setTest k v).out = s.out ∧ (s.setTest k v).pending = s.pending :=
  by and_intros <;> rfl

@[simp] theorem State.updTest_frame (s : State) (k : Nat) (u : SelfTest → SelfTest) :
    (s.updTest k u).time = s.time ∧ (s.updTest k u).glb = s.glb ∧ (s.updTest k u).quads = s.quads ∧ (s.updTest k u).host = s.host ∧
    (s.updTest k u).evt = s.evt ∧ (s.updTest k u).lanes = s.lanes ∧ (s.updTest k u).ops = s.ops ∧ (s.updTest k u).assign = s.assign ∧
    (s.updTest k u).changes = s.changes ∧ (s.updTest k u).rings = s.rings ∧ (s.updTest k u).engines = s.engines ∧ (s.updTest k u).reqs = s.reqs ∧
    (s.updTest k u).banks = s.banks ∧ (s.updTest k u).store = s.store ∧ (s.updTest k u).cells = s.cells ∧ (s.updTest k u).links = s.links ∧
    (s.updTest k u).encs = s.encs ∧ (s.updTest k u).trigs = s.trigs ∧ (s.updTest k u).pacers = s.pacers ∧ (s.updTest k u).gates = s.gates ∧
    (s.updTest k u).motors = s.motors ∧ (s.updTest k u).chn = s.chn ∧ (s.updTest k u).hk = s.hk ∧ (s.updTest k u).flt = s.flt ∧
    (s.updTest k u).thn = s.thn ∧ (s.updTest k u).fuse = s.fuse ∧ (s.updTest k u).meter = s.meter ∧ (s.updTest k u).hostMem = s.hostMem ∧
    (s.updTest k u).free = s.free ∧ (s.updTest k u).out = s.out ∧ (s.updTest k u).pending = s.pending :=
  by and_intros <;> rfl

@[simp] theorem State.getTest_setTest (s : State) (k : Nat) (v : SelfTest) : (s.setTest k v).getTest k = v := tabGet_tabPut_self ..

@[simp] theorem State.getTest_updTest (s : State) (k : Nat) (u : SelfTest → SelfTest) : (s.updTest k u).getTest k = u (s.getTest k) :=
  tabGet_tabPut_self ..

theorem State.getTest_updTest_ne (s : State) (k j : Nat) (u : SelfTest → SelfTest) (h : j ≠ k) : (s.updTest k u).getTest j = s.getTest j :=
  tabGet_tabPut_ne _ _ _ _ _ h

@[simp] theorem State.setLink_frame (s : State) (k : Nat) (v : Link) :
    (s.setLink k v).time = s.time ∧ (s.setLink k v).glb = s.glb ∧ (s.setLink k v).quads = s.quads ∧ (s.setLink k v).host = s.host ∧
    (s.setLink k v).evt = s.evt ∧ (s.setLink k v).lanes = s.lanes ∧ (s.setLink k v).ops = s.ops ∧ (s.setLink k v).assign = s.assign ∧
    (s.setLink k v).changes = s.changes ∧ (s.setLink k v).rings = s.rings ∧ (s.setLink k v).engines = s.engines ∧ (s.setLink k v).reqs = s.reqs ∧
    (s.setLink k v).banks = s.banks ∧ (s.setLink k v).store = s.store ∧ (s.setLink k v).cells = s.cells ∧ (s.setLink k v).tests = s.tests ∧
    (s.setLink k v).encs = s.encs ∧ (s.setLink k v).trigs = s.trigs ∧ (s.setLink k v).pacers = s.pacers ∧ (s.setLink k v).gates = s.gates ∧
    (s.setLink k v).motors = s.motors ∧ (s.setLink k v).chn = s.chn ∧ (s.setLink k v).hk = s.hk ∧ (s.setLink k v).flt = s.flt ∧
    (s.setLink k v).thn = s.thn ∧ (s.setLink k v).fuse = s.fuse ∧ (s.setLink k v).meter = s.meter ∧ (s.setLink k v).hostMem = s.hostMem ∧
    (s.setLink k v).free = s.free ∧ (s.setLink k v).out = s.out ∧ (s.setLink k v).pending = s.pending :=
  by and_intros <;> rfl

@[simp] theorem State.updLink_frame (s : State) (k : Nat) (u : Link → Link) :
    (s.updLink k u).time = s.time ∧ (s.updLink k u).glb = s.glb ∧ (s.updLink k u).quads = s.quads ∧ (s.updLink k u).host = s.host ∧
    (s.updLink k u).evt = s.evt ∧ (s.updLink k u).lanes = s.lanes ∧ (s.updLink k u).ops = s.ops ∧ (s.updLink k u).assign = s.assign ∧
    (s.updLink k u).changes = s.changes ∧ (s.updLink k u).rings = s.rings ∧ (s.updLink k u).engines = s.engines ∧ (s.updLink k u).reqs = s.reqs ∧
    (s.updLink k u).banks = s.banks ∧ (s.updLink k u).store = s.store ∧ (s.updLink k u).cells = s.cells ∧ (s.updLink k u).tests = s.tests ∧
    (s.updLink k u).encs = s.encs ∧ (s.updLink k u).trigs = s.trigs ∧ (s.updLink k u).pacers = s.pacers ∧ (s.updLink k u).gates = s.gates ∧
    (s.updLink k u).motors = s.motors ∧ (s.updLink k u).chn = s.chn ∧ (s.updLink k u).hk = s.hk ∧ (s.updLink k u).flt = s.flt ∧
    (s.updLink k u).thn = s.thn ∧ (s.updLink k u).fuse = s.fuse ∧ (s.updLink k u).meter = s.meter ∧ (s.updLink k u).hostMem = s.hostMem ∧
    (s.updLink k u).free = s.free ∧ (s.updLink k u).out = s.out ∧ (s.updLink k u).pending = s.pending :=
  by and_intros <;> rfl

@[simp] theorem State.getLink_setLink (s : State) (k : Nat) (v : Link) : (s.setLink k v).getLink k = v := tabGet_tabPut_self ..

@[simp] theorem State.getLink_updLink (s : State) (k : Nat) (u : Link → Link) : (s.updLink k u).getLink k = u (s.getLink k) :=
  tabGet_tabPut_self ..

theorem State.getLink_updLink_ne (s : State) (k j : Nat) (u : Link → Link) (h : j ≠ k) : (s.updLink k u).getLink j = s.getLink j :=
  tabGet_tabPut_ne _ _ _ _ _ h

@[simp] theorem State.setEnc_frame (s : State) (k : Nat) (v : Encoder) :
    (s.setEnc k v).time = s.time ∧ (s.setEnc k v).glb = s.glb ∧ (s.setEnc k v).quads = s.quads ∧ (s.setEnc k v).host = s.host ∧
    (s.setEnc k v).evt = s.evt ∧ (s.setEnc k v).lanes = s.lanes ∧ (s.setEnc k v).ops = s.ops ∧ (s.setEnc k v).assign = s.assign ∧
    (s.setEnc k v).changes = s.changes ∧ (s.setEnc k v).rings = s.rings ∧ (s.setEnc k v).engines = s.engines ∧ (s.setEnc k v).reqs = s.reqs ∧
    (s.setEnc k v).banks = s.banks ∧ (s.setEnc k v).store = s.store ∧ (s.setEnc k v).cells = s.cells ∧ (s.setEnc k v).tests = s.tests ∧
    (s.setEnc k v).links = s.links ∧ (s.setEnc k v).trigs = s.trigs ∧ (s.setEnc k v).pacers = s.pacers ∧ (s.setEnc k v).gates = s.gates ∧
    (s.setEnc k v).motors = s.motors ∧ (s.setEnc k v).chn = s.chn ∧ (s.setEnc k v).hk = s.hk ∧ (s.setEnc k v).flt = s.flt ∧
    (s.setEnc k v).thn = s.thn ∧ (s.setEnc k v).fuse = s.fuse ∧ (s.setEnc k v).meter = s.meter ∧ (s.setEnc k v).hostMem = s.hostMem ∧
    (s.setEnc k v).free = s.free ∧ (s.setEnc k v).out = s.out ∧ (s.setEnc k v).pending = s.pending :=
  by and_intros <;> rfl

@[simp] theorem State.updEnc_frame (s : State) (k : Nat) (u : Encoder → Encoder) :
    (s.updEnc k u).time = s.time ∧ (s.updEnc k u).glb = s.glb ∧ (s.updEnc k u).quads = s.quads ∧ (s.updEnc k u).host = s.host ∧
    (s.updEnc k u).evt = s.evt ∧ (s.updEnc k u).lanes = s.lanes ∧ (s.updEnc k u).ops = s.ops ∧ (s.updEnc k u).assign = s.assign ∧
    (s.updEnc k u).changes = s.changes ∧ (s.updEnc k u).rings = s.rings ∧ (s.updEnc k u).engines = s.engines ∧ (s.updEnc k u).reqs = s.reqs ∧
    (s.updEnc k u).banks = s.banks ∧ (s.updEnc k u).store = s.store ∧ (s.updEnc k u).cells = s.cells ∧ (s.updEnc k u).tests = s.tests ∧
    (s.updEnc k u).links = s.links ∧ (s.updEnc k u).trigs = s.trigs ∧ (s.updEnc k u).pacers = s.pacers ∧ (s.updEnc k u).gates = s.gates ∧
    (s.updEnc k u).motors = s.motors ∧ (s.updEnc k u).chn = s.chn ∧ (s.updEnc k u).hk = s.hk ∧ (s.updEnc k u).flt = s.flt ∧
    (s.updEnc k u).thn = s.thn ∧ (s.updEnc k u).fuse = s.fuse ∧ (s.updEnc k u).meter = s.meter ∧ (s.updEnc k u).hostMem = s.hostMem ∧
    (s.updEnc k u).free = s.free ∧ (s.updEnc k u).out = s.out ∧ (s.updEnc k u).pending = s.pending :=
  by and_intros <;> rfl

@[simp] theorem State.getEnc_setEnc (s : State) (k : Nat) (v : Encoder) : (s.setEnc k v).getEnc k = v := tabGet_tabPut_self ..

@[simp] theorem State.getEnc_updEnc (s : State) (k : Nat) (u : Encoder → Encoder) : (s.updEnc k u).getEnc k = u (s.getEnc k) :=
  tabGet_tabPut_self ..

theorem State.getEnc_updEnc_ne (s : State) (k j : Nat) (u : Encoder → Encoder) (h : j ≠ k) : (s.updEnc k u).getEnc j = s.getEnc j :=
  tabGet_tabPut_ne _ _ _ _ _ h

@[simp] theorem State.setTrig_frame (s : State) (k : Nat) (v : Trig) :
    (s.setTrig k v).time = s.time ∧ (s.setTrig k v).glb = s.glb ∧ (s.setTrig k v).quads = s.quads ∧ (s.setTrig k v).host = s.host ∧
    (s.setTrig k v).evt = s.evt ∧ (s.setTrig k v).lanes = s.lanes ∧ (s.setTrig k v).ops = s.ops ∧ (s.setTrig k v).assign = s.assign ∧
    (s.setTrig k v).changes = s.changes ∧ (s.setTrig k v).rings = s.rings ∧ (s.setTrig k v).engines = s.engines ∧ (s.setTrig k v).reqs = s.reqs ∧
    (s.setTrig k v).banks = s.banks ∧ (s.setTrig k v).store = s.store ∧ (s.setTrig k v).cells = s.cells ∧ (s.setTrig k v).tests = s.tests ∧
    (s.setTrig k v).links = s.links ∧ (s.setTrig k v).encs = s.encs ∧ (s.setTrig k v).pacers = s.pacers ∧ (s.setTrig k v).gates = s.gates ∧
    (s.setTrig k v).motors = s.motors ∧ (s.setTrig k v).chn = s.chn ∧ (s.setTrig k v).hk = s.hk ∧ (s.setTrig k v).flt = s.flt ∧
    (s.setTrig k v).thn = s.thn ∧ (s.setTrig k v).fuse = s.fuse ∧ (s.setTrig k v).meter = s.meter ∧ (s.setTrig k v).hostMem = s.hostMem ∧
    (s.setTrig k v).free = s.free ∧ (s.setTrig k v).out = s.out ∧ (s.setTrig k v).pending = s.pending :=
  by and_intros <;> rfl

@[simp] theorem State.updTrig_frame (s : State) (k : Nat) (u : Trig → Trig) :
    (s.updTrig k u).time = s.time ∧ (s.updTrig k u).glb = s.glb ∧ (s.updTrig k u).quads = s.quads ∧ (s.updTrig k u).host = s.host ∧
    (s.updTrig k u).evt = s.evt ∧ (s.updTrig k u).lanes = s.lanes ∧ (s.updTrig k u).ops = s.ops ∧ (s.updTrig k u).assign = s.assign ∧
    (s.updTrig k u).changes = s.changes ∧ (s.updTrig k u).rings = s.rings ∧ (s.updTrig k u).engines = s.engines ∧ (s.updTrig k u).reqs = s.reqs ∧
    (s.updTrig k u).banks = s.banks ∧ (s.updTrig k u).store = s.store ∧ (s.updTrig k u).cells = s.cells ∧ (s.updTrig k u).tests = s.tests ∧
    (s.updTrig k u).links = s.links ∧ (s.updTrig k u).encs = s.encs ∧ (s.updTrig k u).pacers = s.pacers ∧ (s.updTrig k u).gates = s.gates ∧
    (s.updTrig k u).motors = s.motors ∧ (s.updTrig k u).chn = s.chn ∧ (s.updTrig k u).hk = s.hk ∧ (s.updTrig k u).flt = s.flt ∧
    (s.updTrig k u).thn = s.thn ∧ (s.updTrig k u).fuse = s.fuse ∧ (s.updTrig k u).meter = s.meter ∧ (s.updTrig k u).hostMem = s.hostMem ∧
    (s.updTrig k u).free = s.free ∧ (s.updTrig k u).out = s.out ∧ (s.updTrig k u).pending = s.pending :=
  by and_intros <;> rfl

@[simp] theorem State.getTrig_setTrig (s : State) (k : Nat) (v : Trig) : (s.setTrig k v).getTrig k = v := tabGet_tabPut_self ..

@[simp] theorem State.getTrig_updTrig (s : State) (k : Nat) (u : Trig → Trig) : (s.updTrig k u).getTrig k = u (s.getTrig k) :=
  tabGet_tabPut_self ..

theorem State.getTrig_updTrig_ne (s : State) (k j : Nat) (u : Trig → Trig) (h : j ≠ k) : (s.updTrig k u).getTrig j = s.getTrig j :=
  tabGet_tabPut_ne _ _ _ _ _ h

@[simp] theorem State.setPacer_frame (s : State) (k : Nat) (v : Pacer) :
    (s.setPacer k v).time = s.time ∧ (s.setPacer k v).glb = s.glb ∧ (s.setPacer k v).quads = s.quads ∧ (s.setPacer k v).host = s.host ∧
    (s.setPacer k v).evt = s.evt ∧ (s.setPacer k v).lanes = s.lanes ∧ (s.setPacer k v).ops = s.ops ∧ (s.setPacer k v).assign = s.assign ∧
    (s.setPacer k v).changes = s.changes ∧ (s.setPacer k v).rings = s.rings ∧ (s.setPacer k v).engines = s.engines ∧ (s.setPacer k v).reqs = s.reqs ∧
    (s.setPacer k v).banks = s.banks ∧ (s.setPacer k v).store = s.store ∧ (s.setPacer k v).cells = s.cells ∧ (s.setPacer k v).tests = s.tests ∧
    (s.setPacer k v).links = s.links ∧ (s.setPacer k v).encs = s.encs ∧ (s.setPacer k v).trigs = s.trigs ∧ (s.setPacer k v).gates = s.gates ∧
    (s.setPacer k v).motors = s.motors ∧ (s.setPacer k v).chn = s.chn ∧ (s.setPacer k v).hk = s.hk ∧ (s.setPacer k v).flt = s.flt ∧
    (s.setPacer k v).thn = s.thn ∧ (s.setPacer k v).fuse = s.fuse ∧ (s.setPacer k v).meter = s.meter ∧ (s.setPacer k v).hostMem = s.hostMem ∧
    (s.setPacer k v).free = s.free ∧ (s.setPacer k v).out = s.out ∧ (s.setPacer k v).pending = s.pending :=
  by and_intros <;> rfl

@[simp] theorem State.updPacer_frame (s : State) (k : Nat) (u : Pacer → Pacer) :
    (s.updPacer k u).time = s.time ∧ (s.updPacer k u).glb = s.glb ∧ (s.updPacer k u).quads = s.quads ∧ (s.updPacer k u).host = s.host ∧
    (s.updPacer k u).evt = s.evt ∧ (s.updPacer k u).lanes = s.lanes ∧ (s.updPacer k u).ops = s.ops ∧ (s.updPacer k u).assign = s.assign ∧
    (s.updPacer k u).changes = s.changes ∧ (s.updPacer k u).rings = s.rings ∧ (s.updPacer k u).engines = s.engines ∧ (s.updPacer k u).reqs = s.reqs ∧
    (s.updPacer k u).banks = s.banks ∧ (s.updPacer k u).store = s.store ∧ (s.updPacer k u).cells = s.cells ∧ (s.updPacer k u).tests = s.tests ∧
    (s.updPacer k u).links = s.links ∧ (s.updPacer k u).encs = s.encs ∧ (s.updPacer k u).trigs = s.trigs ∧ (s.updPacer k u).gates = s.gates ∧
    (s.updPacer k u).motors = s.motors ∧ (s.updPacer k u).chn = s.chn ∧ (s.updPacer k u).hk = s.hk ∧ (s.updPacer k u).flt = s.flt ∧
    (s.updPacer k u).thn = s.thn ∧ (s.updPacer k u).fuse = s.fuse ∧ (s.updPacer k u).meter = s.meter ∧ (s.updPacer k u).hostMem = s.hostMem ∧
    (s.updPacer k u).free = s.free ∧ (s.updPacer k u).out = s.out ∧ (s.updPacer k u).pending = s.pending :=
  by and_intros <;> rfl

@[simp] theorem State.getPacer_setPacer (s : State) (k : Nat) (v : Pacer) : (s.setPacer k v).getPacer k = v := tabGet_tabPut_self ..

@[simp] theorem State.getPacer_updPacer (s : State) (k : Nat) (u : Pacer → Pacer) : (s.updPacer k u).getPacer k = u (s.getPacer k) :=
  tabGet_tabPut_self ..

theorem State.getPacer_updPacer_ne (s : State) (k j : Nat) (u : Pacer → Pacer) (h : j ≠ k) : (s.updPacer k u).getPacer j = s.getPacer j :=
  tabGet_tabPut_ne _ _ _ _ _ h

@[simp] theorem State.setGate_frame (s : State) (k : Nat) (v : Gate) :
    (s.setGate k v).time = s.time ∧ (s.setGate k v).glb = s.glb ∧ (s.setGate k v).quads = s.quads ∧ (s.setGate k v).host = s.host ∧
    (s.setGate k v).evt = s.evt ∧ (s.setGate k v).lanes = s.lanes ∧ (s.setGate k v).ops = s.ops ∧ (s.setGate k v).assign = s.assign ∧
    (s.setGate k v).changes = s.changes ∧ (s.setGate k v).rings = s.rings ∧ (s.setGate k v).engines = s.engines ∧ (s.setGate k v).reqs = s.reqs ∧
    (s.setGate k v).banks = s.banks ∧ (s.setGate k v).store = s.store ∧ (s.setGate k v).cells = s.cells ∧ (s.setGate k v).tests = s.tests ∧
    (s.setGate k v).links = s.links ∧ (s.setGate k v).encs = s.encs ∧ (s.setGate k v).trigs = s.trigs ∧ (s.setGate k v).pacers = s.pacers ∧
    (s.setGate k v).motors = s.motors ∧ (s.setGate k v).chn = s.chn ∧ (s.setGate k v).hk = s.hk ∧ (s.setGate k v).flt = s.flt ∧
    (s.setGate k v).thn = s.thn ∧ (s.setGate k v).fuse = s.fuse ∧ (s.setGate k v).meter = s.meter ∧ (s.setGate k v).hostMem = s.hostMem ∧
    (s.setGate k v).free = s.free ∧ (s.setGate k v).out = s.out ∧ (s.setGate k v).pending = s.pending :=
  by and_intros <;> rfl

@[simp] theorem State.updGate_frame (s : State) (k : Nat) (u : Gate → Gate) :
    (s.updGate k u).time = s.time ∧ (s.updGate k u).glb = s.glb ∧ (s.updGate k u).quads = s.quads ∧ (s.updGate k u).host = s.host ∧
    (s.updGate k u).evt = s.evt ∧ (s.updGate k u).lanes = s.lanes ∧ (s.updGate k u).ops = s.ops ∧ (s.updGate k u).assign = s.assign ∧
    (s.updGate k u).changes = s.changes ∧ (s.updGate k u).rings = s.rings ∧ (s.updGate k u).engines = s.engines ∧ (s.updGate k u).reqs = s.reqs ∧
    (s.updGate k u).banks = s.banks ∧ (s.updGate k u).store = s.store ∧ (s.updGate k u).cells = s.cells ∧ (s.updGate k u).tests = s.tests ∧
    (s.updGate k u).links = s.links ∧ (s.updGate k u).encs = s.encs ∧ (s.updGate k u).trigs = s.trigs ∧ (s.updGate k u).pacers = s.pacers ∧
    (s.updGate k u).motors = s.motors ∧ (s.updGate k u).chn = s.chn ∧ (s.updGate k u).hk = s.hk ∧ (s.updGate k u).flt = s.flt ∧
    (s.updGate k u).thn = s.thn ∧ (s.updGate k u).fuse = s.fuse ∧ (s.updGate k u).meter = s.meter ∧ (s.updGate k u).hostMem = s.hostMem ∧
    (s.updGate k u).free = s.free ∧ (s.updGate k u).out = s.out ∧ (s.updGate k u).pending = s.pending :=
  by and_intros <;> rfl

@[simp] theorem State.getGate_setGate (s : State) (k : Nat) (v : Gate) : (s.setGate k v).getGate k = v := tabGet_tabPut_self ..

@[simp] theorem State.getGate_updGate (s : State) (k : Nat) (u : Gate → Gate) : (s.updGate k u).getGate k = u (s.getGate k) :=
  tabGet_tabPut_self ..

theorem State.getGate_updGate_ne (s : State) (k j : Nat) (u : Gate → Gate) (h : j ≠ k) : (s.updGate k u).getGate j = s.getGate j :=
  tabGet_tabPut_ne _ _ _ _ _ h

@[simp] theorem State.setMotor_frame (s : State) (k : Nat) (v : Motor) :
    (s.setMotor k v).time = s.time ∧ (s.setMotor k v).glb = s.glb ∧ (s.setMotor k v).quads = s.quads ∧ (s.setMotor k v).host = s.host ∧
    (s.setMotor k v).evt = s.evt ∧ (s.setMotor k v).lanes = s.lanes ∧ (s.setMotor k v).ops = s.ops ∧ (s.setMotor k v).assign = s.assign ∧
    (s.setMotor k v).changes = s.changes ∧ (s.setMotor k v).rings = s.rings ∧ (s.setMotor k v).engines = s.engines ∧ (s.setMotor k v).reqs = s.reqs ∧
    (s.setMotor k v).banks = s.banks ∧ (s.setMotor k v).store = s.store ∧ (s.setMotor k v).cells = s.cells ∧ (s.setMotor k v).tests = s.tests ∧
    (s.setMotor k v).links = s.links ∧ (s.setMotor k v).encs = s.encs ∧ (s.setMotor k v).trigs = s.trigs ∧ (s.setMotor k v).pacers = s.pacers ∧
    (s.setMotor k v).gates = s.gates ∧ (s.setMotor k v).chn = s.chn ∧ (s.setMotor k v).hk = s.hk ∧ (s.setMotor k v).flt = s.flt ∧
    (s.setMotor k v).thn = s.thn ∧ (s.setMotor k v).fuse = s.fuse ∧ (s.setMotor k v).meter = s.meter ∧ (s.setMotor k v).hostMem = s.hostMem ∧
    (s.setMotor k v).free = s.free ∧ (s.setMotor k v).out = s.out ∧ (s.setMotor k v).pending = s.pending :=
  by and_intros <;> rfl

@[simp] theorem State.updMotor_frame (s : State) (k : Nat) (u : Motor → Motor) :
    (s.updMotor k u).time = s.time ∧ (s.updMotor k u).glb = s.glb ∧ (s.updMotor k u).quads = s.quads ∧ (s.updMotor k u).host = s.host ∧
    (s.updMotor k u).evt = s.evt ∧ (s.updMotor k u).lanes = s.lanes ∧ (s.updMotor k u).ops = s.ops ∧ (s.updMotor k u).assign = s.assign ∧
    (s.updMotor k u).changes = s.changes ∧ (s.updMotor k u).rings = s.rings ∧ (s.updMotor k u).engines = s.engines ∧ (s.updMotor k u).reqs = s.reqs ∧
    (s.updMotor k u).banks = s.banks ∧ (s.updMotor k u).store = s.store ∧ (s.updMotor k u).cells = s.cells ∧ (s.updMotor k u).tests = s.tests ∧
    (s.updMotor k u).links = s.links ∧ (s.updMotor k u).encs = s.encs ∧ (s.updMotor k u).trigs = s.trigs ∧ (s.updMotor k u).pacers = s.pacers ∧
    (s.updMotor k u).gates = s.gates ∧ (s.updMotor k u).chn = s.chn ∧ (s.updMotor k u).hk = s.hk ∧ (s.updMotor k u).flt = s.flt ∧
    (s.updMotor k u).thn = s.thn ∧ (s.updMotor k u).fuse = s.fuse ∧ (s.updMotor k u).meter = s.meter ∧ (s.updMotor k u).hostMem = s.hostMem ∧
    (s.updMotor k u).free = s.free ∧ (s.updMotor k u).out = s.out ∧ (s.updMotor k u).pending = s.pending :=
  by and_intros <;> rfl

@[simp] theorem State.getMotor_setMotor (s : State) (k : Nat) (v : Motor) : (s.setMotor k v).getMotor k = v := tabGet_tabPut_self ..

@[simp] theorem State.getMotor_updMotor (s : State) (k : Nat) (u : Motor → Motor) : (s.updMotor k u).getMotor k = u (s.getMotor k) :=
  tabGet_tabPut_self ..

theorem State.getMotor_updMotor_ne (s : State) (k j : Nat) (u : Motor → Motor) (h : j ≠ k) : (s.updMotor k u).getMotor j = s.getMotor j :=
  tabGet_tabPut_ne _ _ _ _ _ h

@[simp] theorem State.updPort_frame (s : State) (k : Nat) (u : Port → Port) :
    (s.updPort k u).time = s.time ∧ (s.updPort k u).glb = s.glb ∧ (s.updPort k u).quads = s.quads ∧ (s.updPort k u).host = s.host ∧
    (s.updPort k u).evt = s.evt ∧ (s.updPort k u).lanes = s.lanes ∧ (s.updPort k u).ops = s.ops ∧ (s.updPort k u).assign = s.assign ∧
    (s.updPort k u).changes = s.changes ∧ (s.updPort k u).rings = s.rings ∧ (s.updPort k u).engines = s.engines ∧ (s.updPort k u).reqs = s.reqs ∧
    (s.updPort k u).banks = s.banks ∧ (s.updPort k u).store = s.store ∧ (s.updPort k u).cells = s.cells ∧ (s.updPort k u).tests = s.tests ∧
    (s.updPort k u).links = s.links ∧ (s.updPort k u).encs = s.encs ∧ (s.updPort k u).trigs = s.trigs ∧ (s.updPort k u).pacers = s.pacers ∧
    (s.updPort k u).gates = s.gates ∧ (s.updPort k u).motors = s.motors ∧ (s.updPort k u).hk = s.hk ∧ (s.updPort k u).flt = s.flt ∧
    (s.updPort k u).thn = s.thn ∧ (s.updPort k u).fuse = s.fuse ∧ (s.updPort k u).meter = s.meter ∧ (s.updPort k u).hostMem = s.hostMem ∧
    (s.updPort k u).free = s.free ∧ (s.updPort k u).out = s.out ∧ (s.updPort k u).pending = s.pending :=
  by and_intros <;> rfl

@[simp] theorem State.getPort_updPort (s : State) (k : Nat) (u : Port → Port) : (s.updPort k u).getPort k = u (s.getPort k) :=
  tabGet_tabPut_self ..

@[simp] theorem State.updPin_frame (s : State) (k : Nat) (u : Pin → Pin) :
    (s.updPin k u).time = s.time ∧ (s.updPin k u).glb = s.glb ∧ (s.updPin k u).quads = s.quads ∧ (s.updPin k u).host = s.host ∧
    (s.updPin k u).evt = s.evt ∧ (s.updPin k u).lanes = s.lanes ∧ (s.updPin k u).ops = s.ops ∧ (s.updPin k u).assign = s.assign ∧
    (s.updPin k u).changes = s.changes ∧ (s.updPin k u).rings = s.rings ∧ (s.updPin k u).engines = s.engines ∧ (s.updPin k u).reqs = s.reqs ∧
    (s.updPin k u).banks = s.banks ∧ (s.updPin k u).store = s.store ∧ (s.updPin k u).cells = s.cells ∧ (s.updPin k u).tests = s.tests ∧
    (s.updPin k u).links = s.links ∧ (s.updPin k u).encs = s.encs ∧ (s.updPin k u).trigs = s.trigs ∧ (s.updPin k u).pacers = s.pacers ∧
    (s.updPin k u).gates = s.gates ∧ (s.updPin k u).motors = s.motors ∧ (s.updPin k u).chn = s.chn ∧ (s.updPin k u).flt = s.flt ∧
    (s.updPin k u).thn = s.thn ∧ (s.updPin k u).fuse = s.fuse ∧ (s.updPin k u).meter = s.meter ∧ (s.updPin k u).hostMem = s.hostMem ∧
    (s.updPin k u).free = s.free ∧ (s.updPin k u).out = s.out ∧ (s.updPin k u).pending = s.pending :=
  by and_intros <;> rfl

@[simp] theorem State.getPin_updPin (s : State) (k : Nat) (u : Pin → Pin) : (s.updPin k u).getPin k = u (s.getPin k) :=
  tabGet_tabPut_self ..

@[simp] theorem State.updDie_frame (s : State) (k : Nat) (u : Die → Die) :
    (s.updDie k u).time = s.time ∧ (s.updDie k u).glb = s.glb ∧ (s.updDie k u).quads = s.quads ∧ (s.updDie k u).host = s.host ∧
    (s.updDie k u).evt = s.evt ∧ (s.updDie k u).lanes = s.lanes ∧ (s.updDie k u).ops = s.ops ∧ (s.updDie k u).assign = s.assign ∧
    (s.updDie k u).changes = s.changes ∧ (s.updDie k u).rings = s.rings ∧ (s.updDie k u).engines = s.engines ∧ (s.updDie k u).reqs = s.reqs ∧
    (s.updDie k u).banks = s.banks ∧ (s.updDie k u).store = s.store ∧ (s.updDie k u).cells = s.cells ∧ (s.updDie k u).tests = s.tests ∧
    (s.updDie k u).links = s.links ∧ (s.updDie k u).encs = s.encs ∧ (s.updDie k u).trigs = s.trigs ∧ (s.updDie k u).pacers = s.pacers ∧
    (s.updDie k u).gates = s.gates ∧ (s.updDie k u).motors = s.motors ∧ (s.updDie k u).chn = s.chn ∧ (s.updDie k u).flt = s.flt ∧
    (s.updDie k u).thn = s.thn ∧ (s.updDie k u).fuse = s.fuse ∧ (s.updDie k u).meter = s.meter ∧ (s.updDie k u).hostMem = s.hostMem ∧
    (s.updDie k u).free = s.free ∧ (s.updDie k u).out = s.out ∧ (s.updDie k u).pending = s.pending :=
  by and_intros <;> rfl

@[simp] theorem State.getDie_updDie (s : State) (k : Nat) (u : Die → Die) : (s.updDie k u).getDie k = u (s.getDie k) :=
  tabGet_tabPut_self ..

@[simp] theorem State.updTreq_frame (s : State) (k : Nat) (u : Treq → Treq) :
    (s.updTreq k u).time = s.time ∧ (s.updTreq k u).glb = s.glb ∧ (s.updTreq k u).quads = s.quads ∧ (s.updTreq k u).host = s.host ∧
    (s.updTreq k u).evt = s.evt ∧ (s.updTreq k u).lanes = s.lanes ∧ (s.updTreq k u).ops = s.ops ∧ (s.updTreq k u).assign = s.assign ∧
    (s.updTreq k u).changes = s.changes ∧ (s.updTreq k u).rings = s.rings ∧ (s.updTreq k u).engines = s.engines ∧ (s.updTreq k u).reqs = s.reqs ∧
    (s.updTreq k u).banks = s.banks ∧ (s.updTreq k u).store = s.store ∧ (s.updTreq k u).cells = s.cells ∧ (s.updTreq k u).tests = s.tests ∧
    (s.updTreq k u).links = s.links ∧ (s.updTreq k u).encs = s.encs ∧ (s.updTreq k u).trigs = s.trigs ∧ (s.updTreq k u).pacers = s.pacers ∧
    (s.updTreq k u).gates = s.gates ∧ (s.updTreq k u).motors = s.motors ∧ (s.updTreq k u).chn = s.chn ∧ (s.updTreq k u).flt = s.flt ∧
    (s.updTreq k u).thn = s.thn ∧ (s.updTreq k u).fuse = s.fuse ∧ (s.updTreq k u).meter = s.meter ∧ (s.updTreq k u).hostMem = s.hostMem ∧
    (s.updTreq k u).free = s.free ∧ (s.updTreq k u).out = s.out ∧ (s.updTreq k u).pending = s.pending :=
  by and_intros <;> rfl

@[simp] theorem State.getTreq_updTreq (s : State) (k : Nat) (u : Treq → Treq) : (s.updTreq k u).getTreq k = u (s.getTreq k) :=
  tabGet_tabPut_self ..

@[simp] theorem State.updSrc_frame (s : State) (k : Nat) (u : Src → Src) :
    (s.updSrc k u).time = s.time ∧ (s.updSrc k u).glb = s.glb ∧ (s.updSrc k u).quads = s.quads ∧ (s.updSrc k u).host = s.host ∧
    (s.updSrc k u).evt = s.evt ∧ (s.updSrc k u).lanes = s.lanes ∧ (s.updSrc k u).ops = s.ops ∧ (s.updSrc k u).assign = s.assign ∧
    (s.updSrc k u).changes = s.changes ∧ (s.updSrc k u).rings = s.rings ∧ (s.updSrc k u).engines = s.engines ∧ (s.updSrc k u).reqs = s.reqs ∧
    (s.updSrc k u).banks = s.banks ∧ (s.updSrc k u).store = s.store ∧ (s.updSrc k u).cells = s.cells ∧ (s.updSrc k u).tests = s.tests ∧
    (s.updSrc k u).links = s.links ∧ (s.updSrc k u).encs = s.encs ∧ (s.updSrc k u).trigs = s.trigs ∧ (s.updSrc k u).pacers = s.pacers ∧
    (s.updSrc k u).gates = s.gates ∧ (s.updSrc k u).motors = s.motors ∧ (s.updSrc k u).chn = s.chn ∧ (s.updSrc k u).hk = s.hk ∧
    (s.updSrc k u).thn = s.thn ∧ (s.updSrc k u).fuse = s.fuse ∧ (s.updSrc k u).meter = s.meter ∧ (s.updSrc k u).hostMem = s.hostMem ∧
    (s.updSrc k u).free = s.free ∧ (s.updSrc k u).out = s.out ∧ (s.updSrc k u).pending = s.pending :=
  by and_intros <;> rfl

@[simp] theorem State.getSrc_updSrc (s : State) (k : Nat) (u : Src → Src) : (s.updSrc k u).getSrc k = u (s.getSrc k) :=
  tabGet_tabPut_self ..

@[simp] theorem State.updMeter_frame (s : State) (k : Nat) (u : MeterLane → MeterLane) :
    (s.updMeter k u).time = s.time ∧ (s.updMeter k u).glb = s.glb ∧ (s.updMeter k u).quads = s.quads ∧ (s.updMeter k u).host = s.host ∧
    (s.updMeter k u).evt = s.evt ∧ (s.updMeter k u).lanes = s.lanes ∧ (s.updMeter k u).ops = s.ops ∧ (s.updMeter k u).assign = s.assign ∧
    (s.updMeter k u).changes = s.changes ∧ (s.updMeter k u).rings = s.rings ∧ (s.updMeter k u).engines = s.engines ∧ (s.updMeter k u).reqs = s.reqs ∧
    (s.updMeter k u).banks = s.banks ∧ (s.updMeter k u).store = s.store ∧ (s.updMeter k u).cells = s.cells ∧ (s.updMeter k u).tests = s.tests ∧
    (s.updMeter k u).links = s.links ∧ (s.updMeter k u).encs = s.encs ∧ (s.updMeter k u).trigs = s.trigs ∧ (s.updMeter k u).pacers = s.pacers ∧
    (s.updMeter k u).gates = s.gates ∧ (s.updMeter k u).motors = s.motors ∧ (s.updMeter k u).chn = s.chn ∧ (s.updMeter k u).hk = s.hk ∧
    (s.updMeter k u).flt = s.flt ∧ (s.updMeter k u).thn = s.thn ∧ (s.updMeter k u).fuse = s.fuse ∧ (s.updMeter k u).hostMem = s.hostMem ∧
    (s.updMeter k u).free = s.free ∧ (s.updMeter k u).out = s.out ∧ (s.updMeter k u).pending = s.pending :=
  by and_intros <;> rfl

@[simp] theorem State.getMeter_updMeter (s : State) (k : Nat) (u : MeterLane → MeterLane) : (s.updMeter k u).getMeter k = u (s.getMeter k) :=
  tabGet_tabPut_self ..

@[simp] theorem State.setFuse_frame (s : State) (r w : Nat) (v : W32) :
    (s.setFuse r w v).time = s.time ∧ (s.setFuse r w v).glb = s.glb ∧ (s.setFuse r w v).quads = s.quads ∧ (s.setFuse r w v).host = s.host ∧
    (s.setFuse r w v).evt = s.evt ∧ (s.setFuse r w v).lanes = s.lanes ∧ (s.setFuse r w v).ops = s.ops ∧ (s.setFuse r w v).assign = s.assign ∧
    (s.setFuse r w v).changes = s.changes ∧ (s.setFuse r w v).rings = s.rings ∧ (s.setFuse r w v).engines = s.engines ∧ (s.setFuse r w v).reqs = s.reqs ∧
    (s.setFuse r w v).banks = s.banks ∧ (s.setFuse r w v).store = s.store ∧ (s.setFuse r w v).cells = s.cells ∧ (s.setFuse r w v).tests = s.tests ∧
    (s.setFuse r w v).links = s.links ∧ (s.setFuse r w v).encs = s.encs ∧ (s.setFuse r w v).trigs = s.trigs ∧ (s.setFuse r w v).pacers = s.pacers ∧
    (s.setFuse r w v).gates = s.gates ∧ (s.setFuse r w v).motors = s.motors ∧ (s.setFuse r w v).chn = s.chn ∧ (s.setFuse r w v).hk = s.hk ∧
    (s.setFuse r w v).flt = s.flt ∧ (s.setFuse r w v).thn = s.thn ∧ (s.setFuse r w v).meter = s.meter ∧ (s.setFuse r w v).hostMem = s.hostMem ∧
    (s.setFuse r w v).free = s.free ∧ (s.setFuse r w v).out = s.out ∧ (s.setFuse r w v).pending = s.pending :=
  by and_intros <;> rfl

@[simp] theorem State.send_frame (s : State) (x : Out) :
    (s.send x).time = s.time ∧ (s.send x).glb = s.glb ∧ (s.send x).quads = s.quads ∧ (s.send x).host = s.host ∧
    (s.send x).evt = s.evt ∧ (s.send x).lanes = s.lanes ∧ (s.send x).ops = s.ops ∧ (s.send x).assign = s.assign ∧
    (s.send x).changes = s.changes ∧ (s.send x).rings = s.rings ∧ (s.send x).engines = s.engines ∧ (s.send x).reqs = s.reqs ∧
    (s.send x).banks = s.banks ∧ (s.send x).store = s.store ∧ (s.send x).cells = s.cells ∧ (s.send x).tests = s.tests ∧
    (s.send x).links = s.links ∧ (s.send x).encs = s.encs ∧ (s.send x).trigs = s.trigs ∧ (s.send x).pacers = s.pacers ∧
    (s.send x).gates = s.gates ∧ (s.send x).motors = s.motors ∧ (s.send x).chn = s.chn ∧ (s.send x).hk = s.hk ∧
    (s.send x).flt = s.flt ∧ (s.send x).thn = s.thn ∧ (s.send x).fuse = s.fuse ∧ (s.send x).meter = s.meter ∧
    (s.send x).hostMem = s.hostMem ∧ (s.send x).free = s.free ∧ (s.send x).pending = s.pending :=
  by and_intros <;> rfl

@[simp] theorem State.dma_frame (s : State) (f a : Nat) (bs : List Byte) :
    (s.dma f a bs).time = s.time ∧ (s.dma f a bs).glb = s.glb ∧ (s.dma f a bs).quads = s.quads ∧ (s.dma f a bs).host = s.host ∧
    (s.dma f a bs).evt = s.evt ∧ (s.dma f a bs).lanes = s.lanes ∧ (s.dma f a bs).ops = s.ops ∧ (s.dma f a bs).assign = s.assign ∧
    (s.dma f a bs).changes = s.changes ∧ (s.dma f a bs).rings = s.rings ∧ (s.dma f a bs).engines = s.engines ∧ (s.dma f a bs).reqs = s.reqs ∧
    (s.dma f a bs).banks = s.banks ∧ (s.dma f a bs).store = s.store ∧ (s.dma f a bs).cells = s.cells ∧ (s.dma f a bs).tests = s.tests ∧
    (s.dma f a bs).links = s.links ∧ (s.dma f a bs).encs = s.encs ∧ (s.dma f a bs).trigs = s.trigs ∧ (s.dma f a bs).pacers = s.pacers ∧
    (s.dma f a bs).gates = s.gates ∧ (s.dma f a bs).motors = s.motors ∧ (s.dma f a bs).chn = s.chn ∧ (s.dma f a bs).hk = s.hk ∧
    (s.dma f a bs).flt = s.flt ∧ (s.dma f a bs).thn = s.thn ∧ (s.dma f a bs).fuse = s.fuse ∧ (s.dma f a bs).meter = s.meter ∧
    (s.dma f a bs).free = s.free ∧ (s.dma f a bs).out = s.out ∧ (s.dma f a bs).pending = s.pending :=
  by and_intros <;> rfl

@[simp] theorem State.setDomain_frame (s : State) (d : Nat) (up : Bool) :
    (s.setDomain d up).time = s.time ∧ (s.setDomain d up).quads = s.quads ∧ (s.setDomain d up).host = s.host ∧ (s.setDomain d up).evt = s.evt ∧
    (s.setDomain d up).lanes = s.lanes ∧ (s.setDomain d up).ops = s.ops ∧ (s.setDomain d up).assign = s.assign ∧ (s.setDomain d up).changes = s.changes ∧
    (s.setDomain d up).rings = s.rings ∧ (s.setDomain d up).engines = s.engines ∧ (s.setDomain d up).reqs = s.reqs ∧ (s.setDomain d up).banks = s.banks ∧
    (s.setDomain d up).store = s.store ∧ (s.setDomain d up).cells = s.cells ∧ (s.setDomain d up).tests = s.tests ∧ (s.setDomain d up).links = s.links ∧
    (s.setDomain d up).encs = s.encs ∧ (s.setDomain d up).trigs = s.trigs ∧ (s.setDomain d up).pacers = s.pacers ∧ (s.setDomain d up).gates = s.gates ∧
    (s.setDomain d up).motors = s.motors ∧ (s.setDomain d up).chn = s.chn ∧ (s.setDomain d up).hk = s.hk ∧ (s.setDomain d up).flt = s.flt ∧
    (s.setDomain d up).thn = s.thn ∧ (s.setDomain d up).fuse = s.fuse ∧ (s.setDomain d up).meter = s.meter ∧ (s.setDomain d up).hostMem = s.hostMem ∧
    (s.setDomain d up).free = s.free ∧ (s.setDomain d up).out = s.out ∧ (s.setDomain d up).pending = s.pending :=
  by and_intros <;> rfl

@[simp] theorem State.fresh_frame (s : State)  :
    (s.fresh.2).time = s.time ∧ (s.fresh.2).glb = s.glb ∧ (s.fresh.2).quads = s.quads ∧ (s.fresh.2).host = s.host ∧
    (s.fresh.2).evt = s.evt ∧ (s.fresh.2).lanes = s.lanes ∧ (s.fresh.2).ops = s.ops ∧ (s.fresh.2).assign = s.assign ∧
    (s.fresh.2).changes = s.changes ∧ (s.fresh.2).rings = s.rings ∧ (s.fresh.2).engines = s.engines ∧ (s.fresh.2).reqs = s.reqs ∧
    (s.fresh.2).banks = s.banks ∧ (s.fresh.2).store = s.store ∧ (s.fresh.2).cells = s.cells ∧ (s.fresh.2).tests = s.tests ∧
    (s.fresh.2).links = s.links ∧ (s.fresh.2).encs = s.encs ∧ (s.fresh.2).trigs = s.trigs ∧ (s.fresh.2).pacers = s.pacers ∧
    (s.fresh.2).gates = s.gates ∧ (s.fresh.2).motors = s.motors ∧ (s.fresh.2).chn = s.chn ∧ (s.fresh.2).hk = s.hk ∧
    (s.fresh.2).flt = s.flt ∧ (s.fresh.2).thn = s.thn ∧ (s.fresh.2).fuse = s.fuse ∧ (s.fresh.2).meter = s.meter ∧
    (s.fresh.2).hostMem = s.hostMem ∧ (s.fresh.2).out = s.out ∧ (s.fresh.2).pending = s.pending :=
  by and_intros <;> rfl

end Sys2Proof.Machine
end

