-- ==== Sys2Proof/Laws/Signals.lean ====
section
/-! SUPPORT. What the shared operations of signalling, completion and faults can change: each leaves every field it does not name as it was. -/

namespace Sys2Proof.Machine

/-- It changes no field but host, out. -/
@[simp] theorem State.signal_frame (s : State) (f v : Nat) :
    (s.signal f v).time = s.time ∧ (s.signal f v).glb = s.glb ∧ (s.signal f v).quads = s.quads ∧ (s.signal f v).evt = s.evt ∧
    (s.signal f v).lanes = s.lanes ∧ (s.signal f v).ops = s.ops ∧ (s.signal f v).assign = s.assign ∧ (s.signal f v).changes = s.changes ∧
    (s.signal f v).rings = s.rings ∧ (s.signal f v).engines = s.engines ∧ (s.signal f v).reqs = s.reqs ∧ (s.signal f v).banks = s.banks ∧
    (s.signal f v).store = s.store ∧ (s.signal f v).cells = s.cells ∧ (s.signal f v).tests = s.tests ∧ (s.signal f v).links = s.links ∧
    (s.signal f v).encs = s.encs ∧ (s.signal f v).trigs = s.trigs ∧ (s.signal f v).pacers = s.pacers ∧ (s.signal f v).gates = s.gates ∧
    (s.signal f v).motors = s.motors ∧ (s.signal f v).chn = s.chn ∧ (s.signal f v).hk = s.hk ∧ (s.signal f v).flt = s.flt ∧
    (s.signal f v).thn = s.thn ∧ (s.signal f v).fuse = s.fuse ∧ (s.signal f v).meter = s.meter ∧ (s.signal f v).hostMem = s.hostMem ∧
    (s.signal f v).free = s.free ∧ (s.signal f v).pending = s.pending := by
  unfold State.signal
  split <;> simp

/-- It changes no field but host, evt, out. -/
@[simp] theorem State.raise_frame (s : State) (src : Nat) :
    (s.raise src).time = s.time ∧ (s.raise src).glb = s.glb ∧ (s.raise src).quads = s.quads ∧ (s.raise src).lanes = s.lanes ∧
    (s.raise src).ops = s.ops ∧ (s.raise src).assign = s.assign ∧ (s.raise src).changes = s.changes ∧ (s.raise src).rings = s.rings ∧
    (s.raise src).engines = s.engines ∧ (s.raise src).reqs = s.reqs ∧ (s.raise src).banks = s.banks ∧ (s.raise src).store = s.store ∧
    (s.raise src).cells = s.cells ∧ (s.raise src).tests = s.tests ∧ (s.raise src).links = s.links ∧ (s.raise src).encs = s.encs ∧
    (s.raise src).trigs = s.trigs ∧ (s.raise src).pacers = s.pacers ∧ (s.raise src).gates = s.gates ∧ (s.raise src).motors = s.motors ∧
    (s.raise src).chn = s.chn ∧ (s.raise src).hk = s.hk ∧ (s.raise src).flt = s.flt ∧ (s.raise src).thn = s.thn ∧
    (s.raise src).fuse = s.fuse ∧ (s.raise src).meter = s.meter ∧ (s.raise src).hostMem = s.hostMem ∧ (s.raise src).free = s.free ∧
    (s.raise src).pending = s.pending := by
  unfold State.raise
  split
  · dsimp only
    split <;> simp
  · simp

/-- It changes no field but host, evt, out. -/
@[simp] theorem State.raiseIf_frame (s : State) (b : Bool) (src : Nat) :
    (s.raiseIf b src).time = s.time ∧ (s.raiseIf b src).glb = s.glb ∧ (s.raiseIf b src).quads = s.quads ∧ (s.raiseIf b src).lanes = s.lanes ∧
    (s.raiseIf b src).ops = s.ops ∧ (s.raiseIf b src).assign = s.assign ∧ (s.raiseIf b src).changes = s.changes ∧ (s.raiseIf b src).rings = s.rings ∧
    (s.raiseIf b src).engines = s.engines ∧ (s.raiseIf b src).reqs = s.reqs ∧ (s.raiseIf b src).banks = s.banks ∧ (s.raiseIf b src).store = s.store ∧
    (s.raiseIf b src).cells = s.cells ∧ (s.raiseIf b src).tests = s.tests ∧ (s.raiseIf b src).links = s.links ∧ (s.raiseIf b src).encs = s.encs ∧
    (s.raiseIf b src).trigs = s.trigs ∧ (s.raiseIf b src).pacers = s.pacers ∧ (s.raiseIf b src).gates = s.gates ∧ (s.raiseIf b src).motors = s.motors ∧
    (s.raiseIf b src).chn = s.chn ∧ (s.raiseIf b src).hk = s.hk ∧ (s.raiseIf b src).flt = s.flt ∧ (s.raiseIf b src).thn = s.thn ∧
    (s.raiseIf b src).fuse = s.fuse ∧ (s.raiseIf b src).meter = s.meter ∧ (s.raiseIf b src).hostMem = s.hostMem ∧ (s.raiseIf b src).free = s.free ∧
    (s.raiseIf b src).pending = s.pending := by
  unfold State.raiseIf
  split <;> simp

/-- It changes no field but host. -/
@[simp] theorem State.aer_frame (s : State) (f : Nat) (e : Aer) :
    (s.aer f e).time = s.time ∧ (s.aer f e).glb = s.glb ∧ (s.aer f e).quads = s.quads ∧ (s.aer f e).evt = s.evt ∧
    (s.aer f e).lanes = s.lanes ∧ (s.aer f e).ops = s.ops ∧ (s.aer f e).assign = s.assign ∧ (s.aer f e).changes = s.changes ∧
    (s.aer f e).rings = s.rings ∧ (s.aer f e).engines = s.engines ∧ (s.aer f e).reqs = s.reqs ∧ (s.aer f e).banks = s.banks ∧
    (s.aer f e).store = s.store ∧ (s.aer f e).cells = s.cells ∧ (s.aer f e).tests = s.tests ∧ (s.aer f e).links = s.links ∧
    (s.aer f e).encs = s.encs ∧ (s.aer f e).trigs = s.trigs ∧ (s.aer f e).pacers = s.pacers ∧ (s.aer f e).gates = s.gates ∧
    (s.aer f e).motors = s.motors ∧ (s.aer f e).chn = s.chn ∧ (s.aer f e).hk = s.hk ∧ (s.aer f e).flt = s.flt ∧
    (s.aer f e).thn = s.thn ∧ (s.aer f e).fuse = s.fuse ∧ (s.aer f e).meter = s.meter ∧ (s.aer f e).hostMem = s.hostMem ∧
    (s.aer f e).free = s.free ∧ (s.aer f e).out = s.out ∧ (s.aer f e).pending = s.pending := by
  simp [State.aer]

/-- It changes no field but host. -/
@[simp] theorem State.stray_frame (s : State) (f : Nat) :
    (s.stray f).time = s.time ∧ (s.stray f).glb = s.glb ∧ (s.stray f).quads = s.quads ∧ (s.stray f).evt = s.evt ∧
    (s.stray f).lanes = s.lanes ∧ (s.stray f).ops = s.ops ∧ (s.stray f).assign = s.assign ∧ (s.stray f).changes = s.changes ∧
    (s.stray f).rings = s.rings ∧ (s.stray f).engines = s.engines ∧ (s.stray f).reqs = s.reqs ∧ (s.stray f).banks = s.banks ∧
    (s.stray f).store = s.store ∧ (s.stray f).cells = s.cells ∧ (s.stray f).tests = s.tests ∧ (s.stray f).links = s.links ∧
    (s.stray f).encs = s.encs ∧ (s.stray f).trigs = s.trigs ∧ (s.stray f).pacers = s.pacers ∧ (s.stray f).gates = s.gates ∧
    (s.stray f).motors = s.motors ∧ (s.stray f).chn = s.chn ∧ (s.stray f).hk = s.hk ∧ (s.stray f).flt = s.flt ∧
    (s.stray f).thn = s.thn ∧ (s.stray f).fuse = s.fuse ∧ (s.stray f).meter = s.meter ∧ (s.stray f).hostMem = s.hostMem ∧
    (s.stray f).free = s.free ∧ (s.stray f).out = s.out ∧ (s.stray f).pending = s.pending := by
  simp [State.stray]

/-- It changes no field but host, evt, out, flt. -/
@[simp] theorem State.setCause_frame (s : State) (b : Nat) (on : Bool) :
    (s.setCause b on).time = s.time ∧ (s.setCause b on).glb = s.glb ∧ (s.setCause b on).quads = s.quads ∧ (s.setCause b on).lanes = s.lanes ∧
    (s.setCause b on).ops = s.ops ∧ (s.setCause b on).assign = s.assign ∧ (s.setCause b on).changes = s.changes ∧ (s.setCause b on).rings = s.rings ∧
    (s.setCause b on).engines = s.engines ∧ (s.setCause b on).reqs = s.reqs ∧ (s.setCause b on).banks = s.banks ∧ (s.setCause b on).store = s.store ∧
    (s.setCause b on).cells = s.cells ∧ (s.setCause b on).tests = s.tests ∧ (s.setCause b on).links = s.links ∧ (s.setCause b on).encs = s.encs ∧
    (s.setCause b on).trigs = s.trigs ∧ (s.setCause b on).pacers = s.pacers ∧ (s.setCause b on).gates = s.gates ∧ (s.setCause b on).motors = s.motors ∧
    (s.setCause b on).chn = s.chn ∧ (s.setCause b on).hk = s.hk ∧ (s.setCause b on).thn = s.thn ∧ (s.setCause b on).fuse = s.fuse ∧
    (s.setCause b on).meter = s.meter ∧ (s.setCause b on).hostMem = s.hostMem ∧ (s.setCause b on).free = s.free ∧ (s.setCause b on).pending = s.pending := by
  simp [State.setCause]

/-- It changes no field but host, evt, out, flt. -/
@[simp] theorem State.writeRec_frame (s : State) (r : Rec) (first : Bool) :
    (s.writeRec r first).time = s.time ∧ (s.writeRec r first).glb = s.glb ∧ (s.writeRec r first).quads = s.quads ∧ (s.writeRec r first).lanes = s.lanes ∧
    (s.writeRec r first).ops = s.ops ∧ (s.writeRec r first).assign = s.assign ∧ (s.writeRec r first).changes = s.changes ∧ (s.writeRec r first).rings = s.rings ∧
    (s.writeRec r first).engines = s.engines ∧ (s.writeRec r first).reqs = s.reqs ∧ (s.writeRec r first).banks = s.banks ∧ (s.writeRec r first).store = s.store ∧
    (s.writeRec r first).cells = s.cells ∧ (s.writeRec r first).tests = s.tests ∧ (s.writeRec r first).links = s.links ∧ (s.writeRec r first).encs = s.encs ∧
    (s.writeRec r first).trigs = s.trigs ∧ (s.writeRec r first).pacers = s.pacers ∧ (s.writeRec r first).gates = s.gates ∧ (s.writeRec r first).motors = s.motors ∧
    (s.writeRec r first).chn = s.chn ∧ (s.writeRec r first).hk = s.hk ∧ (s.writeRec r first).thn = s.thn ∧ (s.writeRec r first).fuse = s.fuse ∧
    (s.writeRec r first).meter = s.meter ∧ (s.writeRec r first).hostMem = s.hostMem ∧ (s.writeRec r first).free = s.free ∧ (s.writeRec r first).pending = s.pending := by
  unfold State.writeRec
  split
  · simp
  · split <;> simp

/-- It changes no field but host, evt, out, flt. -/
@[simp] theorem State.faultInj_frame (s : State) (inj : Bool) (src : Nat) (cls : BitVec 2) (inst : Nat) (detail : W64) (stands : Bool) :
    (s.faultInj inj src cls inst detail stands).time = s.time ∧ (s.faultInj inj src cls inst detail stands).glb = s.glb ∧ (s.faultInj inj src cls inst detail stands).quads = s.quads ∧ (s.faultInj inj src cls inst detail stands).lanes = s.lanes ∧
    (s.faultInj inj src cls inst detail stands).ops = s.ops ∧ (s.faultInj inj src cls inst detail stands).assign = s.assign ∧ (s.faultInj inj src cls inst detail stands).changes = s.changes ∧ (s.faultInj inj src cls inst detail stands).rings = s.rings ∧
    (s.faultInj inj src cls inst detail stands).engines = s.engines ∧ (s.faultInj inj src cls inst detail stands).reqs = s.reqs ∧ (s.faultInj inj src cls inst detail stands).banks = s.banks ∧ (s.faultInj inj src cls inst detail stands).store = s.store ∧
    (s.faultInj inj src cls inst detail stands).cells = s.cells ∧ (s.faultInj inj src cls inst detail stands).tests = s.tests ∧ (s.faultInj inj src cls inst detail stands).links = s.links ∧ (s.faultInj inj src cls inst detail stands).encs = s.encs ∧
    (s.faultInj inj src cls inst detail stands).trigs = s.trigs ∧ (s.faultInj inj src cls inst detail stands).pacers = s.pacers ∧ (s.faultInj inj src cls inst detail stands).gates = s.gates ∧ (s.faultInj inj src cls inst detail stands).motors = s.motors ∧
    (s.faultInj inj src cls inst detail stands).chn = s.chn ∧ (s.faultInj inj src cls inst detail stands).hk = s.hk ∧ (s.faultInj inj src cls inst detail stands).thn = s.thn ∧ (s.faultInj inj src cls inst detail stands).fuse = s.fuse ∧
    (s.faultInj inj src cls inst detail stands).meter = s.meter ∧ (s.faultInj inj src cls inst detail stands).hostMem = s.hostMem ∧ (s.faultInj inj src cls inst detail stands).free = s.free ∧ (s.faultInj inj src cls inst detail stands).pending = s.pending := by
  unfold State.faultInj
  dsimp only
  split <;> split <;> simp

/-- It changes no field but host, evt, out, flt. -/
@[simp] theorem State.fault_frame (s : State) (src : Nat) (cls : BitVec 2) (inst : Nat) (detail : W64) (stands : Bool) :
    (s.fault src cls inst detail stands).time = s.time ∧ (s.fault src cls inst detail stands).glb = s.glb ∧ (s.fault src cls inst detail stands).quads = s.quads ∧ (s.fault src cls inst detail stands).lanes = s.lanes ∧
    (s.fault src cls inst detail stands).ops = s.ops ∧ (s.fault src cls inst detail stands).assign = s.assign ∧ (s.fault src cls inst detail stands).changes = s.changes ∧ (s.fault src cls inst detail stands).rings = s.rings ∧
    (s.fault src cls inst detail stands).engines = s.engines ∧ (s.fault src cls inst detail stands).reqs = s.reqs ∧ (s.fault src cls inst detail stands).banks = s.banks ∧ (s.fault src cls inst detail stands).store = s.store ∧
    (s.fault src cls inst detail stands).cells = s.cells ∧ (s.fault src cls inst detail stands).tests = s.tests ∧ (s.fault src cls inst detail stands).links = s.links ∧ (s.fault src cls inst detail stands).encs = s.encs ∧
    (s.fault src cls inst detail stands).trigs = s.trigs ∧ (s.fault src cls inst detail stands).pacers = s.pacers ∧ (s.fault src cls inst detail stands).gates = s.gates ∧ (s.fault src cls inst detail stands).motors = s.motors ∧
    (s.fault src cls inst detail stands).chn = s.chn ∧ (s.fault src cls inst detail stands).hk = s.hk ∧ (s.fault src cls inst detail stands).thn = s.thn ∧ (s.fault src cls inst detail stands).fuse = s.fuse ∧
    (s.fault src cls inst detail stands).meter = s.meter ∧ (s.fault src cls inst detail stands).hostMem = s.hostMem ∧ (s.fault src cls inst detail stands).free = s.free ∧ (s.fault src cls inst detail stands).pending = s.pending := by
  simp [State.fault]

/-- It changes no field but flt. -/
@[simp] theorem State.injDone_frame (s : State)  :
    (s.injDone).time = s.time ∧ (s.injDone).glb = s.glb ∧ (s.injDone).quads = s.quads ∧ (s.injDone).host = s.host ∧
    (s.injDone).evt = s.evt ∧ (s.injDone).lanes = s.lanes ∧ (s.injDone).ops = s.ops ∧ (s.injDone).assign = s.assign ∧
    (s.injDone).changes = s.changes ∧ (s.injDone).rings = s.rings ∧ (s.injDone).engines = s.engines ∧ (s.injDone).reqs = s.reqs ∧
    (s.injDone).banks = s.banks ∧ (s.injDone).store = s.store ∧ (s.injDone).cells = s.cells ∧ (s.injDone).tests = s.tests ∧
    (s.injDone).links = s.links ∧ (s.injDone).encs = s.encs ∧ (s.injDone).trigs = s.trigs ∧ (s.injDone).pacers = s.pacers ∧
    (s.injDone).gates = s.gates ∧ (s.injDone).motors = s.motors ∧ (s.injDone).chn = s.chn ∧ (s.injDone).hk = s.hk ∧
    (s.injDone).thn = s.thn ∧ (s.injDone).fuse = s.fuse ∧ (s.injDone).meter = s.meter ∧ (s.injDone).hostMem = s.hostMem ∧
    (s.injDone).free = s.free ∧ (s.injDone).out = s.out ∧ (s.injDone).pending = s.pending := by
  simp [State.injDone]

/-- It changes no field but host, evt, out, flt. -/
@[simp] theorem State.faultBy_frame (s : State) (b : Bool) (src : Nat) (cls : BitVec 2) (inst : Nat) (detail : W64) (stands : Bool) :
    (s.faultBy b src cls inst detail stands).time = s.time ∧ (s.faultBy b src cls inst detail stands).glb = s.glb ∧ (s.faultBy b src cls inst detail stands).quads = s.quads ∧ (s.faultBy b src cls inst detail stands).lanes = s.lanes ∧
    (s.faultBy b src cls inst detail stands).ops = s.ops ∧ (s.faultBy b src cls inst detail stands).assign = s.assign ∧ (s.faultBy b src cls inst detail stands).changes = s.changes ∧ (s.faultBy b src cls inst detail stands).rings = s.rings ∧
    (s.faultBy b src cls inst detail stands).engines = s.engines ∧ (s.faultBy b src cls inst detail stands).reqs = s.reqs ∧ (s.faultBy b src cls inst detail stands).banks = s.banks ∧ (s.faultBy b src cls inst detail stands).store = s.store ∧
    (s.faultBy b src cls inst detail stands).cells = s.cells ∧ (s.faultBy b src cls inst detail stands).tests = s.tests ∧ (s.faultBy b src cls inst detail stands).links = s.links ∧ (s.faultBy b src cls inst detail stands).encs = s.encs ∧
    (s.faultBy b src cls inst detail stands).trigs = s.trigs ∧ (s.faultBy b src cls inst detail stands).pacers = s.pacers ∧ (s.faultBy b src cls inst detail stands).gates = s.gates ∧ (s.faultBy b src cls inst detail stands).motors = s.motors ∧
    (s.faultBy b src cls inst detail stands).chn = s.chn ∧ (s.faultBy b src cls inst detail stands).hk = s.hk ∧ (s.faultBy b src cls inst detail stands).thn = s.thn ∧ (s.faultBy b src cls inst detail stands).fuse = s.fuse ∧
    (s.faultBy b src cls inst detail stands).meter = s.meter ∧ (s.faultBy b src cls inst detail stands).hostMem = s.hostMem ∧ (s.faultBy b src cls inst detail stands).free = s.free ∧ (s.faultBy b src cls inst detail stands).pending = s.pending := by
  unfold State.faultBy
  dsimp only
  split <;> simp

/-- It changes no field but flt. -/
@[simp] theorem State.endCond_frame (s : State) (src inst : Nat) :
    (s.endCond src inst).time = s.time ∧ (s.endCond src inst).glb = s.glb ∧ (s.endCond src inst).quads = s.quads ∧ (s.endCond src inst).host = s.host ∧
    (s.endCond src inst).evt = s.evt ∧ (s.endCond src inst).lanes = s.lanes ∧ (s.endCond src inst).ops = s.ops ∧ (s.endCond src inst).assign = s.assign ∧
    (s.endCond src inst).changes = s.changes ∧ (s.endCond src inst).rings = s.rings ∧ (s.endCond src inst).engines = s.engines ∧ (s.endCond src inst).reqs = s.reqs ∧
    (s.endCond src inst).banks = s.banks ∧ (s.endCond src inst).store = s.store ∧ (s.endCond src inst).cells = s.cells ∧ (s.endCond src inst).tests = s.tests ∧
    (s.endCond src inst).links = s.links ∧ (s.endCond src inst).encs = s.encs ∧ (s.endCond src inst).trigs = s.trigs ∧ (s.endCond src inst).pacers = s.pacers ∧
    (s.endCond src inst).gates = s.gates ∧ (s.endCond src inst).motors = s.motors ∧ (s.endCond src inst).chn = s.chn ∧ (s.endCond src inst).hk = s.hk ∧
    (s.endCond src inst).thn = s.thn ∧ (s.endCond src inst).fuse = s.fuse ∧ (s.endCond src inst).meter = s.meter ∧ (s.endCond src inst).hostMem = s.hostMem ∧
    (s.endCond src inst).free = s.free ∧ (s.endCond src inst).out = s.out ∧ (s.endCond src inst).pending = s.pending := by
  unfold State.endCond
  split <;> simp

/-- It changes no field but host, evt, out, flt. -/
@[simp] theorem State.recover_frame (s : State) (src : Nat) :
    (s.recover src).time = s.time ∧ (s.recover src).glb = s.glb ∧ (s.recover src).quads = s.quads ∧ (s.recover src).lanes = s.lanes ∧
    (s.recover src).ops = s.ops ∧ (s.recover src).assign = s.assign ∧ (s.recover src).changes = s.changes ∧ (s.recover src).rings = s.rings ∧
    (s.recover src).engines = s.engines ∧ (s.recover src).reqs = s.reqs ∧ (s.recover src).banks = s.banks ∧ (s.recover src).store = s.store ∧
    (s.recover src).cells = s.cells ∧ (s.recover src).tests = s.tests ∧ (s.recover src).links = s.links ∧ (s.recover src).encs = s.encs ∧
    (s.recover src).trigs = s.trigs ∧ (s.recover src).pacers = s.pacers ∧ (s.recover src).gates = s.gates ∧ (s.recover src).motors = s.motors ∧
    (s.recover src).chn = s.chn ∧ (s.recover src).hk = s.hk ∧ (s.recover src).thn = s.thn ∧ (s.recover src).fuse = s.fuse ∧
    (s.recover src).meter = s.meter ∧ (s.recover src).hostMem = s.hostMem ∧ (s.recover src).free = s.free ∧ (s.recover src).pending = s.pending := by
  unfold State.recover
  dsimp only
  generalize (!(s.getSrc src).inj && decide ((s.getSrc src).rlim ≠ 0) && !(s.getSrc src).pers && _) = e
  cases e <;> simp

/-- It changes no field but host, evt, out, cells. -/
@[simp] theorem State.cellEvt_frame (s : State) (c i : Nat) :
    (s.cellEvt c i).time = s.time ∧ (s.cellEvt c i).glb = s.glb ∧ (s.cellEvt c i).quads = s.quads ∧ (s.cellEvt c i).lanes = s.lanes ∧
    (s.cellEvt c i).ops = s.ops ∧ (s.cellEvt c i).assign = s.assign ∧ (s.cellEvt c i).changes = s.changes ∧ (s.cellEvt c i).rings = s.rings ∧
    (s.cellEvt c i).engines = s.engines ∧ (s.cellEvt c i).reqs = s.reqs ∧ (s.cellEvt c i).banks = s.banks ∧ (s.cellEvt c i).store = s.store ∧
    (s.cellEvt c i).tests = s.tests ∧ (s.cellEvt c i).links = s.links ∧ (s.cellEvt c i).encs = s.encs ∧ (s.cellEvt c i).trigs = s.trigs ∧
    (s.cellEvt c i).pacers = s.pacers ∧ (s.cellEvt c i).gates = s.gates ∧ (s.cellEvt c i).motors = s.motors ∧ (s.cellEvt c i).chn = s.chn ∧
    (s.cellEvt c i).hk = s.hk ∧ (s.cellEvt c i).flt = s.flt ∧ (s.cellEvt c i).thn = s.thn ∧ (s.cellEvt c i).fuse = s.fuse ∧
    (s.cellEvt c i).meter = s.meter ∧ (s.cellEvt c i).hostMem = s.hostMem ∧ (s.cellEvt c i).free = s.free ∧ (s.cellEvt c i).pending = s.pending := by
  simp [State.cellEvt]

/-- It changes no field but host, evt, out, cells. -/
@[simp] theorem State.linkEvt_frame (s : State) (c i : Nat) :
    (s.linkEvt c i).time = s.time ∧ (s.linkEvt c i).glb = s.glb ∧ (s.linkEvt c i).quads = s.quads ∧ (s.linkEvt c i).lanes = s.lanes ∧
    (s.linkEvt c i).ops = s.ops ∧ (s.linkEvt c i).assign = s.assign ∧ (s.linkEvt c i).changes = s.changes ∧ (s.linkEvt c i).rings = s.rings ∧
    (s.linkEvt c i).engines = s.engines ∧ (s.linkEvt c i).reqs = s.reqs ∧ (s.linkEvt c i).banks = s.banks ∧ (s.linkEvt c i).store = s.store ∧
    (s.linkEvt c i).tests = s.tests ∧ (s.linkEvt c i).links = s.links ∧ (s.linkEvt c i).encs = s.encs ∧ (s.linkEvt c i).trigs = s.trigs ∧
    (s.linkEvt c i).pacers = s.pacers ∧ (s.linkEvt c i).gates = s.gates ∧ (s.linkEvt c i).motors = s.motors ∧ (s.linkEvt c i).chn = s.chn ∧
    (s.linkEvt c i).hk = s.hk ∧ (s.linkEvt c i).flt = s.flt ∧ (s.linkEvt c i).thn = s.thn ∧ (s.linkEvt c i).fuse = s.fuse ∧
    (s.linkEvt c i).meter = s.meter ∧ (s.linkEvt c i).hostMem = s.hostMem ∧ (s.linkEvt c i).free = s.free ∧ (s.linkEvt c i).pending = s.pending := by
  unfold State.linkEvt
  dsimp only
  split <;> simp

/-- It changes no field but host, evt, out, cells. -/
@[simp] theorem State.hlEvt_frame (s : State) (l i : Nat) :
    (s.hlEvt l i).time = s.time ∧ (s.hlEvt l i).glb = s.glb ∧ (s.hlEvt l i).quads = s.quads ∧ (s.hlEvt l i).lanes = s.lanes ∧
    (s.hlEvt l i).ops = s.ops ∧ (s.hlEvt l i).assign = s.assign ∧ (s.hlEvt l i).changes = s.changes ∧ (s.hlEvt l i).rings = s.rings ∧
    (s.hlEvt l i).engines = s.engines ∧ (s.hlEvt l i).reqs = s.reqs ∧ (s.hlEvt l i).banks = s.banks ∧ (s.hlEvt l i).store = s.store ∧
    (s.hlEvt l i).tests = s.tests ∧ (s.hlEvt l i).links = s.links ∧ (s.hlEvt l i).encs = s.encs ∧ (s.hlEvt l i).trigs = s.trigs ∧
    (s.hlEvt l i).pacers = s.pacers ∧ (s.hlEvt l i).gates = s.gates ∧ (s.hlEvt l i).motors = s.motors ∧ (s.hlEvt l i).chn = s.chn ∧
    (s.hlEvt l i).hk = s.hk ∧ (s.hlEvt l i).flt = s.flt ∧ (s.hlEvt l i).thn = s.thn ∧ (s.hlEvt l i).fuse = s.fuse ∧
    (s.hlEvt l i).meter = s.meter ∧ (s.hlEvt l i).hostMem = s.hostMem ∧ (s.hlEvt l i).free = s.free ∧ (s.hlEvt l i).pending = s.pending := by
  simp [State.hlEvt]

/-- It changes no field but host, evt, out, cells, gates. -/
@[simp] theorem State.gateEvt_frame (s : State) (g i : Nat) :
    (s.gateEvt g i).time = s.time ∧ (s.gateEvt g i).glb = s.glb ∧ (s.gateEvt g i).quads = s.quads ∧ (s.gateEvt g i).lanes = s.lanes ∧
    (s.gateEvt g i).ops = s.ops ∧ (s.gateEvt g i).assign = s.assign ∧ (s.gateEvt g i).changes = s.changes ∧ (s.gateEvt g i).rings = s.rings ∧
    (s.gateEvt g i).engines = s.engines ∧ (s.gateEvt g i).reqs = s.reqs ∧ (s.gateEvt g i).banks = s.banks ∧ (s.gateEvt g i).store = s.store ∧
    (s.gateEvt g i).tests = s.tests ∧ (s.gateEvt g i).links = s.links ∧ (s.gateEvt g i).encs = s.encs ∧ (s.gateEvt g i).trigs = s.trigs ∧
    (s.gateEvt g i).pacers = s.pacers ∧ (s.gateEvt g i).motors = s.motors ∧ (s.gateEvt g i).chn = s.chn ∧ (s.gateEvt g i).hk = s.hk ∧
    (s.gateEvt g i).flt = s.flt ∧ (s.gateEvt g i).thn = s.thn ∧ (s.gateEvt g i).fuse = s.fuse ∧ (s.gateEvt g i).meter = s.meter ∧
    (s.gateEvt g i).hostMem = s.hostMem ∧ (s.gateEvt g i).free = s.free ∧ (s.gateEvt g i).pending = s.pending := by
  unfold State.gateEvt
  dsimp only
  split <;> simp

/-- It changes no field but host, evt, out, pacers. -/
@[simp] theorem State.pacerEvt_frame (s : State) (p i : Nat) :
    (s.pacerEvt p i).time = s.time ∧ (s.pacerEvt p i).glb = s.glb ∧ (s.pacerEvt p i).quads = s.quads ∧ (s.pacerEvt p i).lanes = s.lanes ∧
    (s.pacerEvt p i).ops = s.ops ∧ (s.pacerEvt p i).assign = s.assign ∧ (s.pacerEvt p i).changes = s.changes ∧ (s.pacerEvt p i).rings = s.rings ∧
    (s.pacerEvt p i).engines = s.engines ∧ (s.pacerEvt p i).reqs = s.reqs ∧ (s.pacerEvt p i).banks = s.banks ∧ (s.pacerEvt p i).store = s.store ∧
    (s.pacerEvt p i).cells = s.cells ∧ (s.pacerEvt p i).tests = s.tests ∧ (s.pacerEvt p i).links = s.links ∧ (s.pacerEvt p i).encs = s.encs ∧
    (s.pacerEvt p i).trigs = s.trigs ∧ (s.pacerEvt p i).gates = s.gates ∧ (s.pacerEvt p i).motors = s.motors ∧ (s.pacerEvt p i).chn = s.chn ∧
    (s.pacerEvt p i).hk = s.hk ∧ (s.pacerEvt p i).flt = s.flt ∧ (s.pacerEvt p i).thn = s.thn ∧ (s.pacerEvt p i).fuse = s.fuse ∧
    (s.pacerEvt p i).meter = s.meter ∧ (s.pacerEvt p i).hostMem = s.hostMem ∧ (s.pacerEvt p i).free = s.free ∧ (s.pacerEvt p i).pending = s.pending := by
  simp [State.pacerEvt]

/-- It changes no field but host, evt, out, motors. -/
@[simp] theorem State.motorEvt_frame (s : State) (n i : Nat) :
    (s.motorEvt n i).time = s.time ∧ (s.motorEvt n i).glb = s.glb ∧ (s.motorEvt n i).quads = s.quads ∧ (s.motorEvt n i).lanes = s.lanes ∧
    (s.motorEvt n i).ops = s.ops ∧ (s.motorEvt n i).assign = s.assign ∧ (s.motorEvt n i).changes = s.changes ∧ (s.motorEvt n i).rings = s.rings ∧
    (s.motorEvt n i).engines = s.engines ∧ (s.motorEvt n i).reqs = s.reqs ∧ (s.motorEvt n i).banks = s.banks ∧ (s.motorEvt n i).store = s.store ∧
    (s.motorEvt n i).cells = s.cells ∧ (s.motorEvt n i).tests = s.tests ∧ (s.motorEvt n i).links = s.links ∧ (s.motorEvt n i).encs = s.encs ∧
    (s.motorEvt n i).trigs = s.trigs ∧ (s.motorEvt n i).pacers = s.pacers ∧ (s.motorEvt n i).gates = s.gates ∧ (s.motorEvt n i).chn = s.chn ∧
    (s.motorEvt n i).hk = s.hk ∧ (s.motorEvt n i).flt = s.flt ∧ (s.motorEvt n i).thn = s.thn ∧ (s.motorEvt n i).fuse = s.fuse ∧
    (s.motorEvt n i).meter = s.meter ∧ (s.motorEvt n i).hostMem = s.hostMem ∧ (s.motorEvt n i).free = s.free ∧ (s.motorEvt n i).pending = s.pending := by
  simp [State.motorEvt]

/-- It changes no field but ops. -/
@[simp] theorem State.endHandle_frame (s : State) (h : W32) :
    (s.endHandle h).time = s.time ∧ (s.endHandle h).glb = s.glb ∧ (s.endHandle h).quads = s.quads ∧ (s.endHandle h).host = s.host ∧
    (s.endHandle h).evt = s.evt ∧ (s.endHandle h).lanes = s.lanes ∧ (s.endHandle h).assign = s.assign ∧ (s.endHandle h).changes = s.changes ∧
    (s.endHandle h).rings = s.rings ∧ (s.endHandle h).engines = s.engines ∧ (s.endHandle h).reqs = s.reqs ∧ (s.endHandle h).banks = s.banks ∧
    (s.endHandle h).store = s.store ∧ (s.endHandle h).cells = s.cells ∧ (s.endHandle h).tests = s.tests ∧ (s.endHandle h).links = s.links ∧
    (s.endHandle h).encs = s.encs ∧ (s.endHandle h).trigs = s.trigs ∧ (s.endHandle h).pacers = s.pacers ∧ (s.endHandle h).gates = s.gates ∧
    (s.endHandle h).motors = s.motors ∧ (s.endHandle h).chn = s.chn ∧ (s.endHandle h).hk = s.hk ∧ (s.endHandle h).flt = s.flt ∧
    (s.endHandle h).thn = s.thn ∧ (s.endHandle h).fuse = s.fuse ∧ (s.endHandle h).meter = s.meter ∧ (s.endHandle h).hostMem = s.hostMem ∧
    (s.endHandle h).free = s.free ∧ (s.endHandle h).out = s.out ∧ (s.endHandle h).pending = s.pending := by
  simp [State.endHandle]

/-- It changes no field but host, evt, out, hostMem, ops. -/
@[simp] theorem State.writeEntry_frame (s : State) (q : Nat) (e : Entry) :
    (s.writeEntry q e).time = s.time ∧ (s.writeEntry q e).glb = s.glb ∧ (s.writeEntry q e).quads = s.quads ∧ (s.writeEntry q e).lanes = s.lanes ∧
    (s.writeEntry q e).assign = s.assign ∧ (s.writeEntry q e).changes = s.changes ∧ (s.writeEntry q e).rings = s.rings ∧ (s.writeEntry q e).engines = s.engines ∧
    (s.writeEntry q e).reqs = s.reqs ∧ (s.writeEntry q e).banks = s.banks ∧ (s.writeEntry q e).store = s.store ∧ (s.writeEntry q e).cells = s.cells ∧
    (s.writeEntry q e).tests = s.tests ∧ (s.writeEntry q e).links = s.links ∧ (s.writeEntry q e).encs = s.encs ∧ (s.writeEntry q e).trigs = s.trigs ∧
    (s.writeEntry q e).pacers = s.pacers ∧ (s.writeEntry q e).gates = s.gates ∧ (s.writeEntry q e).motors = s.motors ∧ (s.writeEntry q e).chn = s.chn ∧
    (s.writeEntry q e).hk = s.hk ∧ (s.writeEntry q e).flt = s.flt ∧ (s.writeEntry q e).thn = s.thn ∧ (s.writeEntry q e).fuse = s.fuse ∧
    (s.writeEntry q e).meter = s.meter ∧ (s.writeEntry q e).free = s.free ∧ (s.writeEntry q e).pending = s.pending := by
  unfold State.writeEntry
  dsimp only
  split <;> simp

/-- It changes no field but host, evt, out, hostMem, ops. -/
@[simp] theorem State.drain_frame (s : State) (q n : Nat) :
    (s.drain q n).time = s.time ∧ (s.drain q n).glb = s.glb ∧ (s.drain q n).quads = s.quads ∧ (s.drain q n).lanes = s.lanes ∧
    (s.drain q n).assign = s.assign ∧ (s.drain q n).changes = s.changes ∧ (s.drain q n).rings = s.rings ∧ (s.drain q n).engines = s.engines ∧
    (s.drain q n).reqs = s.reqs ∧ (s.drain q n).banks = s.banks ∧ (s.drain q n).store = s.store ∧ (s.drain q n).cells = s.cells ∧
    (s.drain q n).tests = s.tests ∧ (s.drain q n).links = s.links ∧ (s.drain q n).encs = s.encs ∧ (s.drain q n).trigs = s.trigs ∧
    (s.drain q n).pacers = s.pacers ∧ (s.drain q n).gates = s.gates ∧ (s.drain q n).motors = s.motors ∧ (s.drain q n).chn = s.chn ∧
    (s.drain q n).hk = s.hk ∧ (s.drain q n).flt = s.flt ∧ (s.drain q n).thn = s.thn ∧ (s.drain q n).fuse = s.fuse ∧
    (s.drain q n).meter = s.meter ∧ (s.drain q n).free = s.free ∧ (s.drain q n).pending = s.pending := by
  induction n generalizing s with
  | zero => simp [State.drain]
  | succ n ih =>
    unfold State.drain
    dsimp only
    split
    · simp
    · split
      · simp [ih]
      · simp

/-- It changes no field but host, evt, out, hostMem, ops. -/
@[simp] theorem State.post_frame (s : State) (q : Nat) (e : Entry) :
    (s.post q e).time = s.time ∧ (s.post q e).glb = s.glb ∧ (s.post q e).quads = s.quads ∧ (s.post q e).lanes = s.lanes ∧
    (s.post q e).assign = s.assign ∧ (s.post q e).changes = s.changes ∧ (s.post q e).rings = s.rings ∧ (s.post q e).engines = s.engines ∧
    (s.post q e).reqs = s.reqs ∧ (s.post q e).banks = s.banks ∧ (s.post q e).store = s.store ∧ (s.post q e).cells = s.cells ∧
    (s.post q e).tests = s.tests ∧ (s.post q e).links = s.links ∧ (s.post q e).encs = s.encs ∧ (s.post q e).trigs = s.trigs ∧
    (s.post q e).pacers = s.pacers ∧ (s.post q e).gates = s.gates ∧ (s.post q e).motors = s.motors ∧ (s.post q e).chn = s.chn ∧
    (s.post q e).hk = s.hk ∧ (s.post q e).flt = s.flt ∧ (s.post q e).thn = s.thn ∧ (s.post q e).fuse = s.fuse ∧
    (s.post q e).meter = s.meter ∧ (s.post q e).free = s.free ∧ (s.post q e).pending = s.pending := by
  simp [State.post]

/-- It changes no field but host, evt, out, hostMem, ops. -/
@[simp] theorem State.answer_frame (s : State) (q : Nat) (tag : W32) (status : BitVec 16) (detail : Nat) :
    (s.answer q tag status detail).time = s.time ∧ (s.answer q tag status detail).glb = s.glb ∧ (s.answer q tag status detail).quads = s.quads ∧ (s.answer q tag status detail).lanes = s.lanes ∧
    (s.answer q tag status detail).assign = s.assign ∧ (s.answer q tag status detail).changes = s.changes ∧ (s.answer q tag status detail).rings = s.rings ∧ (s.answer q tag status detail).engines = s.engines ∧
    (s.answer q tag status detail).reqs = s.reqs ∧ (s.answer q tag status detail).banks = s.banks ∧ (s.answer q tag status detail).store = s.store ∧ (s.answer q tag status detail).cells = s.cells ∧
    (s.answer q tag status detail).tests = s.tests ∧ (s.answer q tag status detail).links = s.links ∧ (s.answer q tag status detail).encs = s.encs ∧ (s.answer q tag status detail).trigs = s.trigs ∧
    (s.answer q tag status detail).pacers = s.pacers ∧ (s.answer q tag status detail).gates = s.gates ∧ (s.answer q tag status detail).motors = s.motors ∧ (s.answer q tag status detail).chn = s.chn ∧
    (s.answer q tag status detail).hk = s.hk ∧ (s.answer q tag status detail).flt = s.flt ∧ (s.answer q tag status detail).thn = s.thn ∧ (s.answer q tag status detail).fuse = s.fuse ∧
    (s.answer q tag status detail).meter = s.meter ∧ (s.answer q tag status detail).free = s.free ∧ (s.answer q tag status detail).pending = s.pending := by
  simp [State.answer]

/-- It changes no field but host, evt, out, hostMem, ops. -/
@[simp] theorem State.accept_frame (s : State) (q : Nat) (p : Packet) (kind : OpKind) :
    (s.accept q p kind).time = s.time ∧ (s.accept q p kind).glb = s.glb ∧ (s.accept q p kind).quads = s.quads ∧ (s.accept q p kind).lanes = s.lanes ∧
    (s.accept q p kind).assign = s.assign ∧ (s.accept q p kind).changes = s.changes ∧ (s.accept q p kind).rings = s.rings ∧ (s.accept q p kind).engines = s.engines ∧
    (s.accept q p kind).reqs = s.reqs ∧ (s.accept q p kind).banks = s.banks ∧ (s.accept q p kind).store = s.store ∧ (s.accept q p kind).cells = s.cells ∧
    (s.accept q p kind).tests = s.tests ∧ (s.accept q p kind).links = s.links ∧ (s.accept q p kind).encs = s.encs ∧ (s.accept q p kind).trigs = s.trigs ∧
    (s.accept q p kind).pacers = s.pacers ∧ (s.accept q p kind).gates = s.gates ∧ (s.accept q p kind).motors = s.motors ∧ (s.accept q p kind).chn = s.chn ∧
    (s.accept q p kind).hk = s.hk ∧ (s.accept q p kind).flt = s.flt ∧ (s.accept q p kind).thn = s.thn ∧ (s.accept q p kind).fuse = s.fuse ∧
    (s.accept q p kind).meter = s.meter ∧ (s.accept q p kind).free = s.free ∧ (s.accept q p kind).pending = s.pending := by
  simp [State.accept]

/-- It changes no field but host. -/
@[simp] theorem State.takeHead_frame (s : State) (q : Nat) :
    (s.takeHead q).time = s.time ∧ (s.takeHead q).glb = s.glb ∧ (s.takeHead q).quads = s.quads ∧ (s.takeHead q).evt = s.evt ∧
    (s.takeHead q).lanes = s.lanes ∧ (s.takeHead q).ops = s.ops ∧ (s.takeHead q).assign = s.assign ∧ (s.takeHead q).changes = s.changes ∧
    (s.takeHead q).rings = s.rings ∧ (s.takeHead q).engines = s.engines ∧ (s.takeHead q).reqs = s.reqs ∧ (s.takeHead q).banks = s.banks ∧
    (s.takeHead q).store = s.store ∧ (s.takeHead q).cells = s.cells ∧ (s.takeHead q).tests = s.tests ∧ (s.takeHead q).links = s.links ∧
    (s.takeHead q).encs = s.encs ∧ (s.takeHead q).trigs = s.trigs ∧ (s.takeHead q).pacers = s.pacers ∧ (s.takeHead q).gates = s.gates ∧
    (s.takeHead q).motors = s.motors ∧ (s.takeHead q).chn = s.chn ∧ (s.takeHead q).hk = s.hk ∧ (s.takeHead q).flt = s.flt ∧
    (s.takeHead q).thn = s.thn ∧ (s.takeHead q).fuse = s.fuse ∧ (s.takeHead q).meter = s.meter ∧ (s.takeHead q).hostMem = s.hostMem ∧
    (s.takeHead q).free = s.free ∧ (s.takeHead q).out = s.out ∧ (s.takeHead q).pending = s.pending := by
  simp [State.takeHead]

/-- It changes no field but host, evt, out, hostMem, ops. -/
@[simp] theorem State.badOpcode_frame (s : State) (q : Nat) (tag : W32) :
    (s.badOpcode q tag).time = s.time ∧ (s.badOpcode q tag).glb = s.glb ∧ (s.badOpcode q tag).quads = s.quads ∧ (s.badOpcode q tag).lanes = s.lanes ∧
    (s.badOpcode q tag).assign = s.assign ∧ (s.badOpcode q tag).changes = s.changes ∧ (s.badOpcode q tag).rings = s.rings ∧ (s.badOpcode q tag).engines = s.engines ∧
    (s.badOpcode q tag).reqs = s.reqs ∧ (s.badOpcode q tag).banks = s.banks ∧ (s.badOpcode q tag).store = s.store ∧ (s.badOpcode q tag).cells = s.cells ∧
    (s.badOpcode q tag).tests = s.tests ∧ (s.badOpcode q tag).links = s.links ∧ (s.badOpcode q tag).encs = s.encs ∧ (s.badOpcode q tag).trigs = s.trigs ∧
    (s.badOpcode q tag).pacers = s.pacers ∧ (s.badOpcode q tag).gates = s.gates ∧ (s.badOpcode q tag).motors = s.motors ∧ (s.badOpcode q tag).chn = s.chn ∧
    (s.badOpcode q tag).hk = s.hk ∧ (s.badOpcode q tag).flt = s.flt ∧ (s.badOpcode q tag).thn = s.thn ∧ (s.badOpcode q tag).fuse = s.fuse ∧
    (s.badOpcode q tag).meter = s.meter ∧ (s.badOpcode q tag).free = s.free ∧ (s.badOpcode q tag).pending = s.pending := by
  simp [State.badOpcode]

/-- It changes no field but host, evt, out, hostMem, ops. -/
@[simp] theorem State.serveUnknown_frame (s : State) (q n : Nat) :
    (s.serveUnknown q n).time = s.time ∧ (s.serveUnknown q n).glb = s.glb ∧ (s.serveUnknown q n).quads = s.quads ∧ (s.serveUnknown q n).lanes = s.lanes ∧
    (s.serveUnknown q n).assign = s.assign ∧ (s.serveUnknown q n).changes = s.changes ∧ (s.serveUnknown q n).rings = s.rings ∧ (s.serveUnknown q n).engines = s.engines ∧
    (s.serveUnknown q n).reqs = s.reqs ∧ (s.serveUnknown q n).banks = s.banks ∧ (s.serveUnknown q n).store = s.store ∧ (s.serveUnknown q n).cells = s.cells ∧
    (s.serveUnknown q n).tests = s.tests ∧ (s.serveUnknown q n).links = s.links ∧ (s.serveUnknown q n).encs = s.encs ∧ (s.serveUnknown q n).trigs = s.trigs ∧
    (s.serveUnknown q n).pacers = s.pacers ∧ (s.serveUnknown q n).gates = s.gates ∧ (s.serveUnknown q n).motors = s.motors ∧ (s.serveUnknown q n).chn = s.chn ∧
    (s.serveUnknown q n).hk = s.hk ∧ (s.serveUnknown q n).flt = s.flt ∧ (s.serveUnknown q n).thn = s.thn ∧ (s.serveUnknown q n).fuse = s.fuse ∧
    (s.serveUnknown q n).meter = s.meter ∧ (s.serveUnknown q n).free = s.free ∧ (s.serveUnknown q n).pending = s.pending := by
  induction n generalizing s with
  | zero => simp [State.serveUnknown]
  | succ n ih =>
    unfold State.serveUnknown
    dsimp only
    split
    · split <;> simp [ih]
    · simp
    · simp
    · split
      · split <;> simp [ih]
      · simp

/-- It changes no field but host, evt, out, hostMem, ops. -/
@[simp] theorem State.serveAll_frame (s : State) (q : Nat) :
    (s.serveAll q).time = s.time ∧ (s.serveAll q).glb = s.glb ∧ (s.serveAll q).quads = s.quads ∧ (s.serveAll q).lanes = s.lanes ∧
    (s.serveAll q).assign = s.assign ∧ (s.serveAll q).changes = s.changes ∧ (s.serveAll q).rings = s.rings ∧ (s.serveAll q).engines = s.engines ∧
    (s.serveAll q).reqs = s.reqs ∧ (s.serveAll q).banks = s.banks ∧ (s.serveAll q).store = s.store ∧ (s.serveAll q).cells = s.cells ∧
    (s.serveAll q).tests = s.tests ∧ (s.serveAll q).links = s.links ∧ (s.serveAll q).encs = s.encs ∧ (s.serveAll q).trigs = s.trigs ∧
    (s.serveAll q).pacers = s.pacers ∧ (s.serveAll q).gates = s.gates ∧ (s.serveAll q).motors = s.motors ∧ (s.serveAll q).chn = s.chn ∧
    (s.serveAll q).hk = s.hk ∧ (s.serveAll q).flt = s.flt ∧ (s.serveAll q).thn = s.thn ∧ (s.serveAll q).fuse = s.fuse ∧
    (s.serveAll q).meter = s.meter ∧ (s.serveAll q).free = s.free ∧ (s.serveAll q).pending = s.pending := by
  simp [State.serveAll]

/-- With no packet of no row in the ring, and none of them waiting under FENCE, there is nothing to serve. -/
theorem State.serveUnknown_id (s : State) (q n : Nat) (hu : (s.getHost q).unknown = [])
    (hf : ∀ f, (s.getHost q).fence = some f → f.cmd ≠ none) : s.serveUnknown q n = s := by
  cases n with
  | zero => rfl
  | succ n =>
    unfold State.serveUnknown
    dsimp only
    rw [hu]
    split
    · rename_i h
      exact absurd rfl (hf _ h)
    · rfl
    · rfl
    · rename_i h
      cases h

/-- With no packet of no row in the ring, and none of them waiting under FENCE, there is nothing to serve. -/
theorem State.serveAll_id (s : State) (q : Nat) (hu : (s.getHost q).unknown = [])
    (hf : ∀ f, (s.getHost q).fence = some f → f.cmd ≠ none) : s.serveAll q = s := State.serveUnknown_id s q _ hu hf

/-- It changes no field but host, evt, out, hostMem, ops. -/
@[simp] theorem State.finish_frame (s : State) (h : W32) (status : BitVec 16) (detail : Nat) :
    (s.finish h status detail).time = s.time ∧ (s.finish h status detail).glb = s.glb ∧ (s.finish h status detail).quads = s.quads ∧ (s.finish h status detail).lanes = s.lanes ∧
    (s.finish h status detail).assign = s.assign ∧ (s.finish h status detail).changes = s.changes ∧ (s.finish h status detail).rings = s.rings ∧ (s.finish h status detail).engines = s.engines ∧
    (s.finish h status detail).reqs = s.reqs ∧ (s.finish h status detail).banks = s.banks ∧ (s.finish h status detail).store = s.store ∧ (s.finish h status detail).cells = s.cells ∧
    (s.finish h status detail).tests = s.tests ∧ (s.finish h status detail).links = s.links ∧ (s.finish h status detail).encs = s.encs ∧ (s.finish h status detail).trigs = s.trigs ∧
    (s.finish h status detail).pacers = s.pacers ∧ (s.finish h status detail).gates = s.gates ∧ (s.finish h status detail).motors = s.motors ∧ (s.finish h status detail).chn = s.chn ∧
    (s.finish h status detail).hk = s.hk ∧ (s.finish h status detail).flt = s.flt ∧ (s.finish h status detail).thn = s.thn ∧ (s.finish h status detail).fuse = s.fuse ∧
    (s.finish h status detail).meter = s.meter ∧ (s.finish h status detail).free = s.free ∧ (s.finish h status detail).pending = s.pending := by
  unfold State.finish
  split <;> simp

/-- It changes no field but free, hostMem. -/
@[simp] theorem State.freeBuf_frame (s : State) (q addr n : Nat) :
    (s.freeBuf q addr n).time = s.time ∧ (s.freeBuf q addr n).glb = s.glb ∧ (s.freeBuf q addr n).quads = s.quads ∧ (s.freeBuf q addr n).host = s.host ∧
    (s.freeBuf q addr n).evt = s.evt ∧ (s.freeBuf q addr n).lanes = s.lanes ∧ (s.freeBuf q addr n).ops = s.ops ∧ (s.freeBuf q addr n).assign = s.assign ∧
    (s.freeBuf q addr n).changes = s.changes ∧ (s.freeBuf q addr n).rings = s.rings ∧ (s.freeBuf q addr n).engines = s.engines ∧ (s.freeBuf q addr n).reqs = s.reqs ∧
    (s.freeBuf q addr n).banks = s.banks ∧ (s.freeBuf q addr n).store = s.store ∧ (s.freeBuf q addr n).cells = s.cells ∧ (s.freeBuf q addr n).tests = s.tests ∧
    (s.freeBuf q addr n).links = s.links ∧ (s.freeBuf q addr n).encs = s.encs ∧ (s.freeBuf q addr n).trigs = s.trigs ∧ (s.freeBuf q addr n).pacers = s.pacers ∧
    (s.freeBuf q addr n).gates = s.gates ∧ (s.freeBuf q addr n).motors = s.motors ∧ (s.freeBuf q addr n).chn = s.chn ∧ (s.freeBuf q addr n).hk = s.hk ∧
    (s.freeBuf q addr n).flt = s.flt ∧ (s.freeBuf q addr n).thn = s.thn ∧ (s.freeBuf q addr n).fuse = s.fuse ∧ (s.freeBuf q addr n).meter = s.meter ∧
    (s.freeBuf q addr n).out = s.out ∧ (s.freeBuf q addr n).pending = s.pending := by
  simp [State.freeBuf]

/-- A fold keeps what each of its steps keeps. -/
theorem foldl_keeps {α β γ : Type} (g : β → γ) (u : β → α → β) (h : ∀ s a, g (u s a) = g s) (l : List α) :
    ∀ s : β, g (l.foldl u s) = g s := by
  induction l with
  | nil => intro s; rfl
  | cons a l ih => intro s; exact (ih (u s a)).trans (h s a)

/-- A fold keeps an invariant that each of its steps keeps. -/
theorem foldl_inv {α β : Type} (P : β → Prop) (u : β → α → β) (h : ∀ s a, P s → P (u s a)) (l : List α) :
    ∀ s : β, P s → P (l.foldl u s) := by
  induction l with
  | nil => intro s hs; exact hs
  | cons a l ih => intro s hs; exact ih _ (h s a hs)

/-- It changes no field but host, evt, out, hostMem, ops. -/
@[simp] theorem State.finishAll_frame (s : State) (p : Op → Bool) (status : BitVec 16) (detail : Nat) :
    (s.finishAll p status detail).time = s.time ∧ (s.finishAll p status detail).glb = s.glb ∧ (s.finishAll p status detail).quads = s.quads ∧ (s.finishAll p status detail).lanes = s.lanes ∧
    (s.finishAll p status detail).assign = s.assign ∧ (s.finishAll p status detail).changes = s.changes ∧ (s.finishAll p status detail).rings = s.rings ∧ (s.finishAll p status detail).engines = s.engines ∧
    (s.finishAll p status detail).reqs = s.reqs ∧ (s.finishAll p status detail).banks = s.banks ∧ (s.finishAll p status detail).store = s.store ∧ (s.finishAll p status detail).cells = s.cells ∧
    (s.finishAll p status detail).tests = s.tests ∧ (s.finishAll p status detail).links = s.links ∧ (s.finishAll p status detail).encs = s.encs ∧ (s.finishAll p status detail).trigs = s.trigs ∧
    (s.finishAll p status detail).pacers = s.pacers ∧ (s.finishAll p status detail).gates = s.gates ∧ (s.finishAll p status detail).motors = s.motors ∧ (s.finishAll p status detail).chn = s.chn ∧
    (s.finishAll p status detail).hk = s.hk ∧ (s.finishAll p status detail).flt = s.flt ∧ (s.finishAll p status detail).thn = s.thn ∧ (s.finishAll p status detail).fuse = s.fuse ∧
    (s.finishAll p status detail).meter = s.meter ∧ (s.finishAll p status detail).free = s.free ∧ (s.finishAll p status detail).pending = s.pending := by
  unfold State.finishAll
  and_intros <;>
    exact foldl_keeps _ _ (fun s a => by simp) _ s

/-- It changes no field but host, out. -/
@[simp] theorem State.settleVec_frame (s : State) (f v : Nat) :
    (State.settleVec f s v).time = s.time ∧ (State.settleVec f s v).glb = s.glb ∧ (State.settleVec f s v).quads = s.quads ∧ (State.settleVec f s v).evt = s.evt ∧
    (State.settleVec f s v).lanes = s.lanes ∧ (State.settleVec f s v).ops = s.ops ∧ (State.settleVec f s v).assign = s.assign ∧ (State.settleVec f s v).changes = s.changes ∧
    (State.settleVec f s v).rings = s.rings ∧ (State.settleVec f s v).engines = s.engines ∧ (State.settleVec f s v).reqs = s.reqs ∧ (State.settleVec f s v).banks = s.banks ∧
    (State.settleVec f s v).store = s.store ∧ (State.settleVec f s v).cells = s.cells ∧ (State.settleVec f s v).tests = s.tests ∧ (State.settleVec f s v).links = s.links ∧
    (State.settleVec f s v).encs = s.encs ∧ (State.settleVec f s v).trigs = s.trigs ∧ (State.settleVec f s v).pacers = s.pacers ∧ (State.settleVec f s v).gates = s.gates ∧
    (State.settleVec f s v).motors = s.motors ∧ (State.settleVec f s v).chn = s.chn ∧ (State.settleVec f s v).hk = s.hk ∧ (State.settleVec f s v).flt = s.flt ∧
    (State.settleVec f s v).thn = s.thn ∧ (State.settleVec f s v).fuse = s.fuse ∧ (State.settleVec f s v).meter = s.meter ∧ (State.settleVec f s v).hostMem = s.hostMem ∧
    (State.settleVec f s v).free = s.free ∧ (State.settleVec f s v).pending = s.pending := by
  unfold State.settleVec
  split
  · split
    · split <;> simp
    · simp
  · simp

/-- It changes no field but host, out. -/
@[simp] theorem State.settleFn_frame (s : State) (f : Nat) :
    (s.settleFn f).time = s.time ∧ (s.settleFn f).glb = s.glb ∧ (s.settleFn f).quads = s.quads ∧ (s.settleFn f).evt = s.evt ∧
    (s.settleFn f).lanes = s.lanes ∧ (s.settleFn f).ops = s.ops ∧ (s.settleFn f).assign = s.assign ∧ (s.settleFn f).changes = s.changes ∧
    (s.settleFn f).rings = s.rings ∧ (s.settleFn f).engines = s.engines ∧ (s.settleFn f).reqs = s.reqs ∧ (s.settleFn f).banks = s.banks ∧
    (s.settleFn f).store = s.store ∧ (s.settleFn f).cells = s.cells ∧ (s.settleFn f).tests = s.tests ∧ (s.settleFn f).links = s.links ∧
    (s.settleFn f).encs = s.encs ∧ (s.settleFn f).trigs = s.trigs ∧ (s.settleFn f).pacers = s.pacers ∧ (s.settleFn f).gates = s.gates ∧
    (s.settleFn f).motors = s.motors ∧ (s.settleFn f).chn = s.chn ∧ (s.settleFn f).hk = s.hk ∧ (s.settleFn f).flt = s.flt ∧
    (s.settleFn f).thn = s.thn ∧ (s.settleFn f).fuse = s.fuse ∧ (s.settleFn f).meter = s.meter ∧ (s.settleFn f).hostMem = s.hostMem ∧
    (s.settleFn f).free = s.free ∧ (s.settleFn f).pending = s.pending := by
  unfold State.settleFn
  split
  · simp
  · and_intros <;>
      exact foldl_keeps _ _ (fun s a => by simp) _ s

/-- It changes no field but host, out. -/
@[simp] theorem State.settle_frame (s : State)  :
    (s.settle).time = s.time ∧ (s.settle).glb = s.glb ∧ (s.settle).quads = s.quads ∧ (s.settle).evt = s.evt ∧
    (s.settle).lanes = s.lanes ∧ (s.settle).ops = s.ops ∧ (s.settle).assign = s.assign ∧ (s.settle).changes = s.changes ∧
    (s.settle).rings = s.rings ∧ (s.settle).engines = s.engines ∧ (s.settle).reqs = s.reqs ∧ (s.settle).banks = s.banks ∧
    (s.settle).store = s.store ∧ (s.settle).cells = s.cells ∧ (s.settle).tests = s.tests ∧ (s.settle).links = s.links ∧
    (s.settle).encs = s.encs ∧ (s.settle).trigs = s.trigs ∧ (s.settle).pacers = s.pacers ∧ (s.settle).gates = s.gates ∧
    (s.settle).motors = s.motors ∧ (s.settle).chn = s.chn ∧ (s.settle).hk = s.hk ∧ (s.settle).flt = s.flt ∧
    (s.settle).thn = s.thn ∧ (s.settle).fuse = s.fuse ∧ (s.settle).meter = s.meter ∧ (s.settle).hostMem = s.hostMem ∧
    (s.settle).free = s.free ∧ (s.settle).pending = s.pending := by
  unfold State.settle
  and_intros <;>
    exact foldl_keeps _ _ (fun s a => by simp) _ s

end Sys2Proof.Machine
end

