-- ==== Sys2Proof/Laws/Completion.lean ====
section
/-! SUPPORT. What posting a completion entry does (R152, R153): with room the entry lies at CQ_TAIL, without it waits; nothing else of the
queue pair moves. -/

namespace Sys2Proof.Machine

/-- Two queue pairs agree in every register that posting an entry reads or writes. -/
structure HostFn.Agrees (h h' : HostFn) : Prop where
  sqHead  : h.sqHead = h'.sqHead
  cqBase  : h.cqBase = h'.cqBase
  cqTail  : h.cqTail = h'.cqTail
  cqHead  : h.cqHead = h'.cqHead
  cqLog   : h.cqLog = h'.cqLog
  phase   : h.phase = h'.phase
  en      : h.en = h'.en
  waiting : h.waiting = h'.waiting
  next    : h.next = h'.next
  fence   : h.fence = h'.fence
  unknown : h.unknown = h'.unknown

theorem HostFn.Agrees.refl (h : HostFn) : h.Agrees h := by constructor <;> rfl

theorem HostFn.Agrees.trans {a b c : HostFn} (h : a.Agrees b) (k : b.Agrees c) : a.Agrees c :=
  ⟨h.1.trans k.1, h.2.trans k.2, h.3.trans k.3, h.4.trans k.4, h.5.trans k.5, h.6.trans k.6, h.7.trans k.7, h.8.trans k.8, h.9.trans k.9,
    h.10.trans k.10, h.11.trans k.11⟩

theorem HostFn.Agrees.room {h h' : HostFn} (k : h.Agrees h') : h.room = h'.room := by
  unfold HostFn.room HostFn.unconsumed
  rw [k.cqLog, k.cqTail, k.cqHead]

theorem HostFn.Agrees.entryBytes {h h' : HostFn} (k : h.Agrees h') (e : Entry) : entryBytes h e = entryBytes h' e := by
  unfold Machine.entryBytes
  rw [k.sqHead, k.phase]

theorem HostFn.Agrees.advanceCq {h h' : HostFn} (k : h.Agrees h') : h.advanceCq.Agrees h'.advanceCq := by
  unfold HostFn.advanceCq
  dsimp only
  rw [k.cqTail, k.cqLog, k.phase]
  exact ⟨k.1, k.2, rfl, k.4, rfl, rfl, k.7, k.8, k.9, k.10, k.11⟩

/-- States with the same queue pairs agree. -/
theorem agrees_of_host {s t : State} (h : s.host = t.host) (q : Nat) : (s.getHost q).Agrees (t.getHost q) := by
  unfold State.getHost
  rw [h]
  exact .refl _

/-- An update of some queue pair that leaves these registers as they are leaves every queue pair agreeing. -/
theorem agrees_updHost (s : State) (f q : Nat) (u : HostFn → HostFn) (h : (u (s.getHost f)).Agrees (s.getHost f)) :
    ((s.updHost f u).getHost q).Agrees (s.getHost q) := by
  by_cases e : q = f
  · subst e
    rw [State.getHost_updHost]
    exact h
  · rw [State.getHost_updHost_ne _ _ _ _ e]
    exact .refl _

theorem agrees_signal (s : State) (f v q : Nat) : ((s.signal f v).getHost q).Agrees (s.getHost q) := by
  unfold State.signal
  split
  · exact agrees_of_host (State.send_frame s _).2.2.2.1 q
  · exact agrees_updHost _ _ _ _ (by constructor <;> rfl)

/-- Raising an event leaves the queues as they are. -/
theorem agrees_raise (s : State) (src q : Nat) : ((s.raise src).getHost q).Agrees (s.getHost q) := by
  unfold State.raise
  split
  · dsimp only
    split
    · exact (agrees_signal _ _ _ _).trans (agrees_of_host rfl q)
    · exact agrees_of_host rfl q
  · exact .refl _

theorem agrees_raiseIf (s : State) (b : Bool) (src q : Nat) : ((s.raiseIf b src).getHost q).Agrees (s.getHost q) := by
  unfold State.raiseIf
  split
  · exact agrees_raise s src q
  · exact .refl _

/-- What writing an entry does: CQ_TAIL moves on, the entry's bytes lie in host memory, a final entry ends its handle. -/
theorem State.writeEntry_does (s : State) (q : Nat) (e : Entry) :
    ((s.writeEntry q e).getHost q).Agrees (s.getHost q).advanceCq ∧
    (s.writeEntry q e).hostMem =
      hostWrite s.hostMem (hostKey q ((s.getHost q).cqBase.toNat + 16 * (s.getHost q).cqTail.toNat)) (entryBytes (s.getHost q) e) ∧
    (s.writeEntry q e).ops = (if e.final then s.ops.filter (fun o => decide (o.handle ≠ e.handle)) else s.ops) := by
  obtain ⟨A, hA⟩ : ∃ A, A = (s.dma q ((s.getHost q).cqBase.toNat + 16 * (s.getHost q).cqTail.toNat)
    (entryBytes (s.getHost q) e)).updHost q HostFn.advanceCq := ⟨_, rfl⟩
  have hw : s.writeEntry q e = (if e.final then A.endHandle e.handle else A).raise (320 + q) := by
    rw [hA, State.writeEntry]
  have g : A.getHost q = (s.getHost q).advanceCq := by
    rw [hA, State.getHost_updHost, State.getHost, State.dma, State.getHost]
  have m : A.hostMem = hostWrite s.hostMem (hostKey q ((s.getHost q).cqBase.toNat + 16 * (s.getHost q).cqTail.toNat))
      (entryBytes (s.getHost q) e) := by
    rw [hA]
    simp [State.dma]
  have o : A.ops = s.ops := by
    rw [hA]
    simp
  rw [hw]
  by_cases h : e.final = true
  · rw [if_pos h, if_pos h]
    refine ⟨(agrees_raise _ _ _).trans ?_, by simp [m], by simp [State.endHandle, o]⟩
    rw [← g]
    exact agrees_of_host (State.endHandle_frame A e.handle).2.2.2.1 q
  · rw [if_neg h, if_neg h]
    refine ⟨(agrees_raise _ _ _).trans ?_, by simp [m], by simp [o]⟩
    rw [← g]
    exact .refl _

/-- Posting on a queue on which nothing waits and which has room writes the entry, where a core posts entries. -/
theorem State.post_room (s : State) (q : Nat) (e : Entry) (hw : (s.getHost q).waiting = []) (he : (s.getHost q).en = true)
    (hr : (s.getHost q).room = true) (hc : s.corePosts = true) :
    ((s.post q e).getHost q).Agrees (s.getHost q).advanceCq ∧
    (s.post q e).hostMem =
      hostWrite s.hostMem (hostKey q ((s.getHost q).cqBase.toNat + 16 * (s.getHost q).cqTail.toNat)) (entryBytes (s.getHost q) e) ∧
    (s.post q e).ops = (if e.final then s.ops.filter (fun o => decide (o.handle ≠ e.handle)) else s.ops) := by
  have g1 : (s.updHost q (fun h => h.withWaiting (h.waiting ++ [e]))).getHost q = (s.getHost q).withWaiting [e] := by
    rw [State.getHost_updHost, hw]
    rfl
  have hroom : ((s.getHost q).withWaiting [e]).room = true := hr
  have hen : ((s.getHost q).withWaiting [e]).en = true := he
  have hpost : (s.updHost q (fun h => h.withWaiting (h.waiting ++ [e]))).corePosts = true := hc
  have hp : s.post q e = ((s.updHost q (fun h => h.withWaiting (h.waiting ++ [e]))).updHost q (HostFn.withWaiting [])).writeEntry q e := by
    unfold State.post
    rw [hw]
    show State.drain q 1 _ = _
    unfold State.drain
    dsimp only
    rw [g1]
    show (if (((s.getHost q).withWaiting [e]).en && ((s.getHost q).withWaiting [e]).room && State.corePosts _) = true then _ else _) = _
    rw [if_pos (by rw [hen, hroom, hpost]; rfl)]
    rfl
  have g2 : ((s.updHost q (fun h => h.withWaiting (h.waiting ++ [e]))).updHost q (HostFn.withWaiting [])).getHost q
      = (s.getHost q).withWaiting [] := by
    rw [State.getHost_updHost, g1]
    rfl
  have k2 : ((s.getHost q).withWaiting []).Agrees (s.getHost q) := by
    constructor <;> first | rfl | exact hw.symm
  obtain ⟨w1, w2, w3⟩ := State.writeEntry_does
    ((s.updHost q (fun h => h.withWaiting (h.waiting ++ [e]))).updHost q (HostFn.withWaiting [])) q e
  rw [g2] at w1 w2
  rw [hp]
  refine ⟨w1.trans k2.advanceCq, ?_, ?_⟩
  · rw [w2, k2.entryBytes]
    rfl
  · rw [w3]
    rfl

/-- Posting on a queue on which nothing waits leaves the entry waiting where the queue has no room, or no core posts entries. -/
theorem State.post_full (s : State) (q : Nat) (e : Entry) (hw : (s.getHost q).waiting = [])
    (hr : ((s.getHost q).room && s.corePosts) = false) :
    s.post q e = s.updHost q (fun h => h.withWaiting (h.waiting ++ [e])) := by
  have g1 : (s.updHost q (fun h => h.withWaiting (h.waiting ++ [e]))).getHost q = (s.getHost q).withWaiting [e] := by
    rw [State.getHost_updHost, hw]
    rfl
  have hroom : (((s.getHost q).withWaiting [e]).room && (s.updHost q (fun h => h.withWaiting (h.waiting ++ [e]))).corePosts) = false := hr
  unfold State.post
  rw [hw]
  show State.drain q 1 _ = _
  unfold State.drain
  dsimp only
  rw [g1]
  show (if (((s.getHost q).withWaiting [e]).en && ((s.getHost q).withWaiting [e]).room && State.corePosts _) = true then _ else _) = _
  rw [Bool.and_assoc, hroom, Bool.and_false]
  rfl

/-- What a packet that can be taken says of its queue: EN is 1, no entry and no FENCE waits, and HOST runs. -/
theorem State.takes_host {s : State} {q : Nat} (h : s.takes q = true) :
    (s.getHost q).en = true ∧ (s.getHost q).waiting = [] ∧ (s.getHost q).fence = none ∧ s.on dHOST = true := by
  unfold State.takes State.serves at h
  simp only [Bool.and_eq_true] at h
  obtain ⟨⟨⟨⟨⟨⟨⟨⟨⟨h1, _⟩, _⟩, h2⟩, _⟩, h4⟩, h5⟩, _⟩, _⟩, _⟩ := h
  exact ⟨h2, List.isEmpty_iff.mp h4, Option.isNone_iff_eq_none.mp h5, h1⟩

/-- Where a packet can be taken, a core posts entries. -/
theorem State.takes_posts {s : State} {q : Nat} (h : s.takes q = true) : s.corePosts = true := by
  unfold State.takes State.serves at h
  unfold State.corePosts
  simp only [Bool.and_eq_true, Bool.or_eq_true] at h ⊢
  obtain ⟨⟨⟨⟨⟨⟨⟨⟨⟨_, p⟩, i⟩, _⟩, _⟩, _⟩, _⟩, _⟩, _⟩, _⟩ := h
  exact ⟨p, i.imp id (fun k => k.1)⟩

end Sys2Proof.Machine
end

