-- ==== Sys2Proof/Laws/Commands.lean ====
section
/-! SUPPORT. What the two shapes of a command of Machine/Operands.lean do where the command passes its checks, in the terms of Safety.lean. -/

namespace Sys2Proof.Machine

/-- SamePlant field by field. -/
theorem samePlant_iff (s t : State) : SamePlant s t ↔
    t.time = s.time ∧ t.glb = s.glb ∧ t.quads = s.quads ∧ t.lanes = s.lanes ∧ t.assign = s.assign ∧ t.changes = s.changes ∧ t.rings = s.rings ∧
    t.engines = s.engines ∧ t.reqs = s.reqs ∧ t.banks = s.banks ∧ t.store = s.store ∧ t.cells = s.cells ∧ t.tests = s.tests ∧
    t.links = s.links ∧ t.encs = s.encs ∧ t.trigs = s.trigs ∧ t.pacers = s.pacers ∧ t.gates = s.gates ∧ t.motors = s.motors ∧
    t.chn = s.chn ∧ t.hk = s.hk ∧ t.flt = s.flt ∧ t.thn = s.thn ∧ t.fuse = s.fuse ∧ t.meter = s.meter ∧ t.pending = s.pending := by
  cases s
  cases t
  simp [SamePlant, State.mk.injEq]

theorem SamePlant.refl (s : State) : SamePlant s s := rfl

theorem SamePlant.trans {a b c : State} (h : SamePlant a b) (k : SamePlant b c) : SamePlant a c := by
  rw [samePlant_iff] at *
  simp_all

/-- Posting an entry touches no register of the plant. -/
theorem samePlant_post (s : State) (q : Nat) (e : Entry) : SamePlant s (s.post q e) := by
  rw [samePlant_iff]
  simp

/-- With no packet of no row and no waiting command, there is nothing to answer. -/
theorem State.serveAll_none {q : Nat} {s : State} (h : (s.getHost q).unknown = []) (hf : (s.getHost q).fence = none) : s.serveAll q = s := by
  unfold State.serveAll
  rw [h]
  simp [State.serveUnknown, h, hf]

/-- While a command waits under FENCE no packet behind it is answered. -/
theorem State.serveAll_fenced {q : Nat} {s : State} {x : BitVec 16 × Packet} {t : W32} {hs : List W32}
    (hf : (s.getHost q).fence = some ⟨some x, t, hs⟩) : s.serveAll q = s := by
  unfold State.serveAll State.serveUnknown
  simp [hf]

/-- A command with FENCE = 1, and handles of its lane outstanding, is taken and waits: nothing else changes (R161). -/
theorem command_fenced {c : Cmd} {q : LaneIx} {p : Packet} {body : State → State} {s : State} (hu : (s.getHost q.val).unknown = [])
    (ht : s.takes q.val = true) (hl : s.laneFree q.val p = true) (hf : pfence p = true) (hh : s.handlesOf q.val ≠ []) :
    command c q p body s = (s.takeHead q.val).updHost q.val
      (HostFn.setFence (some { cmd := some (c.opcode, p), tag := p.tag, handles := s.handlesOf q.val })) := by
  have hn : (s.getHost q.val).fence = none := by
    unfold State.takes at ht
    simp_all
  have h1 : c.run q p body s = (s.takeHead q.val).updHost q.val
      (HostFn.setFence (some { cmd := some (c.opcode, p), tag := p.tag, handles := s.handlesOf q.val })) := by
    unfold Cmd.run State.resumes
    simp [hn, ht, hl, hf, hh]
  unfold command
  rw [State.serveAll_none hu hn, h1]
  apply State.serveAll_fenced (x := (c.opcode, p)) (t := p.tag) (hs := s.handlesOf q.val)
  rw [State.getHost_updHost]
  rfl

theorem getHost_takeHead (s : State) (q : Nat) : (s.takeHead q).getHost q = (s.getHost q).pastHead := State.getHost_updHost ..

/-- An entry posted after the packet was taken, on a state whose queue is as the taking left it. -/
theorem entered_of_post {s b : State} {q : Nat} {e : Entry} (ht : s.takes q = true)
    (hb : (b.getHost q).Agrees ((s.takeHead q).getHost q)) (hc : b.corePosts = true) : Entered q e b.hostMem s (b.post q e) := by
  obtain ⟨he, hw, _, _⟩ := State.takes_host ht
  have gt := getHost_takeHead s q
  have hw' : (b.getHost q).waiting = [] := by rw [hb.waiting, gt]; exact hw
  have he' : (b.getHost q).en = true := by rw [hb.en, gt]; exact he
  unfold Entered
  dsimp only
  by_cases hr : (b.getHost q).room = true
  · obtain ⟨p1, p2, _⟩ := State.post_room b q e hw' he' hr hc
    refine ⟨p1.sqHead.trans hb.sqHead, fun _ => ?_, fun h => ?_⟩
    · rw [p2, hb.cqBase, hb.cqTail, hb.entryBytes]
    · rw [← hb.room, hr] at h
      cases h
  · have hr : (b.getHost q).room = false := by simpa using hr
    rw [State.post_full b q e hw' (by rw [hr]; rfl)]
    refine ⟨?_, fun h => ?_, fun _ => ⟨rfl, ?_⟩⟩
    · rw [State.getHost_updHost]
      exact hb.sqHead
    · rw [← hb.room, hr] at h
      cases h
    · rw [State.getHost_updHost, hw']
      rfl

/-- Two packets' worth of checks agree: the queue pair is all that taking a packet changes. -/
theorem served_check {c : Cmd} {q : LaneIx} {p : Packet} {s : State} {fs : List Field}
    (h : Served c.lane0 c.rom c.early fs q p s c.target0) (hs : c.skip5 = true ∨ InState c.states p s)
    (hf : c.fields p (s.takeHead q.val) = fs) (ho : c.own p (s.takeHead q.val) = true) (hb : c.busy p (s.takeHead q.val) = false)
    (hd : c.bad p (s.takeHead q.val) = false) : c.check q.val p (s.takeHead q.val) = none := by
  have h0 : (c.lane0 && decide (q.val ≠ 0)) = false := by
    by_cases e : c.lane0 = true
    · simp [h.class0 e]
    · simp [e]
  have hi : (!(s.takeHead q.val).imageRuns && !c.rom) = false := by
    have e : (s.takeHead q.val).imageRuns = s.imageRuns := by simp [State.imageRuns]
    rw [e]
    rcases h.image with h | h <;> simp [h]
  have hl : laneValid c.target0 q.val p (s.takeHead q.val) = true := by
    have e : laneValid c.target0 q.val p (s.takeHead q.val) = laneValid c.target0 q.val p s := by simp [laneValid, State.present]
    rw [e]
    exact h.lane
  have hr : (!c.early && !(s.takeHead q.val).glb.hwrdy) = false := by
    have e : (s.takeHead q.val).glb = s.glb := by simp
    rw [e]
    rcases h.ready with h | h <;> simp [h]
  have hv : (!c.skip5 && !stateValid c p (s.takeHead q.val)) = false := by
    rcases hs with h | h
    · simp [h]
    · have e : (s.takeHead q.val).getLane p.lane.toNat = s.getLane p.lane.toNat := by simp [State.getLane]
      have : stateValid c p (s.takeHead q.val) = true := by
        unfold stateValid
        rw [e]
        obtain ⟨h1, h2⟩ := h
        cases hst : c.states with
        | none => simp [h1]
        | some l => simp [h1, h2 l hst]
      simp [this]
  unfold Cmd.check
  rw [hi, h0, hl, ho, hf, h.bytes, hv, hd, hr, hb]
  rfl

/-- A packet that can be taken finds no command of its queue waiting under FENCE. -/
theorem not_resumes {s : State} {q : Nat} (ht : s.takes q = true) (c : Cmd) (p : Packet) : s.resumes c q p = false := by
  unfold State.resumes
  rw [(State.takes_host ht).2.2.1]

/-- A command that passes its checks runs on the state after its packet was taken. -/
theorem command_runs {c : Cmd} {q : LaneIx} {p : Packet} {body : State → State} {s : State} {fs : List Field}
    (h : Served c.lane0 c.rom c.early fs q p s c.target0) (hc : c.check q.val p (s.takeHead q.val) = none) :
    command c q p body s = (body (s.takeHead q.val)).serveAll q.val := by
  have hf := (State.takes_host h.takes).2.2.1
  unfold command
  rw [State.serveAll_id s q.val h.rows (fun f e => by rw [hf] at e; cases e)]
  congr 1
  unfold Cmd.run
  have hw : (pfence p && !(s.handlesOf q.val).isEmpty) = false := by
    rcases h.fence with e | e <;> simp [e]
  rw [not_resumes h.takes, if_neg (by simp), h.takes, h.free, if_pos (by rfl)]
  dsimp only
  rw [hw, if_neg (by simp)]
  unfold Cmd.interpret
  rw [hc]

/-- Posting an entry brings no packet of no row, and no FENCE. -/
theorem serveAll_post {b : State} {q : Nat} {e : Entry} (hw : (b.getHost q).waiting = []) (he : (b.getHost q).en = true)
    (hu : (b.getHost q).unknown = []) (hf : (b.getHost q).fence = none) : (b.post q e).serveAll q = b.post q e := by
  have k : ((b.post q e).getHost q).unknown = (b.getHost q).unknown ∧ ((b.post q e).getHost q).fence = (b.getHost q).fence := by
    by_cases hr : ((b.getHost q).room && b.corePosts) = true
    · obtain ⟨a, _⟩ := State.post_room b q e hw he (Bool.and_eq_true_iff.mp hr).1 (Bool.and_eq_true_iff.mp hr).2
      exact ⟨a.unknown, a.fence⟩
    · rw [State.post_full b q e hw (by simpa using hr), State.getHost_updHost]
      exact ⟨rfl, rfl⟩
  refine State.serveAll_id _ q (k.1.trans hu) (fun f h => ?_)
  rw [k.2, hf] at h
  cases h

/-- An immediate command that passes its checks: its effect, then its one entry. -/
theorem immediate_does {c : Cmd} {q : LaneIx} {p : Packet} {body : State → State × BitVec 16 × Nat} {s : State} {b : State}
    {st : BitVec 16} {d : Nat} {fs : List Field} (h : Served c.lane0 c.rom c.early fs q p s c.target0)
    (hc : c.check q.val p (s.takeHead q.val) = none) (hb : body (s.takeHead q.val) = (b, st, d))
    (ha : (b.getHost q.val).Agrees ((s.takeHead q.val).getHost q.val)) (hp : b.corePosts = true) :
    SamePlant b (immediate c q p body s) ∧ (immediate c q p body s).ops = b.ops ∧ (immediate c q p body s).free = b.free ∧
      Answered q.val p st d b.hostMem s (immediate c q p body s) := by
  obtain ⟨he, hw, hf, _⟩ := State.takes_host h.takes
  have gt := getHost_takeHead s q.val
  have hw' : (b.getHost q.val).waiting = [] := by rw [ha.waiting, gt]; exact hw
  have he' : (b.getHost q.val).en = true := by rw [ha.en, gt]; exact he
  have hu' : (b.getHost q.val).unknown = [] := by rw [ha.unknown, gt]; exact h.rows
  have hf' : (b.getHost q.val).fence = none := by rw [ha.fence, gt]; exact hf
  unfold immediate
  rw [command_runs h hc]
  dsimp only
  rw [hb]
  unfold State.answer
  rw [serveAll_post hw' he' hu' hf']
  refine ⟨samePlant_post _ _ _, ?_, by simp, entered_of_post h.takes ha hp⟩
  by_cases hr : (b.getHost q.val).room = true
  · exact (State.post_room b q.val _ hw' he' hr hp).2.2
  · have hr : (b.getHost q.val).room = false := by simpa using hr
    show (b.post _ _).ops = _
    rw [State.post_full b q.val _ hw' (by rw [hr]; rfl)]
    rfl

end Sys2Proof.Machine
end

