-- ==== Sys2Proof/Laws/PerInstr.lean ====
section
/-! SUPPORT. The family WellFormedTotal of LAWS.json, one lemma per command: a command that no check of WellFormed.lean names is
well-formed whatever its operands. -/

namespace Sys2Proof.Laws.WellFormedTotal

/-- A command is well-formed, or its operands have a check. -/
def Statement (i : Instr) : Prop := Instr.wf i = true ∨ Instr.checked i = true

theorem identify (y1 : LaneIx) (y2 : Packet) : Statement (.identify y1 y2) := .inl rfl
theorem getLog (y1 : LaneIx) (y2 : Packet) : Statement (.getLog y1 y2) := .inl rfl
theorem deviceStatus (y1 : LaneIx) (y2 : Packet) : Statement (.deviceStatus y1 y2) := .inl rfl
theorem nop (y1 : LaneIx) (y2 : Packet) : Statement (.nop y1 y2) := .inl rfl
theorem laneReset (y1 : LaneIx) (y2 : Packet) : Statement (.laneReset y1 y2) := .inl rfl
theorem quadAssign (y1 : LaneIx) (y2 : Packet) : Statement (.quadAssign y1 y2) := .inl rfl
theorem laneStatus (y1 : LaneIx) (y2 : Packet) : Statement (.laneStatus y1 y2) := .inl rfl
theorem handleQuery (y1 : LaneIx) (y2 : Packet) : Statement (.handleQuery y1 y2) := .inl rfl
theorem abort (y1 : LaneIx) (y2 : Packet) : Statement (.abort y1 y2) := .inl rfl
theorem configLoad (y1 : LaneIx) (y2 : Packet) : Statement (.configLoad y1 y2) := .inl rfl
theorem configLoadDone (y1 : W32) (y2 : List Byte) : Statement (.configLoadDone y1 y2) := .inl rfl
theorem configCommit (y1 : LaneIx) (y2 : Packet) : Statement (.configCommit y1 y2) := .inl rfl
theorem configPatch (y1 : LaneIx) (y2 : Packet) : Statement (.configPatch y1 y2) := .inl rfl
theorem configReload (y1 : LaneIx) (y2 : Packet) : Statement (.configReload y1 y2) := .inl rfl
theorem configRead (y1 : LaneIx) (y2 : Packet) : Statement (.configRead y1 y2) := .inl rfl
theorem configDiscard (y1 : LaneIx) (y2 : Packet) : Statement (.configDiscard y1 y2) := .inl rfl
theorem printStart (y1 : LaneIx) (y2 : Packet) : Statement (.printStart y1 y2) := .inl rfl
theorem printStop (y1 : LaneIx) (y2 : Packet) : Statement (.printStop y1 y2) := .inl rfl
theorem setSpeed (y1 : LaneIx) (y2 : Packet) : Statement (.setSpeed y1 y2) := .inl rfl
theorem setCeiling (y1 : LaneIx) (y2 : Packet) : Statement (.setCeiling y1 y2) := .inl rfl
theorem windowArm (y1 : LaneIx) (y2 : Packet) : Statement (.windowArm y1 y2) := .inl rfl
theorem alignSet (y1 : LaneIx) (y2 : Packet) : Statement (.alignSet y1 y2) := .inl rfl
theorem spitTest (y1 : LaneIx) (y2 : Packet) : Statement (.spitTest y1 y2) := .inl rfl
theorem tempsetLoad (y1 : LaneIx) (y2 : Packet) : Statement (.tempsetLoad y1 y2) := .inl rfl
theorem nozzleMark (y1 : LaneIx) (y2 : Packet) : Statement (.nozzleMark y1 y2) := .inl rfl
theorem servoCtl (y1 : LaneIx) (y2 : Packet) : Statement (.servoCtl y1 y2) := .inl rfl
theorem motorBind (y1 : LaneIx) (y2 : Packet) : Statement (.motorBind y1 y2) := .inl rfl
theorem motorEnable (y1 : LaneIx) (y2 : Packet) : Statement (.motorEnable y1 y2) := .inl rfl
theorem motorStop (y1 : LaneIx) (y2 : Packet) : Statement (.motorStop y1 y2) := .inl rfl
theorem motorCal (y1 : LaneIx) (y2 : Packet) : Statement (.motorCal y1 y2) := .inl rfl
theorem chainStatus (y1 : LaneIx) (y2 : Packet) : Statement (.chainStatus y1 y2) := .inl rfl
theorem chainJoin (y1 : LaneIx) (y2 : Packet) : Statement (.chainJoin y1 y2) := .inl rfl
theorem batonRequest (y1 : LaneIx) (y2 : Packet) : Statement (.batonRequest y1 y2) := .inl rfl
theorem relayOnly (y1 : LaneIx) (y2 : Packet) : Statement (.relayOnly y1 y2) := .inl rfl
theorem levelEnable (y1 : LaneIx) (y2 : Packet) : Statement (.levelEnable y1 y2) := .inl rfl
theorem meterRead (y1 : LaneIx) (y2 : Packet) : Statement (.meterRead y1 y2) := .inl rfl
theorem periodClose (y1 : LaneIx) (y2 : Packet) : Statement (.periodClose y1 y2) := .inl rfl
theorem recordRead (y1 : LaneIx) (y2 : Packet) : Statement (.recordRead y1 y2) := .inl rfl
theorem fuseRead (y1 : LaneIx) (y2 : Packet) : Statement (.fuseRead y1 y2) := .inl rfl
theorem fuseProgram (y1 : LaneIx) (y2 : Packet) : Statement (.fuseProgram y1 y2) := .inl rfl
theorem fuseLock (y1 : LaneIx) (y2 : Packet) : Statement (.fuseLock y1 y2) := .inl rfl
theorem domainReset (y1 : LaneIx) (y2 : Packet) : Statement (.domainReset y1 y2) := .inl rfl
theorem domainCycle (y1 : LaneIx) (y2 : Packet) : Statement (.domainCycle y1 y2) := .inl rfl
theorem spareTakeover (y1 : LaneIx) (y2 : Packet) : Statement (.spareTakeover y1 y2) := .inl rfl
theorem spareReturn (y1 : LaneIx) (y2 : Packet) : Statement (.spareReturn y1 y2) := .inl rfl
theorem selftestCtl (y1 : LaneIx) (y2 : Packet) : Statement (.selftestCtl y1 y2) := .inl rfl
theorem feedRestart (y1 : LaneIx) (y2 : Packet) : Statement (.feedRestart y1 y2) := .inl rfl
theorem faultClear (y1 : LaneIx) (y2 : Packet) : Statement (.faultClear y1 y2) := .inl rfl
theorem fwLoad (y1 : LaneIx) (y2 : Packet) : Statement (.fwLoad y1 y2) := .inl rfl
theorem fwLoadDone (y1 : W32) (y2 : List Byte) : Statement (.fwLoadDone y1 y2) := .inl rfl
theorem fwActivate (y1 : LaneIx) (y2 : Packet) : Statement (.fwActivate y1 y2) := .inl rfl
theorem coreSwap (y1 : LaneIx) (y2 : Packet) : Statement (.coreSwap y1 y2) := .inl rfl
theorem fwInfo (y1 : LaneIx) (y2 : Packet) : Statement (.fwInfo y1 y2) := .inl rfl
theorem sqTail (y1 : LaneIx) (y2 : LaneIx) (x3 : W32) (x4 : List (BitVec 12 × W32 × Bool)) : Statement (.sqTail y1 y2 x3 x4) := .inl rfl
theorem cqHead (y1 : LaneIx) (y2 : LaneIx) (x3 : W32) : Statement (.cqHead y1 y2 x3) := .inl rfl
theorem feedDoorbell (y1 : LaneIx) (y2 : RingIx) (x3 : W32) : Statement (.feedDoorbell y1 y2 x3) := .inl rfl
theorem qpEnable (y1 : LaneIx) : Statement (.qpEnable y1) := .inl rfl
theorem ringEnable (y1 : LaneIx) (y2 : W32) : Statement (.ringEnable y1 y2) := .inl rfl
theorem ringDisable (y1 : LaneIx) (y2 : W32) : Statement (.ringDisable y1 y2) := .inl rfl
theorem vsetWrite (y1 : LaneIx) (y2 : QuadIx) (x3 : BitVec 5) : Statement (.vsetWrite y1 y2 x3) := .inl rfl
theorem divreqWrite (y1 : LaneIx) (y2 : QuadIx) (x3 : BitVec 2) : Statement (.divreqWrite y1 y2 x3) := .inl rfl
theorem skipWrite (y1 : LaneIx) (y2 : QuadIx) (x3 : BitVec 3) : Statement (.skipWrite y1 y2 x3) := .inl rfl
theorem pcieClkmodeWrite (y1 : LaneIx) (y2 : Bool) : Statement (.pcieClkmodeWrite y1 y2) := .inl rfl
theorem discEnWrite (y1 : LaneIx) (y2 : Bool) : Statement (.discEnWrite y1 y2) := .inl rfl
theorem debugWindowRead (y1 : Fin 4) (y2 : Fin 524288) (x3 : Nat) (x4 : List (BlockIx × Ecc)) : Statement (.debugWindowRead y1 y2 x3 x4) := .inr rfl
theorem debugWindowWrite (y1 : Fin 4) (y2 : Fin 524288) (x3 : WindowData) : Statement (.debugWindowWrite y1 y2 x3) := .inr rfl
theorem evtStatWrite (y1 : LaneIx) (y2 : Fin 12) (x3 : W32) : Statement (.evtStatWrite y1 y2 x3) := .inl rfl
theorem evtEnWrite (y1 : LaneIx) (y2 : Fin 12) (x3 : W32) : Statement (.evtEnWrite y1 y2 x3) := .inl rfl
theorem evtMapWrite (y1 : LaneIx) (y2 : SrcIx) (x3 : W32) : Statement (.evtMapWrite y1 y2 x3) := .inl rfl
theorem msixConditionClear (y1 : LaneIx) (y2 : MsixChange) : Statement (.msixConditionClear y1 y2) := .inl rfl
theorem lowWordRead (y1 : Requester) (y2 : PairRead) : Statement (.lowWordRead y1 y2) := .inl rfl
theorem highWordRead (y1 : Requester) (y2 : Bar0) : Statement (.highWordRead y1 y2) := .inl rfl
theorem idxarm (y1 : LaneIx) (y2 : Oct) : Statement (.idxarm y1 y2) := .inl rfl
theorem forceback (y1 : LaneIx) (y2 : Oct) : Statement (.forceback y1 y2) := .inl rfl
theorem pvselSnapshot (y1 : LaneIx) (y2 : CellIx) (x3 : W32) : Statement (.pvselSnapshot y1 y2 x3) := .inl rfl
theorem linkEnWrite (y1 : LaneIx) (y2 : LinkIx) (x3 : Bool) : Statement (.linkEnWrite y1 y2 x3) := .inl rfl
theorem retrain (y1 : LaneIx) (y2 : LinkIx) : Statement (.retrain y1 y2) := .inl rfl
theorem gateselWrite (y1 : LaneIx) (y2 : LaneIx) (x3 : W32) : Statement (.gateselWrite y1 y2 x3) := .inl rfl
theorem recal (y1 : LaneIx) (y2 : LaneIx) : Statement (.recal y1 y2) := .inl rfl
theorem dutyCommit (y1 : LaneIx) (y2 : Oct) (x3 : BitVec 14) : Statement (.dutyCommit y1 y2 x3) := .inl rfl
theorem fltInjArm (y1 : LaneIx) (y2 : W32) : Statement (.fltInjArm y1 y2) := .inl rfl
theorem persClear (y1 : LaneIx) (y2 : Fin 32) : Statement (.persClear y1 y2) := .inl rfl
theorem precEnable (y1 : LaneIx) (y2 : W32) : Statement (.precEnable y1 y2) := .inl rfl
theorem precDisable (y1 : LaneIx) : Statement (.precDisable y1) := .inl rfl
theorem registerWrite (y1 : LaneIx) (y2 : Bar0) (x3 : RegData) : Statement (.registerWrite y1 y2 x3) := .inl rfl
theorem completerAbort (y1 : LaneIx) (y2 : Bar0) (x3 : Nat) (x4 : AccessDir) : Statement (.completerAbort y1 y2 x3 x4) := .inr rfl
theorem hungAccessComplete (y1 : Requester) : Statement (.hungAccessComplete y1) := .inl rfl
theorem conventionalReset (y1 : PcieReset) : Statement (.conventionalReset y1) := .inl rfl
theorem flr (y1 : LaneIx) : Statement (.flr y1) := .inl rfl
theorem numvfsWrite (y1 : Bool) (y2 : BitVec 16) : Statement (.numvfsWrite y1 y2) := .inl rfl
theorem d3hotEntry (y1 : LaneIx) : Statement (.d3hotEntry y1) := .inl rfl
theorem d0Return (y1 : LaneIx) : Statement (.d0Return y1) := .inl rfl
theorem hostReadError (y1 : ReadFor) (y2 : BusError) : Statement (.hostReadError y1 y2) := .inl rfl
theorem descriptorArrival (y1 : RingIx) (y2 : BitVec 512) : Statement (.descriptorArrival y1 y2) := .inl rfl
theorem channelStart (y1 : LaneIx) : Statement (.channelStart y1) := .inl rfl
theorem readCompletion (y1 : LaneIx) (y2 : List Byte) : Statement (.readCompletion y1 y2) := .inr rfl
theorem burstAck (y1 : LaneIx) : Statement (.burstAck y1) := .inl rfl
theorem channelComplete (y1 : LaneIx) : Statement (.channelComplete y1) := .inl rfl
theorem busErrorStop (y1 : LaneIx) (y2 : BusError) (x3 : RingIx) (x4 : W64) : Statement (.busErrorStop y1 y2 x3 x4) := .inl rfl
theorem creditWindow (y1 : BankReads) : Statement (.creditWindow y1) := .inl rfl
theorem scrubRead (y1 : CellIx) (y2 : Ecc) : Statement (.scrubRead y1 y2) := .inl rfl
theorem rowRepair (y1 : CellIx) (y2 : Fin 1024) : Statement (.rowRepair y1 y2) := .inl rfl
theorem configCheck (y1 : CellIx) : Statement (.configCheck y1) := .inl rfl
theorem dataLineStart (y1 : CellIx) (y2 : List (BlockIx × Ecc)) : Statement (.dataLineStart y1 y2) := .inl rfl
theorem dataLineProcessed (y1 : CellIx) : Statement (.dataLineProcessed y1) := .inl rfl
theorem exchangeArrival (y1 : CellIx) (y2 : Side) (x3 : Nat) : Statement (.exchangeArrival y1 y2 x3) := .inl rfl
theorem takeoverFail (y1 : CellIx) : Statement (.takeoverFail y1) := .inl rfl
theorem selftestTick (y1 : Fin 4) : Statement (.selftestTick y1) := .inl rfl
theorem selftestDone (y1 : CellIx) (y2 : Bool) : Statement (.selftestDone y1 y2) := .inl rfl
theorem cellBoundaryTimer (y1 : CellIx) : Statement (.cellBoundaryTimer y1) := .inl rfl
theorem encoderEdge (y1 : Oct) (y2 : Bool) (x3 : Bool) (x4 : Tick) : Statement (.encoderEdge y1 y2 x3 x4) := .inl rfl
theorem pairFault (y1 : Oct) (y2 : EncPair) : Statement (.pairFault y1 y2) := .inl rfl
theorem index (y1 : Oct) : Statement (.index y1) := .inl rfl
theorem speedWindow (y1 : Oct) (y2 : Tick) : Statement (.speedWindow y1 y2) := .inl rfl
theorem still (y1 : Oct) : Statement (.still y1) := .inl rfl
theorem edgeLearn (y1 : Oct) : Statement (.edgeLearn y1) := .inl rfl
theorem edgeOverdue (y1 : Oct) : Statement (.edgeOverdue y1) := .inl rfl
theorem pacerLineBoundary (y1 : Oct) : Statement (.pacerLineBoundary y1) := .inl rfl
theorem pacerMark (y1 : Oct) : Statement (.pacerMark y1) := .inl rfl
theorem fillTimer (y1 : Oct) : Statement (.fillTimer y1) := .inl rfl
theorem strobeCommit (y1 : LinkIx) : Statement (.strobeCommit y1) := .inl rfl
theorem strobeRelease (y1 : LinkIx) : Statement (.strobeRelease y1) := .inl rfl
theorem strobeDrop (y1 : LinkIx) : Statement (.strobeDrop y1) := .inl rfl
theorem latchLoad (y1 : LinkIx) : Statement (.latchLoad y1) := .inl rfl
theorem llAck (y1 : LinkIx) (y2 : RxFrame) : Statement (.llAck y1 y2) := .inl rfl
theorem llAckTimeout (y1 : LinkIx) : Statement (.llAckTimeout y1) := .inl rfl
theorem referenceLoss (y1 : Oct) (y2 : EncRef) (x3 : LossCause) : Statement (.referenceLoss y1 y2 x3) := .inl rfl
theorem referenceRequalified (y1 : Oct) (y2 : EncRef) : Statement (.referenceRequalified y1 y2) := .inl rfl
theorem drlim (y1 : Oct) : Statement (.drlim y1) := .inl rfl
theorem triggerEdge (y1 : LaneIx) (y2 : Bool) (x3 : Tick) : Statement (.triggerEdge y1 y2 x3) := .inl rfl
theorem productRecord (y1 : Oct) : Statement (.productRecord y1) := .inl rfl
theorem linkTraining (y1 : LinkIx) (y2 : HeadTrain) : Statement (.linkTraining y1 y2) := .inl rfl
theorem longRetry (y1 : LinkIx) : Statement (.longRetry y1) := .inl rfl
theorem headLinkDown (y1 : LinkIx) (y2 : DownCause) : Statement (.headLinkDown y1 y2) := .inl rfl
theorem status (y1 : LinkIx) (y2 : RxFrame) : Statement (.status y1 y2) := .inl rfl
theorem hlTimeSync (y1 : LinkIx) : Statement (.hlTimeSync y1) := .inl rfl
theorem configResend (y1 : LinkIx) : Statement (.configResend y1) := .inl rfl
theorem governorRelease (y1 : LinkIx) : Statement (.governorRelease y1) := .inl rfl
theorem gatePulse (y1 : LaneIx) (y2 : Tick) (x3 : Tick) : Statement (.gatePulse y1 y2 x3) := .inr rfl
theorem gateCalEnd (y1 : LaneIx) : Statement (.gateCalEnd y1) := .inl rfl
theorem testLine (y1 : CellIx) : Statement (.testLine y1) := .inl rfl
theorem testWindowClose (y1 : LaneIx) : Statement (.testWindowClose y1) := .inl rfl
theorem tempInterp (y1 : CellIx) : Statement (.tempInterp y1) := .inl rfl
theorem tfStep (y1 : CellIx) : Statement (.tfStep y1) := .inl rfl
theorem quadCalEnd (y1 : QuadIx) : Statement (.quadCalEnd y1) := .inl rfl
theorem loopPeriod (y1 : Oct) (y2 : MotorMeas) : Statement (.loopPeriod y1 y2) := .inl rfl
theorem motorStart (y1 : Oct) (y2 : Int) (x3 : Bool) : Statement (.motorStart y1 y2 x3) := .inl rfl
theorem startAttemptFail (y1 : Oct) : Statement (.startAttemptFail y1) := .inl rfl
theorem startRetryGap (y1 : Oct) : Statement (.startRetryGap y1) := .inl rfl
theorem stopComplete (y1 : Oct) : Statement (.stopComplete y1) := .inl rfl
theorem brakeTimeout (y1 : Oct) : Statement (.brakeTimeout y1) := .inl rfl
theorem portTraining (y1 : PortIx) (y2 : PortTrain) : Statement (.portTraining y1 y2) := .inr rfl
theorem portDown (y1 : PortIx) : Statement (.portDown y1) := .inl rfl
theorem helloSend (y1 : PortIx) : Statement (.helloSend y1) := .inl rfl
theorem hello (y1 : PortIx) (y2 : Hello) (x3 : Bool) : Statement (.hello y1 y2 x3) := .inl rfl
theorem prlFrame (y1 : PortIx) (y2 : List Byte) (x3 : Bool) : Statement (.prlFrame y1 y2 x3) := .inr rfl
theorem prlTimeSync (y1 : PortIx) (y2 : BitVec 16) (x3 : W64) (x4 : BitVec 48) (x5 : Tick) : Statement (.prlTimeSync y1 y2 x3 x4 x5) := .inl rfl
theorem probeSend : Statement (.probeSend) := .inl rfl
theorem probe (y1 : PortIx) (y2 : BitVec 16) (x3 : ProbeBody) (x4 : Tick) : Statement (.probe y1 y2 x3 x4) := .inl rfl
theorem probeReply (y1 : BitVec 16) (y2 : ReplyBody) (x3 : Tick) : Statement (.probeReply y1 y2 x3) := .inl rfl
theorem join (y1 : W64) (y2 : BitVec 16) (x3 : Byte) : Statement (.join y1 y2 x3) := .inl rfl
theorem joinReply (y1 : W64) (y2 : BitVec 16) : Statement (.joinReply y1 y2) := .inl rfl
theorem joinTimeout : Statement (.joinTimeout) := .inl rfl
theorem register (y1 : BitVec 16) (y2 : EpochIx) (x3 : Bool) (x4 : Byte) : Statement (.register y1 y2 x3 x4) := .inl rfl
theorem prepare (y1 : EpochIx) (y2 : Byte) : Statement (.prepare y1 y2) := .inl rfl
theorem ack (y1 : BitVec 16) (y2 : EpochIx) (x3 : AckRes) : Statement (.ack y1 y2 x3) := .inl rfl
theorem commit (y1 : EpochIx) : Statement (.commit y1) := .inl rfl
theorem cancel (y1 : EpochIx) (y2 : CancelCause) : Statement (.cancel y1 y2) := .inl rfl
theorem epochBoundary (y1 : EpochIx) : Statement (.epochBoundary y1) := .inl rfl
theorem batonReq (y1 : BitVec 16) (y2 : W64) : Statement (.batonReq y1 y2) := .inl rfl
theorem batonMove (y1 : W64) (y2 : EpochIx) : Statement (.batonMove y1 y2) := .inl rfl
theorem timeSyncLoss : Statement (.timeSyncLoss) := .inl rfl
theorem claim (y1 : W64) : Statement (.claim y1) := .inl rfl
theorem claimTimer : Statement (.claimTimer) := .inl rfl
theorem fwBlock (y1 : Nat) (y2 : List Byte) : Statement (.fwBlock y1 y2) := .inr rfl
theorem alert (y1 : BitVec 16) (y2 : PortIx) : Statement (.alert y1 y2) := .inl rfl
theorem discLocked (y1 : Int) : Statement (.discLocked y1) := .inl rfl
theorem discUnlocked (y1 : Int) : Statement (.discUnlocked y1) := .inl rfl
theorem hkRoundStart : Statement (.hkRoundStart) := .inl rfl
theorem hkRoundEnd (y1 : HkMeas) : Statement (.hkRoundEnd y1) := .inr rfl
theorem graceExpiry (y1 : Oct) : Statement (.graceExpiry y1) := .inl rfl
theorem rstepExpiry (y1 : Oct) : Statement (.rstepExpiry y1) := .inl rfl
theorem throttleRelease (y1 : Oct) : Statement (.throttleRelease y1) := .inl rfl
theorem ladderHold (y1 : QuadIx) : Statement (.ladderHold y1) := .inl rfl
theorem coldPowerUp (y1 : ColdCause) (y2 : Bool) : Statement (.coldPowerUp y1 y2) := .inl rfl
theorem pllLockRetry (y1 : Bool) : Statement (.pllLockRetry y1) := .inl rfl
theorem powerFail : Statement (.powerFail) := .inl rfl
theorem prstNPulse (y1 : Nat) : Statement (.prstNPulse y1) := .inl rfl
theorem rootPllUnlock : Statement (.rootPllUnlock) := .inl rfl
theorem relockRestart : Statement (.relockRestart) := .inl rfl
theorem tapInstruction (y1 : Byte) : Statement (.tapInstruction y1) := .inl rfl
theorem faultReport (y1 : Fin 32) (y2 : FaultClass) (x3 : BitVec 16) (x4 : W64) (x5 : Tick) : Statement (.faultReport y1 y2 x3 x4 x5) := .inr rfl
theorem recordWriteDone : Statement (.recordWriteDone) := .inl rfl
theorem quietExpiry (y1 : Fin 32) : Statement (.quietExpiry y1) := .inl rfl
theorem watchdogExpiry (y1 : CoreIx) : Statement (.watchdogExpiry y1) := .inl rfl
theorem lockstepMismatch (y1 : CoreIx) : Statement (.lockstepMismatch y1) := .inl rfl
theorem standbyReloadDone : Statement (.standbyReloadDone) := .inl rfl
theorem aliveToggle : Statement (.aliveToggle) := .inl rfl
theorem bootEpochProgram (y1 : Bool) : Statement (.bootEpochProgram y1) := .inl rfl
theorem sealStep : Statement (.sealStep) := .inl rfl
theorem chainbootFetch : Statement (.chainbootFetch) := .inl rfl
theorem regulatorReady (y1 : DomainIx) : Statement (.regulatorReady y1) := .inl rfl
theorem dividerChangeDone (y1 : QuadIx) : Statement (.dividerChangeDone y1) := .inl rfl
theorem pairFaultEnd (y1 : Oct) (y2 : EncPair) : Statement (.pairFaultEnd y1 y2) := .inl rfl
theorem zeroLengthReadDone (y1 : LaneIx) (y2 : Bool) : Statement (.zeroLengthReadDone y1 y2) := .inl rfl
theorem commandReadDone (y1 : ReadFor) (y2 : List (List Byte)) : Statement (.commandReadDone y1 y2) := .inl rfl
theorem takeoverCopyDone (y1 : CellIx) (y2 : List (BlockIx × Ecc)) : Statement (.takeoverCopyDone y1 y2) := .inl rfl
theorem coreSwapDone : Statement (.coreSwapDone) := .inl rfl
theorem fusePulseDone (y1 : Bool) : Statement (.fusePulseDone y1) := .inl rfl
theorem motorCalDone (y1 : Oct) (y2 : CalInput) (x3 : CalInput) : Statement (.motorCalDone y1 y2 x3) := .inl rfl
theorem perstNDeassert (y1 : LinkWidth) : Statement (.perstNDeassert y1) := .inl rfl
theorem injectionEnd : Statement (.injectionEnd) := .inl rfl

end Sys2Proof.Laws.WellFormedTotal
end

