-- ==== Sys2Proof/Machine/Header.lean ====
section
/-! DEFINITION. What the configuration space of a function reports (R117, R119, R121, R126): all of it follows from the fuses, the BAR values and
the Device Control and SR-IOV fields that State holds. -/

namespace Sys2Proof.Machine

/-- The identification fields of the configuration header (R119) and its Interrupt Pin (R117). -/
structure Header where
  vendor    : BitVec 16
  device    : BitVec 16
  revision  : Byte
  classCode : BitVec 24
  subVendor : BitVec 16
  subsystem : BitVec 16
  intPin    : Byte
deriving DecidableEq, Repr

/-- The header of function f (R119). -/
def State.header (s : State) (f : Nat) : Header :=
  { vendor := fld (s.getFuse 0 2) 0 16, device := if f = 0 then 0x9600 else 0x9601, revision := 0x01, classCode := 0x118000
    subVendor := fld (s.getFuse 7 0) 0 16, subsystem := fld (s.getFuse 7 0) 16 16, intPin := 0 }

/-- The options that the capability structures report (R117); those that the table marks as not supported are absent. -/
structure Caps where
  speeds       : List Nat
  widths       : List Nat
  maxPayload   : Nat
  maxRead      : Nat
  tags         : Nat
  flr          : Bool
  msixVectors  : Nat
  aer          : Bool
  ecrc         : Bool
  margining    : Bool
  scaledFlow   : Bool
  timeouts     : List Char
  timeoutOff   : Bool
  noSoftReset  : Bool
  serial       : W64
  msi          : Bool
  pme          : Bool
  aspm         : Bool
  ltr          : Bool
  obff         : Bool
  tph          : Bool
  ats          : Bool
  pri          : Bool
  pasid        : Bool
  atomics      : Bool
  resizableBar : Bool
deriving DecidableEq, Repr

/-- The capabilities of every function (R117): speeds in 0.1 GT/s, sizes in bytes, the ranges of the completion timeout. The Device Serial Number is the unit ID. -/
def State.caps (s : State) : Caps :=
  { speeds := [25, 50, 80, 160, 320], widths := [16, 8, 4, 2, 1], maxPayload := 512, maxRead := 4096, tags := 768, flr := true, msixVectors := 128
    aer := true, ecrc := true, margining := true, scaledFlow := true, timeouts := ['A', 'B', 'C', 'D'], timeoutOff := true, noSoftReset := true, serial := s.unitId
    msi := false, pme := false, aspm := false, ltr := false, obff := false, tph := false, ats := false, pri := false, pasid := false
    atomics := false, resizableBar := false }

/-- The SR-IOV capability of the physical function (R121), with VF BAR0 and VF BAR1: a 64-bit memory BAR, not prefetchable, of 64 MiB for each
virtual function, and the four others, which read 0 (R126). -/
structure SrIov where
  totalVfs   : Nat
  initialVfs : Nat
  offset     : Nat
  stride     : Nat
  numVfs     : BitVec 16
  enable     : Bool
  vfBars     : List W32
deriving DecidableEq, Repr
def State.srIov (s : State) : SrIov :=
  { totalVfs := 15, initialVfs := 15, offset := 1, stride := 1, numVfs := s.glb.numVfs, enable := s.glb.vfEn
    vfBars := [(fld s.glb.vfBar 0 32 &&& 0xFC000000) ||| 0x4, fld s.glb.vfBar 32 32, 0, 0, 0, 0] }
/-- The Routing ID of lane f, from that of the physical function (R121). -/
def State.routingId (s : State) (pf : BitVec 16) (f : Nat) : BitVec 16 :=
  if f = 0 then pf else pf + BitVec.ofNat 16 (s.srIov.offset + s.srIov.stride * (f - 1))

/-- BAR register i (0 to 5) of function f (R126): a 64-bit memory BAR takes two, its type lies in bits [3:0], and an unimplemented one reads 0. A
virtual function's own BARs read 0: theirs is VF BAR0 of the SR-IOV capability (SrIov.vfBars). -/
def State.barWord (s : State) (f i : Nat) : W32 :=
  let h := s.getHost f
  if f ≠ 0 then 0
  else match i with
    | 0 => (fld h.bar0 0 32 &&& 0xFC000000) ||| 0x4
    | 1 => fld h.bar0 32 32
    | 2 => (fld h.bar2 0 32 &&& 0xFFE00000) ||| 0xC
    | 3 => fld h.bar2 32 32
    | _ => 0
/-- Where BAR0 of function f begins: a virtual function's is one of the 64 MiB windows from VF BAR0 (R126). -/
def State.bar0Base (s : State) (f : Nat) : W64 := if f = 0 then (s.getHost 0).bar0 else s.glb.vfBar + BitVec.ofNat 64 ((f - 1) * 67108864)

end Sys2Proof.Machine
end

