-- ==== Sys2Proof/Machine/Pins.lean ====
section
/-! DEFINITION. The states of the output pins (R106, R117), as they follow from State. -/

namespace Sys2Proof.Machine

/-- What drives the three half bridges of a motor channel: nothing (every gate low), the short brake (R423), whose low sides turn on `after` PWMCLK cycles
behind the last PWM edge (R107, R417), or PWM edges. -/
inductive GateDrive where
  | low
  | brake (after : Nat)
  | pwm (u v w : PwmEdges)
deriving DecidableEq, Repr

/-- The short brake of the compact profile opens a 2 ms gap with the gates off every 20 ms, at the end of each (R424; log entry 18). -/
def Motor.brakeGap (m : Motor) : Bool := !m.profile && decide (2700000 ≤ m.spent % 3000000)
/-- The motor gates of channel n (R106, R419, R423, R424). -/
def State.motorGates (s : State) (n : Nat) : GateDrive :=
  let m := s.getMotor n
  if !s.on dMOT then .low
  else if m.gap then .low
  else match m.st with
    | .run | .direct | .align | .ramp => .pwm m.uE m.vE m.wE
    | .braking => if m.brakeGap then .low else .brake (max m.dt.toNat 3)
    | .off | .cal | .ready | .check | .coast | .braked | .fault => if m.brakeHeld then .brake (max m.dt.toNat 3) else .low

/-- The half period of MCn_ICLK in PWMCLK cycles, none while it is low (R106, R431): 18.75 MHz or 9.375 MHz from 150 MHz. -/
def State.iclk (s : State) (n : Nat) : Option Nat := if s.on dMOT then some (if (s.getMotor n).iclk then 8 else 4) else none

/-- Head-link TX of link l is in electrical idle (R106): its serving quad is off or in reset. -/
def State.headTxIdle (s : State) (l : Nat) : Bool := !s.on (s.workQuad (l / 2))
/-- Chain TX of port x is in electrical idle (R106): AON, where the relay lies, does not run. -/
def State.chainTxIdle (s : State) (x : Nat) : Bool := !s.fire || decide ((s.getPort x).st = .down)
/-- What drives an output pin: its block, or after a pin-taking instruction its scan cell (R116): the boundary register's content, high impedance
while HIGHZ is the instruction, and pulses or a train of them on an AC-coupled pair (R114; IEEE 1149.1 and 1149.6). -/
inductive PinDrive where
  | block | cell | highZ | pulse | train
deriving DecidableEq, Repr
/-- What drives the output pins, `ac` for those of an AC-coupled pair (R114, R116). -/
def State.pinDrive (s : State) (ac : Bool) : PinDrive :=
  if !s.glb.pins then .block
  else match s.glb.tapIr.toNat with
    | 0x04 => .highZ
    | 0x05 => if ac then .pulse else .cell
    | 0x06 => if ac then .train else .cell
    | _ => .cell
/-- The level that a block drives, none once the pins are its scan cells' (R116). -/
def State.ownPin (s : State) (level : Bool) : Option Bool := if s.pinDrive false = .block then some level else none
/-- The level of ALIVE, and whether it toggles (R106, R502). -/
def State.alivePin (s : State) : Option Bool × Bool := (s.ownPin s.flt.alive, s.alive && !s.glb.failing && !s.outClass 3)
/-- The level of SVCREQ (R106, R503): low until AON reset is released. -/
def State.svcreqPin (s : State) : Option Bool := s.ownPin (s.aonRuns && s.svcreq)
/-- TDO is at high impedance (R106): VIN12 is below the threshold, or the TAP's domain is not out of reset. -/
def State.tdoHighZ (s : State) : Bool := s.glb.failing || !s.aonRuns
/-- CLKREQ_N is driven low (R117): from step 6 of R83, when the serial PLLs are released, until power is lost. -/
def State.clkreqLow (s : State) : Option Bool := s.ownPin (s.glb.powered && !s.glb.failing && (s.glb.devStop || bit s.glb.pwr dHOST))
/-- WAKE_N is never asserted (R117). -/
def State.wakeLow (s : State) : Option Bool := s.ownPin false

end Sys2Proof.Machine
end

