-- ==== Sys2Proof/Tests/Slice0.lean ====
section
/-! SUPPORT. The model's own tests: ill-formed terms that the checks refuse, a few effects whose values the spec gives, and for each
statement with hypotheses a state and operands that meet all of them together, clause by clause (theorems witness_…). -/

namespace Sys2Proof.Tests
open Sys2Proof.Machine
set_option Elab.async false

/-! ### States and packets -/

/-- A part that has come up: every domain runs, the host link is up with all functions on the bus, THN_A runs an image and THN_B stands by. -/
def up : State :=
  { State.reset with
    time := 1000000
    glb := { resetGlb with clk := BitVec.allOnes 80, pwr := BitVec.allOnes 80, resOk := true, rootLock := true, phyLock := true, serdes := true
                           hwrdy := true, powered := true, linkUp := true, vfEn := true, numVfs := 15 }
    thn := { State.reset.thn with a := { resetCore with role := .active, image := some ⟨1, 2, 0⟩ }
                                  b := { resetCore with role := .standby, image := some ⟨1, 2, 0⟩ } }
    fuse := { resetFuse with epochPend := false }
    hk := { resetHk with vin := 12000, fastAct := false } }

/-- The state with one packet waiting on the enabled queue of lane q. -/
def queued (q : Nat) (s : State) : State := s.updHost q (fun h => { h with en := true, sqTail := 1 })

/-- A packet with numbers at byte offsets of its parameters. -/
def pk (lane : Nat) (fs : List (Nat × Nat)) : Packet :=
  { lane := BitVec.ofNat 8 lane, flags := 0, tag := 0xC07
    param := fs.foldl (fun v e => v ||| (BitVec.ofNat 448 e.2 <<< (8 * (e.1 - 8)))) 0 }

/-- A configuration copy of cell 0 for Pacer 0 at 50,000 lines a second. -/
def cp : Copy := { noCopy with fmax := 50000, datasz := 512, depth := 2 }
/-- Lane 0 in a state, with cp in force. -/
def laneIn (st : LaneSt) (s : State) : State := s.updLane 0 (fun x => { x with st := st, inForce := [cp] })
/-- The part with a packet on queue 0, and with lane 0 CONFIGURED or in PRINT besides. -/
def s0 : State := queued 0 up
def sC : State := laneIn .configured s0
def sP : State := laneIn .print s0
/-- An outstanding operation of queue 0 whose handle is 5. -/
def op5 (k : OpKind) : Op := ⟨5, 7, 0, 0, k⟩

/-- Served, from its conditions as one Boolean. -/
theorem served_of {a b c d : Bool} {fs : List Field} {q : LaneIx} {p : Packet} {s : State}
    (h : ((s.takes q.val && s.laneFree q.val p && (!pfence p || (s.handlesOf q.val).isEmpty) && (s.getHost q.val).unknown.isEmpty) &&
      ((b || s.imageRuns) && (c || s.glb.hwrdy) && (!a || decide (q.val = 0)) && laneValid d q.val p s && (firstBad p fs).isNone)) = true) :
    Served a b c fs q p s d := by
  simp only [Bool.and_eq_true, Bool.or_eq_true, Bool.not_eq_true', decide_eq_true_eq, Option.isNone_iff_eq_none, List.isEmpty_iff] at h
  obtain ⟨⟨⟨⟨h1, h2⟩, h3⟩, h4⟩, ⟨⟨⟨h5, h6⟩, h7⟩, h8⟩, h9⟩ := h
  exact ⟨h1, h2, h3, h4, h5, h6, fun ha => h7.resolve_left (by simp [ha]), h8, h9⟩
theorem inState_none {p : Packet} {s : State} (h : (s.getLane p.lane.toNat).st ≠ .resetting) : InState none p s := ⟨h, fun l h => by cases h⟩
theorem inState_some {l : List LaneSt} {p : Packet} {s : State}
    (h : (s.getLane p.lane.toNat).st ≠ .resetting ∧ (s.getLane p.lane.toNat).st ∈ l) : InState (some l) p s :=
  ⟨h.1, fun l' e => by cases e; exact h.2⟩
theorem arrives_of {f : Nat} {s : State} (h : s.reaches f = true ∧ (s.getHost f).d3 = false ∧ (s.getHost f).held = []) : Arrives f s :=
  ⟨h.1, h.2.1, h.2.2⟩

/-! ### Commands of a queue pair -/

theorem witness_BufferCommandsAnswer : Served true true true [fAny 8 8] 0 (pk 0 [(8, 2 ^ 64 - 1)]) s0 ∧
    Served true false true [fAny 8 8] 0 (pk 0 []) s0 ∧ Served false false true [fAny 8 8] 15 (pk 15 []) (queued 15 up) ∧
    InState none (pk 0 []) s0 ∧ InState none (pk 15 []) (queued 15 up) :=
  ⟨served_of (by decide +kernel), served_of (by decide +kernel), served_of (by decide +kernel), inState_none (by decide +kernel),
    inState_none (by decide +kernel)⟩

def readFuses : Packet := pk 0 [(8, 15), (10, 127), (12, 1)]
def sealed : PRec := ⟨0, 0, 1, 0, 0, 5, 7, []⟩
def withRec : State := { s0 with meter := { s0.meter with lanes := [(0, { s0.getMeter 0 with recs := [sealed] })] } }
def loading : State := { s0 with ops := [op5 (.configLoad 1 64 64)] }

theorem witness_ReadOutCommandsAnswer :
    (let p := pk 0 [(16, 1)]; Served true false true [fAny 8 8, fMax p 16 1 1] 0 p s0) ∧
    (let p := readFuses; Served true true true [fMax p 8 1 15, fMax p 10 2 127, fMax p 12 2 (128 - pnum p 10 2), fAny 16 8] 0 p s0 ∧
      bit s0.fuse.rl (pnum p 8 1) = false ∧ bit ({ s0 with fuse := { s0.fuse with rl := 0x8000 } } : State).fuse.rl (pnum p 8 1) = true) ∧
    Served false false true [fAny 8 8] 0 (pk 0 []) s0 ∧
    (let p := pk 0 [(16, 1)]; Served false false true [fAny 8 8, fAny 16 8] 0 p withRec ∧
      (withRec.getMeter p.lane.toNat).recs.find? (fun r => decide (r.period.toNat = pnum p 16 8)) = some sealed ∧
      (s0.getMeter p.lane.toNat).recs.find? (fun r => decide (r.period.toNat = pnum p 16 8)) = none) ∧
    Served false false true [] 0 (pk 0 []) s0 ∧
    (let p := pk 0 [(8, 5)]; Served false false true [fAny 8 4] 0 p loading ∧ s0.outstanding 0 (BitVec.ofNat 32 (pnum p 8 4)) = false ∧
      loading.outstanding 0 (BitVec.ofNat 32 (pnum p 8 4)) = true ∧ loading.running 5 = some (op5 (.configLoad 1 64 64)) ∧
      (loading.getHost 0).room = true) ∧ InState none (pk 0 []) withRec ∧ InState none (pk 0 []) loading ∧
    (loading.getHost 0).unknown = [] ∧
    (let p : Packet := { pk 0 [] with flags := 2 }
     loading.takes 0 = true ∧ loading.laneFree 0 p = true ∧ pfence p = true ∧ loading.handlesOf 0 = [5] ∧
      (let f : Fenced := ⟨some (0x0100, p), p.tag, [5]⟩; let s := s0.updHost 0 (HostFn.setFence (some f))
       (s.getHost 0).fence = some f ∧ f.cmd = some (0x0100, p) ∧ s.fenceOver f = true ∧ s.serves 0 = true ∧ s.imageRuns = true ∧
        laneValid false 0 p s = true ∧ (s.getLane p.lane.toNat).st ≠ .resetting ∧ s.laneFree 0 p = true ∧ s.assign = none)) :=
  ⟨served_of (by decide +kernel), ⟨served_of (by decide +kernel), by decide +kernel⟩, served_of (by decide +kernel),
    ⟨served_of (by decide +kernel), by decide +kernel⟩, served_of (by decide +kernel),
    ⟨served_of (by decide +kernel), by decide +kernel⟩,
    inState_none (by decide +kernel), inState_none (by decide +kernel), by decide +kernel⟩

def arm : Packet := pk 0 [(8, 31), (9, 0xFF), (12, 2 ^ 31 - 1), (16, 1)]
theorem witness_LaneCommandsTakeEffect :
    (let p := pk 0 [(8, 12500000)]; Served false false false [fMax p 8 4 12500000] 0 p sC ∧ InState stCP p sC) ∧
    Served false false false [fAny 8 4] 0 (pk 0 []) sC ∧ (sC.getLane 0).pacer = some 0 ∧
    (let p := pk 0 [(8, 1)]; Served false false false [fMax p 8 1 1] 0 p s0 ∧ InState none p s0 ∧ s0.held (.slot 0 1) = false ∧
      s0.slotLocked 0 1 = false) ∧
    (let p := arm
     Served false false false [⟨8, 1, decide (pnum p 8 1 < 32) && !(sP.getPacer 0).cont⟩,
        ⟨9, 1, (decide (pnum p 9 1 < 32) || decide (pnum p 9 1 = 0xFF)) && decide (pnum p 9 1 ≠ pnum p 8 1)⟩, fMax p 12 4 (2 ^ 31 - 1),
        ⟨16, 4, decide (pnum p 16 4 < 2 ^ 31) && !(decide (pnum p 9 1 = 0xFF) && decide (pnum p 16 4 = 0))⟩] 0 p sP ∧
      InState stP p sP ∧ (sP.getPacer 0).live.length < 8 ∧ (sP.getLane 0).pacer = some 0) :=
  ⟨⟨served_of (by decide +kernel), inState_some (by decide +kernel)⟩, served_of (by decide +kernel), by decide +kernel,
    ⟨served_of (by decide +kernel), inState_none (by decide +kernel), by decide +kernel⟩,
    served_of (by decide +kernel), inState_some (by decide +kernel), by decide +kernel⟩

def assign : Packet := pk 0 [(8, 2 ^ 63), (16, 15)]
def motorIdle (s : State) : State := s.updMotor 7 (fun m => { m with st := .off })
theorem witness_ServiceCommandsTakeEffect :
    (let p := assign
     let quads := (List.range 64).filter (fun k => (BitVec.ofNat 64 (pnum p 8 8)).getLsbD k)
     Served true false true [fAny 8 8, fMax p 16 1 15] 0 p s0 ∧ s0.present (pnum p 16 1) = true ∧ quads = [63] ∧ (∀ r ∈ s0.quadRings quads, (s0.getRing r).en = false ∧ (s0.getRing r).busy = false) ∧
      (∀ l ∈ pnum p 16 1 :: quads.map (fun k => (s0.getQuad k).owner.toNat), (s0.getLane l).st = .idle) ∧ ∀ k ∈ quads, s0.quadNamed k = false) ∧
    (let p := pk 0 [(8, 15)]; let s := s0.updEngine 15 (fun x => { x with stopped := true })
     Served true false false [fMax p 8 1 15] 0 p s ∧ InState none p s ∧ (s.getEngine (pnum p 8 1)).stopped = true) ∧
    (let p := pk 0 [(8, 15), (9, 1)]; Served true false false [fMax p 8 1 15, fMax p 9 1 1] 0 p s0) ∧
    (let s := motorIdle s0
     (let p := pk 0 [(8, 7), (9, 7), (12, 1)]
      Served true false false [⟨8, 1, decide (pnum p 8 1 < 8) && !(decide (pnum p 9 1 ≠ 0xFF) && decide ((s.getMotor (pnum p 8 1)).mode = 2))⟩,
        ⟨9, 1, decide (pnum p 9 1 < 8) || decide (pnum p 9 1 = 0xFF)⟩, ⟨12, 4, decide (pnum p 9 1 = 0xFF) || decide (pnum p 12 4 ≠ 0)⟩] 0 p s false) ∧
     (let p := pk 0 [(8, 7), (9, 0xFF)]
      Served true false false [⟨8, 1, decide (pnum p 8 1 < 8) && !(decide (pnum p 9 1 ≠ 0xFF) && decide ((s.getMotor (pnum p 8 1)).mode = 2))⟩,
        ⟨9, 1, decide (pnum p 9 1 < 8) || decide (pnum p 9 1 = 0xFF)⟩, ⟨12, 4, decide (pnum p 9 1 = 0xFF) || decide (pnum p 12 4 ≠ 0)⟩] 0 p s false) ∧
     (s.getMotor 7).stopped = true ∧ s.held (.channel 7) = false ∧ (s.getMotor 7).bound = none ∧
      channelOwn 0 (pk 0 [(8, 7)]) (s.updMotor 7 (fun m => { m with bound := some 7 })) = true) ∧
    (let p := pk 0 [(8, 1048575), (12, 1)]
     Served false false false [fMax p 8 4 1048575, fMax p 12 1 1] 0 p sP ∧ InState stCP p sP ∧ sP.laneOf (pnum p 8 4 / 4096) = p.lane.toNat) ∧
    (let p := pk 0 [(8, 1)]; Served true false true [fMax p 8 1 1] 0 p s0 ∧ InState none p s0) ∧ s0.chn.rcause ≠ .command ∧
    (s0.updChn (fun c => { c with rcause := .command })).chn.rcause = .command :=
  ⟨⟨served_of (by decide +kernel), by decide +kernel⟩, ⟨served_of (by decide +kernel), inState_none (by decide +kernel), by decide +kernel⟩,
    served_of (by decide +kernel), ⟨served_of (by decide +kernel), served_of (by decide +kernel), by decide +kernel⟩,
    ⟨served_of (by decide +kernel), inState_some (by decide +kernel), by decide +kernel⟩,
    ⟨served_of (by decide +kernel), inState_none (by decide +kernel)⟩, by decide +kernel⟩

def loadP : Packet := pk 0 [(8, 64), (16, 33554432), (20, 1)]
def tsetP : Packet := pk 0 [(8, 4), (24, 262144)]
def fwP : Packet := pk 0 [(16, 1048576)]
def runM : State := sC.updMotor 7 (fun m => { m with st := .off, calValid := true, mode := 1, trq := 5 })
def unbaton (s : State) : State := s.updChn (fun c => { c with st := .member, baton := false })
theorem witness_LoadCommandsBegin : s0.noHandle 0 = none ∧ sC.noHandle 0 = none ∧
    (let p := loadP
     Served false false false [fAny 8 8, fMax p 16 4 33554432, fMax p 20 1 1] 0 p s0 ∧ InState none p s0 ∧ s0.held (.slot 0 1) = false ∧
      s0.slotLocked 0 1 = false) ∧
    (let p := tsetP
     Served false false false [fMax p 8 1 4, fAny 16 8, fAny 24 4] 0 p sC ∧ InState stCP p sC ∧ sC.held (.tset 0 4) = false ∧
      pnum p 24 4 = 1024 * (sC.cellsOf 0).length) ∧
    (let p := fwP
     Served true true true [fAny 8 8, if pnum p 20 1 = 1 then fAny 16 4 else fMax p 16 4 1048576, fMax p 20 1 1] 0 p s0 ∧
      s0.held .core = false ∧ s0.loadTarget = some 1) ∧
    (Served true false true [] 0 (pk 0 []) s0 ∧ s0.standbyImage = some ⟨1, 2, 0⟩ ∧ s0.standbyCore = some 1 ∧ s0.standbyImage = s0.activeImage ∧
      spanOk s0.minLevel s0.maxLevel 2 = true) ∧
    (let p := pk 0 [(8, 7)]; let s := motorIdle s0
     Served false false false [fMax p 8 1 7] 0 p s ∧ channelOwn 0 p s = true ∧ (s.getMotor (pnum p 8 1)).stopped = true ∧
      s.held (.channel (pnum p 8 1)) = false) ∧
    (let p := pk 0 [(8, 65534)]
     Served true false true [fMax p 8 2 65534] 0 p s0 ∧ s0.chn.st ≠ .relayOnly ∧ s0.held .chain = false ∧ s0.anyPrint = false) ∧
    (let p := pk 0 [(8, 7), (9, 1)]; let m := runM.getMotor 7
     Served false false false [fMax p 8 1 7, ⟨9, 1, decide (pnum p 9 1 ≤ 1) && !(decide (pnum p 9 1 ≠ 1) && decide (m.mode = 1))⟩] 0 p runM ∧
      InState stCP p runM ∧ channelOwn 0 p runM = true ∧ m.stopped = true ∧ runM.held (.channel 7) = false ∧ m.failA = false ∧ m.failB = false ∧
      m.calValid = true ∧ m.mode ≠ 2 ∧ runM.wanted { m with ending := false } ≠ 0) ∧
    (Served true false true [] 0 (pk 0 []) (unbaton s0) ∧ (unbaton s0).chn.st ≠ .relayOnly ∧ (unbaton s0).holder = false ∧
      (unbaton s0).chn.move = none) ∧
    (Served false false true [fAny 8 8] 0 (pk 0 []) sC ∧ InState stCP (pk 0 []) sC ∧ sC.held (.period 0) = false ∧ sC.meter.seqLost = false ∧
      sC.meter.seqNo + sC.meter.closed.length < 2 ^ 48) :=
  ⟨by decide +kernel, by decide +kernel, ⟨served_of (by decide +kernel), inState_none (by decide +kernel), by decide +kernel⟩,
    ⟨served_of (by decide +kernel), inState_some (by decide +kernel), by decide +kernel⟩, ⟨served_of (by decide +kernel), by decide +kernel⟩,
    ⟨served_of (by decide +kernel), by decide +kernel⟩, ⟨served_of (by decide +kernel), by decide +kernel⟩,
    ⟨served_of (by decide +kernel), by decide +kernel⟩, ⟨served_of (by decide +kernel), inState_some (by decide +kernel), by decide +kernel⟩,
    ⟨served_of (by decide +kernel), by decide +kernel⟩, served_of (by decide +kernel), inState_some (by decide +kernel), by decide +kernel⟩

def full : Slot := ⟨false, ⟨0, 64, 64, 5⟩, [cp], [0]⟩
def withSlots (s : State) : State := s.updLane 0 (fun x => { x with slot0 := some full, slot1 := some { full with patch := true } })
def align : Packet := pk 0 [(8, 0), (10, 1), (12, 64), (16, 9599), (20, 15), (24, 31)]
/-- The least epoch a command may name: the current one + 2 × LEAD (R452). -/
def soon : Nat := (1000000 : Nat) / 65536 + 2 * 8
theorem witness_ChangeCommandsBegin : s0.chn.lead = 8 ∧ (∀ x ∈ sC.chn.preps, x.ep ≠ soon) ∧
    (let p := pk 0 [(16, soon)]; let s := withSlots s0
     Served false false false [slotHolds false p s, fEpoch p 16 s] 0 p s ∧ InState stIC p s ∧ relayBad 16 p s = false ∧
      s.held (.slot 0 0) = false ∧ s.held (.config 0) = false ∧ s.held (.print 0) = false ∧ s.ops = [] ∧
      (s.getLane 0).slot 0 = some full ∧ s.widthOk 0 full.copies = true) ∧
    (let p := pk 0 [(8, 1), (16, soon)]; let s := withSlots sP
     Served false false false [slotHolds true p s, fEpoch p 16 s] 0 p s ∧ InState stCP p s ∧ s.held (.slot 0 1) = false ∧
      (s.getLane 0).slot 1 = some { full with patch := true } ∧ s.widthOk 0 (mergeCopies (s.getLane 0).inForce full.copies) = true) ∧
    (let p := align; let k := pnum p 10 2
     let shift := signed 16 (pnum p 12 2)
     sC.forceOf k = some cp ∧ Served false false false [⟨8, 1, decide (pnum p 8 1 ≤ 15) && decide (cp.plane = pnum p 8 1)⟩, fMax p 10 2 511,
        ⟨12, 2, decide (-64 ≤ shift ∧ shift ≤ 64)⟩, fMax p 16 4 9599,
        ⟨20, 2, decide (pnum p 20 2 ≤ 15) && decide (pnum p 20 2 + (linkCfg cp (k % 2)).redofs ≤ 15)⟩, fEpoch p 24 sC] 0 p sC ∧
      InState stCP p sC ∧ sC.laneOf (k / 2) = 0 ∧ relayBad 24 p sC = false) ∧
    (let p := pk 0 [(16, soon)]
     Served false false false [fEpoch p 16 sC] 0 p sC ∧ InState stC p sC ∧ (sC.getLane 0).fmax ≠ 0 ∧ sC.held (.print 0) = false) ∧
    (let p := pk 0 [(8, 1), (16, soon)]; Served false false false [fMax p 8 1 1, fEpoch p 16 sP] 0 p sP ∧ InState stP p sP) ∧
    (let p := pk 0 [(8, 2), (16, soon)]
     Served true false true [⟨8, 1, decide (pnum p 8 1 ≠ 0)⟩, fEpoch p 16 s0] 0 p s0 ∧ s0.held .chain = false ∧ s0.holder = true ∧
      2 ≤ (s0.chn.known.map (fun m => m.level.toNat)).foldl min s0.ownLevel ∧ 2 ≤ s0.opLevel + 1) :=
  ⟨by decide +kernel, by decide +kernel, ⟨served_of (by decide +kernel), inState_some (by decide +kernel), by decide +kernel⟩,
    ⟨served_of (by decide +kernel), inState_some (by decide +kernel), by decide +kernel⟩,
    ⟨by decide +kernel, served_of (by decide +kernel), inState_some (by decide +kernel), by decide +kernel⟩,
    ⟨served_of (by decide +kernel), inState_some (by decide +kernel), by decide +kernel⟩,
    ⟨served_of (by decide +kernel), inState_some (by decide +kernel)⟩, served_of (by decide +kernel), by decide +kernel⟩

def fuseWl (r : Nat) : State := { s0 with fuse := { s0.fuse with wl := BitVec.ofNat 16 (2 ^ r), rl := BitVec.ofNat 16 (2 ^ r) } }
theorem witness_CommandsThatEndAtOnce : s0.noHandle 0 = none ∧ RoomForTwo 0 s0 ∧ RoomForTwo 0 sC ∧ s0.ops = [] ∧
    (Served false false false [] 0 (pk 0 []) sC ∧ InState stCP (pk 0 []) sC ∧ sC.held (.config 0) = false) ∧
    (let p := pk 0 [(16, 255), (18, 255), (20, 1)]
     Served false false false [fAny 8 8, fMax p 16 2 255, fAny 18 1, fAny 20 4] 0 p sC ∧ sC.laneOf (pnum p 16 2) = 0) ∧
    (Served true false true [] 0 (pk 0 []) s0 ∧ s0.chn.st ≠ .relayOnly ∧ s0.held .chain = false ∧ s0.holder = true) ∧
    (let p := pk 0 [(8, 7), (9, 0)]; let s := sC.updMotor 7 (fun m => { m with st := .braked, mode := 2 }); let m := s.getMotor 7
     Served false false false [fMax p 8 1 7, ⟨9, 1, decide (pnum p 9 1 ≤ 1) && !(decide (pnum p 9 1 ≠ 1) && decide (m.mode = 1))⟩] 0 p s ∧
      InState stCP p s ∧ channelOwn 0 p s = true ∧ m.stopped = true ∧ m.mode = 2) ∧ sC.wanted { (sC.getMotor 7) with ending := false } = 0 ∧
    (let p := pk 0 [(8, 2), (16, 0)]
     Served true false true [⟨8, 1, decide (pnum p 8 1 ≠ 0)⟩, fEpoch p 16 s0] 0 p s0 ∧ s0.levelOk (pnum p 8 1) = true) ∧
    (let p := pk 0 [(8, 15), (9, 3)]; let s := fuseWl 15
     Served true false true [fMax p 8 1 15, ⟨9, 1, decide (pnum p 9 1 < 4) && !decide (pnum p 8 1 = 0 ∧ 2 ≤ pnum p 9 1) &&
        !decide (pnum p 8 1 = 4 ∧ pnum p 9 1 % 2 = 1)⟩] 0 p s ∧ s.held .fuse = false ∧ bit s.fuse.wl 15 = true ∧ bit s.fuse.rl 15 = true ∧
      s.inWindow = true ∧ s.fuse.prog = none) :=
  ⟨by decide +kernel, by unfold RoomForTwo; decide +kernel, by unfold RoomForTwo; decide +kernel, by decide +kernel,
    ⟨served_of (by decide +kernel), inState_some (by decide +kernel), by decide +kernel⟩, ⟨served_of (by decide +kernel), by decide +kernel⟩,
    ⟨served_of (by decide +kernel), by decide +kernel⟩, ⟨served_of (by decide +kernel), inState_some (by decide +kernel), by decide +kernel⟩,
    by decide +kernel, ⟨served_of (by decide +kernel), by decide +kernel⟩, served_of (by decide +kernel), by decide +kernel⟩

def burn : Packet := pk 0 [(8, 15), (10, 127), (12, 2 ^ 31 + 1)]
def lockP : Packet := pk 0 [(8, 15), (9, 3)]
theorem witness_FuseCommandsBegin : s0.noHandle 0 = none ∧ InState none burn s0 ∧ s0.held .fuse = false ∧ RoomForTwo 0 (fuseWl 15) ∧
    (let p := burn; let r := pnum p 8 1
     let prog := fun s => Served true false true [fMax p 8 1 15, fMax p 10 2 127, ⟨12, 4, !(decide (r = 5 ∧ pnum p 10 2 = 1) &&
      (match s.activeSlot with | none => false | some k => (BitVec.ofNat 32 (pnum p 12 4)).getLsbD k))⟩] 0 p s
     prog s0 ∧ prog (fuseWl 15) ∧ bit (fuseWl 15).fuse.wl r = true ∧ bit s0.fuse.wl r = false ∧
      pnum p 12 4 &&& progMask r (pnum p 10 2) = pnum p 12 4 ∧ s0.inWindow = true ∧
      (List.range 32).filter (fun i => (BitVec.ofNat 32 (pnum p 12 4)).getLsbD i && !bit (s0.getFuse r (pnum p 10 2)) i) = [0, 31]) ∧
    (let p := lockP; let r := pnum p 8 1
     Served true false true [fMax p 8 1 15, ⟨9, 1, decide (pnum p 9 1 < 4) && !decide (r = 0 ∧ 2 ≤ pnum p 9 1) &&
      !decide (r = 4 ∧ pnum p 9 1 % 2 = 1)⟩] 0 p s0 ∧
      [0, 1].filter (fun i => (BitVec.ofNat 8 (pnum p 9 1)).getLsbD i && !(if i = 0 then bit s0.fuse.wl r else bit s0.fuse.rl r)) = [0, 1]) :=
  ⟨by decide +kernel, inState_none (by decide +kernel), by decide +kernel, by unfold RoomForTwo; decide +kernel,
    ⟨served_of (by decide +kernel), served_of (by decide +kernel), by decide +kernel⟩, served_of (by decide +kernel), by decide +kernel⟩

def away (c : Nat) (s : State) : State := (s.updCell c (fun x => { x with svc := .stoodIn, server := 271, bistV := true, bistP := true })).updCell 271
  (fun x => { x with svc := .standingIn, server := c })
def spareReady : State := s0.updCell 271 (fun x => { x with bistV := true, bistP := true })
theorem witness_SpareAndDomainCommandsBegin : s0.noHandle 0 = none ∧ InState none (pk 0 []) s0 ∧
    (let p := pk 0 [(8, 255), (10, 271)]; let s := spareReady
     Served true false false [fMax p 8 2 255, ⟨10, 2, decide (pnum p 10 2 = 0xFFFF) || decide (256 ≤ pnum p 10 2 ∧ pnum p 10 2 < 272)⟩] 0 p s ∧
      s.spareFor 255 (pnum p 10 2) = some 271 ∧ (s.getCell 255).svc = .inService ∧ s.held (.cell 255) = false ∧ s.held (.cell 271) = false ∧ s.fire = true ∧ s.glb.failing = false) ∧
    (let p := pk 0 [(8, 255)]; let s := away 255 s0
     Served true false false [fMax p 8 2 255] 0 p s ∧ (s.getCell 255).svc = .stoodIn ∧ s.on (quadOf 255) = true ∧ (s.getCell 255).passed = true ∧
      s.held (.cell 255) = false ∧ s.held (.cell (s.getCell 255).server) = false) ∧
    (let p := pk 0 [(8, dMOT)]; let s := { s0 with motors := (List.range 8).map (fun n => (n, { motorReset n with st := .off })) }
     Served true false false [fMax p 8 1 79] 0 p s ∧ s.held (.domain (pnum p 8 1)) = false ∧ ∀ n < 8, (s.getMotor n).stopped = true) :=
  ⟨by decide +kernel, inState_none (by decide +kernel), ⟨served_of (by decide +kernel), by decide +kernel⟩,
    ⟨served_of (by decide +kernel), by decide +kernel⟩, served_of (by decide +kernel), by decide +kernel⟩

def resetting : State := laneIn .resetting s0 |>.updLane 0 (fun x => { x with reset := some ⟨[0], [], [], 1, false, none⟩ })
def turning : State := s0.updMotor 7 (fun m => { m with st := .run, spd := 100000 })
def planed : State := sC.updCell 0 (fun x => { x with active := threeCopies cp, inUse := some 0 })
theorem witness_StoppingCommandsTakeEffect :
    (Served false false true [] 0 (pk 0 []) s0 ∧ (s0.getLane 0).reset = none) ∧
    (Served false false true [] 0 (pk 0 []) resetting ∧ (resetting.getLane 0).reset = some ⟨[0], [], [], 1, false, none⟩) ∧
    (let p := pk 0 [(8, 7), (9, 1)]; let s := turning
     Served false false false [fMax p 8 1 7, fMax p 9 1 1] 0 p s ∧ channelOwn 0 p s = true ∧ s.noHandle 0 = none ∧ s.ops = [] ∧
      (s.getMotor 7).st = .run ∧ (s.getMotor 7).atRest = false) ∧
    (let p := pk 0 [(8, 0), (9, 2), (10, 1024)]; let s := planed
     Served false false false [fMax p 8 1 15, fMax p 9 1 2, ⟨10, 2, decide (1 ≤ pnum p 10 2 ∧ pnum p 10 2 ≤ 1024)⟩] 0 p s ∧ InState stCP p s ∧
      (s.getLane 0).fmax ≠ 0 ∧ (∀ g ∈ s.planeGates 0 0, (s.getGate g).st ≠ .test ∧ (s.getGate g).spit = none ∧ g ∉ s.gatesHeld) ∧
      s.planeOf 0 0 ≠ []) ∧
    (let p := pk 0 [(8, 15), (9, 1), (12, 50000)]
     Served false false false [fMax p 8 1 15, fMax p 9 1 1, ⟨12, 4, if pnum p 12 4 = 0 then !decide (pnum p 9 1 = 1)
        else decide (1000 ≤ pnum p 12 4 ∧ pnum p 12 4 ≤ 50000)⟩] 0 p sC ∧ InState stCP p sC) ∧
    Served true false false [] 0 (pk 0 []) s0 :=
  ⟨⟨served_of (by decide +kernel), by decide +kernel⟩, ⟨served_of (by decide +kernel), by decide +kernel⟩,
    ⟨served_of (by decide +kernel), by decide +kernel⟩, ⟨served_of (by decide +kernel), inState_some (by decide +kernel), by decide +kernel⟩,
    ⟨served_of (by decide +kernel), inState_some (by decide +kernel)⟩, served_of (by decide +kernel)⟩

/-! ### Accesses, doorbells and register writes -/

/-- MOT without its clock. -/
def motOff : State := { up with glb := { up.glb with clk := setBit up.glb.clk dMOT false } }
def d3 (f : Nat) (s : State) : State := s.updHost f (fun h => { h with d3 := true })
def hung : State := up.updHost 0 (fun h => { h with held := [.reg 0x320000 true 7] })
theorem runs_of {s : State} {a : Nat} (h : (match s.target a with | none => true | some d => s.on d) = true) :
    ∀ d, s.target a = some d → s.on d = true := fun d e => by rw [e] at h; exact h

/-- THN_A's core may read, with nothing held and an empty shadow. -/
def coreFree (c : Nat) (s : State) : Prop := s.coreRuns c = true ∧ (s.core c).held = [] ∧ (s.core c).shadow = none
theorem witness_AccessesGoToTheirBlock :
    (Arrives 0 up ∧ (0x3FFFFFC : Nat) % 4 = 0 ∧ ∀ d, up.target 0x3FFFFFC = some d → up.on d = true) ∧
    (Arrives 15 up ∧ up.mayWrite 15 0x204004 = true ∧ up.mayWrite 15 0x320000 = false ∧ ∀ d, up.target 0x204004 = some d → up.on d = true) ∧
    (isPairLow 0x204000 = true ∧ up.mayWrite 15 0x204000 = true ∧ (0x204000 : Nat) % 8 = 0) ∧
    (Arrives 0 motOff ∧ motOff.target 0x320000 = some dMOT ∧ motOff.on dMOT = false) ∧
    (malformed 0x320000 1 = true ∧ malformed 0x320002 4 = true ∧ malformed 0x320000 8 = true ∧ malformed 0x204000 8 = false) ∧
    ((d3 15 up).reaches 15 = true ∧ ((d3 15 up).getHost 15).d3 = true) ∧
    (hung.reaches 0 = true ∧ (hung.getHost 0).held = [.reg 0x320000 true 7] ∧ ∀ d, hung.target 0x320000 = some d → hung.on d = true) ∧
    (isLatchLow 0x204000 = false ∧ up.sees 15 0x204000 = true ∧ up.sees 15 0x204004 = true ∧
      (∀ d, up.target 0x204000 = some d → up.on d = true) ∧ (∀ d, up.target 0x204004 = some d → up.on d = true) ∧
      (up.getHost 15).shadow = none) ∧ coreFree 0 up :=
  ⟨⟨arrives_of (by decide +kernel), by decide +kernel, runs_of (by decide +kernel)⟩,
    ⟨arrives_of (by decide +kernel), by decide +kernel, by decide +kernel, runs_of (by decide +kernel)⟩, by decide +kernel,
    ⟨arrives_of (by decide +kernel), by decide +kernel⟩, by decide +kernel, by decide +kernel,
    ⟨by decide +kernel, by decide +kernel, runs_of (by decide +kernel)⟩, ⟨by decide +kernel, by decide +kernel, by decide +kernel,
    runs_of (by decide +kernel), runs_of (by decide +kernel), by decide +kernel⟩, by unfold coreFree; decide +kernel⟩

/-- Queue pair 15 holds 16 entries each way with 2 not yet consumed, and feed ring 0 runs. -/
def bells : State := (up.updHost 15 (fun h => { h with en := true, cqTail := 2 })).updRing 0 (fun r => { r with en := true, st := .run })
theorem witness_DoorbellsMoveTheirIndex :
    (let h := bells.getHost 15
     Arrives 15 bells ∧ (bells.getLane 15).st ≠ .resetting ∧ h.en = true ∧ h.unknown = [] ∧ h.fence = none ∧
      (15#32).toNat < 2 ^ h.sqLog.toNat ∧ 2 ^ h.sqLog.toNat ≤ (16#32).toNat ∧ (2#32).toNat < 2 ^ h.cqLog.toNat ∧
      2 ^ h.cqLog.toNat ≤ (16#32).toNat ∧ ((2#32).toNat + 2 ^ h.cqLog.toNat - h.cqHead.toNat) % 2 ^ h.cqLog.toNat ≤ h.unconsumed) ∧
    (let h := bells.getHost 15; let u := bells.updHost 15 (fun h => { h with sqTail := 1 })
     h.sqHead.toNat < 2 ^ h.sqLog.toNat ∧ (1#32).toNat ≠ h.sqHead.toNat ∧ h.sqLog.toNat ≤ 12 ∧ u.takes 15 = true ∧ bells.imageRuns = true) ∧
    (Arrives 0 bells ∧ bells.ringLane 0 = 0 ∧ (bells.getRing 0).st = .run ∧ (15#32).toNat < (bells.getRing 0).size ∧
      (bells.getRing 0).size ≤ (16#32).toNat) :=
  ⟨⟨arrives_of (by decide +kernel), by decide +kernel⟩, by decide +kernel, arrives_of (by decide +kernel), by decide +kernel⟩

theorem witness_DoorbellsOfOthersAreStray : Arrives 15 up ∧ (14 : LaneIx) ≠ 15 ∧ up.ringLane 65535 ≠ 15 ∧ Arrives 0 resetting ∧
    (resetting.getLane 0).st = .resetting ∧ resetting.ringLane 65535 = 0 :=
  ⟨arrives_of (by decide +kernel), by decide +kernel, by decide +kernel, arrives_of (by decide +kernel), by decide +kernel⟩

def badSize : State := up.updHost 15 (fun h => { h with sqLog := 13 })
theorem witness_QueuePairsEnableEmpty : Arrives 15 up ∧ (up.getHost 15).en = false ∧ (up.getHost 15).sqLog = 4 ∧ (up.getHost 15).cqLog = 4 ∧
    Arrives 15 badSize ∧ (badSize.getHost 15).en = false ∧ (badSize.getHost 15).sqLog = 13 :=
  ⟨arrives_of (by decide +kernel), by decide +kernel, by decide +kernel, by decide +kernel, arrives_of (by decide +kernel), by decide +kernel⟩

def ringOn : State := up.updRing 0 (fun r => { r with en := true, st := .stopped })
theorem witness_EnablesTakeEffect :
    (Arrives 15 up ∧ (up.getHost 15).prEn = false ∧ 4 ≤ (fld (12#32) 0 4).toNat ∧ (fld (12#32) 0 4).toNat ≤ 12) ∧
    (let v : W32 := 0xC00000; let h := up.getHost 0
     Arrives 0 up ∧ up.on dFEED = true ∧ up.ringLane h.wsel.toNat = 0 ∧ (up.getRing h.wsel.toNat).en = false ∧
      (up.getRing h.wsel.toNat).busy = false ∧ fld v 0 8 = (up.getRing h.wsel.toNat).cell ∧ fld v 16 4 = (up.getRing h.wsel.toNat).line ∧
      4 ≤ (fld v 20 4).toNat ∧ (fld v 20 4).toNat ≤ 12 ∧ (up.getEngine (engineOf h.wsel.toNat)).stopped = false ∧
      (up.getLane 0).st ≠ .resetting ∧ up.rings = []) ∧
    (Arrives 0 ringOn ∧ (ringOn.getRing 0).en = true ∧ (ringOn.getRing 0).st ≠ .disabled ∧ (ringOn.getEngine 0).chans = []) :=
  ⟨⟨arrives_of (by decide +kernel), by decide +kernel⟩, ⟨arrives_of (by decide +kernel), by decide +kernel⟩, arrives_of (by decide +kernel),
    by decide +kernel⟩

theorem witness_QuadAndClockWrites : Arrives 0 up ∧ up.supplyFits 67 (up.getQuad 67).vset.toNat = true ∧ up.clockFits 67 1 0 15 = true ∧
    (31#5) ≠ (up.getQuad 67).vset ∧ up.supplyFits 67 31 = false ∧
    (3#2) ≠ (up.getQuad 67).divReq ∧ up.clockFits 67 3 0 15 = false ∧ (7#3) ≠ (up.getQuad 67).skip ∧ up.clockFits 67 0 7 15 = false ∧
    up.glb.discEn = true ∧ (15 : LaneIx) ≠ 0 ∧ Arrives 15 up :=
  by and_intros <;> first | exact arrives_of (by decide +kernel) | decide +kernel

def window (wren : Bool) : State := { up with glb := { up.glb with dbg3 := ⟨true, wren, 255⟩ } }
theorem witness_DebugWindowsReachTheirBank : Arrives 0 up ∧ Arrives 0 (window true) ∧
    (Instr.debugWindowRead 3 524287 1 []).wf = true ∧ (up.dbgWin 3).en = false ∧
    (let s := window true; let b := (s.dbgWin 3).cell.toNat
     (s.dbgWin 3).en = true ∧ (s.dbgWin 3).wren = true ∧ s.on (dLS (quadrantOf b)) = true ∧ s.ueAmong b (blocksOf 524287 1) [] = [] ∧ b = 255 ∧
      s.workOf b = b ∧ s.serverOf b = b ∧ (s.getCell b).tkoActive = false) ∧
    (Instr.debugWindowWrite 3 524287 ⟨[5], []⟩).wf = true ∧ (((window false).dbgWin 3).en && ((window false).dbgWin 3).wren) = false :=
  ⟨arrives_of (by decide +kernel), arrives_of (by decide +kernel), by decide +kernel⟩

theorem witness_EventWritesTakeEffect : Arrives 0 up ∧ Arrives 15 up := ⟨arrives_of (by decide +kernel), arrives_of (by decide +kernel)⟩

def armable : State := up.updEnc 7 (fun e => { e with idxMode := 2 })
def gateIdle : State := up.updGate 0 (fun g => { g with st := .idle })
def direct : State := up.updMotor 7 (fun m => { m with mode := 2 })
theorem witness_PlantWritesTakeEffect :
    (Arrives 0 armable ∧ armable.on dCHN = true ∧ (armable.getEnc 7).idxMode = 2) ∧
    (Arrives 0 up ∧ up.on (up.workQuad 255) = true ∧ (up.getLink (2 * 255 + b2n (bit (0x100#32) 8))).strobes = [] ∧ (up.getLink 511).en = true) ∧
    (let v : W32 := 0x3F0001
     (up.getGate 15).st = .uncal ∧ 16 * (15 / 4) ≤ (fld v 16 6).toNat ∧ (fld v 16 6).toNat < 16 * (15 / 4) + 16 ∧
      (∀ h < 16, h ≠ 15 → h / 4 = 15 / 4 → (up.getGate h).serve &&& fld (0x3F8000 : W32) 0 16 = 0) ∧
      ¬ (16 * (15 / 4) ≤ (fld (0x2F0000 : W32) 16 6).toNat ∧ (fld (0x2F0000 : W32) 16 6).toNat < 16 * (15 / 4) + 16)) ∧
    (Arrives 0 gateIdle ∧ (gateIdle.getGate 0).st = .idle ∧ gateIdle.on (gateIdle.workQuad (4 * (gateIdle.getGate 0).owner.toNat)) = true ∧
      gateIdle.gateAt (4 * (gateIdle.getGate 0).owner.toNat) 0 = some 0 ∧
      ∀ c ∈ gateIdle.servedCells 0, (gateIdle.getLane (gateIdle.laneOf c)).st ≠ .print) ∧
    (Arrives 0 direct ∧ direct.on dMOT = true ∧ (direct.getMotor 7).mode = 2 ∧ (direct.getMotor 7).ownDuties = false) ∧
    (let s : State := { up with flt := { up.flt with pend := true } }; Arrives 0 s ∧ s.flt.pend = true) ∧
    (up.flt.pend = false ∧ (fld (0xF0000 : W32) 16 5).toNat ∈ [0, 1, 3, 7, 11, 15]) :=
  ⟨⟨arrives_of (by decide +kernel), by decide +kernel⟩, ⟨arrives_of (by decide +kernel), by decide +kernel⟩, by decide +kernel,
    ⟨arrives_of (by decide +kernel), by decide +kernel⟩, ⟨arrives_of (by decide +kernel), by decide +kernel⟩,
    ⟨arrives_of (by decide +kernel), by decide +kernel⟩, by decide +kernel⟩

/-! ### Feed, line store and pipeline -/

/-- Lane 0 prints with the configuration of cell 0, and one data line of it is complete. -/
def printing : State := { laneIn .print up with cells := [(0, { cellReset 0 with active := threeCopies cp, inUse := some 0 })]
                                                reqs := [(reqKey 0 0, { taken := 0, wptr := 1024 })] }
/-- A descriptor of one span of 1,024 bytes, owned by the part. -/
def rawOk : BitVec 512 := BitVec.ofNat 512 (2 ^ 511 + 1024 * 2 ^ 160 + 2 ^ 176 + 2 ^ 192 + 2 ^ 208)
/-- Feed ring 0 runs with one descriptor to fetch, or with that descriptor fetched. -/
def running : State := printing.updRing 0 (fun r => { r with en := true, st := .run, pidx := 1 })
def fetched : State := running.updRing 0 (fun r => { r with pre := [readDesc running 0 0 rawOk] })
/-- A channel of ring 0 that has got, written and had acknowledged so many bytes and bursts. -/
def chan (got wrote acked : Nat) : Chan :=
  { id := 0, ring := 0, fn := 0, at_ := 0, cell := 0, line := 0, burst := 1024, desc := readDesc running 0 0 rawOk, total := 1024, limit := 1024
    issued := 1024, buf := [], got := got, wrote := wrote, acked := acked }
/-- That channel with one read of 64 bytes outstanding, whose data a stop may have left behind. -/
def inChan (dead : Bool) (got wrote acked : Nat) : State := running.updEngine 0 (fun e => { e with
  chans := [chan got wrote acked], reads := [⟨0, 0, 4096, 64, dead⟩] })

theorem witness_FeedEnginesMoveDescriptors :
    (running.on dFEED = true ∧ (running.getRing 0).stale = 0 ∧ running.fetches 0 = true ∧
      (readDesc running 0 (running.fetchIdx 0) rawOk).own = true ∧
      (readDesc running 0 (running.fetchIdx 0) rawOk).bad = false ∧ (readDesc running 0 (running.fetchIdx 0) 0).own = false ∧
      (running.getRing 0).pre = [] ∧ running.inService 0 = 0 ∧
      (let d := readDesc running 0 (running.fetchIdx 0) (BitVec.ofNat 512 (2 ^ 511)); d.own = true ∧ d.bad = true)) ∧
    (fetched.on dFEED = true ∧ (fetched.getEngine 0).stopped = false ∧ (fetched.getEngine 0).chans = [] ∧ (fetched.getEngine 0).reads = [] ∧
      fetched.rings = [(0, fetched.getRing 0)] ∧ (fetched.getRing 0).stale = 0 ∧
      fetched.nextRing 0 = some 0 ∧ (fetched.getRing 0).pre = [readDesc running 0 0 rawOk] ∧ 0 < (readDesc running 0 0 rawOk).total) ∧
    (∀ b ∈ [true, false], let s := inChan b 0 0 0
     s.on dFEED = true ∧ (s.getEngine 0).reads = [⟨0, 0, 4096, 64, b⟩] ∧
      (s.getEngine 0).chans.find? (fun y => decide (y.id = 0)) = some (chan 0 0 0)) ∧
    (let s := inChan false 1024 1 0
     s.on dFEED = true ∧ (s.getEngine 0).chans.find? (fun c => decide (c.acked < c.wrote)) = some (chan 1024 1 0)) ∧
    (let s := inChan false 1024 1 1
     s.on dFEED = true ∧ (s.getEngine 0).chans = [chan 1024 1 1] ∧ (chan 1024 1 1).total ≤ (chan 1024 1 1).acked * (chan 1024 1 1).burst ∧
      (s.getRing 0).pre = []) ∧
    (let s := inChan false 0 0 0
     (s.getEngine 0).stopped = false ∧ engineOf 0 = 0 ∧ (∀ d ∈ (s.getEngine 0).reads, d.ring = 0 → d.addr = (4096#64).toNat → d.dead = false) ∧
      (s.getRing 0).st = .run ∧ (s.getRing 0).busy = false) ∧
    ((running.getEngine 15).stopped = false ∧ (running.getEngine 15).reads = [] ∧ engineOf 65535 = 15 ∧ engineOf 0 = engineOf 4095) := by
  decide +kernel

def dueRow : State := up.updBank 271 (fun x => { x with due := [1023], poison := [8191], scrub := 8191 })
/-- Bank 0 admitted to a contone cell whose row 0 is complete, before its first half and with that half in the row buffer. -/
def conCp : Copy := { cp with mode := 1, datasz := 2048, depth := 2 }
def contone (h : Nat) : State := ({ laneIn .print up with
  cells := [(0, { cellReset 0 with active := threeCopies conCp, inUse := some 0, rows := if h = 1 then [⟨0, 1, [], [], false⟩] else [] })]
  reqs := [(reqKey 0 0, { taken := 0, wptr := 4096 })] } : State).updBank 0 (fun x => { x with adm := true })
theorem witness_LineStoreMaintenance : up.on (dLS (quadrantOf 271)) = true ∧ up.flt.pend = false ∧
    (let c := up.workOf 271; (up.getCell c).tkoActive = false ∧ (up.cfg c).mode ≠ 1) ∧
    (∀ h ∈ [0, 1], let s := contone h; let x := s.getBank 0
      s.workOf 0 = 0 ∧ s.serverOf 0 = 0 ∧ x.adm = true ∧ (s.getCell 0).tkoActive = false ∧ (s.cfg 0).mode = 1 ∧ s.cellOn 0 = true ∧
      s.proc 0 = true ∧ (s.getCell 0).intakeRow = some (0, h) ∧ 1 < s.complete 0 ∧ x.poison = [] ∧ s.flt.pend = false) ∧
    (up.getBank 271).poison.contains (up.getBank 271).scrub = false ∧
    (dueRow.getBank 271).poison.contains (dueRow.getBank 271).scrub = true ∧ (dueRow.getBank 271).due.contains 1023 = true ∧
    (dueRow.getBank 271).freeSpare = some 0 ∧ dueRow.on (dLS (quadrantOf 271)) = true := by decide +kernel

def line0 : Pipe := ⟨0, [], [], [], [], []⟩
def piped : State := printing.updCell 0 (fun x => { x with nextM := 1, pipe := some line0 })
/-- Bank 0 admitted with the 16 block reads that a data line takes. -/
def credited : State := printing.updBank 0 (fun x => { x with adm := true, crData := 16 })
theorem witness_DataLinesPassThePipeline :
    (∀ s ∈ [printing, credited],
     s.cellOn 0 = true ∧ s.proc 0 = true ∧ (s.cfg 0).mode ≠ 1 ∧ (s.getCell 0).pipe = none ∧
      (∀ r ∈ (s.getCell 0).slots, r.m % 48 ≠ (s.getCell 0).nextM % 48) ∧
      (s.getCell 0).skipM = [] ∧ (s.getCell 0).nextM < s.complete 0 ∧ s.flt.pend = false ∧ (s.getBank (s.serverOf 0)).poison = [] ∧
      ((s.getBank (s.serverOf 0)).adm = true → 16 ≤ (s.getBank (s.serverOf 0)).crData)) ∧
    (piped.cellOn 0 = true ∧ piped.proc 0 = true ∧ (piped.getCell 0).pipe = some line0 ∧ piped.xchgHeld 0 line0.m = true) ∧
    (up.cellOn 255 = true ∧ ((up.getCell 255).xval .left 0).isSome = false) ∧
    (up.fire = true ∧ up.changes = [] ∧ (∀ k, (up.getQuad k).job = .none) ∧ (up.getCell 255).tkoActive = false ∧
      (up.getCell 255).testHold = false ∧ (up.getLane (up.laneOf 255)).reset = none ∧ (up.getCell 255).idleAt + msTicks < 2 ^ 64) :=
  ⟨by decide +kernel, by decide +kernel, by decide +kernel, by decide +kernel, by decide +kernel, fun _ => rfl, by decide +kernel⟩

/-! ### Encoders, Pacers and triggers -/

def enc (f : Encoder → Encoder) : State := up.updEnc 7 f
theorem witness_EncodersFollowTheirPairs : up.on dCHN = true ∧ up.fire = true ∧
    (let e := up.getEnc 7
     e.en = true ∧ e.fltZ = false ∧ e.lastIdx = none ∧ e.winN < 2 ∧ up.now ≠ e.lastEdge) ∧
    (grey false false + 4 - grey false false) % 4 = 0 ∧ (grey false true + 4 - grey false false) % 4 ∈ [1, 3] ∧ (grey true true + 4 - grey false false) % 4 = 2 ∧
    (let e := (enc (fun e => { e with pos := -2 })).getEnc 7; 0 < (e.raw - 1).toInt - e.pos.toInt) ∧
    (let e := (enc (fun e => { e with pos := 3 })).getEnc 7; (e.raw + 1).toInt - e.pos.toInt = -(e.db.toNat : Int)) ∧
    (let e := (enc (fun e => { e with pos := 4 })).getEnc 7; (e.raw + 1).toInt - e.pos.toInt < -(e.db.toNat : Int)) ∧
    (let e := (enc (fun e => { e with idxMode := 2, armed := true, lastIdx := some 3 })).getEnc 7
     e.idxMode = 2 ∧ e.armed = true ∧ ∀ p, e.lastIdx = some p → e.db.toNat < (e.pos.toInt - p.toInt).natAbs) ∧
    (let e := (enc (fun e => { e with winN := 2, winLast := 1 })).getEnc 7; 2 ≤ e.winN ∧ e.winFirst ≠ e.winLast) ∧
    (up.getPacer 7).follows 7 ≠ none ∧ ((up.updPacer 7 (fun x => { x with st := .wait })).getPacer 7).st = .wait := by
  refine ⟨by decide +kernel, by decide +kernel, by decide +kernel, by decide +kernel, ?_⟩
  refine ⟨by decide +kernel, by decide +kernel, by decide +kernel, by decide +kernel, by decide +kernel, ⟨by decide +kernel, by decide +kernel, fun p h => ?_⟩, by decide +kernel⟩
  cases h; decide +kernel

def edge (t prev : Tick) (x : Int) : PEdge := ⟨t, prev, x, false⟩
/-- Pacer 7 in a state at its primary encoder, 12,000 ticks an edge, with one edge inbound. -/
def pacing (st : PacerSt) (e : PEdge) : State := up.updPacer 7 (fun x => { x with
  st := st, q := 3072000, seedT := 1000000, seedX := 0, lastX := 0, run := [1000000], schedule := true, inbound := [e] })
theorem witness_PacersFollowTheirReference : up.on dCHN = true ∧ up.fire = true ∧
    (∀ st ∈ [PacerSt.stopped, .wait, .track], let x := (pacing st (edge 1012000 1000000 65536)).getPacer 7
      x.curRef = some .primary ∧ x.inbound = [edge 1012000 1000000 65536] ∧ (edge 1012000 1000000 65536).regain = false ∧ x.newRef = false ∧ x.st = st) ∧
    (∀ st ∈ [PacerSt.wait, .track], let e : PEdge := { edge 1012000 1000000 65536 with regain := true }; let x := (pacing st e).getPacer 7
      x.curRef = some .primary ∧ x.inbound = [e] ∧ e.regain = true ∧ (x.st = .wait ∨ x.st = .track)) ∧
    (let x := (pacing .track (edge 1012600 1000000 65536)).getPacer 7; let eps : Int := (1012600 : Int) - x.tickAt 65536
     eps = x.w.toNat ∧ qFits (qOf ((1012600 : Int) - (x.run.getD 0 0 : Nat)) 1 (x.kOf .primary)) = true) ∧
    (let x := (pacing .track (edge 1011399 1000000 65536)).getPacer 7
     (1011399 : Int) - x.tickAt 65536 < -(x.w.toNat : Int) ∧ qFits (qOf ((1011399 : Int) - (1000000 : Nat)) 1 (x.kOf .primary)) = true) ∧
    qFits (qOf ((5 : Int) - (5 : Nat)) 1 65536) = false ∧
    (let x := (pacing .track (edge 2000000 1000000 65536)).getPacer 7; ∀ y ∈ x.inbound, x.overdueAt .primary < (y.t : Int) + 32) := by
  decide +kernel

def refs (r : EncRef) (v : RefSt) (f : Pacer → Pacer) : State := up.updPacer 7 (fun x => f (x.setRefSt r v))
theorem witness_ReferencesAreLostAndRegained : up.on dCHN = true ∧ up.fire = true ∧
    (let s := (refs .primary .qualified id).updEnc 7 (fun e => { e with en := false }); let x := s.getPacer 7
     x.refSt .primary = .qualified ∧ s.lossHolds 7 .primary .disabled = true ∧ x.curRef = some .primary ∧ x.curRef ≠ some .secondary) ∧
    (let s := (refs .secondary .qualified id).updEnc 0 (fun e => { e with fltA := true }); let x := s.getPacer 7
     x.refSt .secondary = .qualified ∧ s.lossHolds 7 .secondary .pairFault = true) ∧
    ((up.getPacer 7).refSt .secondary ≠ .qualified ∧ up.lossHolds 7 .primary .disabled = false) ∧
    (let x := (refs .secondary .requal (fun x => { x with reqCnt2 := 1024 })).getPacer 7; x.refSt .secondary = .requal ∧ 1024 ≤ (x.reqOf .secondary).toNat) ∧
    (let x := (up.updPacer 7 (fun x => { x with st := .dead })).getPacer 7; x.st = .dead ∧ x.drlim ≠ 0) := by decide +kernel

theorem witness_PacersTakeTheirBoundaries : up.on dCHN = true ∧ up.fire = true ∧
    ((pacing .track (edge 0 0 0)).getPacer 7).predicts = true ∧ (up.getPacer 7).predicts = false ∧
    (let x := (up.updPacer 7 (fun x => { x with st := .dead, q := 1, force := true, cur := .secondary, priSt := .qualified })).getPacer 7
     x.predicts = true ∧ x.force = true ∧ x.switchDue = false ∧ x.cur = .secondary ∧ x.priSt = .qualified) ∧
    (let x := (up.updPacer 7 (fun x => { x with switchDue := true, drEn := true })).getPacer 7
     x.switchDue = true ∧ x.drEn = true ∧ x.secEn = false) ∧
    ((up.getPacer 7).st ≠ .track ∧ (up.getPacer 7).st ≠ .dead ∧ ((pacing .track (edge 0 0 0)).getPacer 7).st = .track) := by decide +kernel

/-- A window of Pacer 7 on lane 0 that has opened and whose lines before position pc are all decided. -/
def done (pc : Int) : Window := { newWindow 1 0 .opened with po := 0, pc := some pc, lanes := [0] }
def withWindow (prEn : Bool) (pc : Int) : State :=
  (up.updPacer 7 (fun x => { x with windows := [done pc] })).updHost 0 (fun h => { h with prEn := prEn, prLog := 12, prTail := 4095 })
theorem witness_TriggersLatchAndRecordsFollow : up.on dCHN = true ∧ up.fire = true ∧ (up.getTrig 15).en = true ∧ (up.getTrig 15).until_ ≤ 1000000 ∧
    ((up.updTrig 15 (fun g => { g with en := false })).getTrig 15).en = false ∧
    (let g := (up.updTrig 15 (fun g => { g with until_ := 1000001 })).getTrig 15; 1000000 < g.until_) ∧
    (∀ b ∈ [true, false], ∀ e ∈ [((0 : Int), true), (2 ^ 32, false)], let s := withWindow b e.1
      (s.getPacer 7).windows.find? (s.windowDone 7) = some (done e.1) ∧ (done e.1).lanes.Nodup ∧ (s.getHost 0).prEn = b ∧
        (s.getPacer 7).closed (done e.1) = e.2) := by decide +kernel

/-! ### Strobes and head links -/

def ackFrame (result : Byte) : List Byte := shortFrame [0x22, 1, 0, result]
/-- A load that takes no data line. -/
def noLoad : Load := { pm := none, rm := none, starved := false, lag := 0, rlag := none }
/-- A strobe of line 1 that fires at tick ts1. -/
def strobe (ts1 : Int) : Strobe :=
  { n := 1, ts1 := ts1, k := 1, sp := 120, st := .computed, wset := 0, load := noLoad, cuts := [], sent := false, acked := false,
    resent := false, sentAt := 1000000, from_ := 0, ok := none, dark := false, forced := false, test := none, purge := false,
    mute := false, quiet := false }
/-- Link 0 of the printing lane is UP with one strobe, and Pacer 0 predicts. -/
def strobing (b : Strobe) : State := (printing.updLink 0 (fun k => { k with st := .up, strobes := [b] })).updPacer 0 (fun x => { x with
  st := .track, q := 3072000, seedT := 1000000, schedule := true })
def sent (resent : Bool) : Strobe := { strobe 1001000 with sent := true, resent := resent }
theorem witness_LatchLoadsAreSentAndAcknowledged :
    (let s := strobing (strobe 1001000); let b := strobe 1001000; let k := s.getLink 0
     s.fire = true ∧ s.cellOn 0 = true ∧ k.st = .up ∧ k.strobes.find? (fun b => !b.sent && !b.dark) = some b ∧ k.decided = none ∧
      s.loadable 0 b = true) ∧
    (∀ r ∈ [true, false], let k := (strobing (sent r)).getLink 0
      k.strobes.find? (fun b => b.sent && !b.acked && decide ((b.n % 65536).toNat = ofLe (((ackFrame 1).drop 1).take 2))) = some (sent r) ∧
        (sent r).resent = r ∧ k.strobes.find? (fun b => b.sent && !b.acked && !b.resent) = if r then none else some (sent r)) ∧
    (∀ r ∈ [0, 1], let f := ackFrame (BitVec.ofNat 8 r); f.length = 6 ∧ f[0]? = some 0x22 ∧ frameOk f = true ∧ f[3]? = some (BitVec.ofNat 8 r)) ∧
    (⟨ackFrame 0, true⟩ : RxFrame).codeOk = true ∧ ¬ ((⟨ackFrame 0, false⟩ : RxFrame).codeOk = true) ∧ ¬ (frameOk [0x22, 1, 0, 0, 0, 0] = true) := by decide +kernel

def late (t0 : Nat) : Strobe := { strobe 1001000 with st := .release, ok := some t0 }
def waits : Strobe := { strobe 1001000 with st := .waiting }
def acked : Strobe := { strobe 1001000 with sent := true, acked := true }
/-- A line whose LATCH-LOAD carries one drop, and a link whose strobe limit has come down to 0 since. -/
def loaded : Strobe := { acked with load := { noLoad with pm := some 0 } }
def cutting (b : Strobe) : State := ((strobing b).updLink 0 (fun k => { k with estrobe := 0 })).updCell 0 (fun x => { x with
  slots := [⟨0, [⟨0, 3, 3⟩], [], []⟩], waves := [(3, ⟨440, 0, []⟩)] })
def darkLine : Strobe := { strobe 1001000 with dark := true }
theorem witness_StrobesAreDecided :
    (∀ b ∈ [strobe 1001000, strobe 1000719, acked, late 1006280, late 1006281, waits], let s := strobing b
      (s.getLink 0).strobes = [b] ∧ s.decides 0 = true ∧ b.test = none ∧ b.purge = false ∧ (s.getLink 1).decided = none ∧
        s.lateLimit 0 = some 6000 ∧ s.spacedFrom 0 = 0) ∧
    (((strobing acked).updLane 0 (fun x => { x with hold := true })).getLane 0).hold = true ∧
    (let s := strobing acked
     (s.getLane 0).hold = false ∧ (s.now : Int) ≤ acked.tc ∧ (s.at_ acked.tc.toNat).canCommit 0 acked = true ∧ (acked.from_ : Int) ≤ acked.tc ∧
      s.spacedFrom 0 ≤ acked.ts1) ∧
    (strobing acked).moreCuts 0 acked = [] ∧
    (let s := cutting loaded; let due := s.at_ loaded.tc.toNat
     s.decides 0 = true ∧ (s.now : Int) ≤ loaded.tc ∧ due.canCommit 0 loaded = true ∧ (loaded.from_ : Int) ≤ loaded.tc ∧ s.spacedFrom 0 ≤ loaded.ts1 ∧
      loaded.dark = false ∧ loaded.sent = true ∧ due.moreCuts 0 loaded ≠ []) ∧
    (let s := strobing darkLine; s.decides 0 = true ∧ darkLine.dark = true ∧ (s.getCell 0).bare = false) ∧
    (let s := strobing (strobe 1000719); (strobe 1000719).tc < (s.now : Int)) ∧
    max (late 1006280).ts1 (max ((1006280 : Int) + leadTicks) 0) - (late 1006280).ts1 = 6000 ∧
    6000 < max (late 1006281).ts1 (max ((1006281 : Int) + leadTicks) 0) - (late 1006281).ts1 ∧
    (waits.st ≠ .computed ∧ waits.ok = none ∧ (strobing waits).canCommit 0 waits = false) := by decide +kernel

/-- Cell 0 of the CONFIGURED lane 0 has a purge line to place, or its gate has nozzle 0 to test. -/
def purging : State := (laneIn .configured printing).updCell 0 (fun x => { x with purge := [(5, 1)] })
def testing : State := (laneIn .configured printing).updGate 0 (fun g => { g with st := .test, spit := some ⟨5, 0, 0, 1, 1, [0]⟩ })
theorem witness_TestLinesArePlaced :
    (let s := purging
     s.fire = true ∧ s.cellOn 0 = true ∧ (s.getLane 0).st = .configured ∧ (s.getLane 0).spacing ≠ 0 ∧ s.purgeDue 0 = true ∧
      (∀ k ∈ linksOf 0, (s.getLink k).strobes = [] ∧ (s.getLink k).rPrev = none)) ∧
    (let s := testing
     s.fire = true ∧ s.cellOn 0 = true ∧ (s.getLane 0).st = .configured ∧ 0 ∈ linksOf 0 ∧ s.purgeDue 0 = false ∧
      (∀ k ∈ linksOf 0, (s.getLink k).strobes = [] ∧ (s.getLink k).rPrev = none) ∧
      s.testFor 0 (s.getCell 0).specN ((s.now : Int) + leadTicks) = some (2048 * 3)) := by decide +kernel

def statusFrame (lost : Byte) : List Byte := shortFrame [0x21, 1, 0x90, 1, 0, 1, lost, 5, 0, 0, 0, 0, 0, 0, 0]
def trained (eye : BitVec 32) (rt : Nat) : HeadTrain := ⟨eye, true, List.replicate 16 rt, ⟨statusFrame 0, true⟩, true, ⟨statusFrame 0, true⟩⟩
def linkIs (st : LinkSt) : State := up.updLink 511 (fun k => { k with st := st, derate := true, unacked := [configFrame 2 0 []] })
/-- Link 511 UP as its quad's clock stops. -/
def unpowered : State := { linkIs .up with glb := { up.glb with clk := 0 } }
theorem witness_HeadLinksTrainAndReport :
    (up.fire = true ∧ up.on (up.workQuad (511 / 2)) = true ∧ (up.getLink 511).en = true ∧ (up.getLink 511).held = false ∧
      (up.getLink 511).st = .down ∧ (up.getLink 511).trims = [] ∧ (up.getLink 511).seen = false) ∧
    ((eyeOf (trained 0x1FFFFFF 480).eye).1 < 8 ∧ 8 ≤ (eyeOf (trained 0xFFFFFF 480).eye).1) ∧
    (∀ rt ∈ [480, 481, 2000], let tr := trained 0xFFFFFF rt
      tr.aligned = true ∧ tr.rts.length = 16 ∧ (∀ r ∈ tr.rts, ((16 * r : Nat) : Int) - tr.rts.sum ≤ 32 ∧ (tr.rts.sum : Int) - (16 * r : Nat) ≤ 32) ∧
        tr.loaded = true ∧ statusOk tr.ident = true ∧ statusOk tr.sync = true ∧ (syncDiffOf tr.sync).natAbs ≤ 1 ∧
        bit (BitVec.ofNat 5 (byteAt tr.sync.bytes 4)) 1 = false ∧ bit (BitVec.ofNat 5 (byteAt tr.sync.bytes 4)) 2 = false) ∧
    (roundDiv (trained 0xFFFFFF 480).rts.sum 32).toNat = 240 ∧ 240 < (roundDiv (trained 0xFFFFFF 481).rts.sum 32).toNat ∧
    ((linkIs .long).getLink 511).st = .long ∧
    (let s := linkIs .up; s.fire = true ∧ s.cellOn (511 / 2) = true ∧ (s.getLink 511).st = .up ∧ (s.getLink 511).derate = true ∧ (s.getLink 511).unacked ≠ [] ∧ s.injHits 7 511 = false ∧
      s.on (s.workQuad (511 / 2)) = true) ∧
    (let s := unpowered; (s.getLink 511).st = .up ∧ s.on (s.workQuad (511 / 2)) = false) ∧
    (∀ n ∈ [0, 255], let f := statusFrame (BitVec.ofNat 8 n); statusOk ⟨f, true⟩ = true ∧
      bit (BitVec.ofNat 5 (byteAt f 4)) 1 = false ∧ bit (BitVec.ofNat 5 (byteAt f 4)) 2 = false) ∧
    statusOk ⟨ackFrame 0, true⟩ = false ∧ statusOk ⟨statusFrame 0, false⟩ = false := by decide +kernel

/-! ### The chain -/

/-- The part whose unit ID is 7. -/
def unit7 : State := { up with fuse := { up.fuse with words := (0, 7) :: up.fuse.words } }
/-- The unit as a chain member with a port in a state, as baton holder, or as another's member. -/
def inChain (u : Chain → Chain) : State := (unit7.updChn (fun c => u { c with st := .member, joined := true, addr := 1 })).updPort 0 (fun p => { p with st := .up })
def holding (u : Chain → Chain) : State := inChain (fun c => u { c with baton := true })
def following (u : Chain → Chain) : State := inChain (fun c => u { c with baton := false })
def hello3 (port : PortIx) : Hello := ⟨9, 2, port, true, 2⟩
def portTrain (lanes : List (Option Nat)) (rts : List Nat) : PortTrain := ⟨lanes, hello3 1, rts⟩
/-- Lane results that pass at four lanes, at two, at one and at none. -/
def x4 : List (Option Nat) := [some 0, some 96, some 5, some 9]
def x2 : List (Option Nat) := [some 0, some 96, some 97, some 9]
def x1 : List (Option Nat) := [some 0, some 97, some 5, some 9]
/-- A frame of a type to an address, with HOPS. -/
def frameTo (type : Byte) (dst hops : BitVec 16) : PrlFrame := ⟨type, false, hops, 3, dst, 3, 1, 2, []⟩
def twoPorts : State := (holding id).updPort 1 (fun p => { p with st := .up })

theorem witness_ChainPortsRelay : up.fire = true ∧ (up.getPort 3).st ≠ .up ∧
    (∀ r ∈ [98, 102], let tr := portTrain x4 (r :: List.replicate 15 100); let rts := tr.rts.take 16
      widthOf tr.lanes ≠ 0 ∧ rts.length = 16 ∧ ∀ r ∈ rts, ((16 * r : Nat) : Int) - rts.sum ≤ 32 ∧ (rts.sum : Int) - (16 * r : Nat) ≤ 32) ∧
    (widthOf x4 = 3 ∧ widthOf x2 = 2 ∧ widthOf x1 = 1 ∧ widthOf [none, some 0] = 0 ∧ (portTrain x1 [100]).rts.length ≤ 16 ∧
      ¬ ((portTrain x1 [100]).rts.length = 16)) ∧ wiringOk 0 1 = true ∧ wiringOk 0 0 = false ∧
    (∀ b ∈ [true, false], let s := if b then holding id else following id
      (s.getPort 0).st ≠ .down ∧ (s.getPort 0).st = .up ∧ s.on dHOST = true ∧ s.on dCHN = true ∧ s.chn.st = .member ∧ s.chn.spur = false ∧ s.chn.baton = b ∧
        s.injHits 15 0 = false) ∧
    (prlOk (frameTo 3 5 2).bytes = true ∧ prlFrom (frameTo 3 5 2).bytes = frameTo 3 5 2 ∧ prlOk [3] = false) ∧
    (∀ t ∈ [3, 0x11], let s := twoPorts; let fr := frameTo (BitVec.ofNat 8 t) 5 2
      3 ≤ fr.type.toNat ∧ fr.type.toNat ≤ 0x11 ∧ fr.inj ≠ s.chn.addr ∧ s.chn.heard.contains (fr.src, fr.seq) = false ∧
        s.forUs fr.dst = false ∧ fr.dst ≠ 0xFFFF ∧ 2 ≤ fr.hops.toNat ∧ s.forwardPorts 0 ≠ []) ∧
    (twoPorts.forUs 0xFFFE = true ∧ twoPorts.forUs 1 = true) ∧
    ((twoPorts.updChn (fun c => { c with heard := [(3, 1)] })).chn.heard.contains ((frameTo 3 5 2).src, (frameTo 3 5 2).seq) = true) ∧
    ({ up with thn := { up.thn with fetch := some (0, 4096) } } : State).thn.fetch = some (0, 4096) := by decide +kernel

def change (ep : Nat) (prepared : Bool) : Change := ⟨0, .commit 0, ep, [], 5, true, prepared, false, false⟩
theorem witness_ChainTimeIsFollowed : up.fire = true ∧ up.on dCHN = true ∧
    (∀ b ∈ [true, false], let s := following (fun c => { c with loadNext := b }); s.holder = false ∧ s.chn.st = .member ∧ s.chn.loadNext = b) ∧
    ((256 * ((1000 : Int) - (999 : W64).toNat - 0) - (0 : BitVec 48).toNat).natAbs = 256 ∧
      256 < (256 * ((1000 : Int) - (998 : W64).toNat - 0) - (255 : BitVec 48).toNat).natAbs) ∧
    ((following id).chn.baton = false ∧ (following id).chn.claimFrom = none) ∧ (6 : W64).toNat < (following id).unitId.toNat ∧
    (following id).unitId.toNat ≤ (7 : W64).toNat ∧
    (∀ t ∈ [999999, 1000000], (following (fun c => { c with claimFrom := some t, claimAt := 3399999 })).chn.claimFrom = some t) ∧
    (999999 + 3 * msTicks ≤ ((following id).at_ (3399999 + msTicks)).now ∧ ((following id).at_ (3399999 + msTicks)).now < 1000000 + 3 * msTicks) ∧
    (∀ b ∈ [true, false], let s := (following (fun c => { c with load := some 5 })).updLane 0 (fun x => { x with st := if b then .print else .idle })
      s.changes = [] ∧ s.holder = false ∧ s.chn.move = none ∧ s.chn.load = some 5 ∧ s.anyPrint = b) ∧
    (let s := following (fun c => { c with epochs := [(16, 1, true)] })
     s.changes = [] ∧ s.chn.load = none ∧ s.chn.epochs.find? (fun e => decide (e.1 = 16) && e.2.2) = some (16, 1, true)) ∧
    (let ch := change 16 true; let s := { following id with changes := [ch], lanes := [(0, { laneReset 0 with st := .print })] }
     s.changes = [ch] ∧ ch.ep = 16 ∧ ch.prepared = true ∧ ch.committed = false ∧ s.holder = false ∧ s.chn.move = none ∧ s.chn.load = none ∧
       (s.getLane ch.lane).st = .print) ∧
    (let s := holding id; s.changes = [] ∧ s.chn.st = .member ∧ s.chn.baton = true ∧ s.chn.preps = [] ∧ s.chn.regs = [] ∧ s.chn.asks = [] ∧
      s.chn.joins = [] ∧ s.chn.move = none ∧ s.chn.load = none) := by decide +kernel

def prep (ep : Nat) (acks : List (BitVec 16 × AckRes)) : Prep := ⟨ep, 0, acks, false, false⟩
def body (id : W64) (lmin lmax : Byte) : ProbeBody := ⟨5000, true, 8, 1, 2, lmin, lmax, 12000, 3, id⟩
def member (addr : BitVec 16) : Member := ⟨addr, 9, 2, 100, 200, 0, 0⟩
theorem witness_MembersJoinAndHand : up.fire = true ∧ up.on dCHN = true ∧
    ((holding id).chn.st = .member ∧ (holding id).chn.baton = true ∧ (holding id).chainHolder = true ∧ (holding id).chn.move = none ∧
      (holding (fun c => { c with move := some (3, 9) })).chainHolder = true) ∧
    (holding (fun c => { c with preps := [prep 20 []] })).chn.preps ≠ [] ∧ (holding (fun c => { c with move := some (3, 9) })).chn.move ≠ none ∧
    (let s := holding (fun c => { c with known := [member 2] }); let used := s.chn.addr :: (s.chn.known.filter (fun m => decide (m.id ≠ 8))).map (·.addr)
     s.chn.preps = [] ∧ spanOk s.minLevel s.maxLevel 3 = true ∧ spanOk s.minLevel s.maxLevel 4 = false ∧ (3 : BitVec 16) ∉ used ∧
      (0xFFFE : BitVec 16) ∉ used ∧ (2 : BitVec 16) ∈ used ∧ ((1 : BitVec 16) ∈ used)) ∧
    (up.chn.st = .unjoined ∧ (up.updChn (fun c => { c with st := .joining })).chn.st = .joining) ∧
    (spanOk (body 3 2 3).lmin.toNat (body 3 2 3).lmax.toNat unit7.ownLevel = true ∧ spanOk (body 3 4 4).lmin.toNat (body 3 4 4).lmax.toNat unit7.ownLevel = false) ∧
    ((following id).chn.st = .member ∧ (following id).chn.baton = false) ∧ (body 7 2 2).id = (holding id).unitId ∧
    (body 6 2 2).id.toNat < (holding id).unitId.toNat := by decide +kernel

/-- The holder waits for the ACK of one member. -/
def acking : State := holding (fun c => { c with preps := [prep 20 [(1, .none)]], known := [member 2] })
theorem acking_asks : acking.chn.addr :: acking.chn.known.map (·.addr) = [1, 2] := rfl
theorem witness_EpochFramesTakeEffect : up.fire = true ∧ up.on dCHN = true ∧
    ((holding id).chn.baton = true ∧ (holding id).chn.st = .member ∧ (holding id).chn.preps = [] ∧ (holding (fun c => { c with preps := [prep 20 []] })).chn.preps = [prep 20 []] ∧
      (3 : BitVec 16) ≠ (holding id).chn.addr) ∧
    (let s := holding id; ((2 : Byte).toNat ≤ (s.chn.known.map (fun m => m.level.toNat)).foldl min s.ownLevel ∧ (2 : Byte).toNat ≤ s.opLevel + 1) ∧
      ¬ ((3 : Byte).toNat ≤ (s.chn.known.map (fun m => m.level.toNat)).foldl min s.ownLevel)) ∧
    (let s := following id; s.chn.baton = false ∧ s.chn.st = .member ∧ (s.getCell 255).saved = none ∧ (s.getCell 255).nozNext = []) ∧
    (let s := { following id with changes := [change 20 false] }; s.prepareResult 20 = .ready ∧ s.now < 20 * 65536) ∧
    (acking.chn.baton = true ∧ acking.chn.st = .member ∧ acking.chn.preps.find? (fun p => decide (p.ep = 20)) = some (prep 20 [(1, .none)]) ∧
      (∀ a ∈ acking.chn.addr :: acking.chn.known.map (·.addr), a = 2 ∨ ∃ k ∈ (prep 20 [(1, .none)]).acks, k.1 = a ∧ k.2 ≠ .notReady) ∧
      acking.now ≤ (20 - acking.chn.guard.toNat) * 65536 ∧ (prep 20 []).sent = false ∧ (prep 20 []).dead = false) ∧
    (let s := (following id).updLane 15 (fun x => { x with hold := true }); 15 * 65536 ≤ s.now ∧ (s.getLane 15).hold = true) :=
  ⟨by decide +kernel, by decide +kernel, by decide +kernel, by decide +kernel, by decide +kernel, by decide +kernel,
    ⟨rfl, rfl, rfl, by rw [acking_asks]; simp [prep], by decide +kernel, rfl, rfl⟩, by decide +kernel⟩

/-! ### Housekeeping and faults -/

def measuring : State := ({ up with hk := { up.hk with measuring := true, lastBad := [83] } } : State).updPin 127 (fun p => { p with en := true })
def measured : HkMeas := ⟨1000001, [(127, ⟨1650000, 0⟩)], [(31, (true, 2080))], 12000, [(83, 946)]⟩
theorem witness_HousekeepingRoundsMeasure : (up.alive = true ∧ up.hk.measuring = false) ∧ (measuring.alive = true ∧ measuring.hk.measuring = true) ∧
    measured.wf = true ∧ (measuring.getPin 127).en = true ∧ measured.pins.find? (fun e => decide (e.1 = 127)) = some (127, ⟨1650000, 0⟩) ∧
    measured.die.find? (fun e => decide (e.1 = 31)) = some (31, true, 2080) ∧
    (measuring.flt.pend = false ∧ (83, 946) ∈ measured.rails ∧ measuring.railBad 83 946 = true ∧ 83 ∈ measuring.hk.lastBad) :=
  by decide +kernel

/-- Pacer 0 has a request, with lane 0 in PRINT and the head pin 0 of its zone 0 at a level. -/
def asked (level : BitVec 2) : State := (printing.updTreq 0 (fun r => { r with req := true, target := 40000, asked := 500000, calmFrom := some 600000 })).updPin 0
  (fun p => { p with en := true, level := level })
def calm : State := up.updTreq 7 (fun r => { r with req := true, target := 40000, asked := 500000, due := [(500000, 40000)], calmFrom := some 600000 })
def coolQuad : State := up.updQuad 67 (fun x => { x with calib := true, rung := 4, coolFrom := some 5 })
def changing : State := up.updQuad 67 (fun x => { x with goDiv := some (1, 2), vWait := true })
theorem witness_HeatLowersTheRate : up.alive = true ∧
    ((calm.getTreq 7).req = true ∧ (calm.getTreq 7).due = [(500000, 40000)]) ∧
    ((asked 2).alive = true ∧ ((asked 2).getTreq 0).req = true ∧ (asked 2).throttled 0 = true) ∧
    (calm.throttled 7 = false ∧ (calm.getTreq 7).calmFrom = some 600000) ∧
    (let x := coolQuad.getQuad 67; x.calib = true ∧ x.rung ≠ 0 ∧ coolQuad.quadHot 67 = false ∧ x.coolFrom = some 5) ∧
    (changing.fire = true ∧ changing.glb.failing = false ∧ bit changing.glb.pwr 67 = true ∧ (changing.getQuad 67).goDiv = some (1, 2) ∧ (changing.getQuad 67).job = .none ∧
      (changing.getQuad 67).vWait = true) := 
  by decide +kernel

def record1 : Rec := { recReset 0 with seq := 1, source := 10 }
def recording (clear : Bool) : State := { up with flt := { up.flt with writing := some (31, record1, true), clearDue := clear } }
def recovering (inj : Bool) (rlim : BitVec 4) : State := up.updSrc 18 (fun x => { x with outCls := 2, inj := inj, rlim := rlim })
theorem witness_FaultsAreRecordedAndRecover : up.alive = true ∧ FaultClass.degraded ∈ classesOf 18 ∧ FaultClass.deviceCritical ∈ classesOf 10 ∧
    reportStands 10 0 .deviceCritical 0 = true ∧ (up.flt.histMin.toNat ≤ (classCode .degraded).toNat ∧ up.flt.frozen = false ∧ up.flt.writing = none) ∧
    (∀ b ∈ [true, false], (recording b).flt.writing = some (31, record1, true) ∧ (recording b).flt.stopDue = none ∧ (recording b).flt.clearDue = b) ∧
    (∀ b ∈ [true, false], let s := recovering b 1; let x := s.getSrc 18; let u := s.at_ (x.quietAt + s.flt.quiet.toNat * msTicks)
      x.outCls ≠ 0 ∧ x.conds = [] ∧ s.flt.writing = none ∧ x.inj = b ∧ x.pers = false ∧
        (x.rlim ≠ 0 ∧ x.rlim.toNat ≤ u.recentRecoveries ((u.now :: x.times).take 15))) ∧
    ((recovering false 0).getSrc 18).rlim = 0 ∧ up.outClass 3 = false ∧ (up.updSrc 10 (fun x => { x with outCls := 8 })).outClass 3 = true ∧
    ({ up with flt := { up.flt with injUntil := some 7 } } : State).flt.injUntil = some 7 :=
  by and_intros <;> decide +kernel

def coreA (r : CoreRole) : State := { up with thn := { up.thn with a := { up.thn.a with role := r } } }
theorem witness_ThinisCoresFailOver :
    ((∀ i < 2, up.coreLive i = true) ∧ (up.core 1).role = .standby ∧ (up.core 0).role ≠ .standby ∧ (up.core 1).role = .standby) ∧
    (State.reset.coreLive 1 = false ∧ State.reset.coreLive 0 = false) ∧
    ((coreA .rom).coreLive 0 = true ∧ ({ coreA .rom with thn := { (coreA .rom).thn with b := resetCore } } : State).coreLive 0 = true ∧
      ({ coreA .rom with thn := { (coreA .rom).thn with b := resetCore } } : State).core 1 = resetCore) ∧
    ((coreA .reloading).reloading = some 0 ∧ (coreA .reloading).on (dTHNA + 0) = true ∧ ((coreA .reloading).core (otherCore 0)).role ≠ .active) ∧
    (let s := { up with thn := { up.thn with b := { up.thn.b with role := .reloading } } }
     s.reloading = some 1 ∧ s.on (dTHNA + 1) = true ∧ (s.core (otherCore 1)).role = .active) := by decide +kernel

/-! ### Motors, gates and flight times -/

def motor (u : Motor → Motor) : State := up.updMotor 7 (fun m => u { m with spdSet := 5000 })
def motMeas (late handoff : Bool) : MotorMeas := ⟨4000, late, false, false, handoff, false, 0, 0⟩
theorem witness_MotorChannelsRunTheirLoop : up.on dMOT = true ∧ (up.getMotor 7).st = .off ∧
    (∀ b ∈ [true, false], let m := (motor (fun m => { m with st := .direct, commit := b, du := 16383 })).getMotor 7; m.st = .direct ∧ m.commit = b) ∧
    (∀ t ∈ [5000, 100000], let s := (motor (fun m => { m with st := .run, ref := 3000 })).updMotor 7 (fun m => { m with spdSet := BitVec.ofNat 32 t }); let m := s.getMotor 7
      m.st = .run ∧ m.scaled = false ∧ m.mode ≠ 1 ∧ m.ending = false ∧ m.usable (s.motorTarget m) ≠ 0 ∧ 0 ≤ m.usable (s.motorTarget m) * m.ref ∧
        -m.slimit ≤ m.usable (s.motorTarget m) ∧ m.usable (s.motorTarget m) ≤ m.slimit ∧ (Motor.measured (motMeas false false) m).loopCnt = 0 ∧
        m.vlim = false ∧ m.clim = false) ∧
    (let m := (motor (fun m => { m with st := .run, loopDiv := 1 })).getMotor 7; (Motor.measured (motMeas false false) m).loopCnt ≠ 0 ∧
      m.loopCnt < 2 ^ m.loopDiv.toNat ∧ ¬ m.loopCnt + 1 = 2 ^ m.loopDiv.toNat) ∧
    (let m := (motor (fun m => { m with profile := true })).getMotor 7; m.loopCnt < 2 ^ m.loopDiv.toNat ∧ m.loopCnt + 1 = 2 ^ m.loopDiv.toNat ∧
      m.profile = true) ∧
    (∀ t ∈ [0, 5000], let s := (motor (fun m => { m with st := .ready })).updMotor 7 (fun m => { m with spdSet := BitVec.ofNat 32 t })
      (s.getMotor 7).st = .ready ∧ (s.wanted (s.getMotor 7) = 0 ↔ t = 0)) ∧
    (∀ top ∈ [400, 401], let m := (motor (fun m => { m with st := .run, mode := 1, spdMax := BitVec.ofNat 16 top })).getMotor 7
      m.mode = 1 ∧ m.ending = false ∧ m.bound = none ∧ (10 * (m.spdMax.toNat : Int) ≤ 4000 ↔ top = 400)) ∧
    (∀ a ∈ [0, 1], let s := motor (fun m => { m with st := .align, alignT := BitVec.ofNat 8 a }); let m := s.getMotor 7
      m.st = .align ∧ s.wanted m ≠ 0 ∧ decide (s.wanted m < 0) = m.back ∧ (150000 * m.alignT.toNat ≤ m.spent + 2 * m.n.toNat ↔ a = 0)) ∧
    (let s := motor (fun m => { m with st := .ramp }); let m := s.getMotor 7; m.st = .ramp ∧ s.wanted m ≠ 0 ∧ decide (s.wanted m < 0) = m.back) ∧
    (∀ st ∈ [MotorSt.align, .ramp, .run, .braking, .coast], let m := (motor (fun m => { m with st := st, ovrRun := 2 })).getMotor 7
      m.st ∈ [MotorSt.align, .ramp, .run, .braking, .coast] ∧ (Motor.measured (motMeas true false) m).loopCnt = 0 ∧ 2 ≤ m.ovrRun) ∧
    ((motMeas false false).overrun = false ∧ (motMeas false false).vlim = false ∧ (motMeas false false).clim = false ∧
      (motMeas false false).handoff = false ∧ (motMeas true false).overrun = true) :=
  by decide +kernel

theorem witness_MotorsStartAndStop : up.on dMOT = true ∧
    (∀ st ∈ [MotorSt.ready, .check], let s := motor (fun m => { m with st := st }); let m := s.getMotor 7
     (m.st = .ready ∨ m.st = .check) ∧ s.wanted m ≠ 0 ∧ m.gap = false ∧ ((99 : Int).natAbs : Int) < m.zeroF ∧ m.zeroF ≤ (100 : Int).natAbs ∧
      (m.zeroF ≤ (2000 : Int).natAbs ∧ decide ((2000 : Int) < 0) = decide (s.wanted m < 0) ∧ m.handoffF ≤ (2000 : Int).natAbs) ∧
      ¬ (decide ((-2000 : Int) < 0) = decide (s.wanted m < 0)) ∧ ¬ (m.handoffF ≤ (1999 : Int).natAbs)) ∧
    (let s := motor (fun m => { m with st := .ramp, ref := 1000 }); let m := s.getMotor 7
     m.st = .ramp ∧ s.wanted m ≠ 0 ∧ decide (s.wanted m < 0) = m.back ∧ m.gap = false ∧ m.handoffF ≤ 2 * (m.ref.natAbs : Int)) ∧
    (∀ st ∈ [MotorSt.ramp, .run], (let m := (motor (fun m => { m with st := st, tries := 2 })).getMotor 7
       (m.st = .ramp ∨ m.st = .run) ∧ m.tries + 1 ≤ m.retry.toNat) ∧
      (let m := (motor (fun m => { m with st := st, tries := 3 })).getMotor 7; m.retry.toNat ≤ m.tries)) ∧
    ((motor (fun m => { m with gap := true })).getMotor 7).gap = true ∧
    (∀ st ∈ [MotorSt.braking, .coast], ∀ b ∈ [true, false], let m := (motor (fun m => { m with st := st, ending := b, starting := !b, spd := 99 })).getMotor 7
      (m.st = .braking ∨ m.st = .coast) ∧ m.atRest = true ∧ m.ending = b ∧ m.starting = !b) ∧
    (let s := motor (fun m => { m with st := .coast, spd := 99 }); s.wanted (s.getMotor 7) ≠ 0) ∧
    (let s := motor (fun m => { m with st := .coast, spd := 99, spdSet := 999 }); s.wanted (s.getMotor 7) = 0) ∧
    (let m := (motor (fun m => { m with st := .braking, spd := 100 })).getMotor 7; m.st = .braking ∧ m.atRest = false) ∧
    ((motor (fun m => { m with st := .cal })).getMotor 7).st = .cal :=
  by decide +kernel

/-- Gate 0 in a state. -/
def gate (u : Gate → Gate) : State := (printing.updLane 0 (fun x => { x with servos := [(0, ⟨5000, true⟩)] })).updGate 0 u
/-- A test of nozzle 0 of cell 0 whose window ends at tick 1,002,000. -/
def test0 (cross : Option Tick) (skip : Bool) : GTest := ⟨0, 1000000, 1000500, 1002000, cross, skip⟩
def spit0 (left : Nat) (todo : List Nat) : Spit := ⟨5, 0, 0, 0, left, todo⟩
def testing0 (t : GTest) (rest : List GTest) (sp : Option Spit) : State :=
  (gate (fun x => { x with st := .test, spit := sp, open_ := t :: rest })).updLink 0 (fun k => { k with st := .up })
theorem witness_GatesTimeTheirTests :
    ((Instr.gatePulse 15 5 5).wf = true ∧ up.gateOn 15 = true ∧ (up.getGate 15).st ≠ .unavailable ∧ (5 + 4096) - 5 > 4095 ∧ (5 + 4095) - 5 ≤ 4095 ∧
      (up.getGate 15).minw.toNat ≤ 12 ∧ 11 < (up.getGate 15).minw.toNat) ∧
    (let s := gate (fun x => { x with st := .cal, calFrom := 5 }); (s.getGate 0).st = .cal ∧ s.gateOn 0 = true ∧ (5 + 32 * msTicks : Nat) ≤ (s.getGate 0).calFrom + 32 * msTicks ∧
      (s.getGate 0).calFrom + 32 * msTicks < 6 + 32 * msTicks) ∧
    (let x := (gate (fun x => { x with st := .cal, high := 19200001 })).getGate 0; x.st = .cal ∧ 19200000 < x.high) ∧
    (let x := (gate (fun x => { x with st := .cal, high := 19200000, maxBin := some 62 })).getGate 0; x.st = .cal ∧ x.high ≤ 19200000 ∧ x.maxBin ≠ some 63) ∧
    (let x := (testing0 (test0 none false) [] none).getGate 0; x.open_ = [test0 none false] ∧ x.spit = none) ∧
    (∀ c ∈ [none, some 1001100], let s := testing0 (test0 c false) [test0 none false] (some (spit0 1 [])); let a := test0 c false
      (s.getGate 0).open_ = [a, test0 none false] ∧ (s.getGate 0).spit = some (spit0 1 []) ∧ a.skip = false ∧ (s.servoOf (a.noz / 4096)).vt ≠ 0 ∧
        (s.getGate 0).st = .test ∧ (s.getLink (a.noz / 2048)).st = .up) ∧
    ((0 : Int) ≤ (1001100 : Int) - 1000000 - 0 ∧ (1001100 : Int) - 1000000 - 0 < 1048576) ∧
    (let s := testing0 (test0 none true) [test0 none false] (some (spit0 1 [])); (s.getGate 0).spit = some (spit0 1 []) ∧ (test0 none true).skip = true) ∧
    (let s := testing0 (test0 none true) [] (some (spit0 1 [])); (s.getGate 0).open_ = [test0 none true] ∧ (spit0 1 []).todo = [] ∧ (spit0 1 []).left = 1) :=
  by decide +kernel

def fresh : State := (up.updLink 510 (fun k => { k with stale := false, stsAt := 1000000, tf := 5, tgt := 6 })).updLink 511 (fun k => { k with tf := 6, tgt := 5 })
theorem witness_FlightTimesFollowTemperature : fresh.cellOn 255 = true ∧ fresh.stale 510 = false ∧ fresh.stale 511 = true ∧
    ((fresh.getLink 510).tf.toNat < (fresh.getLink 510).tgt.toNat ∧ (fresh.getLink 511).tgt.toNat < (fresh.getLink 511).tf.toNat ∧
      (up.getLink 511).tf = (up.getLink 511).tgt) := by decide +kernel

/-! ### Configurations, spares and resets -/

/-- Quad 0 belongs to lane 15, which has an operation with handle 5. -/
def owned : State := up.updQuad 0 (fun x => { x with owner := 15 })
def lane15 (k : OpKind) : State := { owned with ops := [⟨5, 7, 15, 15, k⟩] }
def zeros (n : Nat) : List Byte := List.replicate n 0
/-- CRC-32 with every byte's value found before the next one's, which the kernel evaluates in little depth. -/
def crcFrom (c : Nat) : List Byte → Nat
  | [] => c ^^^ 0xFFFFFFFF
  | b :: bs => if crc32Bits 8 (c ^^^ b.toNat) = 0 then crcFrom 0 bs else crcFrom (crc32Bits 8 (c ^^^ b.toNat)) bs
theorem crc32_eq (bs : List Byte) : crc32 bs = crcFrom 0xFFFFFFFF bs := by
  suffices h : ∀ c, (bs.foldl (fun c b => crc32Bits 8 (c ^^^ b.toNat)) c) ^^^ 0xFFFFFFFF = crcFrom c bs from h _
  induction bs with
  | nil => intro c; rfl
  | cons b bs ih => intro c; rw [List.foldl_cons, crcFrom, ih]; split <;> simp_all
/-- The bytes of a patch of one nozzle entry of cell 3 (R256), whose header gives so many bytes as its length, and its CRC. -/
def patchBytes (len crc : Nat) : List Byte :=
  leBytes 0x5A570C01 4 ++ [1, 15] ++ leBytes 1 2 ++ leBytes len 4 ++ leBytes crc 4 ++ zeros 240
    ++ (leBytes 3 2 ++ [2, 0] ++ leBytes 76 4 ++ zeros 56) ++ leBytes 1 4 ++ leBytes 4095 4 ++ leBytes 5 4
def patchImage (len crc : Nat) : Image := { imageFrom (patchBytes len crc) with crcOk := true }
def crc332 : Nat := 0xbf37136b
def crc331 : Nat := 0x9e8a12b1
theorem image_of {b : List Byte} (h : (imageFrom b).crcOk = true) : imageFrom b = { imageFrom b with crcOk := true } := by
  generalize imageFrom b = i at h ⊢; cases i; subst h; rfl
theorem test_patch_image : imageFrom (patchBytes 332 crc332) = patchImage 332 crc332 ∧ imageFrom (patchBytes 331 crc331) = patchImage 331 crc331 :=
  ⟨image_of (by rw [imageFrom, crc32_eq]; decide +kernel), image_of (by rw [imageFrom, crc32_eq]; decide +kernel)⟩
theorem test_patch_section : (patchImage 332 crc332).magic = 0x5A570C01 ∧ (patchImage 332 crc332).whole = true ∧
    ((patchImage 332 crc332).sections.map (fun x => (x.cell, x.noz))) = [(3, [(4095, 5)])] := by decide +kernel
def copies (a b c : Bool) : State := up.updCell 255 (fun x => { x with active := [⟨cp, a⟩, ⟨if b then cp else noCopy, b⟩, ⟨noCopy, c⟩] })
theorem witness_ConfigurationsAreLoadedAndChecked :
    (let s := lane15 (.configLoad 1 64 332)
     s.on dHOST = true ∧ s.imageRuns = true ∧ s.thn.paused = false ∧ s.running 5 = some ⟨5, 7, 15, 15, .configLoad 1 64 332⟩) ∧
    owned.imageFails 15 332 (patchImage 332 crc332) = none ∧ owned.imageFails 15 332 (patchImage 331 crc331) = some 0xFFFF ∧
    (up.on (up.workQuad 255) = true ∧ ((up.updCell 255 (fun x => { x with active := threeCopies cp })).getCell 255).active = threeCopies cp) ∧
    ((copies true true false).getCell 255).active = [⟨cp, true⟩, ⟨cp, true⟩, ⟨noCopy, false⟩] ∧
    (((copies true false false).getCell 255).active = [⟨cp, true⟩, ⟨noCopy, false⟩, ⟨noCopy, false⟩] ∧ ((copies true false false).getCell 255).divergent = false) := by decide +kernel

/-- Cell 0 at a step of its takeover by spare 256. -/
def taking (step : BitVec 3) : State := up.updCell 0 (fun x => { x with tkoActive := true, tkoStep := step, tkoPeer := 256 })
/-- The self-test of quadrant 0 is on, with spare 256 fit to stand in. -/
def rolling : State := (up.updTest 0 (fun t => { t with on := true })).updCell 256 (fun x => { x with bistV := true, bistP := true })
def tested (c server : Nat) : State := (up.updTest (quadrantOf c) (fun t => { t with on := true, cell := some c })).updCell c
  (fun x => { x with svc := .underTest, server := server, tkoActive := true, tkoStep := 5, tkoPeer := c })
/-- The lane has an image in force, whose cells a self-test refills. -/
def withImage (s : State) : State := s.updLane 0 (fun x => { x with image := some ⟨0, 64, 332, 9⟩ })
theorem witness_SparesTakeOverAndAreTested :
    (∀ n ∈ [1, 2], let s := taking (BitVec.ofNat 3 n); let x := s.getCell 0
      s.on (dLS (quadrantOf 0)) = true ∧ x.tkoActive = true ∧ (x.tkoStep = 1 ∨ x.tkoStep = 2) ∧ s.flt.pend = false ∧ s.store = [] ∧ s.serverOf 0 = 0 ∧
        x.tkoPeer = 256) ∧
    (let s := taking 4; let x := s.getCell 0; x.tkoActive = true ∧ x.tkoStep ≠ 0 ∧ x.tkoStep.toNat ≤ 4 ∧ s.serverOf 0 = 0 ∧ x.tkoPeer ≠ 0) ∧
    (let s := rolling; s.imageRuns = true ∧ s.on (dLS 0) = true ∧ (s.getTest 0).on = true ∧ s.sparesUsed 0 = false ∧ (s.getTest 0).cell = none ∧ s.nextTested 0 = some 0 ∧
      (s.getLane (s.laneOf 0)).st = .idle) ∧
    (let s := laneIn .print rolling; s.nextTested 0 = some 0 ∧ (s.getLane (s.laneOf 0)).st ≠ .idle ∧
      (s.freeSpares 0).find? (fun k => !s.held (.cell k)) = some 256 ∧ s.imageRuns = true ∧ s.sparesUsed 0 = false) ∧
    (∀ e ∈ [(0, 0), (255, 271), (271, 271)], let s := tested e.1 e.2; let x := s.getCell e.1
      (s.getTest (quadrantOf e.1)).cell = some e.1 ∧ x.tkoStep = 5 ∧ s.on (dLS (quadrantOf e.1)) = true ∧ (∀ e ∈ s.cells, e.2.testHold = false) ∧
        x.server = e.2 ∧ x.refill = none ∧ (s.getLane (s.laneOf e.1)).image = none ∧ (s.getLane (s.laneOf e.1)).tsRefs = [] ∧
        ((withImage s).getLane 0).image.isSome = true ∧ s.laneOf e.1 = 0) :=
  by decide +kernel

theorem witness_FunctionsLeaveAndReturn : up.on dHOST = true ∧ up.glb.linkUp = true ∧ (∀ f < 16, up.present f = true ∧ (up.getLane f).reset = none) ∧
    (let s := up.updHost 15 (fun h => { h with pba := 1#128 <<< 127 })
     bit (s.getHost 15).pba 127 = true ∧ s.anyRequest 15 127 = false) ∧
    (let s := { up.updHost 15 (fun h => { h with pba := 1 }) with evt := { up.evt with stat := 1#384 <<< 335 } }
     bit (s.getHost 15).pba 0 = true ∧ s.anyRequest 15 0 = true) := by decide +kernel

/-- Lane 15 at the end of its reset. -/
def endingReset (issuers : List (Nat × W32 × Bool)) (flr : Bool) : State :=
  (up.updLane 15 (fun x => { x with st := .resetting, reset := some ⟨[], [], issuers, 2, flr, none⟩ })).updHost 15 (fun h => { h with en := true, cqTail := 15 })
theorem witness_LaneResetsEnd : (∀ e ∈ [([], true), ([(15, 7, true)], false), ([(15, 7, false)], false)], let s := endingReset e.1 e.2
    s.alive = true ∧ (s.getLane 15).reset = some ⟨[], [], e.1, 2, e.2, none⟩ ∧ s.corePosts = true ∧ s.ops = [] ∧ (s.getHost 15).en = true) ∧
    (let s := { endingReset [] true with ops := [op5 (.configLoad 1 64 64)] }
     ∀ o ∈ s.ops, s.runsOn 15 o = false ∧ actsOn 15 o = false) ∧
    (State.getMap up 335).1 = 15 := by decide +kernel

theorem canonical_up : Canonical up :=
  (by constructor <;> decide)
theorem witness_BusResetsKeepPrinting : up.on dHOST = true ∧ Canonical up ∧ (up.assign = none ∧ up.glb.lsOff = [] ∧ ∀ l, (up.getLane l).reset = none) ∧
    up.aonRuns = true ∧
    (let s := { up with evt := { up.evt with stat := 1#384 <<< 335 } }; s.request 335 = true ∧ (s.getMap 335).2 < 128) ∧ (0x07 : Byte) ∉ [0x00#8, 0x03, 0x04, 0x05, 0x06] :=
  ⟨by decide +kernel, canonical_up, ⟨rfl, rfl, fun _ => rfl⟩, by decide +kernel, by decide +kernel, by decide⟩

/-- The bytes of a temperature set (R392) with their CRC. -/
def setBytes : List Byte :=
  leBytes 1 4 ++ leBytes 511 2 ++ leBytes 0xF800 2 ++ leBytes 2047 2 ++ zeros 2 ++ leBytes 0 4 ++ leBytes 1048575 4 ++ zeros 1000 ++ leBytes 0x1a8c1fbc 4
def set0 : TempSet := ⟨true, 511, -2048, 2047, 0, 1048575⟩
theorem set_checks (b : List Byte) : (tempSetFrom b).2 = (decide (b.length = 1024) &&
    decide (crcFrom 0xFFFFFFFF (b.take 0x3FC) = numAt b 0x3FC 4) && decide (byteAt b 0 < 2) && zeroAt b 1 3 && zeroAt b 0x0A 2 && zeroAt b 0x14 1000) := by
  rw [← crc32_eq]; rfl
theorem test_temp_set : tempSetFrom setBytes = (set0, true) := Prod.ext (by decide +kernel) (by rw [set_checks]; decide +kernel)
theorem sets_read : (lane15 .configReload).setsFrom 15 (List.replicate 4 setBytes).flatten = [0, 1, 2, 3].map (fun c => (c, set0, true)) := by
  have hc : (lane15 .configReload).cellsOf 15 = [0, 1, 2, 3] := by decide +kernel
  have hp : pieces 1024 4 (List.replicate 4 setBytes).flatten = List.replicate 4 setBytes := by decide +kernel
  have h : ∀ b, (lane15 .configReload).setsFrom 15 b = [0, 1, 2, 3].zip ((pieces 1024 4 b).map tempSetFrom) := by
    intro b; unfold State.setsFrom; rw [hc]; rfl
  rw [h, hp, List.map_replicate, test_temp_set]; rfl
/-- Quad 0 is under restoration with its cell 3 lost, for no command or for handle 5. -/
def restoring (g : Option W32) : State := (owned.updQuad 0 (fun x => { x with job := .restoring g true [] })).updCell 3 (fun x => { x with erased := true })
def committing : State :=
  { (lane15 (.configCommit 1 0)).updLane 15 (fun x => { x with slot1 := some ⟨true, ⟨15, 64, 332, BitVec.ofNat 32 crc332⟩, [], [0, 1, 2, 3]⟩ }) with
    changes := [{ lane := 15, kind := .commit 1, ep := 0, cells := [], handle := 5, ready := false, prepared := false, committed := false, windows := false }] }
theorem witness_ReadsReturnToTheirCommand :
    (let s := lane15 (.tempsetLoad 4 64 4096)
     s.on dHOST = true ∧ s.imageRuns = true ∧ s.thn.paused = false ∧ s.running 5 = some ⟨5, 7, 15, 15, .tempsetLoad 4 64 4096⟩ ∧ tsetOk set0 = true) ∧
    (let s := committing; let v : Slot := ⟨true, ⟨15, 64, 332, BitVec.ofNat 32 crc332⟩, [], [0, 1, 2, 3]⟩
     s.running 5 = some ⟨5, 7, 15, 15, .configCommit 1 0⟩ ∧ (s.changeOf 5).isSome = true ∧
      (∀ ch, s.changeOf 5 = some ch → ch.ready = false ∧ ch.lane = 15 ∧ ch.cells = [] ∧ (s.getCell 0).saved = none ∧ (s.getCell 0).nozNext = []) ∧ (s.getLane 15).slot 1 = some v ∧
      s.commitFails 15 v (patchImage 332 crc332) = none ∧ (s.commitFails 15 v (patchImage 331 crc331)).isSome = true) ∧
    (let s := restoring none; let t := s.updLane 15 (fun x => { x with image := some ⟨15, 64, 332, 9⟩ })
     (s.getQuad 0).job = .restoring none true [] ∧ (s.getQuad 0).owner = 15 ∧ refillOk (s.getLane 15) [] = true ∧
      refillOk (s.getLane 15) [patchImage 332 crc332] = false ∧ 3 ∈ s.lostCells 0 ∧ (t.getLane 15).image = some ⟨15, 64, 332, 9⟩ ∧
      (t.getQuad 0).job = .restoring none true []) := by decide +kernel

def calibrating (hwrdy : Bool) : State := { up.updQuad 67 (fun x => { x with job := .calibrating none }) with glb := { up.glb with hwrdy := hwrdy } }
theorem witness_QuadsCalibrateAndDisciplineLocks :
    (∀ b ∈ [true, false], let s := calibrating b; s.on 67 = true ∧ (s.getQuad 67).job = .calibrating none ∧ s.glb.hwrdy = b) ∧
    (let s := ({ up with glb := { up.glb with hwrdy := false }, quads := (List.range 67).map (fun k => (k, { quadReset k with calib := true })) } : State)
     ∀ j < 68, j ≠ 67 → if bit s.glb.pwr j then (s.getQuad j).calib = true else (s.getQuad j).shutdown = true) ∧
    (let s := (calibrating true).updCell 255 (fun x => { x with svc := .stoodIn, server := 271 }); (s.getCell 255).svc = .stoodIn ∧ (s.getCell 255).tkoActive = false) ∧
    quadOf 255 = 63 ∧ up.fire = true ∧ up.glb.discEn = true ∧
    (let s : State := { up with glb := { up.glb with disc := .acquire } }
     s.glb.disc = .acquire ∧ (-49 : Int).natAbs < 50 ∧ (s.trimBy (-49)).glb.unable = false ∧ -100000 ≤ s.glb.trim ∧ s.glb.trim ≤ 100000) ∧
    (({ up with glb := { up.glb with disc := .locked } } : State).glb.disc = .locked ∧ 200 < (-201 : Int).natAbs) :=
  by decide +kernel

/-- The root PLL is out of lock: before the domains have power, or in operation. -/
def unlocked (pwr : BitVec 80) : State := { up with glb := { up.glb with rootLock := false, pwr := pwr, clk := 1#80 <<< 68 } }
def lastEpoch : State := { State.reset with fuse := { resetFuse with words := [(639, 1#32 <<< 31)] } }
theorem witness_PowerComesAndGoes : State.reset.glb.powered = false ∧ ({ up with glb := { up.glb with failing := true } } : State).glb.failing = true ∧
    (lastEpoch.bootEpoch = some 4095 ∧ lastEpoch.glb.powered = false) ∧ State.reset.bootEpoch ≠ some 4095 ∧
    ((unlocked (1#80 <<< 68)).alive = true ∧ (unlocked (1#80 <<< 68)).glb.failing = false ∧ (unlocked (1#80 <<< 68)).glb.rootLock = false ∧ bit (unlocked (1#80 <<< 68)).glb.pwr dHOST = false) ∧
    (up.glb.powered = true ∧ up.glb.failing = false) := by decide +kernel

theorem witness_ResetPulsesAreTimed : (999 < 1000 ∧ 1000 ≤ 1000 ∧ 9999 < 10000 ∧ 10000 ≤ 10000) ∧ up.glb.powered = true := by decide +kernel

theorem witness_RootClockIsLostAndReturns : (up.alive = true ∧ up.glb.rootLock = true) ∧
    ((unlocked (BitVec.allOnes 80)).alive = true ∧ (unlocked (BitVec.allOnes 80)).glb.failing = false ∧ (unlocked (BitVec.allOnes 80)).glb.rootLock = false ∧ bit (unlocked (BitVec.allOnes 80)).glb.pwr dHOST = true) ∧
    Canonical (unlocked (BitVec.allOnes 80)) ∧ (unlocked (BitVec.allOnes 80)).now + 168 * msTicks < 2 ^ 64 :=
  ⟨by decide +kernel, by decide +kernel, (by constructor <;> decide), by decide +kernel⟩

/-- Coordinates of a public key on P-384, and a signature that a program outside this package made with its private key. -/
def keyX : Nat := 0x7AE9E1DB1160794C70C1EF071BE5191F6C66240F4608FBE8A44ECD36C3ED5DB97500F2E4D84E3FB45850FD6F4303302B
def keyY : Nat := 0xD8AC21444CD80D241538D8034B399A0DEE3636EB5CB00B9499D061A571DB0F14BB47ED79453948ED63F3A6CCBBF6E74F
def sigR : Nat := 0x702BF6DAD5ED3EBD20959B29C4EC850A7D1B01A381349B1ADD1D5FC6C1A3A52AEE6DAF05FA7BA530094F92D8C93D6F56
def sigS : Nat := 0xC13CDC3E54F59AC18C6C3F11E13FCE2F226F755986EFC636FEF4E661071C93C8ADFDAD85FDDD85C5F11948452D3D25BE
/-- A signed image that is a header alone: version 7, level 3. The signature is that of slot 0. -/
def fwImage (slot : Byte) : List Byte :=
  leBytes 0x5A570F01 4 ++ leBytes 256 4 ++ leBytes 7 4 ++ [3, slot, 0, 0, 4] ++ (leBytes keyX 48).reverse ++ (leBytes keyY 48).reverse
    ++ zeros 15 ++ (leBytes sigR 48).reverse ++ (leBytes sigS 48).reverse ++ zeros 32
/-- The hash of that key in slots 0 and 1. -/
def keyWords : List W32 := [0x6592FFF8, 0x2407FA84, 0xE978D875, 0xA4B099F4, 0x946914D7, 0x8BD948B1, 0xB860C77E, 0x6714CBE4, 0xECAC5E53, 0x2F07AEF9, 0xCCDC793B, 0xC3B57D27]
def keyed (s : State) : State :=
  let slot : Nat → List (Nat × W32) := fun n => ((List.range 12).zip keyWords).map (fun e => (256 + 12 * n + e.1, e.2))
  let words : List (Nat × W32) := [(2, 0x96000000), (3, 0xA1)] ++ slot 0 ++ slot 1
  { s with fuse := { s.fuse with words := words } }
def romServing (u : Thn → Thn) : State := { up with thn := u { up.thn with a := { resetCore with role := .rom }, b := resetCore }
                                                    fuse := { up.fuse with words := [(2, 0x96000000), (3, 0xA1), (256, 1), (642, 2)] } }
theorem witness_FirmwareArrivesAndSwaps :
    (let s := keyed { up with ops := [op5 (.fwLoad false 64 256)] }
     s.loadTarget = some 1 ∧ s.running 5 = some (op5 (.fwLoad false 64 256)) ∧ s.romServes = false ∧
      s.authentic (some 256) (fwImage 0) = true ∧ s.authentic (some 255) (fwImage 0) = false ∧ s.authentic (some 256) (fwImage 1) = false) ∧
    (let s := romServing (fun t => { t with fetch := some (0, 8) })
     s.loadTarget = some 0 ∧ s.running 5 = none ∧ s.romServes = true ∧ s.thn.fetch.isSome = true ∧ s.ops = []) ∧
    (let s := (romServing id).updPort 2 (fun p => { p with st := .up, nlevel := 2 })
     s.romServes = true ∧ s.on dTHNA = true ∧ s.glb.hwrdy = true ∧ bit (s.getFuse 5 2) 1 = true ∧ s.thn.fwSeen = false ∧ s.thn.fetch = none ∧
      s.thn.boots = 0 ∧ [pW, pE, pA, pB].find? (fun x => s.portUp x && decide ((s.getPort x).nlevel ≠ 0)) = some 2) ∧
    (let s := { up with thn := { up.thn with swap := some 5, paused := true } }
     s.thn.swap = some 5 ∧ s.activeCore = some 0 ∧ s.standbyCore = some 1 ∧ s.thn.paused = true ∧ s.fire = true) :=
  by decide +kernel

/-- FUSE-PROGRAM or FUSE-LOCK has bits of word 7 of region 6 to program. -/
def programming (bits : List Nat) (pulses : Nat) (lock : Bool) : State := { up with fuse := { up.fuse with prog := some ⟨5, 6, 7, bits, pulses, lock⟩ } }
def epochDue (bit : Option Nat) (pulses : Nat) : State := { up with fuse := { up.fuse with epochPend := true, epochBit := bit, epochPulses := pulses } }
def closedPeriod : Closed := ⟨15, 5, 7, 0, 1, 2, []⟩
def sealing (exh : Bool) : State := { up with meter := { up.meter with closed := [closedPeriod] }, fuse := { up.fuse with epochExh := exh } }
theorem witness_FusesAndSealsAdvance : up.alive = true ∧
    (∀ b ∈ [true, false], ∀ n ∈ [1, 2], (programming [0, 31] n b).fuse.prog = some ⟨5, 6, 7, [0, 31], n, b⟩) ∧ (programming [31] 2 false).inWindow = true ∧
    (∀ e ∈ [none, some 4095], ∀ n ∈ [1, 2], let s := epochDue e n
      s.fuse.epochPend = true ∧ s.glb.hwrdy = true ∧ s.hk.fastAct = false ∧ s.fuse.prog = none ∧ s.inWindow = true ∧
        s.fuse.epochBit.getD ((s.bootEpoch.map (· + 1)).getD 0) < 4096 ∧ s.bootEpoch = none ∧ s.fuse.epochPulses = n) ∧
    (∀ b ∈ [true, false], let s := sealing b
      s.meter.closed = [closedPeriod] ∧ bit s.glb.clk dMETA = true ∧ s.fuse.epochPend = false ∧ s.meter.seqNo < 2 ^ 48 ∧ s.fuse.epochExh = b) :=
  by decide +kernel

/-! ### Steps -/

/-- A command waits at the front of the queue, and a handle of queue 15 is outstanding. -/
def waiting : State := { up with pending := [.standbyReloadDone, .injectionEnd], ops := [⟨0xF0000005, 7, 15, 15, .configReload⟩] }
theorem waiting_steps : step waiting = .next { waiting with pending := [.injectionEnd] } := rfl
theorem witness_EveryStepKeepsTheCanonicalForm : ∃ t, Canonical waiting ∧ step waiting = .next t :=
  ⟨_, (by constructor <;> decide), waiting_steps⟩
theorem witness_EveryStepTakesOneCommandAndKeepsHandles : ∃ t, step waiting = .next t ∧ HandlesOwned waiting :=
  ⟨_, waiting_steps, by intro o h; rw [List.mem_singleton.1 h]; decide⟩
theorem witness_NoStepClearsAFuse : ∃ t, FusesBlank (programming [0, 31] 0 false) ∧ step (programming [0, 31] 0 false) = .next t :=
  ⟨_, ⟨fun p h => by cases h; decide +kernel, fun _ h => by cases h⟩, rfl⟩

/-! ### Ill-formed commands are refused by the checks -/

theorem test_wf_debugWindowRead : (Instr.debugWindowRead 0 524287 2 []).wf = false ∧ (Instr.debugWindowRead 0 0 0 []).wf = false := by decide +kernel
theorem test_wf_debugWindowWrite : (Instr.debugWindowWrite 0 524287 ⟨[1, 2], []⟩).wf = false ∧ (Instr.debugWindowWrite 0 0 ⟨[], []⟩).wf = false := by
  decide +kernel
theorem test_wf_completerAbort : (Instr.completerAbort 0 0 0 .read).wf = false := by decide +kernel
theorem test_wf_readCompletion : (Instr.readCompletion 0 []).wf = false := by decide +kernel
theorem test_wf_gatePulse : (Instr.gatePulse 0 6 5).wf = false := by decide +kernel
theorem test_wf_faultReport : (Instr.faultReport 19 .degraded 0 0 0).wf = false := by decide +kernel
theorem test_wf_hkRoundEnd : (Instr.hkRoundEnd { measured with pins := [(128, ⟨0, 0⟩)] }).wf = false := by decide +kernel
theorem test_wf_fwBlock : (Instr.fwBlock 0 (zeros 253)).wf = false := by decide +kernel
theorem test_wf_prlFrame : (Instr.prlFrame 0 (zeros 277) true).wf = false := by decide +kernel

/-! ### Values that the spec's worked examples and the named standards give -/

/-- The ASCII digits 1 to 9, whose check values the CRC standards give. -/
def digits : List Byte := [0x31, 0x32, 0x33, 0x34, 0x35, 0x36, 0x37, 0x38, 0x39]
theorem test_crc32 : crc32 digits = 0xCBF43926 := by decide +kernel
theorem test_crc16 : crc16 digits = 0x29B1 := by decide +kernel
/-- FIPS 180-4: the message "abc". -/
theorem test_sha256 : (sha256 [0x61, 0x62, 0x63]).take 8 = [0xBA, 0x78, 0x16, 0xBF, 0x8F, 0x01, 0xCF, 0xEA] := by decide +kernel
theorem test_sha384 : (sha384 [0x61, 0x62, 0x63]).take 8 = [0xCB, 0x00, 0x75, 0x3F, 0x45, 0xA3, 0x5E, 0x8B] := by decide +kernel
/-- R344: the lengths of the frames, /S/ and /T/ apart, and R346: the codes of positions 0, 3 and 2,047. -/
theorem test_frameLengths : (latchFrame 5 [(0, 1)]).length = 520 ∧ (strobeFrame 5 0 1 2 9).length = 12 ∧ (waveFrame 1 2 (waveReset 0)).length = 135 ∧
    (timeFrame 5).length = 11 ∧ (configFrame 1 0 [0]).length = 10 ∧ (configFrame 1 0 (zeros 256)).length = 265 := by decide +kernel
theorem test_wireCodes : let f := latchFrame 65541 [(0, 1), (3, 2), (2047, 3)]
    f.take 5 = [0x11, 1, 5, 0, 0x81] ∧ f[515]? = some 0xC0 := by decide +kernel
/-- Chapter 6: a span 1,024 bytes long, tiles 1 MiB apart, rows 4 KiB apart backward, two tiles and four rows. -/
def tiles : Desc := readDesc up 0 0 (BitVec.ofNat 512
  (0x800820001F30 % 2 ^ 32 + 0x8 * 2 ^ 32 + 0x100000 * 2 ^ 64 + 0xFFFFF000 * 2 ^ 96 + 1024 * 2 ^ 160 + 2 * 2 ^ 176 + 4 * 2 ^ 192 + 2 ^ 208 + 2 ^ 511))
theorem test_descriptor : tiles.own = true ∧ tiles.sb = -4096 ∧ tiles.nb = 4 ∧ spanAddr tiles 1 3 0 = 0x8200FEF30 := by decide +kernel
/-- Chapter 10: a step up of the web speed. The edge at 1,000,004 comes 800 ticks early, and the Pacer reseeds with 5,200 ticks a count. -/
def stepUp : State := up.updPacer 0 (fun x => { x with
  st := .track, q := 6000 * 256, seedT := 1000000, seedX := 1000000 * 65536, lastX := 1000003 * 65536, run := [1018000, 1012000, 1006000, 1000000]
  schedule := true, inbound := [⟨1023200, 1018000, 1000004 * 65536, false⟩] })
theorem test_falseStart : (match exec (.edgeLearn 0) stepUp with
    | .next t => decide ((t.getPacer 0).q = 5200 * 256 ∧ (t.getPacer 0).seedT = 1023200 ∧ (t.getPacer 0).fstart = 1) | _ => false) = true := by decide +kernel
/-- Chapter 11: E_T of the codes of set 0 at 45 °C, where TCOEF is −328. -/
def rated : State := (up.updLink 82 (fun k => { k with st := .up, temp := 720, stale := false, stsAt := 1000000 })).updCell 41 (fun x => { x with
  waves := [(1, ⟨160, -328, []⟩), (2, ⟨280, -328, []⟩), (3, ⟨440, -328, []⟩)] })
theorem test_energies : [1, 2, 3].map (rated.energyT 82 0) = [144, 252, 396] ∧ gainOf 32 = 1024 := by decide +kernel
/-- Chapter 12: the pulse of 60 ticks at 2,553,390 stamps the test fired at 2,400,000. -/
def fired5 (cross : Option Tick) : State := (((printing.updLane 0 (fun x => { x with servos := [(0, ⟨8000, true⟩)] })).updGate 5 (fun x => { x with
    st := .test, minw := 24, gdly := 36, spit := some (spit0 1 []), open_ := [⟨327700, 2400000, 2526036, 2574036, cross, false⟩, ⟨327701, 2448000, 2574036, 2622036, none, false⟩] })).updLink 160
  (fun k => { k with st := .up })).updCell 80 (fun x => { x with active := threeCopies { cp with cell := 80 }, inUse := some 0, servo := [(20, 0x43)], noz := [(20, 0x80000000)] })
theorem test_gateStamp : (match exec (.gatePulse 5 2553390 2553450) (fired5 none) with
    | .next t => decide ((t.getGate 5).open_.map (·.cross) = [some 2553420, none]) | _ => false) = true := by decide +kernel
/-- … and the closing window gives TFB, one step of the servo and a cleared NOHIT. -/
theorem test_servoStep : (match exec (.testWindowClose 5) (fired5 (some 2553420)) with
    | .next t => decide ((t.getGate 5).tfb = 153384 ∧ tabGet (fun _ => 0) (t.getCell 80).servo 20 = 0x04) | _ => false) = true := by decide +kernel
theorem test_interpolation : interpolate [(60, 4), (100, 12)] 1120 = 6 ∧ interpolate [(25, -4), (60, -16)] 720 = -11 := by decide +kernel
/-- Chapter 14: the measures of a ring of 40 units. -/
def ring40 : State := holding (fun c => { c with lead := 3, known := [⟨40, 40, 2, 19188, 19680, 0, 0⟩] })
theorem test_chainMeasures : ring40.measureChain.chn.rtr = 50868 ∧ ring40.measureChain.chn.guard = 2 ∧ ring40.measureChain.chn.leadLow = false := by decide +kernel
/-- R254, R89 and R17 in one step each: the reset value of a register, a short pulse, and a captured high word. -/
theorem test_shortPulse : exec (.prstNPulse 999) up = .next up := rfl
theorem test_idle : step up = .next { up with time := 1000001 } := rfl
/-- R155 and R168: the bytes of an FW-INFO packet of tag 7 for buffer address 0x1000, and an opcode of no row. -/
theorem test_packet : readPacket 0 (0x1000 * 2 ^ 64 + 7 * 2 ^ 32 + 0x0A03) = some (.fwInfo 0 ⟨0, 0, 7, 0x1000⟩) ∧
    readPacket 15 (15 * 2 ^ 16 + 2 ^ 24 + 0x0100) = some (.nop 15 ⟨15, 1, 0, 0⟩) ∧ readPacket 0 0x0006 = none := by decide +kernel
theorem test_rows_distinct : (commandRows.map (·.1)).Nodup := by decide +kernel
end Sys2Proof.Tests
end

section
/-! Accesses of BAR0 (R13 to R18, R77, R78, R120, R127, R128): what an access of a function and a read of a Thinis core do, one lemma per outcome,
and from them the statements on the step and on accesses. -/

namespace Sys2Proof.Machine

/-! ### No queue pair's registers decide views or clocks -/

/-- The view of a function rests on the owners of rings, cells, Pacers and motors alone (R128). -/
theorem State.sees_congr {s t : State} (hring : t.ringLane = s.ringLane) (hown : t.laneOf = s.laneOf) (hlane : t.getLane = s.getLane)
    (hmotor : t.getMotor = s.getMotor) : t.sees = s.sees := by
  unfold State.sees
  rw [hring, hown, hlane, hmotor]

section
variable (s : State) (k : Nat) (u : HostFn → HostFn)

@[simp] theorem State.sees_updHost : (s.updHost k u).sees = s.sees := State.sees_congr rfl rfl rfl rfl

theorem State.cellNamed_updHost : (s.updHost k u).cellNamed = s.cellNamed := rfl

@[simp] theorem State.mayWrite_updHost : (s.updHost k u).mayWrite = s.mayWrite := by
  unfold State.mayWrite
  rw [State.sees_updHost, State.cellNamed_updHost]

@[simp] theorem State.stoppedAt_updHost : (s.updHost k u).stoppedAt = s.stoppedAt := rfl

@[simp] theorem State.reaches_updHost : (s.updHost k u).reaches = s.reaches := rfl

theorem samePlant_updHost : SamePlant s (s.updHost k u) := rfl

end

/-! ### Stopped clocks and views -/

/-- An access finds its clock running when its target, if it has one, runs (R78). -/
theorem State.stoppedAt_of_runs {s : State} {a : Nat} (h : ∀ d, s.target a = some d → s.on d = true) : s.stoppedAt a = false := by
  unfold State.stoppedAt
  cases ht : s.target a with
  | none => rfl
  | some d => simp [h d ht]

theorem State.stoppedAt_of_off {s : State} {a d : Nat} (ht : s.target a = some d) (hd : s.on d = false) : s.stoppedAt a = true := by
  simp [State.stoppedAt, ht, hd]

section
variable {s : State} {f a : Nat}

/-- An access of one register inside the view, which for a write is what R128 lets a virtual function write, is not filtered. -/
theorem State.filtered_reg {w : Bool} (h : f = 0 ∨ (if w then s.mayWrite f a else s.sees f a) = true) (v : W32) :
    s.filtered f (.reg a w v) = false := by
  rcases h with h | h <;> simp [State.filtered, h]

theorem State.filtered_pair {w : Option W64} (h : f = 0 ∨ (if w.isSome then s.mayWrite f a else s.sees f a) = true) :
    s.filtered f (.pair a w) = false := by
  rcases h with h | h <;> simp [State.filtered, h]

/-- An access outside the view never hangs (R128). -/
theorem State.hangs_of_filtered {x : HeldAcc} (h : s.filtered f x = true) : s.hangs f x = false := by
  simp [State.hangs, h]

theorem State.hangs_reg {w : Bool} {v : W32} (h : s.filtered f (.reg a w v) = false) : s.hangs f (.reg a w v) = s.stoppedAt a := by
  simp [State.hangs, h]

theorem State.hangs_pair {w : Option W64} (h : s.filtered f (.pair a w) = false) : s.hangs f (.pair a w) = s.stoppedAt a := by
  simp [State.hangs, h]

end

/-! ### The outcomes of an access (R77, R120) -/

section
variable {s : State} {f : Nat} {x : HeldAcc}

theorem State.access_in_d3 (hr : s.reaches f = true) (hd : (s.getHost f).d3 = true) : s.access f x = s.aer f (.unsupported x.tlp) := by
  simp [State.access, hr, hd]

theorem State.access_held (ha : Arrives f s) (hx : s.hangs f x = true) :
    s.access f x = s.updHost f (fun h => { h with held := h.held ++ [x] }) := by
  simp [State.access, ha.reaches, ha.d0, hx]

theorem State.access_performed (ha : Arrives f s) (hx : s.hangs f x = false) : s.access f x = s.perform f x := by
  simp [State.access, ha.reaches, ha.d0, ha.free, hx]

end

/-- Accesses still arrive after an update of the function that leaves its power state and its held accesses. -/
theorem Arrives.updHost {s : State} {f : Nat} {u : HostFn → HostFn} (ha : Arrives f s) (hd : (u (s.getHost f)).d3 = (s.getHost f).d3)
    (hh : (u (s.getHost f)).held = (s.getHost f).held) : Arrives f (s.updHost f u) where
  reaches := by rw [State.reaches_updHost]; exact ha.reaches
  d0 := by rw [State.getHost_updHost, hd]; exact ha.d0
  free := by rw [State.getHost_updHost, hh]; exact ha.free

section
variable {s : State} {f a : Nat}

/-- A word written inside the view, whose target runs, goes to its block. -/
theorem State.access_write (ha : Arrives f s) (hv : f = 0 ∨ s.mayWrite f a = true) (hr : s.stoppedAt a = false) (v : W32) :
    s.access f (.reg a true v) = s.regPut f a v := by
  have hf := State.filtered_reg (w := true) (by simpa using hv) v
  rw [State.access_performed ha ((State.hangs_reg hf).trans hr), State.perform, hf]
  rfl

/-- A pair written inside the view, whose target runs, goes to its block low word first. -/
theorem State.access_write_pair (ha : Arrives f s) (hv : f = 0 ∨ s.mayWrite f a = true) (hr : s.stoppedAt a = false) (v : W64) :
    s.access f (.pair a (some v)) = (s.regPut f a (lo v)).regPut f (a + 4) (hi v) := by
  have hf := State.filtered_pair (w := some v) (by simpa using hv)
  rw [State.access_performed ha ((State.hangs_pair hf).trans hr), State.perform, hf]
  rfl

theorem State.access_write_held (ha : Arrives f s) (hv : f = 0 ∨ s.mayWrite f a = true) (hr : s.stoppedAt a = true) (v : W32) :
    s.access f (.reg a true v) = s.updHost f (fun h => { h with held := h.held ++ [.reg a true v] }) :=
  State.access_held ha ((State.hangs_reg (State.filtered_reg (w := true) (by simpa using hv) v)).trans hr)

theorem State.access_write_stray (ha : Arrives f s) (h0 : f ≠ 0) (hv : s.mayWrite f a = false) (v : W32) :
    s.access f (.reg a true v) = s.stray f := by
  have hf : s.filtered f (.reg a true v) = true := by simp [State.filtered, h0, hv]
  rw [State.access_performed ha (State.hangs_of_filtered hf), State.perform, hf]
  rfl

theorem State.access_bad (ha : Arrives f s) (t : Tlp) : s.access f (.bad t) = s.aer f (.completerAbort t) :=
  State.access_performed ha rfl

theorem State.access_read (ha : Arrives f s) (hv : f = 0 ∨ s.sees f a = true) (hr : s.stoppedAt a = false) (v : W32) :
    s.access f (.reg a false v) = s.hostReadReg f a := by
  have hf := State.filtered_reg (w := false) (by simpa using hv) v
  rw [State.access_performed ha ((State.hangs_reg hf).trans hr), State.perform, hf]
  rfl

theorem State.access_read_pair (ha : Arrives f s) (hv : f = 0 ∨ s.sees f a = true) (hr : s.stoppedAt a = false) :
    s.access f (.pair a none) = s.hostReadPair f a := by
  have hf := State.filtered_pair (w := none) (by simpa using hv)
  rw [State.access_performed ha ((State.hangs_pair hf).trans hr), State.perform, hf]
  rfl

/-- The one held write completes once its target runs (R77). -/
theorem State.completeHeld_write {v : W32} (hh : (s.getHost f).held = [.reg a true v]) (hv : f = 0 ∨ s.mayWrite f a = true)
    (hr : s.stoppedAt a = false) :
    State.completeHeld f 1 s = (s.updHost f (fun h => { h with held := [] })).regPut f a v := by
  have hg := (State.hangs_reg (State.filtered_reg (w := true) (by simpa using hv) v)).trans hr
  have hf : (s.updHost f (fun h => { h with held := [] })).filtered f (.reg a true v) = false :=
    State.filtered_reg (w := true) (by simpa using hv) v
  simp [State.completeHeld, hh, hg, State.perform, hf]

end

/-! ### The shape of an access (R18) -/

theorem regAcc_aligned {a : Nat} (h : a % 4 = 0) (w : Bool) (v : W32) : regAcc a w v = .reg a w v := if_pos h

theorem pairAcc_aligned {a : Nat} (h : a % 8 = 0) (hp : isPairLow a = true) (w : Option W64) : pairAcc a w = .pair a w := by
  simp [pairAcc, h, hp]

theorem anyAcc_malformed {a size : Nat} (h : malformed a size = true) (w : Bool) (data : W64) : anyAcc a size w data = .bad ⟨w, a, size⟩ := by
  unfold anyAcc
  by_cases h4 : size = 4
  · subst h4
    have ha : a % 4 ≠ 0 := fun e => by simp [malformed, e] at h
    simp [regAcc, ha]
  · by_cases h8 : size = 8
    · subst h8
      have ha : a % 8 = 0 → isPairLow a = false := by simpa [malformed, imp_iff_not_or] using h
      cases w <;> simpa [pairAcc] using ha
    · simp [h4, h8]

theorem lo_append (w v : W32) : lo (w ++ v) = v := BitVec.extractLsb'_append_eq_right

theorem hi_append (w v : W32) : hi (w ++ v) = w := BitVec.extractLsb'_append_eq_left

/-! ### What a read returns (R17) -/

section
variable {s : State} {f a : Nat}

/-- With an empty shadow a read of one word returns the live value. -/
theorem State.readWord_empty : (s.readWord f a none).1 = s.regRead f a := by
  unfold State.readWord
  cases h : isPairLow a <;> simp

/-- A read of the low word captures the high word, where the pair is no latch set. -/
theorem State.readWord_low (hp : isPairLow a = true) (hl : isLatchLow a = false) :
    s.readWord f a none = (s.regRead f a, some { high := a + 4, val := s.regRead f (a + 4), pos := none }) := by
  simp [State.readWord, hp, hl]

/-- A read of the captured address returns the captured word and empties the shadow. -/
theorem State.readWord_captured (v : W32) : s.readWord f a (some { high := a, val := v, pos := none }) = (v, none) := by
  simp [State.readWord, Option.filter]

/-- A read of a whole pair that is no latch set leaves the shadow alone. -/
theorem State.readPair_eq (hl : isLatchLow a = false) (sh : Option Shadow) :
    s.readPair f a sh = (s.regRead f (a + 4) ++ s.regRead f a, sh) := by
  simp [State.readPair, hl]

/-- A function's read of one word with an empty shadow brings the live value and leaves the plant. -/
theorem State.hostReadReg_empty (hs : (s.getHost f).shadow = none) :
    SamePlant s (s.hostReadReg f a) ∧ ((s.hostReadReg f a).getHost f).rdata = (s.regRead f a).setWidth 64 := by
  refine ⟨samePlant_updHost .., ?_⟩
  simp [State.hostReadReg, hs, State.readWord_empty]

/-- The reads of the low and then the high address of a pair: the high word is that of the first read (R17). -/
theorem State.hostReadReg_low_high (hp : isPairLow a = true) (hl : isLatchLow a = false) (hs : (s.getHost f).shadow = none) :
    (((s.hostReadReg f a).hostReadReg f (a + 4)).getHost f).rdata = (s.regRead f (a + 4)).setWidth 64 ∧
      (((s.hostReadReg f a).hostReadReg f (a + 4)).getHost f).shadow = none := by
  have hc : ((s.hostReadReg f a).getHost f).shadow = some { high := a + 4, val := s.regRead f (a + 4), pos := none } := by
    simp [State.hostReadReg, hs, State.readWord_low hp hl]
  generalize s.hostReadReg f a = t at hc
  simp [State.hostReadReg, hc, State.readWord_captured]

/-- A function's read of a whole pair that is no latch set. -/
theorem State.hostReadPair_eq (hl : isLatchLow a = false) :
    s.hostReadPair f a = s.updHost f (fun h => { h with rdata := s.regRead f (a + 4) ++ s.regRead f a }) := by
  simp [State.hostReadPair, State.readPair_eq hl, State.updHost]

end

/-! ### Reads of a Thinis core (R17; log entry 78) -/

theorem State.core_setCore (s : State) (c : CoreIx) (u : ThnCore → ThnCore) : (s.setCore c.val u).core c.val = u (s.core c.val) := by
  unfold State.setCore State.core
  split <;> rfl

/-- A read of a running core with nothing held and an empty shadow, whose target runs, brings the live value of function 0. -/
theorem State.coreRead_word {s : State} {c : CoreIx} {a : Nat} (hc : s.coreRuns c.val = true) (hh : (s.core c.val).held = [])
    (hs : (s.core c.val).shadow = none) (ha : a % 4 = 0) (hr : s.stoppedAt a = false) :
    SamePlant { s with thn := (s.coreRead c.val a false).thn } (s.coreRead c.val a false) ∧
      ((s.coreRead c.val a false).core c.val).rdata = (s.regRead 0 a).setWidth 64 := by
  have he : s.coreRead c.val a false = s.coreReadNow c.val a false := by simp [State.coreRead, hc, hh, ha, hr]
  rw [he]
  refine ⟨rfl, ?_⟩
  simp [State.coreReadNow, State.core_setCore, hs, State.readWord_empty]

/-! ### The rows -/

theorem exec_registerWrite_word (f : LaneIx) (a : Bar0) (v : W32) (s : State) :
    exec (.registerWrite f a (.word v)) s = .next (s.access f.val (regAcc a.toNat true v)) := rfl

theorem exec_registerWrite_pair (f : LaneIx) (a : Bar0) (v w : W32) (s : State) :
    exec (.registerWrite f a (.pair v w)) s = .next (s.access f.val (pairAcc a.toNat (some (w ++ v)))) := rfl

theorem exec_completerAbort_read (f : LaneIx) (a : Bar0) (size : Nat) (s : State) :
    exec (.completerAbort f a size .read) s = .next (s.access f.val (anyAcc a.toNat size false 0)) := rfl

theorem exec_completerAbort_write (f : LaneIx) (a : Bar0) (size : Nat) (data : W64) (s : State) :
    exec (.completerAbort f a size (.write data)) s = .next (s.access f.val (anyAcc a.toNat size true data)) := rfl

theorem exec_lowWordRead_word (f : LaneIx) (a : Bar0) (s : State) :
    exec (.lowWordRead (.func f) ⟨a, false⟩) s = .next (s.access f.val (regAcc a.toNat false 0)) := rfl

theorem exec_lowWordRead_wide (f : LaneIx) (a : Bar0) (s : State) :
    exec (.lowWordRead (.func f) ⟨a, true⟩) s = .next (s.access f.val (pairAcc a.toNat none)) := rfl

theorem exec_highWordRead (f : LaneIx) (a : Bar0) (s : State) :
    exec (.highWordRead (.func f) a) s = .next (s.access f.val (regAcc a.toNat false 0)) := rfl

theorem exec_lowWordRead_core (c : CoreIx) (a : Bar0) (s : State) :
    exec (.lowWordRead (.core c) ⟨a, false⟩) s = .next (s.coreRead c.val a.toNat false) := rfl

theorem exec_highWordRead_core (c : CoreIx) (a : Bar0) (s : State) :
    exec (.highWordRead (.core c) a) s = .next (s.coreRead c.val a.toNat false) := rfl

theorem exec_hungAccessComplete (f : LaneIx) (s : State) (hr : s.reaches f.val = true) :
    exec (.hungAccessComplete (.func f)) s = .next (State.completeHeld f.val (s.getHost f.val).held.length s) :=
  congrArg Host.Outcome.next (if_pos hr)

/-! ### Clauses of the statement on accesses -/

/-- R18: a malformed access is a Completer Abort. -/
theorem exec_completerAbort_malformed {f : LaneIx} {a : Bar0} {size : Nat} {s : State} (ha : Arrives f.val s)
    (hm : malformed a.toNat size = true) (dir : AccessDir) : exec (.completerAbort f a size dir) s =
      .next (s.aer f.val (.completerAbort ⟨(match dir with | .write _ => true | _ => false), a.toNat, size⟩)) := by
  cases dir with
  | read => rw [exec_completerAbort_read, anyAcc_malformed hm, State.access_bad ha]
  | write data => rw [exec_completerAbort_write, anyAcc_malformed hm, State.access_bad ha]

/-- R17: the reads of a pair that is no latch set, through an empty shadow, return the words of one moment. -/
theorem exec_pair_reads {f : LaneIx} {a b : Bar0} {s : State} (ha : Arrives f.val s) (h8 : a.toNat % 8 = 0) (hb : b.toNat = a.toNat + 4)
    (hp : isPairLow a.toNat = true) (hl : isLatchLow a.toNat = false)
    (hv : f.val = 0 ∨ (s.sees f.val a.toNat = true ∧ s.sees f.val b.toNat = true)) (hra : s.stoppedAt a.toNat = false)
    (hrb : s.stoppedAt b.toNat = false) (hs : (s.getHost f.val).shadow = none) :
    (∃ t u, exec (.lowWordRead (.func f) ⟨a, false⟩) s = .next t ∧ SamePlant s t ∧
      (t.getHost f.val).rdata = (s.regRead f.val a.toNat).setWidth 64 ∧ exec (.highWordRead (.func f) b) t = .next u ∧ SamePlant s u ∧
      (u.getHost f.val).rdata = (s.regRead f.val b.toNat).setWidth 64 ∧ (u.getHost f.val).shadow = none) ∧
    (∃ t, exec (.highWordRead (.func f) b) s = .next t ∧ SamePlant s t ∧ (t.getHost f.val).rdata = (s.regRead f.val b.toNat).setWidth 64) ∧
    ∃ t, exec (.lowWordRead (.func f) ⟨a, true⟩) s = .next t ∧ SamePlant s t ∧ (t.getHost f.val).shadow = none ∧
      (t.getHost f.val).rdata = s.regRead f.val b.toNat ++ s.regRead f.val a.toNat := by
  have hva : f.val = 0 ∨ s.sees f.val a.toNat = true := hv.imp_right And.left
  have hvb : f.val = 0 ∨ s.sees f.val b.toNat = true := hv.imp_right And.right
  have ha4 : a.toNat % 4 = 0 := by omega
  have hb4 : b.toNat % 4 = 0 := by omega
  refine ⟨⟨s.hostReadReg f.val a.toNat, (s.hostReadReg f.val a.toNat).hostReadReg f.val b.toNat, ?_, ?_⟩,
    ⟨s.hostReadReg f.val b.toNat, ?_, State.hostReadReg_empty hs⟩, ⟨s.hostReadPair f.val a.toNat, ?_, ?_⟩⟩
  · rw [exec_lowWordRead_word, regAcc_aligned ha4, State.access_read ha hva hra]
  · obtain ⟨hpt, hd⟩ := State.hostReadReg_empty (a := a.toNat) hs
    have hat : Arrives f.val (s.hostReadReg f.val a.toNat) := by
      unfold State.hostReadReg
      exact ha.updHost rfl rfl
    have hvt : f.val = 0 ∨ (s.hostReadReg f.val a.toNat).sees f.val b.toNat = true := by simpa [State.hostReadReg] using hvb
    have hrt : (s.hostReadReg f.val a.toNat).stoppedAt b.toNat = false := hrb
    refine ⟨hpt, hd, ?_, hpt.trans (samePlant_updHost ..), ?_⟩
    · rw [exec_highWordRead, regAcc_aligned hb4, State.access_read hat hvt hrt]
    · rw [hb]
      exact State.hostReadReg_low_high hp hl hs
  · rw [exec_highWordRead, regAcc_aligned hb4, State.access_read ha hvb hrb]
  · rw [exec_lowWordRead_wide, pairAcc_aligned h8 hp, State.access_read_pair ha hva hra]
  · rw [State.hostReadPair_eq hl, hb]
    exact ⟨samePlant_updHost .., by simp [hs]⟩

/-- Settles O12: each access is carried out, stray, refused, held or aborted by the lemma of its outcome, and reads go through their
requester's shadow. A Thinis core reads as function 0 (log entry 78), and the header log keeps kind, address and length (log entry 79). -/
theorem accessesGoToTheirBlock : Obligations.AccessesGoToTheirBlock := by
  intro f a v s
  dsimp only
  refine ⟨fun ha h4 hv => ⟨fun hr => ?_, fun hr h8 hp w => ?_, fun d ht hd => ?_⟩, fun ha h4 h0 hv => ?_,
    fun size dir data ha => ⟨fun hm => exec_completerAbort_malformed ha hm dir, fun hs h4 => ?_⟩, fun hr hd h4 => ?_, fun hr hh hv hrun => ?_,
    fun b ha h8 hb hp hl hv hra hrb hs =>
      exec_pair_reads ha h8 hb hp hl hv (State.stoppedAt_of_runs hra) (State.stoppedAt_of_runs hrb) hs,
    fun c hc hh hs h4 hr => ?_⟩
  · rw [exec_registerWrite_word, regAcc_aligned h4, State.access_write ha hv (State.stoppedAt_of_runs hr)]
  · rw [exec_registerWrite_pair, pairAcc_aligned h8 hp, State.access_write_pair ha hv (State.stoppedAt_of_runs hr), lo_append, hi_append]
  · rw [exec_registerWrite_word, regAcc_aligned h4, State.access_write_held ha hv (State.stoppedAt_of_off ht hd)]
  · rw [exec_registerWrite_word, regAcc_aligned h4, State.access_write_stray ha h0 hv]
  · subst hs
    rfl
  · rw [exec_registerWrite_word, regAcc_aligned h4, State.access_in_d3 hr hd]
    rfl
  · rw [exec_hungAccessComplete f s hr, hh]
    exact congrArg Host.Outcome.next (State.completeHeld_write hh hv (State.stoppedAt_of_runs hrun))
  · have hread := State.coreRead_word hc hh hs h4 (State.stoppedAt_of_runs hr)
    exact ⟨⟨_, exec_lowWordRead_core c a s, hread⟩, ⟨_, exec_highWordRead_core c a s, hread⟩⟩

/-! ### The step -/

theorem step_cons (c : Instr) (rest : List Instr) (s : State) : step { s with pending := c :: rest } = exec c { s with pending := rest } := rfl

theorem step_idle {s : State} (h : s.pending = []) : step s = .next (idle s) := by
  unfold step
  rw [h]

/-- Settles O1: the step's two cases, and the idle tick of log entry 28. -/
theorem stepRunsTheFrontCommand : Obligations.StepRunsTheFrontCommand := by
  refine ⟨step_cons, fun s hs => ⟨fun hf => ?_, fun hf => ?_⟩⟩
  · rw [step_idle hs, idle, if_pos hf]
  · rw [step_idle hs, idle, hf]
    rfl

end Sys2Proof.Machine
end

section
/-! SET-SPEED, SET-CEILING, CONFIG-DISCARD and WINDOW-ARM (R39, R40, R168, R257, R261, R287, R288): each is an immediate command with one effect. -/

namespace Sys2Proof.Machine

/-! ### Event status bits (R144) -/

theorem bit_setBit_self {w i : Nat} (x : BitVec w) (h : i < w) : bit (setBit x i true) i = true := by
  simp [bit, setBit, h]

/-- Setting a bit clears no other. -/
theorem bit_setBit_of_bit {w i : Nat} {x : BitVec w} (j : Nat) (h : bit x i = true) : bit (setBit x j true) i = true := by
  simp [bit, setBit] at h ⊢
  exact .inl h

/-- Raising an event sets its status bit where HOST runs, and does nothing where it does not (R76, R144). -/
theorem State.raise_stat (s : State) (src : Nat) :
    (s.raise src).evt.stat = if s.on dHOST then setBit s.evt.stat src true else s.evt.stat := by
  unfold State.raise
  split
  · dsimp only
    split
    · simp
    · rfl
  · rfl

/-- A raised event's status bit is set. -/
theorem State.raise_stat_self {s : State} {src : Nat} (hon : s.on dHOST = true) (h : src < 384) : bit (s.raise src).evt.stat src = true := by
  rw [State.raise_stat, if_pos hon]
  exact bit_setBit_self _ h

theorem State.raise_keeps_stat {s : State} {i : Nat} (src : Nat) (h : bit s.evt.stat i = true) : bit (s.raise src).evt.stat i = true := by
  rw [State.raise_stat]
  split
  · exact bit_setBit_of_bit src h
  · exact h

theorem State.writeEntry_keeps_stat {s : State} {i : Nat} (q : Nat) (e : Entry) (h : bit s.evt.stat i = true) :
    bit (s.writeEntry q e).evt.stat i = true := by
  unfold State.writeEntry
  dsimp only
  refine State.raise_keeps_stat _ ?_
  split
  · exact h
  · exact h

theorem State.drain_keeps_stat {i : Nat} (q n : Nat) {s : State} (h : bit s.evt.stat i = true) : bit (State.drain q n s).evt.stat i = true := by
  induction n generalizing s with
  | zero => exact h
  | succ n ih =>
    unfold State.drain
    dsimp only
    split
    · exact h
    · split
      · exact ih (State.writeEntry_keeps_stat q _ h)
      · exact h

/-- Posting an entry clears no event. -/
theorem State.post_keeps_stat {s : State} {i : Nat} (q : Nat) (e : Entry) (h : bit s.evt.stat i = true) : bit (s.post q e).evt.stat i = true :=
  State.drain_keeps_stat q _ h

/-- Raising an event touches no register of the plant. -/
theorem samePlant_raise (s : State) (src : Nat) : SamePlant s (s.raise src) := by
  rw [samePlant_iff]
  simp

/-- States with one plant have the same Pacers. -/
theorem SamePlant.pacers {s t : State} (h : SamePlant s t) : t.pacers = s.pacers := by simp [(samePlant_iff s t).mp h]

theorem SamePlant.getPacer {s t : State} (h : SamePlant s t) (k : Nat) : t.getPacer k = s.getPacer k := by
  rw [State.getPacer, h.pacers, State.getPacer]

/-! ### Immediate commands that succeed -/

/-- A lane that is not RESETTING is in one of the states that R168 writes as "—" for commands of a lane. -/
theorem InState.any {p : Packet} {s : State} (h : InState none p s) : InState anyState p s := by
  refine ⟨h.1, fun l hl => ?_⟩
  obtain rfl := Option.some.inj hl
  have hr := h.1
  cases hst : (s.getLane p.lane.toNat).st with
  | resetting => exact absurd hst hr
  | _ => simp

section
variable {c : Cmd} {q : LaneIx} {p : Packet} {body : State → State × BitVec 16 × Nat} {s b : State} {fs : List Field}

/-- An immediate command that passes its checks is its effect with the one entry posted. -/
theorem immediate_answers (h : Served c.lane0 c.rom c.early fs q p s c.target0) (hc : c.check q.val p (s.takeHead q.val) = none)
    {st : BitVec 16} {d : Nat} (hb : body (s.takeHead q.val) = (b, st, d)) (ha : (b.getHost q.val).Agrees ((s.takeHead q.val).getHost q.val)) :
    immediate c q p body s = b.answer q.val p.tag st d := by
  obtain ⟨hen, hwait, hfence, -⟩ := State.takes_host h.takes
  have gt := getHost_takeHead s q.val
  unfold immediate
  rw [command_runs h hc]
  dsimp only
  rw [hb]
  exact serveAll_post (by rw [ha.waiting, gt]; exact hwait) (by rw [ha.en, gt]; exact hen) (by rw [ha.unknown, gt]; exact h.rows)
    (by rw [ha.fence, gt]; exact hfence)

/-- An immediate command that passes its checks, with an effect b on the plant r that leaves the queues and host memory: SUCCESS and nothing
else. -/
theorem immediate_succeeds {r : State} (h : Served c.lane0 c.rom c.early fs q p s c.target0) (hs : InState c.states p s)
    (hf : c.fields p (s.takeHead q.val) = fs) (ho : c.own p (s.takeHead q.val) = true) (hu : c.busy p (s.takeHead q.val) = false)
    (hd : c.bad p (s.takeHead q.val) = false) (hb : body (s.takeHead q.val) = (b, stOk, 0)) (hr : SamePlant r b)
    (ha : (b.getHost q.val).Agrees ((s.takeHead q.val).getHost q.val)) (hp : b.corePosts = s.corePosts) (hm : b.hostMem = s.hostMem) :
    SamePlant r (immediate c q p body s) ∧ Answered q.val p stOk 0 s.hostMem s (immediate c q p body s) := by
  obtain ⟨hplant, -, -, hans⟩ := immediate_does h (served_check h (.inr hs) hf ho hu hd) hb ha (hp.trans (State.takes_posts h.takes))
  rw [hm] at hans
  exact ⟨hr.trans hplant, hans⟩

end

/-! ### The four commands -/

section
variable {q : LaneIx} {p : Packet} {s : State}

/-- SET-SPEED (R40). -/
theorem setSpeed_does (h : Served false false false [fMax p 8 4 12500000] q p s) (hs : InState stCP p s) :
    SamePlant (s.updLane p.lane.toNat (fun x => { x with rate := BitVec.ofNat 32 (pnum p 8 4) })) (setSpeed q p s) ∧
      Answered q.val p stOk 0 s.hostMem s (setSpeed q p s) :=
  immediate_succeeds h hs rfl rfl rfl rfl rfl rfl (agrees_of_host rfl q.val) rfl rfl

/-- CONFIG-DISCARD (R261). -/
theorem configDiscard_does (h : Served false false false [fMax p 8 1 1] q p s) (hs : InState none p s)
    (hheld : s.held (.slot p.lane.toNat (pnum p 8 1)) = false) (hlock : s.slotLocked p.lane.toNat (pnum p 8 1) = false) :
    SamePlant (s.updLane p.lane.toNat (fun x => x.setSlot (pnum p 8 1) none)) (configDiscard q p s) ∧
      Answered q.val p stOk 0 s.hostMem s (configDiscard q p s) :=
  immediate_succeeds h hs.any rfl rfl (Bool.or_eq_false_iff.mpr ⟨hheld, hlock⟩) rfl rfl rfl (agrees_of_host rfl q.val) rfl rfl

variable {k : Nat}

/-- The effect of SET-CEILING on the plant (R39). -/
def Pacer.withCeil (v : Nat) (x : Pacer) : Pacer := { x with ceil := if v = 0 then 0xFFFFFFFF else BitVec.ofNat 32 v }

/-- The effect of SET-CEILING on the state: the ceiling of Pacer k, and event 371 (R39). -/
def State.putCeil (k v : Nat) (s : State) : State := (s.updPacer k (Pacer.withCeil v)).raise 371

/-- SET-CEILING (R39). -/
theorem setCeiling_does (h : Served false false false [fAny 8 4] q p s) (hs : InState stCP p s) (hk : (s.getLane p.lane.toNat).pacer = some k) :
    bit (setCeiling q p s).evt.stat 371 = true ∧ Answered q.val p stOk 0 s.hostMem s (setCeiling q p s) ∧
      SamePlant (s.updPacer k (Pacer.withCeil (pnum p 8 4))) (setCeiling q p s) := by
  have hk' : ((s.takeHead q.val).getLane p.lane.toNat).pacer = some k := hk
  have hagree : (((s.takeHead q.val).putCeil k (pnum p 8 4)).getHost q.val).Agrees ((s.takeHead q.val).getHost q.val) :=
    (agrees_raise _ 371 q.val).trans (agrees_of_host rfl q.val)
  have hrun : SamePlant (s.updPacer k (Pacer.withCeil (pnum p 8 4))) (setCeiling q p s) ∧ Answered q.val p stOk 0 s.hostMem s (setCeiling q p s) :=
    immediate_succeeds h hs rfl rfl rfl rfl (by dsimp only; rw [hk']; rfl)
      (SamePlant.trans (b := (s.takeHead q.val).updPacer k _) rfl (samePlant_raise _ 371))
      hagree (by simp [State.corePosts, State.imageRuns, State.romServes]) (by simp)
  have hanswer : setCeiling q p s = ((s.takeHead q.val).putCeil k (pnum p 8 4)).answer q.val p.tag stOk 0 :=
    immediate_answers h (served_check h (.inr hs) rfl rfl rfl rfl) (by dsimp only; rw [hk']; rfl) hagree
  refine ⟨?_, hrun.2, hrun.1⟩
  rw [hanswer]
  exact State.post_keeps_stat _ _ (State.raise_stat_self (State.takes_host h.takes).2.2.2 (by decide))

/-- The window that WINDOW-ARM queues, of the packet's triggers, offset and length (R287, R288). -/
def Pacer.windowOfPacket (x : Pacer) (p : Packet) : Window :=
  { newWindow x.nextWin x.freeSlot .armed with
    start := BitVec.ofNat 8 (pnum p 8 1), stop := BitVec.ofNat 8 (pnum p 9 1), offset := pnum p 12 4, length := pnum p 16 4 }

/-- A Pacer with one more window armed: it is behind the others, and its triggers are listened to (R287, R288). -/
def Pacer.arm (w : Window) (x : Pacer) : Pacer :=
  { x with
    windows := x.windows ++ [w], nextWin := x.nextWin + 1
    starts := if x.starts.contains w.start then x.starts else w.start :: x.starts
    stops := if w.stop = 0xFF ∨ x.stops.contains w.stop then x.stops else w.stop :: x.stops }

/-- WINDOW-ARM (R287, R288). -/
theorem windowArm_does (hk : (s.getLane p.lane.toNat).pacer = some k)
    (h : Served false false false [⟨8, 1, decide (pnum p 8 1 < 32) && !(s.getPacer k).cont⟩,
      ⟨9, 1, (decide (pnum p 9 1 < 32) || decide (pnum p 9 1 = 0xFF)) && decide (pnum p 9 1 ≠ pnum p 8 1)⟩, fMax p 12 4 (2 ^ 31 - 1),
      ⟨16, 4, decide (pnum p 16 4 < 2 ^ 31) && !(decide (pnum p 9 1 = 0xFF) && decide (pnum p 16 4 = 0))⟩] q p s)
    (hs : InState stP p s) (hlive : (s.getPacer k).live.length < 8) :
    SamePlant (s.updPacer k (Pacer.arm ((s.getPacer k).windowOfPacket p))) (windowArm q p s) ∧
      Answered q.val p stOk 0 s.hostMem s (windowArm q p s) := by
  unfold windowArm
  dsimp only
  rw [hk, Option.getD_some]
  exact immediate_succeeds h hs rfl rfl (decide_eq_false (Nat.not_le.mpr hlive)) rfl rfl rfl (agrees_of_host rfl q.val) rfl rfl

end

/-- Settles O4: each command passes its checks, has its effect on the state that the taken packet leaves, and posts SUCCESS. -/
theorem laneCommandsTakeEffect : Obligations.LaneCommandsTakeEffect := by
  intro q p s
  dsimp only
  refine ⟨fun h hs => ⟨_, rfl, setSpeed_does h hs⟩, fun k h hs hk => ⟨_, rfl, setCeiling_does h hs hk⟩,
    fun h hs hheld hlock => ⟨_, rfl, configDiscard_does h hs hheld hlock⟩, fun k hk h hs hlive => ⟨_, rfl, ?_⟩⟩
  obtain ⟨hplant, hans⟩ := windowArm_does hk h hs hlive
  refine ⟨hans, ?_, ?_⟩
  · rw [hplant.pacers]
    exact hplant
  · rw [hplant.getPacer, State.getPacer_updPacer]
    rfl

end Sys2Proof.Machine
end

section
/-! Line boundaries (R309, R310): what the work of a boundary, speculation and changes of strobes leave alone. -/

namespace Sys2Proof.Machine

/-! ### The anchors of a state -/

/-- The boundary that a Pacer is at and its references (R301, R303, R309). -/
structure Refs where
  lineN     : Int
  lineT     : Tick
  st        : PacerSt
  cur       : RefCur
  force     : Bool
  switchDue : Bool
  priSt     : RefSt
  secSt     : RefSt
  secEn     : Bool
  drEn      : Bool
  switches  : Byte

def Pacer.refs (x : Pacer) : Refs :=
  ⟨x.lineN, x.lineT, x.st, x.cur, x.force, x.switchDue, x.priSt, x.secSt, x.secEn, x.drEn, x.switches⟩

/-- The last boundary of a cell, and whether a takeover of it is under way (R263, R310). -/
def Cell.timing (x : Cell) : Nat × Bool := (x.idleAt, x.tkoActive)

/-- The fields by which boundaries fall and find work to do. -/
structure Anchors where
  time    : W64
  quads   : Tab Quad
  lanes   : Tab Lane
  changes : List Change
  cells   : Nat → Nat × Bool
  pacers  : Nat → Refs

def State.anchors (s : State) : Anchors :=
  ⟨s.time, s.quads, s.lanes, s.changes, fun c => (s.getCell c).timing, fun p => (s.getPacer p).refs⟩

/-- States that agree in these fields have the same anchors. -/
theorem State.anchors_congr {s t : State} (ht : t.time = s.time) (hq : t.quads = s.quads) (hl : t.lanes = s.lanes) (hch : t.changes = s.changes)
    (hc : t.cells = s.cells) (hp : t.pacers = s.pacers) : t.anchors = s.anchors := by
  simp only [State.anchors, State.getCell, State.getPacer, ht, hq, hl, hch, hc, hp]

section
variable {s t : State}

theorem State.time_of_anchors (h : t.anchors = s.anchors) : t.time = s.time := congrArg Anchors.time h

theorem State.timing_of_anchors (h : t.anchors = s.anchors) (c : Nat) : (t.getCell c).timing = (s.getCell c).timing :=
  congrFun (congrArg Anchors.cells h) c

theorem State.idleAt_of_anchors (h : t.anchors = s.anchors) (c : Nat) : (t.getCell c).idleAt = (s.getCell c).idleAt :=
  congrArg Prod.fst (State.timing_of_anchors h c)

theorem State.tkoActive_of_anchors (h : t.anchors = s.anchors) (c : Nat) : (t.getCell c).tkoActive = (s.getCell c).tkoActive :=
  congrArg Prod.snd (State.timing_of_anchors h c)

theorem State.refs_of_anchors (h : t.anchors = s.anchors) (p : Nat) : (t.getPacer p).refs = (s.getPacer p).refs :=
  congrFun (congrArg Anchors.pacers h) p

end

theorem State.anchors_ite {c : Prop} [Decidable c] {a b s : State} (ha : a.anchors = s.anchors) (hb : b.anchors = s.anchors) :
    (if c then a else b).anchors = s.anchors := by
  split
  · exact ha
  · exact hb

/-- A fold of steps that keep the anchors keeps them. -/
theorem State.anchors_foldl {α : Type} {u : State → α → State} (l : List α) (h : ∀ s a, (u s a).anchors = s.anchors) (s : State) :
    (l.foldl u s).anchors = s.anchors := foldl_keeps State.anchors u h l s

theorem State.anchors_forAll {u : State → Nat → State} (l : List Nat) (h : ∀ s a, (u s a).anchors = s.anchors) (s : State) :
    (forAll l u s).anchors = s.anchors := State.anchors_foldl l h s

/-! ### Updates -/

section
variable (s : State) (k : Nat)

@[simp] theorem State.anchors_updLink (u : Link → Link) : (s.updLink k u).anchors = s.anchors := rfl
@[simp] theorem State.anchors_updGate (u : Gate → Gate) : (s.updGate k u).anchors = s.anchors := rfl
@[simp] theorem State.anchors_updBank (u : Bank → Bank) : (s.updBank k u).anchors = s.anchors := rfl
@[simp] theorem State.anchors_updHost (u : HostFn → HostFn) : (s.updHost k u).anchors = s.anchors := rfl
@[simp] theorem State.anchors_send (o : Out) : (s.send o).anchors = s.anchors := rfl

variable {s k}

theorem State.anchors_updCell {u : Cell → Cell} (h : (u (s.getCell k)).timing = (s.getCell k).timing) : (s.updCell k u).anchors = s.anchors := by
  have hc : ∀ j, ((s.updCell k u).getCell j).timing = (s.getCell j).timing := by
    intro j
    by_cases hj : j = k
    · subst hj
      rw [State.getCell_updCell, h]
    · rw [State.getCell_updCell_ne _ _ _ _ hj]
  simp only [State.anchors, hc]
  simp [State.getPacer]

theorem State.anchors_updPacer {u : Pacer → Pacer} (h : (u (s.getPacer k)).refs = (s.getPacer k).refs) : (s.updPacer k u).anchors = s.anchors := by
  have hp : ∀ j, ((s.updPacer k u).getPacer j).refs = (s.getPacer j).refs := by
    intro j
    by_cases hj : j = k
    · subst hj
      rw [State.getPacer_updPacer, h]
    · rw [State.getPacer_updPacer_ne _ _ _ _ hj]
  simp only [State.anchors, hp]
  simp [State.getCell]

end

/-! ### Events, entries and frames -/

section
variable (s : State)

@[simp] theorem State.anchors_raise (src : Nat) : (s.raise src).anchors = s.anchors := by apply State.anchors_congr <;> simp
@[simp] theorem State.anchors_raiseIf (b : Bool) (src : Nat) : (s.raiseIf b src).anchors = s.anchors := by apply State.anchors_congr <;> simp
@[simp] theorem State.anchors_answer (q : Nat) (tag : W32) (st : BitVec 16) (d : Nat) : (s.answer q tag st d).anchors = s.anchors := by
  apply State.anchors_congr <;> simp
@[simp] theorem State.anchors_serveAll (q : Nat) : (s.serveAll q).anchors = s.anchors := by apply State.anchors_congr <;> simp
@[simp] theorem State.anchors_finish (h : W32) (st : BitVec 16) (d : Nat) : (s.finish h st d).anchors = s.anchors := by
  apply State.anchors_congr <;> simp

@[simp] theorem State.anchors_cellEvt (c i : Nat) : (s.cellEvt c i).anchors = s.anchors := by
  unfold State.cellEvt
  rw [State.anchors_raiseIf]
  exact State.anchors_updCell rfl

@[simp] theorem State.anchors_gateEvt (g i : Nat) : (s.gateEvt g i).anchors = s.anchors := by
  unfold State.gateEvt
  dsimp only
  split <;> simp

@[simp] theorem State.anchors_pacerEvt (p i : Nat) : (s.pacerEvt p i).anchors = s.anchors := by
  unfold State.pacerEvt
  rw [State.anchors_raiseIf]
  exact State.anchors_updPacer rfl

@[simp] theorem State.anchors_updWindows (p : Nat) (q : Window → Bool) (u : Window → Window) : (s.updWindows p q u).anchors = s.anchors :=
  State.anchors_updPacer rfl

@[simp] theorem State.anchors_discardWindows (p : Nat) (q : Window → Bool) : (s.discardWindows p q).anchors = s.anchors :=
  State.anchors_updPacer rfl

@[simp] theorem State.anchors_updWindow (p i : Nat) (u : Window → Window) : (s.updWindow p i u).anchors = s.anchors := State.anchors_updWindows ..

@[simp] theorem State.anchors_flagOpen (p b : Nat) : (s.flagOpen p b).anchors = s.anchors := State.anchors_updWindows ..

@[simp] theorem State.anchors_flagLane (l b : Nat) : (s.flagLane l b).anchors = s.anchors := by
  unfold State.flagLane
  split
  · rfl
  · exact State.anchors_updWindows ..

@[simp] theorem State.anchors_sendConfig (l a : Nat) (d : List Byte) : (s.sendConfig l a d).anchors = s.anchors := rfl

@[simp] theorem State.anchors_sendTrims (l j : Nat) (v : List Nat) : (s.sendTrims l j v).anchors = s.anchors := rfl

@[simp] theorem State.anchors_skipTests (q : GTest → Bool) : (s.skipTests q).anchors = s.anchors := by
  unfold State.skipTests
  refine State.anchors_forAll _ (fun s g => ?_) s
  split <;> simp

end

/-! ### Speculation (R314 to R318) -/

section
variable (s : State)

@[simp] theorem State.anchors_markDone (c m : Nat) : (s.markDone c m).anchors = s.anchors := by
  refine State.anchors_updCell ?_
  split <;> rfl

@[simp] theorem State.anchors_settleCarried (c : Nat) : (s.settleCarried c).anchors = s.anchors := by
  unfold State.settleCarried
  refine State.anchors_foldl _ (fun s m => ?_) s
  split <;> simp

@[simp] theorem State.anchors_recompute (all : Bool) (t l : Nat) : (s.recompute all t l).anchors = s.anchors := by
  unfold State.recompute
  split
  · rfl
  · exact State.anchors_foldl _ (fun s b => State.anchors_updLink ..) s

@[simp] theorem State.anchors_applyCopy (c : Nat) (tdly : List Nat) : (s.applyCopy c tdly).anchors = s.anchors := by
  unfold State.applyCopy
  split
  · rfl
  · split
    · rfl
    · dsimp only
      rw [State.anchors_settleCarried]
      refine State.anchors_forAll _ (fun s l => ?_) s
      split <;> simp

@[simp] theorem State.anchors_missEdge (c m : Nat) (mapped : Bool) (side : Side) : (s.missEdge c m mapped side).anchors = s.anchors := by
  unfold State.missEdge
  split
  · rfl
  · dsimp only
    split
    · rw [State.anchors_cellEvt]
      exact State.anchors_updCell rfl
    · exact State.anchors_updCell rfl

@[simp] theorem State.anchors_settleEdges (c v : Nat) (mapped : Bool) : (s.settleEdges c v mapped).anchors = s.anchors := by
  unfold State.settleEdges
  split <;> simp

@[simp] theorem State.anchors_ensureSegment (p l : Nat) (n : Int) : (s.ensureSegment p l n).anchors = s.anchors := by
  unfold State.ensureSegment
  dsimp only
  split
  · exact State.anchors_updPacer rfl
  · rfl

@[simp] theorem State.anchors_assignLine (c p : Nat) (old : List Assign) (n : Int) : (s.assignLine c p old n).anchors = s.anchors := by
  unfold State.assignLine
  split
  · exact State.anchors_updCell rfl
  · rw [State.anchors_settleEdges]
    exact State.anchors_updCell rfl

@[simp] theorem State.anchors_muteLine (c p : Nat) (n : Int) : (s.muteLine c p n).anchors = s.anchors := by
  unfold State.muteLine
  split
  · rfl
  · exact State.anchors_forAll _ (fun s l => State.anchors_updLink ..) s

@[simp] theorem State.anchors_speculateLine (c p : Nat) (n : Int) : (s.speculateLine c p n).anchors = s.anchors := by
  unfold State.speculateLine
  dsimp only
  rw [State.anchors_forAll, State.anchors_updCell rfl, State.anchors_assignLine, State.anchors_ensureSegment]
  intro s l
  exact State.anchors_ite ((State.anchors_muteLine ..).trans (State.anchors_updLink ..)) (State.anchors_updLink ..)

theorem State.anchors_speculate (c n : Nat) : (State.speculate c n s).anchors = s.anchors := by
  induction n generalizing s with
  | zero => rfl
  | succ n ih =>
    unfold State.speculate
    dsimp only
    split
    · split
      · rw [ih, State.anchors_speculateLine]
      · rfl
    · rfl

@[simp] theorem State.anchors_speculateCell (c : Nat) : (s.speculateCell c).anchors = s.anchors := State.anchors_speculate ..

end

end Sys2Proof.Machine
end

section
/-! A data line's way through the pipeline (R228 to R250), and the boundary timer of a cell (R310). -/

namespace Sys2Proof.Machine

/-! ### The nozzle step of a boundary (R254, R259, R271) -/

section
variable (s : State)

@[simp] theorem State.anchors_noteTrim (l j old : Nat) : (s.noteTrim l j old).anchors = s.anchors := by
  unfold State.noteTrim
  dsimp only
  split
  · rfl
  · split <;> simp

theorem State.anchors_updNozzle (c n : Nat) {u : Cell → Cell} (h : ∀ x, (u x).timing = x.timing) :
    (s.updNozzle c n u).anchors = s.anchors := by
  unfold State.updNozzle
  dsimp only
  split <;> simp [State.anchors_updCell (h _)]

@[simp] theorem State.anchors_untest (links : List Nat) (q : Nat → Strobe → Bool) : (s.untest links q).anchors = s.anchors :=
  State.anchors_forAll _ (fun _ _ => State.anchors_updLink ..) s

@[simp] theorem State.anchors_settleMiss (c n : Nat) : (s.settleMiss c n).anchors = s.anchors := by
  unfold State.settleMiss
  dsimp only
  refine State.anchors_ite (State.anchors_updLink ..) ?_
  rw [State.anchors_forAll, State.anchors_untest, State.anchors_updLink]
  intro s g
  split <;> simp

@[simp] theorem State.anchors_applyMark (c : Nat) (m : Mark) : (s.applyMark c m).anchors = s.anchors := by
  unfold State.applyMark
  rw [State.anchors_settleMiss, State.anchors_updNozzle _ _ _ (fun x => by cases m.clear <;> rfl), State.anchors_skipTests]

@[simp] theorem State.anchors_applyEntry (c : Nat) (e : Nat × W32) : (s.applyEntry c e).anchors = s.anchors :=
  (State.anchors_settleMiss ..).trans (State.anchors_updNozzle _ _ _ (fun _ => rfl))

@[simp] theorem State.anchors_retarget (l : Nat) : (s.retarget l).anchors = s.anchors := State.anchors_updLink ..

@[simp] theorem State.anchors_measureFlight (g l : Nat) : (s.measureFlight g l).anchors = s.anchors := by
  unfold State.measureFlight
  dsimp only
  rw [State.anchors_retarget, State.anchors_updLink]
  split <;> simp

@[simp] theorem State.anchors_spitOver (h : W32) : (s.spitOver h).anchors = s.anchors :=
  State.anchors_ite rfl (State.anchors_finish ..)

theorem State.anchors_checkRound (g n : Nat) : (State.checkRound g n s).anchors = s.anchors := by
  induction n generalizing s with
  | zero => rfl
  | succ n ih =>
    unfold State.checkRound
    dsimp only
    split
    · rfl
    · have hflight (l : List Nat) : (forAll l (fun s l => s.measureFlight g l) s).anchors = s.anchors :=
        State.anchors_forAll l (fun s l => State.anchors_measureFlight s g l) s
      refine State.anchors_ite (State.anchors_ite ?_ ?_) rfl
      · simp [hflight]
      · simp [ih, hflight]

@[simp] theorem State.anchors_settleRounds (g : Nat) : (s.settleRounds g).anchors = s.anchors := by
  unfold State.settleRounds
  split
  · rfl
  · exact State.anchors_checkRound ..

/-- Marks, patch entries and the missing status that a boundary takes move no anchor. -/
@[simp] theorem State.anchors_boundaryNozzles (c : Nat) : (s.boundaryNozzles c).anchors = s.anchors := by
  have hmarks (l : List Mark) (s : State) : (l.foldl (fun s m => s.applyMark c m) s).anchors = s.anchors :=
    State.anchors_foldl l (fun s m => State.anchors_applyMark s c m) s
  have hentries (l : List (Nat × W32)) (s : State) : (l.foldl (fun s e => s.applyEntry c e) s).anchors = s.anchors :=
    State.anchors_foldl l (fun s e => State.anchors_applyEntry s c e) s
  have hanswers (l : List Mark) (s : State) :
      (l.foldl (fun s m => (s.answer m.queue m.tag stOk 0).serveAll m.queue) s).anchors = s.anchors :=
    State.anchors_foldl l (fun s m => by simp) s
  unfold State.boundaryNozzles
  dsimp only
  rw [State.anchors_updCell rfl, hentries, hanswers]
  refine State.anchors_ite ?_ ?_
  · rw [State.anchors_updCell rfl, hmarks]
  · split
    · rw [State.anchors_updCell rfl, hmarks]
    · rw [State.anchors_settleRounds, State.anchors_updCell rfl, hmarks]

/-- The copy in use follows the last check, and the cell's timing stays (R224). -/
theorem Cell.timing_adopt (x : Cell) : x.adopt.timing = x.timing := by
  unfold Cell.adopt
  split <;> rfl

end

/-! ### A boundary at which nothing waits -/

/-- No change is under way, no quad has anything to do, cell c has no takeover, and its lane is not being reset. -/
structure NothingWaits (c : Nat) (s : State) : Prop where
  changes  : s.changes = []
  jobs     : ∀ k, (s.getQuad k).job = .none
  takeover : (s.getCell c).tkoActive = false
  reset    : (s.getLane (s.laneOf c)).reset = none

section
variable {c : Nat} {s t : State}

/-- Whether anything waits is read off the anchors. -/
theorem NothingWaits.of_anchors (h : NothingWaits c s) (ha : t.anchors = s.anchors) : NothingWaits c t := by
  have hq : t.quads = s.quads := congrArg Anchors.quads ha
  have hl : t.lanes = s.lanes := congrArg Anchors.lanes ha
  refine ⟨(congrArg Anchors.changes ha).trans h.changes, fun k => ?_, (State.tkoActive_of_anchors ha c).trans h.takeover, ?_⟩
  · rw [State.getQuad, hq]
    exact h.jobs k
  · rw [State.laneOf, State.getQuad, State.getLane, hq, hl]
    exact h.reset

theorem NothingWaits.boundaryChanges (h : NothingWaits c s) : s.boundaryChanges c = (s, false) := by
  unfold State.boundaryChanges
  rw [h.changes]
  rfl

theorem NothingWaits.boundaryTakeover (h : NothingWaits c s) (timer : Bool) : s.boundaryTakeover c timer = s := by
  unfold State.boundaryTakeover
  dsimp only
  rw [h.takeover]
  rfl

theorem NothingWaits.boundaryReset (h : NothingWaits c s) : s.boundaryReset c = s := by
  unfold State.boundaryReset
  dsimp only
  rw [h.reset]

theorem NothingWaits.boundaryStop (h : NothingWaits c s) : s.boundaryStop c = s := by
  unfold State.boundaryStop
  refine foldl_inv (fun t => t = s) _ (fun t k ht => ?_) _ s rfl
  subst ht
  rw [h.jobs]

theorem NothingWaits.endChanges (h : NothingWaits c s) : s.endChanges = s := by
  unfold State.endChanges
  rw [h.changes]
  rfl

end

/-- The stamp of a boundary on its cell (R310). -/
def State.stampCell (c : Nat) (s : State) : State := s.updCell c (fun x => { x with idleAt := s.now })

/-- The first step of a boundary of cell c: its stamp, and the release of a lane that was held (R310, R457). -/
def State.beginBoundary (c : Nat) (s : State) : State :=
  if ((s.stampCell c).getLane (s.laneOf c)).unhold then
    (s.stampCell c).updLane (s.laneOf c) (fun x => { x with hold := false, unhold := false })
  else s.stampCell c

/-- The rest of a boundary of cell c, from the adoption of its copy on (R224, R310). -/
def State.boundaryWork (c : Nat) (timer : Bool) (s : State) : State :=
  let r := (s.updCell c Cell.adopt).boundaryChanges c
  let t := if r.1.cfg c = s.cfg c then r.1 else r.1.applyCopy c ((List.range 2).map (fun i => (linkCfg (s.cfg c) i).tdly))
  let t := t.boundaryNozzles c
  let t := if r.2 then t else t.boundaryTakeover c timer
  ((t.boundaryReset c).boundaryStop c).endChanges

theorem State.cellBoundary_eq (c : Nat) (timer : Bool) (s : State) : s.cellBoundary c timer = (s.beginBoundary c).boundaryWork c timer := rfl

section
variable {c : Nat} {s : State}

theorem NothingWaits.beginBoundary (h : NothingWaits c s) : NothingWaits c (s.beginBoundary c) := by
  have hcell : ((s.stampCell c).getCell c).tkoActive = false := by
    rw [State.stampCell, State.getCell_updCell]
    exact h.takeover
  unfold State.beginBoundary
  split
  · refine ⟨h.changes, h.jobs, hcell, ?_⟩
    show ((State.updLane (s.stampCell c) (s.laneOf c) _).getLane (s.laneOf c)).reset = none
    rw [State.getLane_updLane]
    exact h.reset
  · exact ⟨h.changes, h.jobs, hcell, h.reset⟩

/-- The stamp is the tick of the boundary, which takes no time. -/
theorem State.beginBoundary_stamps (c : Nat) (s : State) : (s.beginBoundary c).time = s.time ∧ ((s.beginBoundary c).getCell c).idleAt = s.now := by
  have hcell : ((s.stampCell c).getCell c).idleAt = s.now := congrArg Cell.idleAt (State.getCell_updCell ..)
  unfold State.beginBoundary
  split <;> exact ⟨rfl, hcell⟩

/-- With nothing waiting, the work of a boundary moves no anchor. -/
theorem NothingWaits.boundaryWork (h : NothingWaits c s) (timer : Bool) : (s.boundaryWork c timer).anchors = s.anchors := by
  have hadopt : (s.updCell c Cell.adopt).anchors = s.anchors := State.anchors_updCell (Cell.timing_adopt _)
  have hnone := h.of_anchors hadopt
  unfold State.boundaryWork
  rw [hnone.boundaryChanges]
  dsimp only
  rw [if_neg Bool.false_ne_true]
  generalize hu : State.boundaryNozzles c _ = u
  have hanchors : u.anchors = s.anchors := by
    rw [← hu, State.anchors_boundaryNozzles]
    exact State.anchors_ite hadopt ((State.anchors_applyCopy ..).trans hadopt)
  have hlate := h.of_anchors hanchors
  rw [hlate.boundaryTakeover, hlate.boundaryReset, hlate.boundaryStop, hlate.endChanges, hanchors]

/-- A boundary at which nothing waits takes no time, and is the cell's last one from then on (R310). -/
theorem NothingWaits.cellBoundary (h : NothingWaits c s) (timer : Bool) :
    (s.cellBoundary c timer).time = s.time ∧ ((s.cellBoundary c timer).getCell c).idleAt = s.now := by
  have hwork := h.beginBoundary.boundaryWork timer
  obtain ⟨htime, hstamp⟩ := State.beginBoundary_stamps c s
  rw [State.cellBoundary_eq]
  exact ⟨(State.time_of_anchors hwork).trans htime, (State.idleAt_of_anchors hwork c).trans hstamp⟩

end

/-! ### The boundary timer (R310) -/

/-- Moving chain time moves nothing else (R56, R443). -/
@[simp] theorem State.at_frame (s : State) (t : Nat) :
    (s.at_ t).glb = s.glb ∧ (s.at_ t).quads = s.quads ∧ (s.at_ t).lanes = s.lanes ∧ (s.at_ t).changes = s.changes ∧ (s.at_ t).cells = s.cells ∧
      (s.at_ t).links = s.links ∧ (s.at_ t).pacers = s.pacers := by
  unfold State.at_
  split <;> simp

/-- While FIRECLK runs, chain time goes forward to a tick that lies ahead, and never back (R56, R443). -/
theorem State.now_at {s : State} {t : Nat} (hf : s.fire = true) (ht : t < 2 ^ 64) : (s.at_ t).now = max s.now t := by
  have hroot : s.glb.rootLock = true := by simp_all [State.fire]
  unfold State.at_ State.now
  split
  · rename_i h
    rw [BitVec.toNat_ofNat, Nat.mod_eq_of_lt ht]
    omega
  · rename_i h
    simp only [hroot, true_and] at h
    omega

/-- CELL-BOUNDARY-TIMER where nothing waits. -/
theorem cellBoundaryTimer_does {c : Nat} {s : State} (hc : c < 256) (hf : s.fire = true) (h : NothingWaits c s)
    (ht : (s.getCell c).idleAt + msTicks < 2 ^ 64) :
    (cellBoundaryTimer c s).now = max s.now ((s.getCell c).idleAt + msTicks) ∧
      ((cellBoundaryTimer c s).getCell c).idleAt = (cellBoundaryTimer c s).now := by
  have hat : NothingWaits c (s.at_ ((s.getCell c).idleAt + msTicks)) := by
    obtain ⟨hch, hj, htk, hr⟩ := h
    constructor <;> simp_all [State.getQuad, State.getCell, State.getLane, State.laneOf]
  obtain ⟨htime, hstamp⟩ := hat.cellBoundary true
  have hrun : cellBoundaryTimer c s = ((s.at_ ((s.getCell c).idleAt + msTicks)).cellBoundary c true).speculateCell c := if_pos ⟨hc, hf⟩
  have hspec : (cellBoundaryTimer c s).anchors = ((s.at_ ((s.getCell c).idleAt + msTicks)).cellBoundary c true).anchors := by
    rw [hrun, State.anchors_speculateCell]
  have hnow : (cellBoundaryTimer c s).now = (s.at_ ((s.getCell c).idleAt + msTicks)).now :=
    congrArg BitVec.toNat ((State.time_of_anchors hspec).trans htime)
  exact ⟨hnow.trans (State.now_at hf ht), ((State.idleAt_of_anchors hspec c).trans hstamp).trans hnow.symm⟩

/-! ### The pipeline -/

/-- DATA-LINE-PROCESSED (R239, R250). -/
theorem dataLineProcessed_does {c : Nat} {s : State} {p : Pipe} (hon : s.cellOn c = true) (hproc : s.proc c = true)
    (hpipe : (s.getCell c).pipe = some p) (hx : s.xchgHeld c p.m = true) : dataLineProcessed c s = s.updCell c (fun y => { y with
      pipe := none, outM := p.m + 1
      slots := y.slots ++ [{ m := p.m, drops := s.shapeLine c p, conc := concealedOf (s.cfg c) p, cols := zeroedOf (s.cfg c) p }] }) := by
  unfold dataLineProcessed
  rw [hpipe]
  dsimp only
  rw [hon, hproc, hx]
  rfl

/-- EXCHANGE-ARRIVAL of the first value of its side and line (R238). -/
theorem exchangeArrival_first {c m : Nat} {side : Side} {s : State} (hon : s.cellOn c = true)
    (hx : ((s.getCell c).xval side m).isSome = false) : exchangeArrival c side m s = s.updCell c (fun x => { x with
      xin := x.xin.map (fun v => if !v.here && decide (v.side = side) && decide (v.m = m) then { v with here := true } else v) }) := by
  unfold exchangeArrival
  rw [hon]
  dsimp only
  rw [hx]
  rfl

section
variable {c : Nat} {s : State}

/-- A binary line can start when the pipeline is empty, its slot is free, its bytes are there and its reads are within the window's (R228). -/
theorem State.canStart_binary {m : Nat} (hon : s.cellOn c = true) (hproc : s.proc c = true) (hmode : (s.cfg c).mode ≠ 1)
    (hpipe : (s.getCell c).pipe = none) (hslot : ∀ r ∈ (s.getCell c).slots, r.m % 48 ≠ m % 48) (hm : m < s.complete c)
    (hbank : (s.getBank (s.serverOf c)).adm = true → 16 ≤ (s.getBank (s.serverOf c)).crData) : s.canStart c m = true := by
  have hfree : ((s.getCell c).slots.any (fun r => decide (r.m % 48 = m % 48))) = false := by simpa using hslot
  have hcredit : (!(s.getBank (s.serverOf c)).adm || decide (16 ≤ (s.getBank (s.serverOf c)).crData)) = true := by
    rw [Bool.or_eq_true, Bool.not_eq_true', decide_eq_true_iff]
    exact (Bool.eq_false_or_eq_true _).symm.imp_right hbank
  unfold State.canStart
  dsimp only
  rw [if_neg hmode, hon, hproc, hpipe, hfree, hcredit, decide_eq_true hm]
  rfl

/-- With no bad block in the bank, none found and no injection waiting, reads find nothing (R216, R217, R504). -/
theorem State.ueAmong_clean {b : Nat} (hp : (s.getBank b).poison = []) (hi : s.flt.pend = false) (blocks : List Nat) :
    s.ueAmong b blocks [] = [] := by
  simp [State.ueAmong, hp, eccOf, State.injBlock, State.injHits, hi]

theorem State.blocksRead_clean {b : Nat} (hp : (s.getBank b).poison = []) (hi : s.flt.pend = false) (blocks : List Nat) :
    s.blocksRead b blocks [] = s := by
  have hce : s.ceAmong b blocks [] = [] := by simp [State.ceAmong, eccOf, State.injBlock, State.injHits, hi]
  unfold State.blocksRead
  rw [State.ueAmong_clean hp hi, hce]
  rfl

/-- Sending an exchange value moves no line of any cell, and no byte of the line store (R239). -/
theorem State.sendEdge_keeps (s : State) (c m : Nat) (side : Side) (err : Int) (levels : List (Nat × Nat)) :
    (s.sendEdge c m side err levels).store = s.store ∧ ∀ j, ((s.sendEdge c m side err levels).getCell j).nextM = (s.getCell j).nextM ∧
      ((s.sendEdge c m side err levels).getCell j).pipe = (s.getCell j).pipe := by
  unfold State.sendEdge
  split
  · exact ⟨rfl, fun j => ⟨rfl, rfl⟩⟩
  · rename_i d _
    refine ⟨rfl, fun j => ?_⟩
    by_cases hj : j = d
    · subst hj
      rw [State.getCell_updCell]
      exact ⟨rfl, rfl⟩
    · rw [State.getCell_updCell_ne _ _ _ _ hj]
      exact ⟨rfl, rfl⟩

/-- With no starved line to pass over, the next line to start is the one that follows (R43, R228). -/
theorem Cell.nextLine_of_noSkip {x : Cell} (h : x.skipM = []) : x.nextLine = x.nextM := by
  simp [Cell.nextLine, Cell.lineFrom, skipStarved, h]

/-- DATA-LINE-START of a binary line whose reads are clean (R228, R250). -/
theorem dataLineStart_does (hon : s.cellOn c = true) (hproc : s.proc c = true) (hmode : (s.cfg c).mode ≠ 1)
    (hpipe : (s.getCell c).pipe = none) (hslot : ∀ r ∈ (s.getCell c).slots, r.m % 48 ≠ (s.getCell c).nextM % 48)
    (hskip : (s.getCell c).skipM = []) (hm : (s.getCell c).nextM < s.complete c) (hi : s.flt.pend = false)
    (hp : (s.getBank (s.serverOf c)).poison = [])
    (hbank : (s.getBank (s.serverOf c)).adm = true → 16 ≤ (s.getBank (s.serverOf c)).crData) :
    ((dataLineStart c [] s).getCell c).nextM = (s.getCell c).nextM + 1 ∧ (dataLineStart c [] s).store = s.store ∧
      (((dataLineStart c [] s).getCell c).pipe.map (·.m)) = some (s.getCell c).nextM ∧
      (((dataLineStart c [] s).getCell c).pipe.map (·.levels)) =
        some (unpackLevels (ccOf (s.cfg c)) (s.cellRead c (lineOff (s.cfg c) (s.getCell c).nextM) 1024)) := by
  have hintake : s.intakeNow c (s.getCell c).nextM [] = s := if_neg (fun h => hmode h.1)
  have hclean (u : Bank → Bank) (hu : (u (s.getBank (s.serverOf c))).poison = []) (blocks : List Nat) :
      (s.updBank (s.serverOf c) u).blocksRead (s.serverOf c) blocks [] = s.updBank (s.serverOf c) u :=
    State.blocksRead_clean (s := s.updBank (s.serverOf c) u) (by rw [State.getBank_updBank]; exact hu) hi blocks
  unfold dataLineStart
  dsimp only
  rw [Cell.nextLine_of_noSkip hskip, hintake, if_pos (State.canStart_binary hon hproc hmode hpipe hslot hm hbank), if_neg hmode, if_neg hmode,
    State.ueAmong_clean hp hi, hclean _ (by exact hp)]
  have hread (u : Bank → Bank) (off n : Nat) : (s.updBank (s.serverOf c) u).cellRead c off n = s.cellRead c off n := rfl
  simp [hmode, State.sendEdge_keeps, zeroedCols, hread]
end

/-- Settles O23: the two data line rows by their equations, the arrival by its first value, and the boundary timer by a boundary at which
nothing waits. -/
theorem dataLinesPassThePipeline : Obligations.DataLinesPassThePipeline := by
  intro c s
  dsimp only
  refine ⟨fun hon hproc hmode hpipe hslot hskip hm hi hp hbank => ⟨_, rfl, dataLineStart_does hon hproc hmode hpipe hslot hskip hm hi hp hbank⟩,
    fun p hon hproc hpipe hx => congrArg Host.Outcome.next (dataLineProcessed_does hon hproc hpipe hx),
    fun side m hon hx => ⟨_, congrArg Host.Outcome.next (exchangeArrival_first hon hx), rfl, congrArg Cell.xin (State.getCell_updCell ..)⟩,
    fun hc hf hch hj htko _ hreset ht => ⟨_, rfl, cellBoundaryTimer_does hc hf ⟨hch, hj, htko, hreset⟩ ht⟩⟩

end Sys2Proof.Machine
end

section
/-! Boundaries and marks of a Pacer and the references taken there (R301, R303, R309, R310, R333), and the fills of its lanes (R42). -/

namespace Sys2Proof.Machine

/-! ### Windows and stops at a boundary -/

section
variable (s : State)

@[simp] theorem State.anchors_reassignCell (p c : Nat) : (s.reassignCell p c).anchors = s.anchors := by
  have hlines (old l : List Assign) (s : State) :
      (l.foldl (fun s a => (s.ensureSegment p (s.laneOf c) a.n).assignLine c p old a.n) s).anchors = s.anchors :=
    State.anchors_foldl l (fun s a => by simp) s
  unfold State.reassignCell
  dsimp only
  rw [State.anchors_forAll _ (fun _ _ => State.anchors_updLink ..), hlines, State.anchors_updCell rfl]

@[simp] theorem State.anchors_reassign (p : Nat) : (s.reassign p).anchors = s.anchors :=
  State.anchors_forAll _ (fun s c => State.anchors_reassignCell s p c) s

@[simp] theorem State.anchors_forceWindows (p : Nat) : (s.forceWindows p).anchors = s.anchors := by
  simp [State.forceWindows]

@[simp] theorem State.anchors_openWindow (p : Nat) (n : Int) (w : Window) : (s.openWindow p n w).anchors = s.anchors := by
  unfold State.openWindow
  dsimp only
  rw [State.anchors_updWindow]
  refine State.anchors_forAll _ (fun s i => ?_) s
  rw [State.anchors_updPacer rfl, State.anchors_updWindow]

/-- The windows that open and go at a boundary move no anchor (R289). -/
@[simp] theorem State.anchors_windowsAt (p : Nat) (n : Int) : (s.windowsAt p n).anchors = s.anchors := by
  unfold State.windowsAt
  dsimp only
  rw [State.anchors_discardWindows]
  exact State.anchors_foldl _ (fun s w => State.anchors_openWindow s p n w) s

end

/-! ### Chain time and the references of Pacers -/

/-- Chain time, and the boundary and references of each Pacer. -/
def State.pace (s : State) : W64 × (Nat → Refs) := (s.time, fun p => (s.getPacer p).refs)

section
variable {s t : State}

theorem State.pace_of_anchors (h : t.anchors = s.anchors) : t.pace = s.pace :=
  Prod.ext (State.time_of_anchors h) (funext (State.refs_of_anchors h))

theorem State.time_of_pace (h : t.pace = s.pace) : t.time = s.time := congrArg Prod.fst h

theorem State.refs_of_pace (h : t.pace = s.pace) (p : Nat) : (t.getPacer p).refs = (s.getPacer p).refs := congrFun (congrArg Prod.snd h) p

end

section
variable (s : State)

theorem State.pace_updLane (l : Nat) (u : Lane → Lane) : (s.updLane l u).pace = s.pace := rfl

@[simp] theorem State.pace_endSegments (p l : Nat) : (s.endSegments p l).pace = s.pace := by
  unfold State.endSegments
  split <;> rfl

/-- What a PRINT-STOP does to windows, and to the lane that stops, moves neither time nor references (R294). -/
@[simp] theorem State.pace_stopWindows (p : Nat) : (s.stopWindows p).pace = s.pace := by
  unfold State.stopWindows
  refine foldl_keeps State.pace _ (fun s ch => ?_) _ s
  have hdone (b : Prop) [Decidable b] (t : State) (l : List Change) : (if b then { t with changes := l } else t).pace = t.pace := by
    split <;> rfl
  dsimp only
  rw [hdone]
  split
  · split
    · rfl
    · rw [State.pace_of_anchors (State.anchors_reassign ..)]
      split
      · rw [State.pace_of_anchors (State.anchors_updWindows ..), State.pace_updLane, State.pace_of_anchors (State.anchors_discardWindows ..)]
      · rw [State.pace_updLane, State.pace_of_anchors (State.anchors_discardWindows ..)]
  · rw [State.pace_of_anchors (State.anchors_forceWindows ..), State.pace_endSegments]

end

/-! ### A reference switch (R301, R303, R333) -/

section
variable (s : State)

@[simp] theorem State.anchors_touchLink (since : Int) (l : Nat) : (s.touchLink since l).anchors = s.anchors := State.anchors_updLink ..

@[simp] theorem State.anchors_reschedule (p : Nat) : (s.reschedule p).anchors = s.anchors := by
  unfold State.reschedule
  dsimp only
  rw [State.anchors_forAll _ (fun _ _ => State.anchors_speculateCell ..), State.anchors_forAll _ (fun _ _ => State.anchors_recompute ..),
    State.anchors_updPacer rfl]

end

/-- The end of a switchover changes the state of lost references alone (R301, R302). -/
theorem Pacer.switchDone_keeps (x : Pacer) : x.switchDone.lineN = x.lineN ∧ x.switchDone.lineT = x.lineT ∧ x.switchDone.cur = x.cur ∧
    x.switchDone.force = x.force ∧ x.switchDone.switches = x.switches := by
  unfold Pacer.switchDone
  split
  · simp
  · dsimp only
    split <;> split <;> simp

/-- Pacer p has switched to a reference: its boundary stays, FORCEBACK is used up, and the switch is counted (R301, R303). -/
structure Switched (p : Nat) (to_ : RefCur) (s t : State) : Prop where
  time     : t.time = s.time
  lineN    : (t.getPacer p).lineN = (s.getPacer p).lineN
  lineT    : (t.getPacer p).lineT = (s.getPacer p).lineT
  cur      : (t.getPacer p).cur = to_
  force    : (t.getPacer p).force = false
  switches : (t.getPacer p).switches = satInc (s.getPacer p).switches
  dead     : to_ = .dead → (t.getPacer p).st = .dead

section
variable {p : Nat} {to_ : RefCur} {s t : State}

/-- A switch is read off chain time and the references. -/
theorem Switched.of_pace {u v : State} (h : Switched p to_ s t) (hs : s.pace = u.pace) (ht : v.pace = t.pace) : Switched p to_ u v := by
  have hp := State.refs_of_pace hs p
  have hq := State.refs_of_pace ht p
  exact ⟨((State.time_of_pace ht).trans h.time).trans (State.time_of_pace hs),
    ((congrArg Refs.lineN hq).trans h.lineN).trans (congrArg Refs.lineN hp),
    ((congrArg Refs.lineT hq).trans h.lineT).trans (congrArg Refs.lineT hp),
    (congrArg Refs.cur hq).trans h.cur, (congrArg Refs.force hq).trans h.force,
    ((congrArg Refs.switches hq).trans h.switches).trans (congrArg (satInc ∘ Refs.switches) hp),
    fun hd => (congrArg Refs.st hq).trans (h.dead hd)⟩

/-- A switch of the references, and of what follows from them. -/
theorem State.switchRef_switches (p : Nat) (to_ : RefCur) (b : Int) (s : State) : Switched p to_ s (s.switchRef p to_ b) := by
  obtain ⟨hN, hT, hc, hf, hsw⟩ := Pacer.switchDone_keeps
    { s.getPacer p with cur := to_, switchDue := false, force := false, switches := satInc (s.getPacer p).switches, inbound := [] }
  unfold State.switchRef
  refine Switched.of_pace ?_ rfl (State.pace_of_anchors ((State.anchors_flagOpen ..).trans (State.anchors_pacerEvt ..)))
  cases to_ with
  | primary => constructor <;> simp
  | secondary => constructor <;> simp
  | none => constructor <;> simp_all
  | dead =>
    dsimp only
    split
    · constructor <;> simp_all
    · refine Switched.of_pace ?_ rfl (State.pace_of_anchors (State.anchors_reschedule ..))
      constructor <;> simp_all

end

/-! ### The reference step of a boundary or mark (R301, R303) -/

section
variable {p : Nat} {b : Int} {s : State}

/-- Links touched around a switch do not hinder it. -/
theorem Switched.touching {r : RefCur} {u : State → State} (h : ∀ t, Switched p r t (u t)) (links : List Nat) :
    Switched p r s (touching links u s) :=
  (h _).of_pace (State.pace_of_anchors (State.anchors_forAll links (fun s l => State.anchors_touchLink s 0 l) s))
    (State.pace_of_anchors (State.anchors_forAll links (fun s l => State.anchors_touchLink s s.now l) _))

theorem State.refStep_switches {r : RefCur} (h : s.nextRef p = some r) : Switched p r s (s.refStep p b) := by
  simp only [State.refStep, h]
  exact Switched.touching (State.switchRef_switches p r b) _

/-- Whether it switches or not, the reference step keeps the boundary and chain time. -/
theorem State.refStep_keeps : (s.refStep p b).time = s.time ∧ ((s.refStep p b).getPacer p).lineN = (s.getPacer p).lineN ∧
    ((s.refStep p b).getPacer p).lineT = (s.getPacer p).lineT := by
  cases h : s.nextRef p with
  | none => simp [State.refStep, h]
  | some r =>
    have hsw := State.refStep_switches (b := b) h
    exact ⟨hsw.time, hsw.lineN, hsw.lineT⟩

/-- A forced return takes the primary reference when it is qualified (R303). -/
theorem State.nextRef_forced (hf : (s.getPacer p).force = true) (hd : (s.getPacer p).switchDue = false) (hc : (s.getPacer p).cur = .secondary)
    (hq : (s.getPacer p).priSt = .qualified) : s.nextRef p = some .primary := by
  simp [State.nextRef, hf, hd, hc, hq]

/-- A switch that is due takes dead reckoning, where it is enabled and the secondary reference cannot serve (R301). -/
theorem State.nextRef_dead (hd : (s.getPacer p).switchDue = true) (he : (s.getPacer p).drEn = true)
    (hsec : (s.getPacer p).cur ≠ .primary ∨ (s.getPacer p).secEn = false ∨ (s.getPacer p).secSt ≠ .qualified) : s.nextRef p = some .dead := by
  have hno : ¬ ((s.getPacer p).cur = .primary ∧ (s.getPacer p).secEn = true ∧ (s.getPacer p).secSt = .qualified) := by
    rintro ⟨hc, hen, hst⟩
    simp_all
  simp [State.nextRef, hd, he, hno]

end

/-- The references after the reference step of a Pacer that was x before the boundary or mark at tick m. -/
theorem State.refStep_refs {p : Nat} {s : State} {x : Pacer} {n : Int} {m : Tick} (b : Int)
    (h : (s.getPacer p).refs = { x.refs with lineN := n, lineT := m }) :
    let r := ((s.refStep p b).getPacer p).refs
    r.lineN = n ∧ r.lineT = m ∧
    (x.force = true → x.switchDue = false → x.cur = .secondary → x.priSt = .qualified →
      r.cur = .primary ∧ r.force = false ∧ r.switches = satInc x.switches) ∧
    (x.switchDue = true → x.drEn = true → (x.cur ≠ .primary ∨ x.secEn = false ∨ x.secSt ≠ .qualified) →
      r.cur = .dead ∧ r.st = .dead) := by
  obtain ⟨-, hN, hT⟩ := State.refStep_keeps (p := p) (b := b) (s := s)
  have hcur : (s.getPacer p).cur = x.cur := congrArg Refs.cur h
  have hdue : (s.getPacer p).switchDue = x.switchDue := congrArg Refs.switchDue h
  refine ⟨hN.trans (congrArg Refs.lineN h), hT.trans (congrArg Refs.lineT h), fun hf hd hc hq => ?_, fun hd he hsec => ?_⟩
  · have hsw := State.refStep_switches (b := b) (State.nextRef_forced ((congrArg Refs.force h).trans hf) (hdue.trans hd) (hcur.trans hc)
      ((congrArg Refs.priSt h).trans hq))
    exact ⟨hsw.cur, hsw.force, hsw.switches.trans (congrArg (satInc ∘ Refs.switches) h)⟩
  · have hen : (s.getPacer p).secEn = x.secEn := congrArg Refs.secEn h
    have hst : (s.getPacer p).secSt = x.secSt := congrArg Refs.secSt h
    rw [← hcur, ← hen, ← hst] at hsec
    have hsw := State.refStep_switches (b := b) (State.nextRef_dead (hdue.trans hd) ((congrArg Refs.drEn h).trans he) hsec)
    exact ⟨hsw.cur, hsw.dead rfl⟩

/-! ### Fills (R42) -/

/-- The fill and derate flag of one lane: a lane's turn in `State.computeFill`. -/
def State.fillLane (s : State) (l : Nat) : State :=
  let f := s.laneFill l
  let low := decide (f < ((s.getLane l).copy.map (fun x => x.lwm)).getD 0)
  let t := s.updLane l (fun x => { x with fill := BitVec.ofNat 16 f, derate := low })
  State.raiseIf (low && !(s.getLane l).derate) (352 + l) (if low then t.flagLane l flDerate else t)

theorem State.computeFill_eq (p : Nat) (s : State) :
    ∃ d, s.computeFill p = ((s.boundLanes p).foldl State.fillLane s).updPacer p (fun x => { x with data := d }) := ⟨_, rfl⟩

@[simp] theorem State.flagLane_frame (s : State) (l b : Nat) : (s.flagLane l b).cells = s.cells ∧ (s.flagLane l b).links = s.links ∧
    (s.flagLane l b).quads = s.quads ∧ (s.flagLane l b).reqs = s.reqs ∧ (s.flagLane l b).lanes = s.lanes := by
  unfold State.flagLane
  split
  · simp
  · exact ⟨rfl, rfl, rfl, rfl, rfl⟩

theorem State.fillLane_frame (s : State) (l : Nat) : (s.fillLane l).cells = s.cells ∧ (s.fillLane l).links = s.links ∧
    (s.fillLane l).quads = s.quads ∧ (s.fillLane l).reqs = s.reqs := by
  unfold State.fillLane
  dsimp only
  split <;> simp

theorem State.fillLane_lanes (s : State) (l : Nat) : (s.fillLane l).lanes = (s.updLane l (fun x => { x with
    fill := BitVec.ofNat 16 (s.laneFill l), derate := decide (s.laneFill l < ((s.getLane l).copy.map (fun x => x.lwm)).getD 0) })).lanes := by
  unfold State.fillLane
  dsimp only
  split <;> simp

theorem State.pace_fillLane (s : State) (l : Nat) : (s.fillLane l).pace = s.pace := by
  unfold State.fillLane
  dsimp only
  rw [State.pace_of_anchors (State.anchors_raiseIf ..)]
  split
  · rw [State.pace_of_anchors (State.anchors_flagLane ..), State.pace_updLane]
  · rw [State.pace_updLane]

/-- The fills of a Pacer's lanes move neither time nor references. -/
@[simp] theorem State.pace_computeFill (p : Nat) (s : State) : (s.computeFill p).pace = s.pace := by
  obtain ⟨d, hd⟩ := State.computeFill_eq p s
  rw [hd, State.pace_of_anchors (State.anchors_updPacer rfl)]
  exact foldl_keeps State.pace _ State.pace_fillLane _ s

/-- F of a lane is a matter of its cells and their request lines (R42, R231). -/
theorem State.laneFill_congr {s t : State} (hc : t.cells = s.cells) (hq : t.quads = s.quads) (hr : t.reqs = s.reqs) (l : Nat) :
    t.laneFill l = s.laneFill l := by
  have hcell : t.getCell = s.getCell := by unfold State.getCell; rw [hc]
  have hreq : t.getReq = s.getReq := by unfold State.getReq; rw [hr]
  have hquad : t.getQuad = s.getQuad := by unfold State.getQuad; rw [hq]
  have hfill : t.fillOf = s.fillOf := by unfold State.fillOf State.complete State.cfg; rw [hcell, hreq]
  unfold State.laneFill State.cellsOf State.quadsOf
  rw [hquad, hfill]

/-- State t is s with the fills and derate flags of the lanes ls computed. -/
structure Filled (s t : State) (ls : List Nat) : Prop where
  cells : t.cells = s.cells
  links : t.links = s.links
  quads : t.quads = s.quads
  reqs  : t.reqs = s.reqs
  copy  : ∀ l, (t.getLane l).copy = (s.getLane l).copy
  lanes : ∀ l ∈ ls, (t.getLane l).fill = BitVec.ofNat 16 (s.laneFill l) ∧
    (t.getLane l).derate = decide (s.laneFill l < ((s.getLane l).copy.map (fun c => c.lwm)).getD 0)

section
variable {s t : State} {ls : List Nat}

theorem Filled.fillLane (h : Filled s t ls) (l : Nat) : Filled s (t.fillLane l) (l :: ls) := by
  obtain ⟨hcells, hlinks, hquads, hreqs⟩ := State.fillLane_frame t l
  have hself : (t.fillLane l).getLane l = { t.getLane l with
      fill := BitVec.ofNat 16 (s.laneFill l), derate := decide (s.laneFill l < ((s.getLane l).copy.map (fun c => c.lwm)).getD 0) } := by
    rw [State.getLane, State.fillLane_lanes, State.laneFill_congr h.cells h.quads h.reqs, h.copy]
    exact State.getLane_updLane ..
  have hother : ∀ j, j ≠ l → (t.fillLane l).getLane j = t.getLane j := by
    intro j hj
    rw [State.getLane, State.fillLane_lanes]
    exact State.getLane_updLane_ne _ _ _ _ hj
  refine ⟨hcells.trans h.cells, hlinks.trans h.links, hquads.trans h.quads, hreqs.trans h.reqs, fun j => ?_, fun j hj => ?_⟩ <;>
    by_cases hjl : j = l
  · subst hjl
    rw [hself]
    exact h.copy j
  · rw [hother j hjl]
    exact h.copy j
  · subst hjl
    rw [hself]
    exact ⟨rfl, rfl⟩
  · rw [hother j hjl]
    exact h.lanes j (List.mem_of_ne_of_mem hjl hj)

theorem Filled.foldl (h : Filled s t ls) (l : List Nat) : Filled s (l.foldl State.fillLane t) (l.reverse ++ ls) := by
  induction l generalizing t ls with
  | nil => exact h
  | cons a l ih =>
    rw [List.reverse_cons, List.append_assoc]
    exact ih (h.fillLane a)

theorem State.computeFill_fills (p : Nat) (s : State) : Filled s (s.computeFill p) (s.boundLanes p) := by
  obtain ⟨d, hd⟩ := State.computeFill_eq p s
  have h : Filled s ((s.boundLanes p).foldl State.fillLane s) ((s.boundLanes p).reverse ++ []) :=
    Filled.foldl ⟨rfl, rfl, rfl, rfl, fun _ => rfl, fun _ h => absurd h List.not_mem_nil⟩ _
  rw [hd]
  exact ⟨h.cells, h.links, h.quads, h.reqs, h.copy, fun l hl => h.lanes l (by simpa using hl)⟩

end

/-! ### The rows of a Pacer (R42, R309, R310) -/

/-- Pacer p at its next line, whose windows and stops are taken, before its references are. -/
def State.lineFallen (p : Nat) (s : State) : State :=
  let x := s.getPacer p
  let b := x.bpos (x.lineN + 1)
  let s := s.at_ (x.tickAt b).toNat
  let s := s.updPacer p (fun y => { y with lineN := x.lineN + 1, lineT := s.now, x := if y.st = .dead then b else y.x })
  (s.windowsAt p (x.lineN + 1)).stopWindows p

/-- Pacer p at its next mark, whose stops are taken, before its references are. -/
def State.markFallen (p : Nat) (s : State) : State :=
  let x := s.getPacer p
  ((s.at_ (x.lineT + msTicks)).updPacer p (fun y => { y with lineT := x.lineT + msTicks })).stopWindows p

section
variable {p : Nat} {s : State}

theorem pacerLineBoundary_eq (hon : s.on dCHN = true) (hf : s.fire = true) (hp : (s.getPacer p).predicts = true) :
    pacerLineBoundary p s = ((s.lineFallen p).refStep p ((s.getPacer p).bpos ((s.getPacer p).lineN + 1))).computeFill p := by
  unfold pacerLineBoundary
  rw [if_neg (by simp [hon, hf])]
  exact if_pos hp

theorem pacerLineBoundary_idle (hp : (s.getPacer p).predicts = false) : pacerLineBoundary p s = s := by
  simp [pacerLineBoundary, hp]

theorem pacerMark_eq (hon : s.on dCHN = true) (hf : s.fire = true) :
    ∃ b, pacerMark p s = (s.markFallen p).refStep p b := by
  unfold pacerMark
  rw [if_neg (by simp [hon, hf])]
  exact ⟨_, rfl⟩

theorem State.lineFallen_refs (p : Nat) (s : State) :
    let v := s.at_ ((s.getPacer p).tickAt ((s.getPacer p).bpos ((s.getPacer p).lineN + 1))).toNat
    (s.lineFallen p).time = v.time ∧
      ((s.lineFallen p).getPacer p).refs = { (s.getPacer p).refs with lineN := (s.getPacer p).lineN + 1, lineT := v.now } := by
  let x := s.getPacer p
  let v := s.at_ (x.tickAt (x.bpos (x.lineN + 1))).toNat
  have hx : v.getPacer p = x := by simp [v, State.getPacer, x]
  have hpace (t : State) : ((t.windowsAt p (x.lineN + 1)).stopWindows p).pace = t.pace :=
    (State.pace_stopWindows ..).trans (State.pace_of_anchors (State.anchors_windowsAt ..))
  refine ⟨(State.time_of_pace (hpace _)).trans (State.updPacer_frame ..).1, (State.refs_of_pace (hpace _) p).trans ?_⟩
  rw [State.getPacer_updPacer, hx]
  rfl

/-- PACER-LINE-BOUNDARY of a Pacer that predicts: its next line, at the predicted tick (R309). -/
theorem pacerLineBoundary_takes (hon : s.on dCHN = true) (hf : s.fire = true) (hp : (s.getPacer p).predicts = true) :
    let x := s.getPacer p
    let t := pacerLineBoundary p s
    (t.getPacer p).lineN = x.lineN + 1 ∧ t.time = (s.at_ (x.tickAt (x.bpos (x.lineN + 1))).toNat).time ∧ (t.getPacer p).lineT = t.now ∧
      (x.force = true → x.switchDue = false → x.cur = .secondary → x.priSt = .qualified →
        (t.getPacer p).cur = .primary ∧ (t.getPacer p).force = false ∧ (t.getPacer p).switches = satInc x.switches) := by
  let b := (s.getPacer p).bpos ((s.getPacer p).lineN + 1)
  obtain ⟨htime, hrefs⟩ := State.lineFallen_refs p s
  have hfill : (pacerLineBoundary p s).pace = ((s.lineFallen p).refStep p b).pace := by
    rw [pacerLineBoundary_eq hon hf hp, State.pace_computeFill]
  obtain ⟨hN, hT, hback, -⟩ := State.refStep_refs b hrefs
  rw [← State.refs_of_pace hfill] at hN hT hback
  have hnow := (State.time_of_pace hfill).trans (State.refStep_keeps.1.trans htime)
  exact ⟨hN, hnow, hT.trans (congrArg BitVec.toNat hnow.symm), hback⟩

theorem State.markFallen_refs (p : Nat) (s : State) : (s.markFallen p).time = (s.at_ ((s.getPacer p).lineT + msTicks)).time ∧
    ((s.markFallen p).getPacer p).refs =
      { (s.getPacer p).refs with lineN := (s.getPacer p).lineN, lineT := (s.getPacer p).lineT + msTicks } := by
  have hx (t : Tick) : (s.at_ t).getPacer p = s.getPacer p := by simp [State.getPacer]
  refine ⟨(State.time_of_pace (State.pace_stopWindows ..)).trans (State.updPacer_frame ..).1,
    (State.refs_of_pace (State.pace_stopWindows ..) p).trans ?_⟩
  rw [State.getPacer_updPacer, hx]
  rfl

/-- PACER-MARK: the next mark, 1 ms after the last boundary or mark (R310). -/
theorem pacerMark_takes (hon : s.on dCHN = true) (hf : s.fire = true) :
    let x := s.getPacer p
    let t := pacerMark p s
    (t.getPacer p).lineT = x.lineT + msTicks ∧ t.time = (s.at_ (x.lineT + msTicks)).time ∧ (t.getPacer p).lineN = x.lineN ∧
      (x.switchDue = true → x.drEn = true → (x.cur ≠ .primary ∨ x.secEn = false ∨ x.secSt ≠ .qualified) →
        (t.getPacer p).cur = .dead ∧ (t.getPacer p).st = .dead) := by
  obtain ⟨b, hrow⟩ := pacerMark_eq hon hf
  obtain ⟨htime, hrefs⟩ := State.markFallen_refs p s
  obtain ⟨hN, hT, -, hdead⟩ := State.refStep_refs b hrefs
  dsimp only
  rw [hrow]
  exact ⟨hT, State.refStep_keeps.1.trans htime, hN, hdead⟩

theorem fillTimer_moving (hst : (s.getPacer p).st = .track ∨ (s.getPacer p).st = .dead) : fillTimer p s = s := by
  simp [fillTimer, whenOn, hst]

theorem fillTimer_still (hon : s.on dCHN = true) (ht : (s.getPacer p).st ≠ .track) (hd : (s.getPacer p).st ≠ .dead) :
    fillTimer p s = s.computeFill p := by
  simp [fillTimer, whenOn, hon, ht, hd]

end

/-- Settles O27: each row is the next boundary, mark or fill, and the reference step goes by the references before it. -/
theorem pacersTakeTheirBoundaries : Obligations.PacersTakeTheirBoundaries := by
  intro p s hon
  refine ⟨fun hf hp => ⟨_, rfl, pacerLineBoundary_takes hon hf hp⟩, fun hp => congrArg Host.Outcome.next (pacerLineBoundary_idle hp),
    fun hf => ⟨_, rfl, pacerMark_takes hon hf⟩, fun ht hd => ⟨_, rfl, ?_⟩, fun hst => congrArg Host.Outcome.next (fillTimer_moving hst)⟩
  rw [fillTimer_still hon ht hd]
  exact ⟨(State.computeFill_fills _ s).cells, (State.computeFill_fills _ s).links, (State.computeFill_fills _ s).lanes⟩

end Sys2Proof.Machine
end

section
/-! Every step keeps the canonical form (R83, R88, R207). One lemma per operation of the model, under the operation's own name: `hs.raise` says
that `State.raise` keeps the canonical form of a state that has it. A proof follows the operation's definition: a chain of updates is the chain
of their lemmas, an if is `.ite`, a fold `.foldl`, a match `split`. -/

namespace Sys2Proof.Machine

section
variable {s : State}

/-! ### Tables and memory -/

theorem tabWf_nil {α : Type} [DecidableEq α] {d : Nat → α} : tabWf d [] := ⟨.nil, nofun⟩

theorem tabWf_tabIns {α : Type} [DecidableEq α] {d : Nat → α} {t : Tab α} {k : Nat} {v : α} (ht : tabWf d t) (hk : ∀ e ∈ t, e.1 ≠ k)
    (hv : v ≠ d k) : tabWf d (tabIns k v t) :=
  ⟨tabIns_rising k v t ht.1 hk, fun e he => by
    rcases tabIns_mem k v t e he with rfl | he
    · exact hv
    · exact ht.2 e he⟩

/-- Listing the entries of a canonical table one by one in another whose indexes are all different. -/
theorem tabWf_foldl_tabIns {α : Type} [DecidableEq α] {d : Nat → α} {l : Tab α} (hl : tabWf d l) : ∀ {t : Tab α}, tabWf d t →
    (∀ a ∈ l, ∀ e ∈ t, e.1 ≠ a.1) → tabWf d (l.foldl (fun t e => tabIns e.1 e.2 t) t) := by
  induction l with
  | nil => exact fun ht _ => ht
  | cons a l ih =>
    intro t ht hne
    obtain ⟨hrise, hmem⟩ := hl
    obtain ⟨ha, hrise⟩ := List.pairwise_cons.mp hrise
    refine ih ⟨hrise, fun e he => hmem e (by simp [he])⟩ (tabWf_tabIns ht (hne a (by simp)) (hmem a (by simp))) fun b hb e he => ?_
    rcases tabIns_mem _ _ _ _ he with rfl | he
    · exact (ha b hb).ne
    · exact hne b (by simp [hb]) e he

theorem Memory.wf_movedBytes {m : Memory} (hm : m.wf) (src dst : Nat) : Memory.wf (movedBytes m src dst) := by
  refine ⟨List.pairwise_map.mpr ((hm.1.filter _).imp_of_mem fun ha hb hab => ?_), fun e he => ?_⟩
  · have ha := of_decide_eq_true (List.mem_filter.mp ha).2
    have hb := of_decide_eq_true (List.mem_filter.mp hb).2
    simp only [storeKey]
    omega
  · obtain ⟨x, hx, rfl⟩ := List.mem_map.mp he
    exact hm.2 x (List.mem_filter.mp hx).1

theorem Memory.wf_copyBank {m : Memory} (hm : m.wf) (src dst : Nat) : (copyBank m src dst).wf := by
  refine tabWf_foldl_tabIns (Memory.wf_movedBytes hm src dst) (tabWf_filter _ _ _ hm) fun a ha e he => ?_
  obtain ⟨x, -, rfl⟩ := List.mem_map.mp ha
  have he := of_decide_eq_true (List.mem_filter.mp he).2
  simp only [storeKey] at he ⊢
  omega

/-! ### The ways in which an operation is built -/

/-- The canonical form is one of the tables and memories: every other field may change. -/
theorem Canonical.rest {time glb evt ops assign changes chn hk flt thn fuse meter free out pending} (hs : Canonical s) :
    Canonical { s with
      time := time, glb := glb, evt := evt, ops := ops, assign := assign, changes := changes, chn := chn, hk := hk, flt := flt, thn := thn
      fuse := fuse, meter := meter, free := free, out := out, pending := pending } :=
  ⟨hs.store, hs.hostMem, hs.quads, hs.host, hs.lanes, hs.rings, hs.engines, hs.reqs, hs.banks, hs.cells, hs.tests, hs.links, hs.encs, hs.trigs,
    hs.pacers, hs.gates, hs.motors⟩

theorem Canonical.ite {c : Prop} [Decidable c] {a b : State} (ha : Canonical a) (hb : Canonical b) : Canonical (if c then a else b) := by
  split; exacts [ha, hb]

theorem Canonical.foldl {α : Type} {l : List α} {u : State → α → State} (hu : ∀ s a, Canonical s → Canonical (u s a)) (hs : Canonical s) :
    Canonical (l.foldl u s) := foldl_inv Canonical u hu l s hs

theorem Canonical.forAll {l : List Nat} {u : State → Nat → State} (hu : ∀ s a, Canonical s → Canonical (u s a)) (hs : Canonical s) :
    Canonical (forAll l u s) := hs.foldl hu

theorem Canonical.withStore {m : Memory} (hs : Canonical s) (hm : m.wf) : Canonical { s with store := m } := { hs with store := hm }

theorem Canonical.mapRings {f} (hs : Canonical s) : Canonical { s with rings := tabMap ringReset f s.rings } :=
  { hs with rings := tabWf_tabMap _ _ _ hs.rings }

theorem Canonical.mapHost {f} (hs : Canonical s) : Canonical { s with host := tabMap hostReset f s.host } :=
  { hs with host := tabWf_tabMap _ _ _ hs.host }

theorem Canonical.mapReqs {f} (hs : Canonical s) : Canonical { s with reqs := tabMap reqReset f s.reqs } :=
  { hs with reqs := tabWf_tabMap _ _ _ hs.reqs }

/-! ### Machine/Ops.lean -/

theorem Canonical.setQuad {k v} (hs : Canonical s) : Canonical (State.setQuad s k v) := { hs with quads := tabWf_tabPut _ _ _ _ hs.quads }
theorem Canonical.updQuad {k u} (hs : Canonical s) : Canonical (State.updQuad s k u) := hs.setQuad
theorem Canonical.setHost {k v} (hs : Canonical s) : Canonical (State.setHost s k v) := { hs with host := tabWf_tabPut _ _ _ _ hs.host }
theorem Canonical.updHost {k u} (hs : Canonical s) : Canonical (State.updHost s k u) := hs.setHost
theorem Canonical.setLane {k v} (hs : Canonical s) : Canonical (State.setLane s k v) := { hs with lanes := tabWf_tabPut _ _ _ _ hs.lanes }
theorem Canonical.updLane {k u} (hs : Canonical s) : Canonical (State.updLane s k u) := hs.setLane
theorem Canonical.setRing {k v} (hs : Canonical s) : Canonical (State.setRing s k v) := { hs with rings := tabWf_tabPut _ _ _ _ hs.rings }
theorem Canonical.updRing {k u} (hs : Canonical s) : Canonical (State.updRing s k u) := hs.setRing
theorem Canonical.setEngine {k v} (hs : Canonical s) : Canonical (State.setEngine s k v) := { hs with engines := tabWf_tabPut _ _ _ _ hs.engines }
theorem Canonical.updEngine {k u} (hs : Canonical s) : Canonical (State.updEngine s k u) := hs.setEngine
theorem Canonical.setReq {k v} (hs : Canonical s) : Canonical (State.setReq s k v) := { hs with reqs := tabWf_tabPut _ _ _ _ hs.reqs }
theorem Canonical.updReq {k u} (hs : Canonical s) : Canonical (State.updReq s k u) := hs.setReq
theorem Canonical.setBank {k v} (hs : Canonical s) : Canonical (State.setBank s k v) := { hs with banks := tabWf_tabPut _ _ _ _ hs.banks }
theorem Canonical.updBank {k u} (hs : Canonical s) : Canonical (State.updBank s k u) := hs.setBank
theorem Canonical.setCell {k v} (hs : Canonical s) : Canonical (State.setCell s k v) := { hs with cells := tabWf_tabPut _ _ _ _ hs.cells }
theorem Canonical.updCell {k u} (hs : Canonical s) : Canonical (State.updCell s k u) := hs.setCell
theorem Canonical.setTest {k v} (hs : Canonical s) : Canonical (State.setTest s k v) := { hs with tests := tabWf_tabPut _ _ _ _ hs.tests }
theorem Canonical.updTest {k u} (hs : Canonical s) : Canonical (State.updTest s k u) := hs.setTest
theorem Canonical.setLink {k v} (hs : Canonical s) : Canonical (State.setLink s k v) := { hs with links := tabWf_tabPut _ _ _ _ hs.links }
theorem Canonical.updLink {k u} (hs : Canonical s) : Canonical (State.updLink s k u) := hs.setLink
theorem Canonical.setEnc {k v} (hs : Canonical s) : Canonical (State.setEnc s k v) := { hs with encs := tabWf_tabPut _ _ _ _ hs.encs }
theorem Canonical.updEnc {k u} (hs : Canonical s) : Canonical (State.updEnc s k u) := hs.setEnc
theorem Canonical.setTrig {k v} (hs : Canonical s) : Canonical (State.setTrig s k v) := { hs with trigs := tabWf_tabPut _ _ _ _ hs.trigs }
theorem Canonical.updTrig {k u} (hs : Canonical s) : Canonical (State.updTrig s k u) := hs.setTrig
theorem Canonical.setPacer {k v} (hs : Canonical s) : Canonical (State.setPacer s k v) := { hs with pacers := tabWf_tabPut _ _ _ _ hs.pacers }
theorem Canonical.updPacer {k u} (hs : Canonical s) : Canonical (State.updPacer s k u) := hs.setPacer
theorem Canonical.setGate {k v} (hs : Canonical s) : Canonical (State.setGate s k v) := { hs with gates := tabWf_tabPut _ _ _ _ hs.gates }
theorem Canonical.updGate {k u} (hs : Canonical s) : Canonical (State.updGate s k u) := hs.setGate
theorem Canonical.setMotor {k v} (hs : Canonical s) : Canonical (State.setMotor s k v) := { hs with motors := tabWf_tabPut _ _ _ _ hs.motors }
theorem Canonical.updMotor {k u} (hs : Canonical s) : Canonical (State.updMotor s k u) := hs.setMotor
theorem Canonical.updPort {x u} (hs : Canonical s) : Canonical (State.updPort s x u) := hs.rest
theorem Canonical.updPin {n u} (hs : Canonical s) : Canonical (State.updPin s n u) := hs.rest
theorem Canonical.updDie {n u} (hs : Canonical s) : Canonical (State.updDie s n u) := hs.rest
theorem Canonical.updTreq {p u} (hs : Canonical s) : Canonical (State.updTreq s p u) := hs.rest
theorem Canonical.updSrc {i u} (hs : Canonical s) : Canonical (State.updSrc s i u) := hs.rest
theorem Canonical.updMeter {l u} (hs : Canonical s) : Canonical (State.updMeter s l u) := hs.rest
theorem Canonical.setFuse {r w v} (hs : Canonical s) : Canonical (State.setFuse s r w v) := hs.rest
theorem Canonical.at_ {t} (hs : Canonical s) : Canonical (State.at_ s t) := .ite hs.rest hs
theorem Canonical.whenOn {d u} (hu : ∀ a0, Canonical a0 → Canonical (u a0)) (hs : Canonical s) : Canonical (whenOn d u s) := .ite (hu _ hs) hs
theorem Canonical.setDomain {d up} (hs : Canonical s) : Canonical (State.setDomain s d up) := hs.rest
theorem Canonical.fresh (hs : Canonical s) : Canonical (s.fresh).2 := hs.rest
theorem Canonical.send {o} (hs : Canonical s) : Canonical (State.send s o) := hs.rest
theorem Canonical.dma {f a bs} (hs : Canonical s) : Canonical (State.dma s f a bs) := { hs with hostMem := hostWrite_rising _ _ _ hs.hostMem }

/-! ### Machine/Flags.lean -/

theorem Canonical.signal {f v} (hs : Canonical s) : Canonical (State.signal f v s) := .ite hs.send hs.updHost
theorem Canonical.settleVec {f v} (hs : Canonical s) : Canonical (State.settleVec f s v) := .ite (.ite (.ite hs.updHost.send hs) hs.updHost) hs
theorem Canonical.settleFn {f} (hs : Canonical s) : Canonical (State.settleFn s f) := .ite hs (.foldl (fun _ _ hs => hs.settleVec) hs)
theorem Canonical.settle (hs : Canonical s) : Canonical (s.settle) := .foldl (fun _ _ hs => hs.settleFn) hs
theorem Canonical.raise {src} (hs : Canonical s) : Canonical (State.raise src s) := .ite (.ite hs.rest.signal hs.rest) hs
theorem Canonical.raiseIf {b src} (hs : Canonical s) : Canonical (State.raiseIf b src s) := .ite hs.raise hs
theorem Canonical.aer {f e} (hs : Canonical s) : Canonical (State.aer f e s) := hs.updHost
theorem Canonical.stray {f} (hs : Canonical s) : Canonical (State.stray f s) := hs.updHost
theorem Canonical.setCause {b on} (hs : Canonical s) : Canonical (State.setCause b on s) := hs.rest.raiseIf
theorem Canonical.writeRec {r first} (hs : Canonical s) : Canonical (State.writeRec r first s) := .ite hs (.ite hs.rest.raise hs.rest)
theorem Canonical.faultInj {inj src cls inst detail stands} (hs : Canonical s) : Canonical (State.faultInj inj src cls inst detail stands s) :=
  .ite (.writeRec (.ite hs.updSrc.raise.aer hs.updSrc.raise)) (.ite hs.updSrc.raise.aer hs.updSrc.raise)
theorem Canonical.fault {src cls inst detail stands} (hs : Canonical s) : Canonical (State.fault src cls inst detail stands s) := hs.faultInj
theorem Canonical.injDone (hs : Canonical s) : Canonical (s.injDone) := hs.rest
theorem Canonical.faultBy {b src cls inst detail stands} (hs : Canonical s) : Canonical (State.faultBy b src cls inst detail stands s) :=
  .ite hs.faultInj.injDone hs.faultInj
theorem Canonical.endCond {src inst} (hs : Canonical s) : Canonical (State.endCond src inst s) := .ite hs.updSrc hs
theorem Canonical.recover {src} (hs : Canonical s) : Canonical (State.recover src s) :=
  .writeRec (.ite hs.updSrc.raise.raiseIf.setCause hs.updSrc.raise.raiseIf)
theorem Canonical.cellEvt {c i} (hs : Canonical s) : Canonical (State.cellEvt c i s) := hs.updCell.raiseIf
theorem Canonical.linkEvt {c i} (hs : Canonical s) : Canonical (State.linkEvt c i s) := .ite hs.updCell hs.updCell.cellEvt
theorem Canonical.hlEvt {l i} (hs : Canonical s) : Canonical (State.hlEvt l i s) := hs.linkEvt
theorem Canonical.gateEvt {g i} (hs : Canonical s) : Canonical (State.gateEvt g i s) := .ite hs.updGate hs.updGate.raise.cellEvt
theorem Canonical.pacerEvt {p i} (hs : Canonical s) : Canonical (State.pacerEvt p i s) := hs.updPacer.raiseIf
theorem Canonical.motorEvt {n i} (hs : Canonical s) : Canonical (State.motorEvt n i s) := hs.updMotor.raise
theorem Canonical.skipTests {p} (hs : Canonical s) : Canonical (State.skipTests p s) := .forAll (fun _ _ hs => .ite hs hs.updGate) hs

/-! ### Machine/Operands.lean -/

theorem Canonical.endHandle {h} (hs : Canonical s) : Canonical (State.endHandle h s) := hs.rest
theorem Canonical.writeEntry {q e} (hs : Canonical s) : Canonical (State.writeEntry q e s) := .raise (.ite hs.dma.updHost.endHandle hs.dma.updHost)
theorem Canonical.drain {q n} (hs : Canonical s) : Canonical (State.drain q n s) := by
  induction n generalizing s with
  | zero => exact hs
  | succ n ih =>
    unfold State.drain
    dsimp only
    split
    · exact hs
    · exact .ite (ih hs.updHost.writeEntry) hs
theorem Canonical.post {q e} (hs : Canonical s) : Canonical (State.post q e s) := hs.updHost.drain
theorem Canonical.answer {q tag status detail} (hs : Canonical s) : Canonical (State.answer q tag status detail s) := hs.post
theorem Canonical.accept {q p kind} (hs : Canonical s) : Canonical (State.accept q p kind s) := hs.updHost.rest.post
theorem Canonical.takeHead {q} (hs : Canonical s) : Canonical (State.takeHead q s) := hs.updHost
theorem Canonical.badOpcode {q tag} (hs : Canonical s) : Canonical (State.badOpcode q tag s) := hs.answer
theorem Canonical.serveUnknown {q n} (hs : Canonical s) : Canonical (State.serveUnknown q n s) := by
  induction n generalizing s with
  | zero => exact hs
  | succ n ih =>
    unfold State.serveUnknown
    dsimp only
    split
    · exact .ite (ih hs.updHost.badOpcode) hs
    · exact hs
    · exact hs
    · exact .ite (.ite hs.takeHead.updHost.updHost (ih hs.takeHead.updHost.badOpcode)) hs
theorem Canonical.serveAll {q} (hs : Canonical s) : Canonical (State.serveAll q s) := hs.serveUnknown
theorem Canonical.queuesGoOn (hs : Canonical s) : Canonical (s.queuesGoOn) := .forAll (fun _ _ hs => hs.drain.serveAll) hs
theorem Canonical.finish {h status detail} (hs : Canonical s) : Canonical (State.finish h status detail s) := by
  unfold State.finish
  split; exacts [hs, hs.post.serveAll]
theorem Canonical.finishAll {p status detail} (hs : Canonical s) : Canonical (State.finishAll p status detail s) :=
  .foldl (fun _ _ hs => hs.finish) hs
theorem Canonical.cmdInterpret {c q p body} (hbody : ∀ a0, Canonical a0 → Canonical (body a0)) (hs : Canonical s) : Canonical (Cmd.interpret c q p
  body s) := by
  unfold Machine.Cmd.interpret
  split; exacts [hs.answer, hbody _ hs]
theorem Canonical.cmdRun {c q p body} (hbody : ∀ a0, Canonical a0 → Canonical (body a0)) (hs : Canonical s) : Canonical (Cmd.run c q p body s) :=
  .ite (.cmdInterpret (fun _ hs => hbody _ hs) hs.updHost) (.ite (.ite hs.takeHead.updHost (.cmdInterpret (fun _ hs => hbody _ hs) hs.takeHead)) hs)
theorem Canonical.command {c q p body} (hbody : ∀ a0, Canonical a0 → Canonical (body a0)) (hs : Canonical s) : Canonical (command c q p body s) :=
  .serveAll (.cmdRun (fun _ hs => hbody _ hs) hs.serveAll)
theorem Canonical.immediate {c q p body} (hbody : ∀ a0, Canonical a0 → Canonical (body a0).1) (hs : Canonical s) : Canonical (immediate c q p body s) :=
  .command (fun _ hs => .answer (hbody _ hs)) hs
theorem Canonical.long {c q p kind start} (hstart : ∀ a0 a1, Canonical a1 → Canonical (start a0 a1)) (hs : Canonical s) : Canonical (long c q p kind start s) :=
  .command (fun _ hs => by split; exacts [hs.answer, hstart _ _ hs.accept]) hs
theorem Canonical.freeBuf {q addr n} (hs : Canonical s) : Canonical (State.freeBuf q addr n s) := hs.rest.dma

/-! ### Machine/Areas.lean -/

theorem Canonical.bankPut {b off bs} (hs : Canonical s) : Canonical (State.bankPut b off bs s) := by
  have hw : Canonical { s with store := s.store.writeBytes (storeKey b off) bs } := hs.withStore (Memory.wf_writeBytes bs _ _ hs.store)
  dsimp only [State.bankPut]
  exact .updBank (.ite hw.rest hw)
theorem Canonical.cellPut {c off bs} (hs : Canonical s) : Canonical (State.cellPut c off bs s) := .ite hs.bankPut.bankPut hs.bankPut

/-! ### Machine/Feed.lean -/

theorem Canonical.writeBackAt {f a r idx status done} (hs : Canonical s) : Canonical (State.writeBackAt f a r idx status done s) := by
  unfold State.writeBackAt
  exact hs.dma.dma.updRing
theorem Canonical.writeBack {r idx status done} (hs : Canonical s) : Canonical (State.writeBack r idx status done s) := hs.writeBackAt
theorem Canonical.settleRing {r n} (hs : Canonical s) : Canonical (State.settleRing r n s) := by
  induction n generalizing s with
  | zero => exact hs
  | succ n ih =>
    unfold State.settleRing
    dsimp only
    split
    · exact hs
    · exact .ite hs (.ite hs.updRing (.ite (ih hs.updRing.writeBack) hs))
theorem Canonical.untake {ch} (hs : Canonical s) : Canonical (State.untake ch s) := hs.updReq
theorem Canonical.settleLsOff (hs : Canonical s) : Canonical (s.settleLsOff) := .forAll (fun _ _ hs => .ite hs.setDomain.rest hs) hs
theorem Canonical.dropChans {e p} (hs : Canonical s) : Canonical (State.dropChans e p s) := hs.updEngine.settleLsOff
theorem Canonical.endChan {status running ch} (hs : Canonical s) : Canonical (State.endChan status running ch s) :=
  .ite hs.untake.writeBackAt (.ite hs.untake.writeBackAt hs.untake)
theorem Canonical.endChans {e p status} (hs : Canonical s) : Canonical (State.endChans e p status s) :=
  .forAll (fun _ _ hs => hs.settleRing) (.foldl (fun _ _ hs => hs.endChan) hs.dropChans)
theorem Canonical.dropPrefetch {r} (hs : Canonical s) : Canonical (State.dropPrefetch r s) := by
  unfold State.dropPrefetch
  exact hs.updRing
theorem Canonical.finishDisable {r} (hs : Canonical s) : Canonical (State.finishDisable r s) := by
  unfold State.finishDisable
  exact hs.endChans.updRing
theorem Canonical.limitChans {e p} (hs : Canonical s) : Canonical (State.limitChans e p s) := hs.updEngine
theorem Canonical.disableRing {r} (hs : Canonical s) : Canonical (State.disableRing r s) :=
  .ite hs.updRing (.ite hs.updRing.dropPrefetch.endChans.limitChans.updRing hs.updRing.dropPrefetch.endChans.limitChans.finishDisable)
theorem Canonical.enableRing {r} (hs : Canonical s) : Canonical (State.enableRing r s) := .ite hs.updRing (.ite hs.updRing hs.updRing)
theorem Canonical.feedDoorbell {f r v} (hs : Canonical s) : Canonical (feedDoorbell f r v s) :=
  .ite hs.stray (.ite hs (.ite (.ite hs.updRing hs.updRing) hs))
theorem Canonical.issueReads {e n} (hs : Canonical s) : Canonical (State.issueReads e n s) := by
  induction n generalizing s with
  | zero => exact hs
  | succ n ih =>
    unfold State.issueReads
    dsimp only
    refine .ite hs ?_
    split
    · exact hs
    · exact ih hs.updEngine.send
theorem Canonical.descriptorArrival {r raw} (hs : Canonical s) : Canonical (descriptorArrival r raw s) :=
  .whenOn (fun _ hs => .ite hs.updRing.issueReads (.ite hs.updRing.settleRing.issueReads hs)) hs
theorem Canonical.channelStart {e} (hs : Canonical s) : Canonical (channelStart e s) :=
  .whenOn (fun _ hs => .ite hs (by split; exacts [hs, by split; exacts [hs, hs.updReq.updRing.updEngine.issueReads]])) hs
theorem Canonical.putBlocks {c l n w bs} (hs : Canonical s) : Canonical (State.putBlocks c l n w bs s) := by
  induction n generalizing s w bs with
  | zero => exact hs
  | succ n ih => exact ih hs.cellPut
theorem Canonical.pump {e i n} (hs : Canonical s) : Canonical (State.pump e i n s) := by
  induction n generalizing s with
  | zero => exact hs
  | succ n ih =>
    unfold State.pump
    split
    · exact hs
    · exact .ite hs (ih hs.putBlocks.updEngine)
theorem Canonical.takeData {e n bs} (hs : Canonical s) : Canonical (State.takeData e n bs s) := by
  induction n generalizing s bs with
  | zero => exact hs
  | succ n ih =>
    unfold State.takeData
    split
    · exact hs
    · exact hs
    · exact ih (.ite hs.updEngine hs.updEngine.updEngine.pump)
theorem Canonical.readCompletion {e data} (hs : Canonical s) : Canonical (readCompletion e data s) := .whenOn (fun _ hs => hs.takeData.issueReads) hs
theorem Canonical.abandonLane {l e} (hs : Canonical s) : Canonical (State.abandonLane l e s) := hs.endChans
theorem Canonical.limitLane {l e} (hs : Canonical s) : Canonical (State.limitLane l e s) := hs.endChans.limitChans
theorem Canonical.resetEngine {e} (hs : Canonical s) : Canonical (State.resetEngine e s) :=
  .forAll (fun _ _ hs => by split; exacts [hs, .ite hs.abandonLane.updLane hs]) hs
theorem Canonical.feedCredit {b n} (hs : Canonical s) : Canonical (State.feedCredit b n s) := .ite hs.fresh.updBank hs.updBank
theorem Canonical.burstAck {e} (hs : Canonical s) : Canonical (burstAck e s) :=
  .whenOn (fun _ hs => by split; exacts [hs,
                            .ite hs.updEngine.updReq.feedCredit.resetEngine.finishDisable hs.updEngine.updReq.feedCredit.resetEngine]) hs
theorem Canonical.channelComplete {e} (hs : Canonical s) : Canonical (channelComplete e s) :=
  .whenOn (fun _ hs => by split; exacts [hs, .ite hs.updEngine.settleLsOff.writeBackAt.settleRing hs]) hs
theorem Canonical.stopRings {e bad} (hs : Canonical s) : Canonical (State.stopRings e bad s) := by
  unfold State.stopRings
  extract_lets _ _ _ _ t u v w
  have hv : Canonical v := .endChans (.updEngine (.forAll (fun _ _ hs => hs.dropPrefetch) hs))
  clear_value v
  exact hv.mapRings.resetEngine
theorem Canonical.busErrorStop {e cause r addr} (hs : Canonical s) : Canonical (busErrorStop e cause r addr s) :=
  .whenOn (fun _ hs => .ite hs (.ite hs.updEngine (.ite hs (.ite hs.updRing (.raise (.ite hs.updEngine.aer.stopRings.updRing
    hs.updEngine.aer.stopRings)))))) hs
theorem Canonical.restartEngine {e} (hs : Canonical s) : Canonical (State.restartEngine e s) := by
  dsimp only [State.restartEngine]
  exact hs.updEngine.mapRings.raise
theorem Canonical.finishBursts (hs : Canonical s) : Canonical (s.finishBursts) :=
  .forAll (fun _ _ hs => .updEngine (.foldl (fun _ _ hs => .ite hs.updReq.updEngine hs.updReq.updEngine.feedCredit) hs)) hs
theorem Canonical.feedStop (hs : Canonical s) : Canonical (s.feedStop) := .forAll (fun _ _ hs => hs.stopRings.raise) hs.finishBursts
theorem Canonical.feedClear (hs : Canonical s) : Canonical (s.feedClear) := by
  unfold State.feedClear
  extract_lets t u v
  have ht : Canonical t := hs.finishBursts
  clear_value t
  have hu : Canonical u := ht.mapReqs
  clear_value u
  have hv : Canonical v := { hu.mapHost with rings := tabWf_nil, engines := tabWf_nil }
  clear_value v
  exact .forAll (fun _ _ hs => hs.resetEngine) hv.settleLsOff

/-! ### Machine/LineStore.lean -/

theorem Canonical.refillCredits {b} (hs : Canonical s) : Canonical (State.refillCredits b s) := hs.updBank
theorem Canonical.copyWindow {b} (hs : Canonical s) : Canonical (State.copyWindow b s) := .ite (.ite hs.updCell (.ite hs.fresh.updBank.updCell hs)) hs
theorem Canonical.blockUe {b i} (hs : Canonical s) : Canonical (State.blockUe b i s) := hs.updBank.faultBy
theorem Canonical.blockCe {b i} (hs : Canonical s) : Canonical (State.blockCe b i s) := hs.updBank.faultBy
theorem Canonical.blocksRead {b blocks ecc} (hs : Canonical s) : Canonical (State.blocksRead b blocks ecc s) :=
  .foldl (fun _ _ hs => hs.blockCe) (.foldl (fun _ _ hs => hs.blockUe) hs)
theorem Canonical.scrubRead {b ecc} (hs : Canonical s) : Canonical (scrubRead b ecc s) :=
  .whenOn (fun _ hs => by dsimp only; split; exacts [hs.updBank, hs.updBank.updBank.blockCe, hs.updBank.blockUe]) hs
theorem Canonical.softRepair {b row i} (hs : Canonical s) : Canonical (State.softRepair b row i s) := hs.updBank.fault
theorem Canonical.setDbgWin {i v} (hs : Canonical s) : Canonical (State.setDbgWin s i v) := hs.rest
theorem Canonical.dbgReadNow {i off len ecc} (hs : Canonical s) : Canonical (State.dbgReadNow i off len ecc s) :=
  .ite hs.updHost (.updHost (.ite hs.updBank.blocksRead hs.updBank.blocksRead.aer))
theorem Canonical.dbgWriteNow {i off data ecc} (hs : Canonical s) : Canonical (State.dbgWriteNow i off data ecc s) :=
  .ite hs (.ite hs.updBank.blocksRead.cellPut hs.updBank.blocksRead.bankPut)
theorem Canonical.bankUp {b} (hs : Canonical s) : Canonical (State.bankUp s b) := by
  unfold State.bankUp
  exact hs.updBank
theorem Canonical.bankLogicReset {b} (hs : Canonical s) : Canonical (State.bankLogicReset s b) := hs.updBank
theorem Canonical.lsUp {q} (hs : Canonical s) : Canonical (State.lsUp q s) :=
  .setDomain (.foldl (fun _ _ hs => hs.bankUp) (hs.withStore (tabWf_filter _ _ _ hs.store)))

/-! ### Machine/Pipe.lean -/

theorem Canonical.sendEdge {c m toSide err levels} (hs : Canonical s) : Canonical (State.sendEdge c m toSide err levels s) := by
  unfold State.sendEdge
  split; exacts [hs, hs.updCell]
theorem Canonical.exchangeArrival {c side m} (hs : Canonical s) : Canonical (exchangeArrival c side m s) := .ite hs (.ite hs.updCell hs.updCell)
theorem Canonical.missEdge {c m mapped side} (hs : Canonical s) : Canonical (State.missEdge c m mapped side s) :=
  .ite hs (.ite hs.updCell.cellEvt hs.updCell)
theorem Canonical.intakeHalf {c ecc} (hs : Canonical s) : Canonical (State.intakeHalf c ecc s) := by
  unfold State.intakeHalf
  split; exacts [hs, .ite hs.updCell.updBank.blocksRead hs]
theorem Canonical.creditWindow {b ecc} (hs : Canonical s) : Canonical (creditWindow b ecc s) :=
  .whenOn (fun _ hs => .ite hs.refillCredits.copyWindow.intakeHalf hs.refillCredits.copyWindow) hs
theorem Canonical.screenContone {c m row bad missing down} (hs : Canonical s) : Canonical (State.screenContone c m row bad missing down s).2 :=
  .cellPut (.ite hs hs.fresh)
theorem Canonical.intakeNow {c m ecc} (hs : Canonical s) : Canonical (State.intakeNow c m ecc s) := .ite hs.intakeHalf.intakeHalf hs
theorem Canonical.dataLineStart {c ecc} (hs : Canonical s) : Canonical (dataLineStart c ecc s) := by
  have hr : ∀ {t : State} {p : Prop} [Decidable p] {m row bad missing down levels}, Canonical t →
      Canonical (if p then t.screenContone c m row bad missing down else (levels, t)).2 := fun ht => by
    split; exacts [ht.screenContone, ht]
  exact .ite (.sendEdge (.sendEdge (.updCell (hr hs.intakeNow.updBank.blocksRead)))) hs
theorem Canonical.dataLineProcessed {c} (hs : Canonical s) : Canonical (dataLineProcessed c s) := by
  unfold Machine.dataLineProcessed
  split
  · exact hs
  · exact .ite hs.updCell hs

/-! ### Machine/Govern.lean -/

theorem Canonical.updateGov {p} (hs : Canonical s) : Canonical (State.updateGov p s) := .ite hs hs.updPacer.raise
theorem Canonical.govCommit {l b} (hs : Canonical s) : Canonical (State.govCommit l b s) := by
  unfold State.govCommit
  extract_lets k es mine all pairs wl shared excess line calm persist run full kmax f s1 s2 s3
  have h2 : Canonical s2 := .ite hs.updLink hs.updLink.hlEvt
  have h3 : Canonical s3 := .ite h2.hlEvt h2
  exact .ite (by split; exacts [h3, h3.updateGov]) h3
theorem Canonical.governorRelease {l} (hs : Canonical s) : Canonical (governorRelease l s) :=
  .ite hs (.ite (by dsimp only; split; exacts [hs.at_.updLink.hlEvt, hs.at_.updLink.hlEvt.updateGov]) hs)

/-! ### Machine/Windows.lean -/

theorem Canonical.updWindows {p q u} (hs : Canonical s) : Canonical (State.updWindows p q u s) := hs.updPacer
theorem Canonical.updWindow {p id u} (hs : Canonical s) : Canonical (State.updWindow p id u s) := hs.updWindows
theorem Canonical.flagOpen {p b} (hs : Canonical s) : Canonical (State.flagOpen p b s) := hs.updWindows
theorem Canonical.flagLane {lane b} (hs : Canonical s) : Canonical (State.flagLane lane b s) := by
  unfold State.flagLane
  split; exacts [hs, hs.updWindows]
theorem Canonical.markLine {p lane n v} (hs : Canonical s) : Canonical (State.markLine p lane n v s) := by
  dsimp only [State.markLine]
  split; exacts [hs, .ite hs.updWindow hs]
theorem Canonical.countEmpty {p} (hs : Canonical s) : Canonical (State.countEmpty p s) := hs.updPacer
theorem Canonical.openSegment {p n} (hs : Canonical s) : Canonical (State.openSegment p n s) := hs.updPacer
theorem Canonical.ensureSegment {p lane n} (hs : Canonical s) : Canonical (State.ensureSegment p lane n s) := .ite hs.openSegment hs
theorem Canonical.settleEdges {c v mapped} (hs : Canonical s) : Canonical (State.settleEdges c v mapped s) := .ite hs hs.missEdge.missEdge
theorem Canonical.assignLine {c p old n} (hs : Canonical s) : Canonical (State.assignLine c p old n s) := by
  unfold State.assignLine
  split; exacts [hs.updCell, hs.updCell.settleEdges]
theorem Canonical.reassignCell {p c} (hs : Canonical s) : Canonical (State.reassignCell p c s) :=
  .forAll (fun _ _ hs => hs.updLink) (.foldl (fun _ _ hs => hs.ensureSegment.assignLine) hs.updCell)
theorem Canonical.reassign {p} (hs : Canonical s) : Canonical (State.reassign p s) := .forAll (fun _ _ hs => hs.reassignCell) hs
theorem Canonical.discardWindows {p q} (hs : Canonical s) : Canonical (State.discardWindows p q s) := hs.updPacer
theorem Canonical.dropEmpty {p} (hs : Canonical s) : Canonical (State.dropEmpty p s) := .forAll (fun _ _ hs => hs.discardWindows.countEmpty) hs
theorem Canonical.putClose {p id pc u} (hs : Canonical s) : Canonical (State.putClose p id pc u s) := hs.updWindow
theorem Canonical.closeAt {p id pc u} (hs : Canonical s) : Canonical (State.closeAt p id pc u s) := hs.putClose.dropEmpty.reassign
theorem Canonical.startWindow {p id pt} (hs : Canonical s) : Canonical (State.startWindow p id pt s) := by
  unfold State.startWindow
  split; exacts [hs, .reassign (.dropEmpty (.ite hs.updWindow hs.updWindow.putClose))]
theorem Canonical.forceWindows {p} (hs : Canonical s) : Canonical (State.forceWindows p s) := hs.discardWindows.updWindows.reassign
theorem Canonical.openWindow {p n w} (hs : Canonical s) : Canonical (State.openWindow p n w s) :=
  .updWindow (.forAll (fun _ _ hs => hs.updWindow.updPacer) hs)
theorem Canonical.windowsAt {p n} (hs : Canonical s) : Canonical (State.windowsAt p n s) := .discardWindows (.foldl (fun _ _ hs => hs.openWindow) hs)
theorem Canonical.writeProduct {p w lane} (hs : Canonical s) : Canonical (State.writeProduct p w s lane) := .ite hs.dma.updHost hs.updHost
theorem Canonical.productRecord {p} (hs : Canonical s) : Canonical (productRecord p s) :=
  .ite hs (by split; exacts [hs,
                .raise (.updPacer (.ite (.discardWindows (.foldl (fun _ _ hs => hs.writeProduct) hs)) (.updWindow (.foldl (fun _ _ hs =>
    hs.writeProduct) hs))))])

/-! ### Machine/Cells.lean -/

theorem Canonical.writeShadow {c body} (hs : Canonical s) : Canonical (State.writeShadow c body s) := hs.updCell
theorem Canonical.admitCell {c} (hs : Canonical s) : Canonical (State.admitCell c s) := hs.updBank
theorem Canonical.moveReservation {a b} (hs : Canonical s) : Canonical (State.moveReservation a b s) := hs.updBank.updBank
theorem Canonical.sendSeq {l frame} (hs : Canonical s) : Canonical (State.sendSeq l frame s) := hs.updLink.send
theorem Canonical.sendConfig {l addr data} (hs : Canonical s) : Canonical (State.sendConfig l addr data s) := hs.sendSeq
theorem Canonical.sendTrims {l j v} (hs : Canonical s) : Canonical (State.sendTrims l j v s) := hs.sendConfig
theorem Canonical.sendCtl {l drive} (hs : Canonical s) : Canonical (State.sendCtl l drive s) := hs.sendConfig
theorem Canonical.sendWave {l slot} (hs : Canonical s) : Canonical (State.sendWave l slot s) := by
  unfold State.sendWave
  exact hs.sendSeq
theorem Canonical.sendWaves {c ws} (hs : Canonical s) : Canonical (State.sendWaves c ws s) :=
  .forAll (fun _ _ hs => .forAll (fun _ _ hs => .ite hs.sendWave hs) hs) hs
theorem Canonical.retrim {c u} (hs : Canonical s) : Canonical (State.retrim c u s) := .foldl (fun _ _ hs => hs.updLink) hs.updCell
theorem Canonical.restoreCell {c} (hs : Canonical s) : Canonical (State.restoreCell c s) := by
  dsimp only [State.restoreCell]
  split; exacts [hs.updCell, .ite hs.updCell.retrim hs.updCell.retrim.sendWaves]
theorem Canonical.stepTrims {l ran} (hs : Canonical s) : Canonical (State.stepTrims l ran s) := by
  unfold State.stepTrims
  exact .updLink (.foldl (fun _ _ hs => hs.sendTrims) hs)
theorem Canonical.noteTrim {l j old} (hs : Canonical s) : Canonical (State.noteTrim l j old s) := .ite hs (.ite hs.updLink hs.updLink.sendTrims)
theorem Canonical.updNozzle {c n u} (hs : Canonical s) : Canonical (State.updNozzle c n u s) :=
  .ite hs.updCell.noteTrim.sendConfig hs.updCell.noteTrim
theorem Canonical.sendDrive {on c} (hs : Canonical s) : Canonical (State.sendDrive on c s) :=
  .forAll (fun _ _ hs => .ite hs.updLink.sendCtl hs.updLink) hs
theorem Canonical.loadHead {l} (hs : Canonical s) : Canonical (State.loadHead l s) := by
  unfold State.loadHead
  exact .updLink (.foldl (fun _ _ hs => hs.sendWave) (.foldl (fun _ _ hs => hs.sendConfig) (.foldl (fun _ _ hs => hs.sendTrims) hs)))
theorem Canonical.markDone {c m} (hs : Canonical s) : Canonical (State.markDone c m s) := hs.updCell
theorem Canonical.settleCarried {c} (hs : Canonical s) : Canonical (State.settleCarried c s) := .foldl (fun _ _ hs => .ite hs.markDone hs) hs
theorem Canonical.pruneSlots {c} (hs : Canonical s) : Canonical (State.pruneSlots c s) := by
  unfold State.pruneSlots
  split; exacts [hs, hs.updCell]
theorem Canonical.emptyData {c keepLines kept} (hs : Canonical s) : Canonical (State.emptyData c keepLines kept s) :=
  .forAll (fun _ _ hs => hs.updReq) hs.updCell
theorem Canonical.moveMask {c old new m poison k} (hs : Canonical s) : Canonical (State.moveMask c old new m poison s k) := .ite hs hs.cellPut.updBank
theorem Canonical.applyAreas {c new} (hs : Canonical s) : Canonical (State.applyAreas c new s) := by
  unfold State.applyAreas
  split; exacts [hs.emptyData, .emptyData (.foldl (fun _ _ hs => hs.moveMask) hs)]
theorem Canonical.meterCount {lane plane fires} (hs : Canonical s) : Canonical (State.meterCount lane plane fires s) := .ite hs hs.updMeter

/-! ### Machine/Speculate.lean -/

theorem Canonical.touchLink {since l} (hs : Canonical s) : Canonical (State.touchLink since l s) := hs.updLink
theorem Canonical.touching {links u} (hu : ∀ a0, Canonical a0 → Canonical (u a0)) (hs : Canonical s) : Canonical (touching links u s) :=
  .forAll (fun _ _ hs => hs.touchLink) (hu _ (.forAll (fun _ _ hs => hs.touchLink) hs))
theorem Canonical.muteLine {c p n} (hs : Canonical s) : Canonical (State.muteLine c p n s) := by
  unfold State.muteLine
  split; exacts [hs, .forAll (fun _ _ hs => hs.updLink) hs]
theorem Canonical.speculateLine {c p n} (hs : Canonical s) : Canonical (State.speculateLine c p n s) :=
  .forAll (fun _ _ hs => .ite hs.updLink.muteLine hs.updLink) hs.ensureSegment.assignLine.updCell
theorem Canonical.speculate {c n} (hs : Canonical s) : Canonical (State.speculate c n s) := by
  induction n generalizing s with
  | zero => exact hs
  | succ n ih =>
    unfold State.speculate
    dsimp only
    split
    · exact .ite (ih hs.speculateLine) hs
    · exact hs
theorem Canonical.speculateCell {c} (hs : Canonical s) : Canonical (State.speculateCell s c) := hs.speculate
theorem Canonical.startLines {first c} (hs : Canonical s) : Canonical (State.startLines first c s) :=
  .speculateCell (.updCell (.forAll (fun _ _ hs => hs.updLink) hs))
theorem Canonical.recompute {all from_ l} (hs : Canonical s) : Canonical (State.recompute all from_ l s) := by
  unfold State.recompute
  split; exacts [hs, .foldl (fun _ _ hs => hs.updLink) hs]
theorem Canonical.applyCopy {c tdly} (hs : Canonical s) : Canonical (State.applyCopy c tdly s) := by
  unfold State.applyCopy
  split; exacts [hs, .ite hs (.settleCarried (.forAll (fun _ _ hs => .ite hs.updLink.recompute hs.updLink) hs))]

/-! ### Machine/Rounds.lean -/

theorem Canonical.retarget {l} (hs : Canonical s) : Canonical (State.retarget l s) := by
  unfold State.retarget
  exact hs.updLink
theorem Canonical.retargetNow {l} (hs : Canonical s) : Canonical (State.retargetNow l s) := hs.retarget.updLink
theorem Canonical.flushTrims {l} (hs : Canonical s) : Canonical (State.flushTrims l s) := .ite hs.stepTrims hs
theorem Canonical.applyTargets {l} (hs : Canonical s) : Canonical (State.applyTargets l s) := hs.retarget.flushTrims
theorem Canonical.measureFlight {g l} (hs : Canonical s) : Canonical (State.measureFlight g l s) := .retarget (.updLink (.ite hs.updLink hs))
theorem Canonical.untest {links q} (hs : Canonical s) : Canonical (State.untest links q s) := .forAll (fun _ _ hs => hs.updLink) hs
theorem Canonical.settleMiss {c n} (hs : Canonical s) : Canonical (State.settleMiss c n s) :=
  .ite hs.updLink (.forAll (fun _ _ hs => by split; exacts [hs, hs.updGate]) hs.updLink.untest)
theorem Canonical.spitOver {h} (hs : Canonical s) : Canonical (State.spitOver h s) := .ite hs hs.finish
theorem Canonical.checkRound {g n} (hs : Canonical s) : Canonical (State.checkRound g n s) := by
  induction n generalizing s with
  | zero => exact hs
  | succ n ih =>
    unfold State.checkRound
    dsimp only
    split
    · exact hs
    · have hm : ∀ l, Canonical ((Machine.forAll l (fun s l => s.measureFlight g l) s).updGate g (fun x => { x with rounds := x.rounds + 1 })) :=
        fun _ => .updGate (.forAll (fun _ _ hs => hs.measureFlight) hs)
      exact .ite (.ite (hm _).gateEvt.updGate.spitOver (ih (hm _).gateEvt.updGate)) hs
theorem Canonical.settleRounds {g} (hs : Canonical s) : Canonical (State.settleRounds g s) := by
  unfold State.settleRounds
  split; exacts [hs, hs.checkRound]

/-! ### Machine/Clocking.lean -/

theorem Canonical.settleClocks (hs : Canonical s) : Canonical (s.settleClocks) :=
  .foldl (fun _ _ hs => .updQuad (by split; exacts [hs, hs.updQuad])) hs
theorem Canonical.supplyReached {k} (hs : Canonical s) : Canonical (State.supplyReached k s) := hs.updQuad.settleClocks
theorem Canonical.requestQuad {k vset div skip} (hs : Canonical s) : Canonical (State.requestQuad k vset div skip s) :=
  .ite hs.updQuad.settleClocks hs.updQuad

/-! ### Machine/Spares.lean -/

theorem Canonical.settleSpares (hs : Canonical s) : Canonical (s.settleSpares) := hs.setCause
theorem Canonical.sparesOut {q} (hs : Canonical s) : Canonical (State.sparesOut q s) :=
  .ite hs.settleSpares (.raise (.settleSpares (.updTest (.forAll (fun _ _ hs => hs.updCell) hs))))
theorem Canonical.spareStays {q stays} (hs : Canonical s) : Canonical (State.spareStays q stays s) := .ite hs.sparesOut hs.settleSpares
theorem Canonical.beginTakeover {c k} (hs : Canonical s) : Canonical (State.beginTakeover c k s) := hs.updCell.updCell.settleSpares.settleClocks
theorem Canonical.beginRefill {c image test sets} (hs : Canonical s) : Canonical (State.beginRefill c image test sets s) := hs.updCell
theorem Canonical.beginReturn {c} (hs : Canonical s) : Canonical (State.beginReturn c s) := hs.updCell
theorem Canonical.eraseBank {b} (hs : Canonical s) : Canonical (State.eraseBank b s) :=
  .updBank (hs.withStore (tabWf_filter _ _ _ hs.store))
theorem Canonical.testSpare {q k} (hs : Canonical s) : Canonical (State.testSpare q k s) := hs.eraseBank.updCell.updTest.settleSpares
theorem Canonical.serveWaiting {q} (hs : Canonical s) : Canonical (State.serveWaiting q s) := by
  dsimp only [State.serveWaiting]
  split; exacts [hs.updCell.beginTakeover, hs]
theorem Canonical.endTest {q} (hs : Canonical s) : Canonical (State.endTest q s) :=
  .ite (by split; exacts [hs.updTest.serveWaiting, hs.updTest.serveWaiting.testSpare]) hs.updTest.serveWaiting

/-! ### Machine/Power.lean -/

theorem Canonical.linkGoesDown {l} (hs : Canonical s) : Canonical (State.linkGoesDown l s) :=
  .ite hs.updLink (.ite hs.updLink.skipTests.updLink.hlEvt.fault hs.updLink.skipTests.updLink.hlEvt)
theorem Canonical.gateDown {g} (hs : Canonical s) : Canonical (State.gateDown g s) := hs.updGate
theorem Canonical.gateUp {g} (hs : Canonical s) : Canonical (State.gateUp g s) := hs.updGate
theorem Canonical.gatesCalibrated {k} (hs : Canonical s) : Canonical (State.gatesCalibrated k s) := .forAll (fun _ _ hs => .ite hs.updGate hs) hs
theorem Canonical.beginStop {k why} (hs : Canonical s) : Canonical (State.beginStop k why s) := hs.updQuad
theorem Canonical.recycleSpares {out spare} (hs : Canonical s) : Canonical (State.recycleSpares out spare s) := .ite hs.beginStop hs
theorem Canonical.failTakeover {c} (hs : Canonical s) : Canonical (State.failTakeover c s) :=
  .finishAll (.recycleSpares (.spareStays (.ite (.updTest (.fault (.cellEvt (.ite hs.updCell.updCell hs.updCell)))) (.fault (.cellEvt (.ite
    hs.updCell.updCell hs.updCell))))))
theorem Canonical.quadLosesWork {k} (hs : Canonical s) : Canonical (State.quadLosesWork k s) :=
  .forAll (fun _ _ hs => by split; exacts [hs, .ite hs.updCell.updTest.spareStays hs]) (.forAll (fun _ _ hs => hs.failTakeover) hs)
theorem Canonical.dropExchange {k} (hs : Canonical s) : Canonical (State.dropExchange k s) := .forAll (fun _ _ hs => .updCell (.ite hs hs.updCell)) hs
theorem Canonical.quadOff {k} (hs : Canonical s) : Canonical (State.quadOff k s) := by
  unfold State.quadOff
  exact .updQuad (.setDomain (.dropExchange (.forAll (fun _ _ hs => hs.gateDown) (.forAll (fun _ _ hs => hs.linkGoesDown) hs.quadLosesWork))))
theorem Canonical.restartWork {k u} (hs : Canonical s) : Canonical (State.restartWork k u s) :=
  .forAll (fun _ _ hs => hs.updateGov) (.forAll (fun _ _ hs => .forAll (fun _ _ hs => hs.updLink) hs.retrim) hs)
theorem Canonical.quadUp {k h} (hs : Canonical s) : Canonical (State.quadUp k h s) :=
  .settleClocks (.forAll (fun _ _ hs => hs.gateUp) (.forAll (fun _ _ hs => hs.updCell.endCond) (.ite (.endCond (.forAll (fun _ _ hs => hs.endCond)
    (.restartWork (.forAll (fun _ _ hs => hs.updLink) hs.updQuad.setDomain.updQuad)))) (.forAll (fun _ _ hs => hs.endCond) (.restartWork (.forAll
    (fun _ _ hs => hs.updLink) hs.updQuad.setDomain.updQuad))))))
theorem Canonical.settleStarts (hs : Canonical s) : Canonical (s.settleStarts) :=
  .forAll (fun _ _ hs => by split; exacts [.ite hs.quadUp hs, hs]) hs
theorem Canonical.quadStart {k h} (hs : Canonical s) : Canonical (State.quadStart k h s) := hs.updQuad.settleClocks.settleStarts
theorem Canonical.dividerChangeDone {k} (hs : Canonical s) : Canonical (dividerChangeDone k s) := by
  unfold Machine.dividerChangeDone
  split; exacts [hs, .ite hs.updQuad.settleClocks.settleStarts hs]
theorem Canonical.quadReset {k} (hs : Canonical s) : Canonical (State.quadReset k s) :=
  .settleClocks (.updQuad (.forAll (fun _ _ hs => hs.gateUp.updGate) (.restartWork (.dropExchange (.forAll (fun _ _ hs => hs.linkGoesDown)
    hs.quadLosesWork)))))
theorem Canonical.setRstCause {b} (hs : Canonical s) : Canonical (State.setRstCause b s) := hs.rest
theorem Canonical.quadStopped {k why} (hs : Canonical s) : Canonical (State.quadStopped k why s) := by
  unfold State.quadStopped
  split; exacts [hs.quadOff.updQuad, hs.quadOff.updQuad, by split; exacts [hs.quadReset.updQuad.setRstCause, hs.quadReset.updQuad.setRstCause.finish]]
theorem Canonical.settleStop {k} (hs : Canonical s) : Canonical (State.settleStop k s) := by
  unfold State.settleStop
  split; exacts [hs.quadStopped, hs]
theorem Canonical.stopQuad {k why} (hs : Canonical s) : Canonical (State.stopQuad k why s) := .ite hs.beginStop.settleStop hs.quadStopped
theorem Canonical.boundaryStop {c} (hs : Canonical s) : Canonical (State.boundaryStop c s) :=
  .forAll (fun _ _ hs => by split; exacts [.settleStop (.updQuad (.forAll (fun _ _ hs => .linkGoesDown (.ite hs.updLink hs)) hs)), hs]) hs
theorem Canonical.settleCycle {k} (hs : Canonical s) : Canonical (State.settleCycle k s) := by
  unfold State.settleCycle
  split; exacts [.ite hs (by split; exacts [hs.updQuad.setRstCause.settleClocks, hs.updQuad.setRstCause.settleClocks.finish]), hs]

/-! ### Machine/Boundary.lean -/

theorem Canonical.giveUpLines {c} (hs : Canonical s) : Canonical (State.giveUpLines c s) :=
  .foldl (fun _ _ hs => hs.markDone) (.forAll (fun _ _ hs => hs.updLink) hs.updCell)
theorem Canonical.enterPrint {l} (hs : Canonical s) : Canonical (State.enterPrint l s) := by
  unfold State.enterPrint
  split; exacts [hs, .forAll (fun _ _ hs => .ite hs.giveUpLines hs.giveUpLines.startLines) hs.updLane.updateGov]
theorem Canonical.endSegments {p l} (hs : Canonical s) : Canonical (State.endSegments p l s) := .ite hs hs.updLane
theorem Canonical.leavePrint {l st printed} (hs : Canonical s) : Canonical (State.leavePrint l st printed s) := by
  unfold State.leavePrint
  split; exacts [hs.updLane, .updateGov (.forAll (fun _ _ hs => hs.applyTargets) (.forAll (fun _ _ hs => hs.giveUpLines) (.ite (.updPacer (.updLane
    (.ite hs.endSegments.forceWindows hs))) (.updLane (.ite hs.endSegments.forceWindows hs)))))]
theorem Canonical.applyMark {c m} (hs : Canonical s) : Canonical (State.applyMark c m s) := hs.skipTests.updNozzle.settleMiss
theorem Canonical.applyEntry {c e} (hs : Canonical s) : Canonical (State.applyEntry c e s) := hs.updNozzle.settleMiss
theorem Canonical.boundaryNozzles {c} (hs : Canonical s) : Canonical (State.boundaryNozzles c s) := by
  unfold State.boundaryNozzles
  extract_lets marks s1 s2 s3
  have h2 : Canonical s2 := .updCell (.foldl (fun _ _ hs => hs.applyMark) hs)
  have h3 : Canonical s3 := .ite h2 (by split; exacts [h2, h2.settleRounds])
  exact .updCell (.foldl (fun _ _ hs => hs.applyEntry) (.foldl (fun _ _ hs => hs.answer.serveAll) h3))
theorem Canonical.changeCell {c ch} (hs : Canonical s) : Canonical (State.changeCell c ch s) := by
  unfold State.changeCell
  split; exacts [hs.updCell,
    by split; exacts [.sendDrive (.forAll (fun _ _ hs => .retarget (.ite hs.loadHead hs)) hs.sendDrive.applyAreas.updCell.updBank),
    hs.updCell.admitCell]]
theorem Canonical.changeLane {ch} (hs : Canonical s) : Canonical (State.changeLane ch s) := by
  unfold State.changeLane
  extract_lets t u
  have hu : Canonical u := .ite hs.updLane hs.updLane.flagLane
  clear_value u
  split
  · split; exacts [hu, .forAll (fun _ _ hs => hs.updateGov) hu.updLane]
  · split; exacts [hu, hu.updLane]
  · split; exacts [hu, hu.updLane]
  · exact .ite hu hu.enterPrint
  · exact hu.leavePrint
  · exact hu
theorem Canonical.endChanges (hs : Canonical s) : Canonical (s.endChanges) := .foldl (fun _ _ hs => hs.rest.changeLane.finish) hs
theorem Canonical.boundaryChanges {c} (hs : Canonical s) : Canonical (State.boundaryChanges c s).1 := .foldl (fun _ _ hs => hs.changeCell.rest) hs
theorem Canonical.swapLinks {c} (hs : Canonical s) : Canonical (State.swapLinks c s) :=
  have h1 : Canonical _ := .spareStays (.forAll (fun _ _ hs => hs.updGate)
    (.ite (.moveReservation (.ite hs.updCell.updCell.eraseBank hs.updCell.updCell)) hs.updCell.updCell.moveReservation))
  .settleCycle (.finishAll (.cellEvt (.ite h1.serveWaiting (.ite h1.endTest h1.serveWaiting))))
theorem Canonical.boundaryTakeover {c timer} (hs : Canonical s) : Canonical (State.boundaryTakeover c timer s) :=
  .ite hs (.ite hs.failTakeover (.ite (.ite hs.swapLinks hs) (.ite hs.updCell hs)))
theorem Canonical.laneStopped {l upTo printed} (hs : Canonical s) : Canonical (State.laneStopped l upTo printed s) :=
  .leavePrint (by split; exacts [hs,
                    .ite (.discardWindows (.updWindows (.foldl (fun _ _ hs => hs.writeProduct) hs))) (.raise (.updPacer (.discardWindows (.updWindows
    (.foldl (fun _ _ hs => hs.writeProduct) hs)))))])
theorem Canonical.boundaryReset {c} (hs : Canonical s) : Canonical (State.boundaryReset c s) := by
  dsimp only [State.boundaryReset]
  split; exacts [hs, .ite (.ite hs.giveUpLines.updLane.laneStopped hs.giveUpLines.updLane) hs]
theorem Canonical.cellBoundary {c timer} (hs : Canonical s) : Canonical (State.cellBoundary c timer s) :=
  have h1 : Canonical _ := .boundaryChanges (.updCell (.ite hs.updCell.updLane hs.updCell))
  have h2 : Canonical _ := .boundaryNozzles (.ite h1 h1.applyCopy)
  .endChanges (.boundaryStop (.boundaryReset (.ite h2 h2.boundaryTakeover)))
theorem Canonical.cellBoundaryTimer {c} (hs : Canonical s) : Canonical (cellBoundaryTimer c s) := .ite hs.at_.cellBoundary.speculateCell hs

/-! ### Machine/Sched.lean -/

theorem Canonical.sendLatch {l b} (hs : Canonical s) : Canonical (State.sendLatch l b s) := hs.send
theorem Canonical.updStrobe {l n u} (hs : Canonical s) : Canonical (State.updStrobe l n u s) := hs.updLink
theorem Canonical.resendLatch {l b} (hs : Canonical s) : Canonical (State.resendLatch l b s) := hs.updLink.updStrobe.sendLatch
theorem Canonical.latchLoad {l} (hs : Canonical s) : Canonical (latchLoad l s) := .ite hs (by split; exacts [hs, .ite hs.at_.updStrobe.sendLatch hs])
theorem Canonical.badFrame {inj l} (hs : Canonical s) : Canonical (State.badFrame inj l s) := hs.updLink.faultBy
theorem Canonical.latchFailed {l b} (hs : Canonical s) : Canonical (State.latchFailed l b s) := .ite hs hs.updStrobe.resendLatch
theorem Canonical.llAck {l rx} (hs : Canonical s) : Canonical (llAck l rx s) := by
  dsimp only [Machine.llAck]
  exact .ite hs (.ite (by split; exacts [hs, .ite (.touching (fun _ hs => hs.updStrobe) hs) (.ite hs.latchFailed hs)]) hs.badFrame)
theorem Canonical.llAckTimeout {l} (hs : Canonical s) : Canonical (llAckTimeout l s) := .ite hs (by split; exacts [hs, hs.at_.latchFailed])
theorem Canonical.afterDecision {l n} (hs : Canonical s) : Canonical (State.afterDecision l n s) :=
  .speculateCell (.ite hs.pruneSlots.cellBoundary hs.pruneSlots)
theorem Canonical.takeOff {l n} (hs : Canonical s) : Canonical (State.takeOff l n s) := hs.updLink
theorem Canonical.sendStrobes {l b} (hs : Canonical s) : Canonical (State.sendStrobes l b s) := .foldl (fun _ _ hs => hs.send) hs
theorem Canonical.abortLatch {l n} (hs : Canonical s) : Canonical (State.abortLatch l n s) := by
  unfold State.abortLatch
  split; exacts [hs, hs.latchFailed]
theorem Canonical.openTest {l b t} (hs : Canonical s) : Canonical (State.openTest l b t s) := by
  dsimp only [State.openTest]
  split; exacts [hs, by split; exacts [hs, .ite hs.updGate hs]]
theorem Canonical.purgeOver {h} (hs : Canonical s) : Canonical (State.purgeOver h s) := .ite hs hs.finish
theorem Canonical.countPurge {l} (hs : Canonical s) : Canonical (State.countPurge l s) := by
  unfold State.countPurge
  split; exacts [hs, .ite hs hs.updCell.purgeOver]
theorem Canonical.commitStrobe {l b lam} (hs : Canonical s) : Canonical (State.commitStrobe l b lam s) := by
  unfold State.commitStrobe
  extract_lets c lane s1 s2 s3 conc carried starving s4 s5 s6 s7 s8 s9 s10
  have h4 : Canonical s4 := .updCell (.govCommit (.meterCount (.ite hs hs.sendStrobes.abortLatch)))
  clear_value s4
  have h5 : Canonical s5 := .ite h4.updLane.raise h4
  clear_value s5
  have h6 : Canonical s6 := by
    unfold s6
    split
    · exact h5
    · extract_lets t dead u
      have ht : Canonical t := .ite h5.updPacer h5
      have hu : Canonical u := by unfold u; split; exacts [ht, ht.updWindow]
      exact .ite hu hu.markLine
  have h8 : Canonical s8 := .updLink (.foldl (fun _ _ hs => by split; exacts [hs, hs.markDone]) h6)
  have h9 : Canonical s9 := by unfold s9; split; exacts [h8, h8.openTest]
  exact .afterDecision (.stepTrims (.takeOff (.ite h9.countPurge h9)))
theorem Canonical.tryCommit {l b0 lam} (hs : Canonical s) : Canonical (State.tryCommit l b0 lam s) := .ite hs.updStrobe.resendLatch hs.commitStrobe
theorem Canonical.dropStrobe {l b} (hs : Canonical s) : Canonical (State.dropStrobe l b s) := by
  dsimp only [State.dropStrobe]
  exact .afterDecision (.foldl (fun _ _ hs => by split; exacts [hs, .ite hs.markDone hs]) (.ite hs.takeOff
    (by split; exacts [hs.takeOff.updCell, .ite hs.takeOff.updCell.updPacer hs.takeOff.updCell.updPacer.markLine])))
theorem Canonical.strobeCommit {l} (hs : Canonical s) : Canonical (strobeCommit l s) := by
  unfold Machine.strobeCommit
  split; exacts [hs, .ite (.ite hs.at_.dropStrobe (.ite hs.at_.at_.commitStrobe (.ite hs.at_.tryCommit hs.at_.touchLink.updStrobe))) hs]
theorem Canonical.strobeRelease {l} (hs : Canonical s) : Canonical (strobeRelease l s) := by
  dsimp only [Machine.strobeRelease]
  split; exacts [hs.touchLink, .ite (by split; exacts [hs.touchLink, .ite hs.touchLink.at_.tryCommit hs.touchLink]) hs.touchLink]
theorem Canonical.strobeDrop {l} (hs : Canonical s) : Canonical (strobeDrop l s) := by
  dsimp only [Machine.strobeDrop]
  split; exacts [.ite (.ite hs.touchLink.at_.dropStrobe (.ite hs.touchLink.at_.dropStrobe hs.touchLink)) hs.touchLink, hs.touchLink]
theorem Canonical.testLine {c} (hs : Canonical s) : Canonical (testLine c s) :=
  .ite (.ite (.foldl (fun _ _ hs => hs.updLink) hs.at_.updCell) hs.at_) hs

/-! ### Machine/Follow.lean -/

theorem Canonical.squash {p} (hs : Canonical s) : Canonical (State.squash p s) := .forAll (fun _ _ hs => hs.updLink) hs
theorem Canonical.falseStart {p} (hs : Canonical s) : Canonical (State.falseStart p s) := hs.squash.updPacer.pacerEvt.updWindows
theorem Canonical.reschedule {p} (hs : Canonical s) : Canonical (State.reschedule p s) :=
  .forAll (fun _ _ hs => hs.speculateCell) (.forAll (fun _ _ hs => hs.recompute) hs.updPacer)
theorem Canonical.reseed {p r e} (hs : Canonical s) : Canonical (State.reseed p r e s) :=
  .ite (.ite (.forAll (fun _ _ hs => hs.startLines) hs.updPacer.updPacer.updPacer) hs.updPacer.updPacer.reschedule) hs.updPacer.squash.updPacer
theorem Canonical.trackUpdate {p r e} (hs : Canonical s) : Canonical (State.trackUpdate p r e s) :=
  .ite (.forAll (fun _ _ hs => hs.recompute) hs.updPacer) hs.updPacer.squash
theorem Canonical.learn {p r e} (hs : Canonical s) : Canonical (State.learn p r e s) :=
  have h1 : Canonical _ := .ite hs hs.updPacer
  have h2 : Canonical _ := .ite h1 h1.updPacer
  .ite h2.updPacer (.ite h2.reseed (by
    split
    exacts [h2.updPacer, h2.reseed, h2.reseed, .ite h2.falseStart.reseed (.ite h2.falseStart.updPacer.reseed h2.trackUpdate), h2, h2]))
theorem Canonical.edgeLearn {p} (hs : Canonical s) : Canonical (edgeLearn p s) := by
  dsimp only [Machine.edgeLearn]
  exact .ite hs (by split; exacts [.touching (fun _ hs => hs.learn) hs.at_.updPacer, hs.updPacer, hs])
theorem Canonical.edgeOverdue {p} (hs : Canonical s) : Canonical (edgeOverdue p s) := by
  dsimp only [Machine.edgeOverdue]
  exact .ite hs (by split; exacts [hs, .ite (.touching (fun _ hs => hs.falseStart.updPacer) hs.at_) hs])
theorem Canonical.requalCount {n ok} (hs : Canonical s) : Canonical (State.requalCount n ok s) := .forAll (fun _ _ hs => .ite hs.updPacer hs) hs
theorem Canonical.quadError {n} (hs : Canonical s) : Canonical (State.quadError n s) := hs.updEnc.requalCount
theorem Canonical.confirmEdge {n t} (hs : Canonical s) : Canonical (State.confirmEdge n t s) :=
  .forAll (fun _ _ hs => by split; exacts [hs, hs.updPacer]) hs.updEnc.requalCount
theorem Canonical.reverseEnc {n rev} (hs : Canonical s) : Canonical (State.reverseEnc n rev s) :=
  .forAll (fun _ _ hs => .touching (fun _ hs => hs.squash.updPacer.flagOpen) hs) hs.updEnc.raise
theorem Canonical.countEnc {n fwd t} (hs : Canonical s) : Canonical (State.countEnc n fwd t s) :=
  .ite hs.updEnc.updEnc.confirmEdge (.ite hs.updEnc.reverseEnc hs.updEnc.updEnc)
theorem Canonical.encoderEdge {n a b t} (hs : Canonical s) : Canonical (encoderEdge n a b t s) :=
  .ite hs (.ite hs.at_.updEnc (.ite hs.at_.updEnc (.ite hs.at_.updEnc.quadError hs.at_.updEnc.countEnc)))
theorem Canonical.pairFault {n pair} (hs : Canonical s) : Canonical (pairFault n pair s) := .whenOn (fun _ hs => hs.updEnc.requalCount) hs
theorem Canonical.pairFaultEnd {n pair} (hs : Canonical s) : Canonical (pairFaultEnd n pair s) := .whenOn (fun _ hs => hs.updEnc) hs
theorem Canonical.index {n} (hs : Canonical s) : Canonical (index n s) := .ite hs (.ite hs hs.updEnc.raise)
theorem Canonical.speedWindow {n t} (hs : Canonical s) : Canonical (speedWindow n t s) := .ite hs hs.at_.updEnc
theorem Canonical.still {n} (hs : Canonical s) : Canonical (still n s) := .ite hs (.forAll (fun _ _ hs => hs.updPacer) hs.at_.updEnc)
theorem Canonical.edgeWindows {code p} (hs : Canonical s) : Canonical (State.edgeWindows code p s) :=
  .ite hs (.ite (by split; exacts [.updPacer (.ite (by split; exacts [hs.startWindow, hs.updPacer]) hs),
                      .closeAt (.updWindow (.ite (by split; exacts [hs.startWindow, hs.updPacer]) hs))]) (.ite
    (by split; exacts [hs.startWindow, hs.updPacer]) hs))
theorem Canonical.triggerEdge {tr fall t} (hs : Canonical s) : Canonical (triggerEdge tr fall t s) :=
  .ite hs (.ite hs.at_.updTrig (.forAll (fun _ _ hs => hs.edgeWindows) hs.at_.updTrig.updTrig.raiseIf))
theorem Canonical.referenceLoss {p r cause} (hs : Canonical s) : Canonical (referenceLoss p r cause s) :=
  .ite hs (.ite (.ite (.touching (fun _ hs => hs.updPacer) (.updPacer (.ite hs.at_ hs))) (.updPacer (.updPacer (.ite hs.at_ hs)))) hs)
theorem Canonical.referenceRequalified {p r} (hs : Canonical s) : Canonical (referenceRequalified p r s) :=
  .whenOn (fun _ hs => .ite hs.updPacer hs) hs
theorem Canonical.drlim {p} (hs : Canonical s) : Canonical (drlim p s) :=
  .ite hs (.ite (.flagOpen (.pacerEvt (.touching (fun _ hs => hs.updPacer) hs.at_))) hs)
theorem Canonical.switchRef {p to_ b} (hs : Canonical s) : Canonical (State.switchRef p to_ b s) :=
  .flagOpen (.pacerEvt (by split; exacts [hs.updPacer.updPacer, hs.updPacer.updPacer, .ite hs.updPacer.updPacer hs.updPacer.updPacer.reschedule,
                             hs.updPacer.updPacer]))
theorem Canonical.refStep {p b} (hs : Canonical s) : Canonical (State.refStep p b s) := by
  unfold State.refStep
  split; exacts [hs.updPacer, .touching (fun _ hs => hs.switchRef) hs]
theorem Canonical.computeFill {p} (hs : Canonical s) : Canonical (State.computeFill p s) := by
  unfold State.computeFill
  exact .updPacer (.foldl (fun _ _ hs => .raiseIf (.ite hs.updLane.flagLane hs.updLane)) hs)
theorem Canonical.fillTimer {p} (hs : Canonical s) : Canonical (fillTimer p s) := .whenOn (fun _ hs => .ite hs hs.computeFill) hs
theorem Canonical.stopWindows {p} (hs : Canonical s) : Canonical (State.stopWindows p s) :=
  .foldl (fun _ _ hs => .ite (.rest (by split; exacts [.ite hs (.reassign (.ite hs.discardWindows.updLane.updWindows hs.discardWindows.updLane)),
                                          hs.endSegments.forceWindows]))
    (by split; exacts [.ite hs (.reassign (.ite hs.discardWindows.updLane.updWindows hs.discardWindows.updLane)), hs.endSegments.forceWindows])) hs
theorem Canonical.pacerLineBoundary {p} (hs : Canonical s) : Canonical (pacerLineBoundary p s) :=
  .ite hs (.ite hs.at_.updPacer.windowsAt.stopWindows.refStep.computeFill hs)
theorem Canonical.pacerMark {p} (hs : Canonical s) : Canonical (pacerMark p s) := .ite hs hs.at_.updPacer.stopWindows.refStep

/-! ### Machine/HeadLink.lean -/

theorem Canonical.headChange {l} (hs : Canonical s) : Canonical (State.headChange l s) := by
  unfold State.headChange
  exact hs.hlEvt.skipTests.retrim.updLink
theorem Canonical.trainFails {l} (hs : Canonical s) : Canonical (State.trainFails l s) := hs.updLink
theorem Canonical.headFaults {l old new} (hs : Canonical s) : Canonical (State.headFaults l old new s) :=
  .ite (.linkGoesDown (.ite hs.hlEvt.fault hs)) (.ite hs.hlEvt.fault hs)
theorem Canonical.lostStrobes {l n} (hs : Canonical s) : Canonical (State.lostStrobes l n s) := .ite hs hs.updLink.skipTests.hlEvt
theorem Canonical.hearStatus {l rx} (hs : Canonical s) : Canonical (State.hearStatus l rx s) := .lostStrobes (.updLink (.ite hs.skipTests hs))
theorem Canonical.trainHead {l tr} (hs : Canonical s) : Canonical (State.trainHead l tr s) :=
  have h1 : Canonical _ := .loadHead (.sendCtl (.updLink (.hearStatus (.ite hs.headChange hs))))
  have h2 := h1.updLink.send
  .ite hs.badFrame.trainFails (.ite h1.trainFails (.ite h2.badFrame.trainFails (.ite h2.trainFails
    h2.hearStatus.updLink.hlEvt.endCond.retargetNow.headFaults)))
theorem Canonical.train {l tr} (hs : Canonical s) : Canonical (State.train l tr s) := by
  dsimp only [State.train]
  split; exacts [hs.updLink.trainFails, .ite hs.updLink.updLink.hlEvt hs.updLink.updLink.trainHead]
theorem Canonical.linkTraining {l tr} (hs : Canonical s) : Canonical (linkTraining l tr s) := .ite hs.train hs
theorem Canonical.longRetry {l} (hs : Canonical s) : Canonical (longRetry l s) := .ite hs.at_.updLink hs
theorem Canonical.headLinkDown {l cause} (hs : Canonical s) : Canonical (headLinkDown l cause s) :=
  .ite (by split; exacts [hs.linkGoesDown, hs.linkGoesDown, hs.at_.linkGoesDown, .ite hs hs.linkGoesDown]) hs
theorem Canonical.syncDiff {l d} (hs : Canonical s) : Canonical (State.syncDiff l d s) := .ite hs hs.updLink.fault
theorem Canonical.status {l rx} (hs : Canonical s) : Canonical (status l rx s) :=
  .ite hs (.ite (.flushTrims (.headFaults (.syncDiff (.ite hs.hearStatus.endCond hs.hearStatus)))) hs.badFrame)
theorem Canonical.hlTimeSync {l} (hs : Canonical s) : Canonical (hlTimeSync l s) := .ite hs.at_.updLink.send.flushTrims hs
theorem Canonical.configResend {l} (hs : Canonical s) : Canonical (configResend l s) := .ite (.foldl (fun _ _ hs => hs.send) hs.at_.updLink) hs

/-! ### Machine/Chain.lean -/

theorem Canonical.updChn {u} (hs : Canonical s) : Canonical (State.updChn s u) := hs.rest
theorem Canonical.setDisc {d} (hs : Canonical s) : Canonical (State.setDisc d s) := .ite hs hs.rest.raise
theorem Canonical.stepTrim (hs : Canonical s) : Canonical (s.stepTrim) := .ite hs hs.rest
theorem Canonical.trimBy {err} (hs : Canonical s) : Canonical (State.trimBy err s) := hs.rest.stepTrim
theorem Canonical.losePaths (hs : Canonical s) : Canonical (s.losePaths) := .ite hs.setDisc hs
theorem Canonical.sendOn {ports m} (hs : Canonical s) : Canonical (State.sendOn ports m s) := hs.updChn.send
theorem Canonical.sendPrl {m} (hs : Canonical s) : Canonical (State.sendPrl m s) := hs.sendOn
theorem Canonical.sendContended {dst} (hs : Canonical s) : Canonical (State.sendContended dst s) := hs.updChn.send
theorem Canonical.setPort {x u} (hs : Canonical s) : Canonical (State.setPort x u s) := hs.updPort.raiseIf
theorem Canonical.dropPort {x} (hs : Canonical s) : Canonical (State.dropPort x s) := hs.setPort
theorem Canonical.hearHello {x h} (hs : Canonical s) : Canonical (State.hearHello x h s) := .ite hs.setPort.updChn hs.setPort
theorem Canonical.portTraining {x tr} (hs : Canonical s) : Canonical (portTraining x tr s) :=
  .ite hs (.ite hs.dropPort (by split; exacts [.foldl (fun _ _ hs => hs.sendOn) hs.setPort.sendOn.hearHello,
                                  .setPort (.foldl (fun _ _ hs => hs.sendOn) hs.setPort.sendOn.hearHello)]))
theorem Canonical.helloSend {x} (hs : Canonical s) : Canonical (helloSend x s) := .ite hs.sendOn hs
theorem Canonical.setOl {l} (hs : Canonical s) : Canonical (State.setOl l s) := hs.updChn.raiseIf
theorem Canonical.leadRule (hs : Canonical s) : Canonical (s.leadRule) := .ite hs.updChn.fault (.ite hs.updChn.endCond hs.updChn)
theorem Canonical.enterRelay {cause} (hs : Canonical s) : Canonical (State.enterRelay cause s) := .ite hs.updChn hs.updChn.leadRule.raise
theorem Canonical.leaveRelay (hs : Canonical s) : Canonical (s.leaveRelay) := .ite hs.updChn.raise hs
theorem Canonical.measureChain (hs : Canonical s) : Canonical (s.measureChain) := hs.updChn.leadRule
theorem Canonical.dropChange {ch status detail} (hs : Canonical s) : Canonical (State.dropChange ch status detail s) :=
  .finish (.forAll (fun _ _ hs => hs.restoreCell) hs.rest)
theorem Canonical.cancelLocal {ep cause} (hs : Canonical s) : Canonical (State.cancelLocal ep cause s) :=
  .ite (.forAll (fun _ _ hs => hs.updLane) (.updChn (.foldl (fun _ _ hs => hs.dropChange) hs))) (.updChn (.foldl (fun _ _ hs => hs.dropChange) hs))
theorem Canonical.sayChain {m} (hs : Canonical s) : Canonical (State.sayChain m s) := .ite hs hs.sendPrl
theorem Canonical.cancelAll {ep cause} (hs : Canonical s) : Canonical (State.cancelAll ep cause s) := hs.sayChain.updChn.cancelLocal
theorem Canonical.cancelOne {src ep cause} (hs : Canonical s) : Canonical (State.cancelOne src ep cause s) := .ite hs.cancelLocal hs.sayChain
theorem Canonical.commitLocal {ep} (hs : Canonical s) : Canonical (State.commitLocal ep s) := .ite hs hs.updChn.rest
theorem Canonical.sendCommit {ep} (hs : Canonical s) : Canonical (State.sendCommit ep s) := by
  unfold State.sendCommit
  split; exacts [hs, .ite hs.updChn.sayChain.commitLocal hs]
theorem Canonical.takeAck {src ep r} (hs : Canonical s) : Canonical (State.takeAck src ep r s) := hs.updChn.sendCommit
theorem Canonical.prepareLocal {ep level} (hs : Canonical s) : Canonical (State.prepareLocal ep level s) :=
  .ite hs (.ite hs.updChn.rest.takeAck hs.updChn.rest.sendPrl)
theorem Canonical.registerHere {src ep levelKind level} (hs : Canonical s) : Canonical (State.registerHere src ep levelKind level s) :=
  .ite hs.cancelOne (.ite hs.cancelOne hs.updChn)
theorem Canonical.registerChange {ep levelKind level} (hs : Canonical s) : Canonical (State.registerChange ep levelKind level s) :=
  .ite hs (.ite hs.registerHere hs.sendPrl)
theorem Canonical.refuseChange {ch status detail} (hs : Canonical s) : Canonical (State.refuseChange ch status detail s) := hs.updChn.dropChange
theorem Canonical.missChange {ch} (hs : Canonical s) : Canonical (State.missChange ch s) :=
  .dropChange (.ite hs.updChn.flagLane.raise.updLane hs.updChn.flagLane.raise)
theorem Canonical.epochLocal {ep} (hs : Canonical s) : Canonical (State.epochLocal ep s) := by
  unfold State.epochLocal
  exact .updChn (.foldl (fun _ _ hs => by split; exacts [hs.dropChange, hs])
    (by split; exacts [.updChn (.foldl (fun _ _ hs => hs.missChange) hs),
          .raise (.ite (.updChn (.foldl (fun _ _ hs => hs.missChange) hs)) (.setOl (.updChn (.foldl (fun _ _ hs => hs.missChange) hs))))]))
theorem Canonical.deadlines {ep} (hs : Canonical s) : Canonical (State.deadlines ep s) :=
  .foldl (fun _ _ hs => hs.dropChange) (.ite (.foldl (fun _ _ hs => hs.cancelAll) hs) hs)
theorem Canonical.prepareAll {ep} (hs : Canonical s) : Canonical (State.prepareAll ep s) := .foldl (fun _ _ hs => hs.updChn.sayChain.prepareLocal) hs
theorem Canonical.loadTime {off} (hs : Canonical s) : Canonical (State.loadTime off s) := hs.rest
theorem Canonical.loadDue (hs : Canonical s) : Canonical (s.loadDue) := by
  unfold State.loadDue
  split; exacts [hs, .ite hs.updChn hs.loadTime.updChn.fault]
theorem Canonical.prlTimeSync {x hops time corr arrival} (hs : Canonical s) : Canonical (prlTimeSync x hops time corr arrival s) :=
  .ite hs (.ite (.updChn (.loadTime (.ite hs.at_.updPort.updChn.stepTrim hs.at_.updPort.updChn.setDisc))) (.ite (.updChn (.ite
    hs.at_.updPort.updChn.stepTrim hs.at_.updPort.updChn.setDisc)) (.updChn (.ite hs.at_.updPort.updChn.stepTrim hs.at_.updPort.updChn.setDisc))))
theorem Canonical.grantJoin {id req level} (hs : Canonical s) : Canonical (State.grantJoin id req level s) :=
  .ite hs.sendPrl hs.sendPrl.updChn.measureChain
theorem Canonical.join {id req level} (hs : Canonical s) : Canonical (join id req level s) := .ite (.ite hs.grantJoin hs.updChn) hs
theorem Canonical.joinReply {id addr} (hs : Canonical s) : Canonical (joinReply id addr s) :=
  .ite (.ite hs.updChn.finishAll hs.updChn.leadRule.finishAll) hs
theorem Canonical.joinTimeout (hs : Canonical s) : Canonical (joinTimeout s) := .ite hs.at_.updChn.measureChain.setDisc.finishAll hs
theorem Canonical.sendProbe (hs : Canonical s) : Canonical (s.sendProbe) := hs.updChn.sendPrl
theorem Canonical.probeSend (hs : Canonical s) : Canonical (probeSend s) := .ite hs.at_.updChn.measureChain.sendProbe hs
theorem Canonical.followProbe {b arrival} (hs : Canonical s) : Canonical (State.followProbe b arrival s) :=
  .ite hs.updChn.setOl.sendPrl hs.updChn.setOl.enterRelay
theorem Canonical.yieldTo {id} (hs : Canonical s) : Canonical (State.yieldTo id s) := by
  unfold State.yieldTo
  exact .updChn (.foldl (fun _ _ hs => hs.sendContended) (.foldl (fun _ _ hs => hs.cancelAll) hs))
theorem Canonical.probe {x b arrival} (hs : Canonical s) : Canonical (probe x b arrival s) := by
  dsimp only [Machine.probe]
  exact .ite hs (by split; exacts [hs.at_, .ite hs.at_.updChn.sendPrl hs.at_.enterRelay, .ite hs.at_.updChn.raise.sendPrl hs.at_,
                      .ite (.ite (.ite hs.at_.updChn hs.at_) (.ite hs.at_.yieldTo hs.at_)) hs.at_.followProbe])
theorem Canonical.probeReply {src b arrival} (hs : Canonical s) : Canonical (probeReply src b arrival s) := .ite hs.at_.updChn.measureChain hs
theorem Canonical.batonReq {src id} (hs : Canonical s) : Canonical (batonReq src id s) := .ite (.ite hs.sendContended hs.updChn) hs
theorem Canonical.contended (hs : Canonical s) : Canonical (s.contended) := by
  unfold State.contended
  split; exacts [hs, hs.finish.raise]
theorem Canonical.batonMove {id ep} (hs : Canonical s) : Canonical (batonMove id ep s) := .ite (.ite hs.updChn hs.updChn.contended) hs
theorem Canonical.moveLater (hs : Canonical s) : Canonical (s.moveLater) := by
  unfold State.moveLater
  split; exacts [hs, .ite hs.updChn.sendPrl hs]
theorem Canonical.grantBaton {ep} (hs : Canonical s) : Canonical (State.grantBaton ep s) := by
  unfold State.grantBaton
  split; exacts [hs, .sendPrl (.updChn (.foldl (fun _ _ hs => hs.sendContended) hs))]
theorem Canonical.handover {ep} (hs : Canonical s) : Canonical (State.handover ep s) := by
  unfold State.handover
  split; exacts [hs, .ite hs (.ite hs.updChn.leadRule.raise.setDisc.updChn.sendPrl.sendProbe.finishAll hs.updChn.leadRule.raise.contended)]
theorem Canonical.timeSyncLoss (hs : Canonical s) : Canonical (timeSyncLoss s) := .ite hs.at_.setDisc (.ite hs.at_.setDisc.updChn.sendPrl hs)
theorem Canonical.claim {id} (hs : Canonical s) : Canonical (claim id s) := .whenOn (fun _ hs => .ite hs.updChn hs) hs
theorem Canonical.claimTimer (hs : Canonical s) : Canonical (claimTimer s) := by
  unfold Machine.claimTimer
  split; exacts [hs, .ite hs (.ite hs.at_.updChn.measureChain.setDisc.raise hs.at_.updChn.sendPrl)]
theorem Canonical.ringOpens (hs : Canonical s) : Canonical (s.ringOpens) :=
  .foldl (fun _ _ hs => .ite hs.sendPrl.sendPrl (.ite hs.sendPrl.sendPrl hs.sendPrl)) hs.updChn.sendProbe
theorem Canonical.alert (hs : Canonical s) : Canonical (alert s) := .ite hs.ringOpens hs
theorem Canonical.portDown {x} (hs : Canonical s) : Canonical (portDown x s) :=
  .ite hs (.ite (.ite (.ringOpens (.losePaths (.ite hs.dropPort.updChn hs.dropPort))) (.sendPrl (.losePaths (.ite hs.dropPort.updChn hs.dropPort))))
    (.losePaths (.ite hs.dropPort.updChn hs.dropPort)))
theorem Canonical.register {src ep levelKind level} (hs : Canonical s) : Canonical (register src ep levelKind level s) := .ite hs.registerHere hs
theorem Canonical.prepare {ep level} (hs : Canonical s) : Canonical (prepare ep level s) := .ite hs.prepareLocal hs
theorem Canonical.ack {src ep r} (hs : Canonical s) : Canonical (ack src ep r s) := .ite hs.takeAck hs
theorem Canonical.commitEpoch {ep} (hs : Canonical s) : Canonical (commitEpoch ep s) := .ite hs.commitLocal hs
theorem Canonical.cancelEpoch {ep cause} (hs : Canonical s) : Canonical (cancelEpoch ep cause s) := .ite hs.cancelLocal hs
theorem Canonical.holderStep {ep} (hs : Canonical s) : Canonical (State.holderStep ep s) := by
  unfold State.holderStep
  extract_lets t u w v
  have ht : Canonical t := by unfold t; split; exacts [hs, hs.updChn.setOl]
  have hu : Canonical u := ht.prepareAll.moveLater.grantBaton
  have hv : Canonical v := .ite (.foldl (fun _ _ hs => hs.grantJoin) hu.updChn) hu
  exact .ite hv.sendPrl hv
theorem Canonical.epochBoundary {ep} (hs : Canonical s) : Canonical (epochBoundary ep s) :=
  .ite hs (.ite (.ite hs.at_.loadDue hs) (.loadDue (.ite hs.at_.epochLocal.deadlines.handover.holderStep hs.at_.epochLocal.deadlines.handover)))

/-! ### Machine/Images.lean -/

theorem Canonical.configLoad {q p} (hs : Canonical s) : Canonical (configLoad q p s) := .long (fun _ _ hs => hs.updLane) hs
theorem Canonical.configLoadDone {h bytes} (hs : Canonical s) : Canonical (configLoadDone h bytes s) := by
  unfold Machine.configLoadDone
  split; exacts [hs, by split; exacts [.ite hs (by split; exacts [hs.finish, hs.updLane.finish]), hs]]
theorem Canonical.writeCell {sec body} (hs : Canonical s) : Canonical (State.writeCell sec body s) := hs.retrim.writeShadow.endCond
theorem Canonical.addChange {h lane kind ep cells ready} (hs : Canonical s) : Canonical (State.addChange h lane kind ep cells ready s) :=
  hs.rest.registerChange
theorem Canonical.readyChange {h} (hs : Canonical s) : Canonical (State.readyChange h s) := hs.rest
theorem Canonical.configCommit {q p} (hs : Canonical s) : Canonical (configCommit q p s) := by
  dsimp only [Machine.configCommit]
  exact .long (fun _ _ hs => by split; exacts [hs.finish, .ite hs.addChange (by split; exacts [hs.addChange, hs.addChange.refuseChange])]) hs
theorem Canonical.commitRead {ch n img} (hs : Canonical s) : Canonical (State.commitRead ch n img s) := by
  unfold State.commitRead
  split; exacts [hs.refuseChange, by split; exacts [hs.refuseChange, .readyChange (.foldl (fun _ _ hs => by split; exacts [hs, hs.writeCell]) hs)]]
theorem Canonical.patchCell {sec copies} (hs : Canonical s) : Canonical (State.patchCell sec copies s) :=
  .ite (.updCell (by split; exacts [.ite hs.updCell.sendWaves hs, .writeShadow (.ite hs.updCell.sendWaves hs)]))
    (by split; exacts [.ite hs.updCell.sendWaves hs, .writeShadow (.ite hs.updCell.sendWaves hs)])
theorem Canonical.configPatch {q p} (hs : Canonical s) : Canonical (configPatch q p s) := by
  dsimp only [Machine.configPatch]
  exact .long (fun _ _ hs => by split; exacts [hs.finish, .ite hs.addChange (by split; exacts [hs.addChange, hs.addChange.refuseChange])]) hs
theorem Canonical.patchRead {ch n img} (hs : Canonical s) : Canonical (State.patchRead ch n img s) := by
  unfold State.patchRead
  split; exacts [hs.refuseChange, by split; exacts [hs.refuseChange, .readyChange (.foldl (fun _ _ hs => hs.patchCell) hs)]]
theorem Canonical.configReload {q p} (hs : Canonical s) : Canonical (configReload q p s) :=
  .long (fun _ _ hs => .finish (.foldl (fun _ _ hs => hs.updCell.endCond) hs)) hs
theorem Canonical.configRead {q p} (hs : Canonical s) : Canonical (configRead q p s) := .long (fun _ _ hs => hs.freeBuf.finish) hs
theorem Canonical.configDiscard {q p} (hs : Canonical s) : Canonical (configDiscard q p s) :=
  .immediate (fun _ hs => by dsimp only; exact hs.updLane) hs
theorem Canonical.alignSet {q p} (hs : Canonical s) : Canonical (alignSet q p s) := by
  unfold Machine.alignSet
  exact .long (fun _ _ hs => .addChange (by split; exacts [hs, hs.writeShadow])) hs
theorem Canonical.printStart {q p} (hs : Canonical s) : Canonical (printStart q p s) := .long (fun _ _ hs => hs.addChange) hs
theorem Canonical.printStop {q p} (hs : Canonical s) : Canonical (printStop q p s) := .long (fun _ _ hs => hs.addChange) hs
theorem Canonical.setSpeed {q p} (hs : Canonical s) : Canonical (setSpeed q p s) :=
  .immediate (fun _ hs => by dsimp only; exact hs.updLane) hs
theorem Canonical.setCeiling {q p} (hs : Canonical s) : Canonical (setCeiling q p s) :=
  .immediate (fun _ hs => .raise (by split; exacts [hs, hs.updPacer])) hs
theorem Canonical.windowArm {q p} (hs : Canonical s) : Canonical (windowArm q p s) :=
  .immediate (fun _ hs => by dsimp only; exact hs.updPacer) hs
theorem Canonical.tempsetLoad {q p} (hs : Canonical s) : Canonical (tempsetLoad q p s) := .long (fun _ _ hs => .ite hs.finish hs) hs
theorem Canonical.tempsetRead {o n addr len buf} (hs : Canonical s) : Canonical (State.tempsetRead o n addr len buf s) := by
  dsimp only [State.tempsetRead]
  split; exacts [hs.finish, .finish (.updLane (.foldl (fun _ _ hs => hs.updCell) hs))]
theorem Canonical.configCheck {c} (hs : Canonical s) : Canonical (configCheck c s) :=
  .ite hs (.ite (.ite (.faultBy (.ite (by split; exacts [hs, hs.updCell.raise.faultBy]) (.raise (.updCell
    (by split; exacts [hs, hs.updCell.raise.faultBy]))))) (.ite (by split; exacts [hs, hs.updCell.raise.faultBy]) (.raise (.updCell
    (by split; exacts [hs, hs.updCell.raise.faultBy]))))) (.endCond (.updCell (by split; exacts [hs, hs.updCell.raise.faultBy]))))

/-! ### Machine/Takeover.lean -/

theorem Canonical.spareTakeover {q p} (hs : Canonical s) : Canonical (spareTakeover q p s) := by
  unfold Machine.spareTakeover
  exact .long (fun _ _ hs => hs.beginTakeover) hs
theorem Canonical.spareReturn {q p} (hs : Canonical s) : Canonical (spareReturn q p s) := by
  unfold Machine.spareReturn
  exact .long (fun _ _ hs => hs.beginReturn) hs
theorem Canonical.selftestCtl {q p} (hs : Canonical s) : Canonical (selftestCtl q p s) :=
  .immediate (fun _ hs => .forAll (fun _ _ hs => hs.updTest) hs) hs
theorem Canonical.takeoverCopyDone {c ecc} (hs : Canonical s) : Canonical (takeoverCopyDone c ecc s) := by
  unfold Machine.takeoverCopyDone
  extract_lets x src dst t u v
  have ht : Canonical t := hs.blocksRead
  exact .ite (.updCell (.updBank { ht with store := Memory.wf_copyBank ht.store .. })) hs
theorem Canonical.takeoverFail {c} (hs : Canonical s) : Canonical (takeoverFail c s) := .ite hs.failTakeover hs
theorem Canonical.testInPlace {c} (hs : Canonical s) : Canonical (State.testInPlace c s) := hs.retrim.eraseBank.emptyData
theorem Canonical.selftestTick {q} (hs : Canonical s) : Canonical (selftestTick q s) :=
  .ite hs (by split; exacts [hs, .ite hs.testInPlace.updTest (by split; exacts [hs.beginTakeover.updTest, by split; exacts [hs, hs.testSpare]])])
theorem Canonical.bistResult {c pass} (hs : Canonical s) : Canonical (State.bistResult c pass s) := hs.updCell.cellEvt.raise
theorem Canonical.refillSet {c n v} (hs : Canonical s) : Canonical (State.refillSet c n v s) := .ite hs.updCell hs.updCell.fault
theorem Canonical.refillEnds {c} (hs : Canonical s) : Canonical (State.refillEnds c s) := by
  unfold State.refillEnds
  split; exacts [hs, .ite hs (.ite hs.updCell.endCond (.ite hs.beginReturn hs.updCell.endTest))]
theorem Canonical.refillImages {c imgs} (hs : Canonical s) : Canonical (State.refillImages c imgs s) := by
  unfold State.refillImages
  split; exacts [hs, .ite hs.updCell (.updCell (.foldl (fun _ _ hs => hs.updNozzle) hs.updCell))]
theorem Canonical.refillRead {c data} (hs : Canonical s) : Canonical (State.refillRead c data s) := by
  unfold State.refillRead
  split; exacts [hs, .ite hs.refillImages.refillEnds (by split; exacts [hs, .refillEnds (.updCell (by split; exacts [hs, hs.refillSet]))])]
theorem Canonical.testRefill {c} (hs : Canonical s) : Canonical (State.testRefill c s) := hs.updCell.beginRefill.refillEnds
theorem Canonical.standInFor {c k} (hs : Canonical s) : Canonical (State.standInFor c k s) :=
  .ite hs.updCell.updCell.settleClocks.swapLinks hs.updCell.updCell.settleClocks
theorem Canonical.selftestDone {c pass} (hs : Canonical s) : Canonical (selftestDone c pass s) :=
  have h1 := hs.bistResult.updCell.updTest
  have h2 : Canonical _ := .ite h1.settleSpares h1.settleSpares.fault
  have h3 := hs.bistResult.updCell.updTest.fault
  .ite hs (.ite (.serveWaiting (.ite h2 h2.sparesOut)) (.ite hs.bistResult.testRefill (.sparesOut (by split; exacts [.ite h3.standInFor h3, h3]))))
theorem Canonical.abandonTest {t} (hs : Canonical s) : Canonical (State.abandonTest t s) :=
  .ite (.ite hs.updCell.beginReturn hs.updCell) hs.updCell.updCell.updCell.updTest.settleSpares.serveWaiting
theorem Canonical.autoTakeover {c} (hs : Canonical s) : Canonical (State.autoTakeover c s) := by
  dsimp only [State.autoTakeover]
  split; exacts [hs.beginTakeover, .ite hs.updCell (.ite hs.sparesOut hs.updCell.abandonTest), hs.sparesOut]
theorem Canonical.rowRepair {b row} (hs : Canonical s) : Canonical (rowRepair b row s) :=
  .whenOn (fun _ hs => .ite hs (by split; exacts [hs.softRepair, .ite hs.updBank.fault.autoTakeover hs.updBank.fault])) hs

/-! ### Machine/Motors.lean -/

theorem Canonical.motorFault {n cause bitNo hold} (hs : Canonical s) : Canonical (State.motorFault n cause bitNo hold s) :=
  hs.updMotor.motorEvt.fault.finishAll
theorem Canonical.loopDuties {n} (hs : Canonical s) : Canonical (State.loopDuties n s) := .ite hs.updMotor hs.fresh.fresh.fresh.updMotor
theorem Canonical.beginDrive {n} (hs : Canonical s) : Canonical (State.beginDrive n s) := hs.loopDuties.updMotor
theorem Canonical.enterAlign {n} (hs : Canonical s) : Canonical (State.enterAlign n s) := hs.updMotor.beginDrive
theorem Canonical.endStop {n} (hs : Canonical s) : Canonical (State.endStop n s) :=
  .ite hs.updMotor.updMotor.finishAll (.ite hs.updMotor.enterAlign (.ite hs.updMotor.updMotor hs.updMotor.updMotor))
theorem Canonical.stopComplete {n} (hs : Canonical s) : Canonical (stopComplete n s) := .whenOn (fun _ hs => .ite hs.endStop hs) hs
theorem Canonical.brakeTimeout {n} (hs : Canonical s) : Canonical (brakeTimeout n s) := .whenOn (fun _ hs => .ite hs.motorFault hs) hs
theorem Canonical.motorBind {q p} (hs : Canonical s) : Canonical (motorBind q p s) :=
  .immediate (fun _ hs => by dsimp only; exact hs.updMotor) hs
theorem Canonical.motorEnable {q p} (hs : Canonical s) : Canonical (motorEnable q p s) := by
  unfold Machine.motorEnable
  exact .long (fun _ _ hs => .ite hs.finish (.ite hs.updMotor.finish hs.updMotor)) hs
theorem Canonical.motorStop {q p} (hs : Canonical s) : Canonical (motorStop q p s) := by
  unfold Machine.motorStop
  exact .long (fun _ _ hs => .ite hs.finishAll.finish (.ite hs.finishAll.updMotor (.ite hs.finishAll.updMotor.beginDrive (.ite (.endStop (.updMotor
    (.ite hs.finishAll.endCond hs.finishAll))) (.updMotor (.ite hs.finishAll.endCond hs.finishAll)))))) hs
theorem Canonical.motorCal {q p} (hs : Canonical s) : Canonical (motorCal q p s) := by
  unfold Machine.motorCal
  exact .long (fun _ _ hs => hs.updMotor) hs
theorem Canonical.motorCalDone {n a b} (hs : Canonical s) : Canonical (motorCalDone n a b s) := .whenOn (fun _ hs => .ite hs hs.updMotor.finishAll) hs
theorem Canonical.motorRuns {n ref} (hs : Canonical s) : Canonical (State.motorRuns n ref s) := hs.updMotor.finishAll
theorem Canonical.catch_ {n spd} (hs : Canonical s) : Canonical (State.catch_ n spd s) := hs.fresh.updMotor.beginDrive.motorRuns
theorem Canonical.motorStart {n spd handoff} (hs : Canonical s) : Canonical (motorStart n spd handoff s) :=
  .whenOn (fun _ hs => .ite hs (.ite (.ite hs.updMotor.enterAlign (.ite hs.updMotor.catch_ hs.updMotor.updMotor)) (.ite hs.motorRuns hs))) hs
theorem Canonical.startAttemptFail {n} (hs : Canonical s) : Canonical (startAttemptFail n s) :=
  .whenOn (fun _ hs => .ite (.ite hs.updMotor.motorFault hs.updMotor.updMotor) hs) hs
theorem Canonical.startRetryGap {n} (hs : Canonical s) : Canonical (startRetryGap n s) := .whenOn (fun _ hs => .ite hs.updMotor hs) hs
theorem Canonical.limitFlag {n i old new u} (hs : Canonical s) : Canonical (State.limitFlag n i old new u s) := .ite hs.updMotor.motorEvt hs.updMotor
theorem Canonical.refMoves {n} (hs : Canonical s) : Canonical (State.refMoves n s) :=
  .ite hs.limitFlag.updMotor (.ite hs.limitFlag.updMotor.updMotor hs.limitFlag.updMotor)
theorem Canonical.torqueMoves {n} (hs : Canonical s) : Canonical (State.torqueMoves n s) :=
  .ite hs.limitFlag.updMotor.fresh.updMotor hs.limitFlag.updMotor.updMotor
theorem Canonical.driveGates {n} (hs : Canonical s) : Canonical (State.driveGates n s) := hs.updMotor.send
theorem Canonical.integrate {n} (hs : Canonical s) : Canonical (State.integrate n s) := .ite hs hs.fresh.updMotor
theorem Canonical.reload {n} (hs : Canonical s) : Canonical (State.reload n s) :=
  .ite (.ite hs.updMotor hs) (.ite (.ite hs.updMotor.integrate.loopDuties hs.updMotor) hs)
theorem Canonical.overruns {n over_} (hs : Canonical s) : Canonical (State.overruns n over_ s) :=
  .ite hs (.ite hs.updMotor (.ite hs.updMotor.motorFault hs.updMotor))
theorem Canonical.periodEnds {n meas} (hs : Canonical s) : Canonical (State.periodEnds n meas s) :=
  .ite (.driveGates (.ite hs.overruns hs.overruns.reload)) (.ite hs.overruns hs.overruns.reload)
theorem Canonical.startMoves {n meas} (hs : Canonical s) : Canonical (State.startMoves n meas s) :=
  .ite hs.updMotor (.ite hs.updMotor (.ite (.ite (.motorRuns (.ite hs.updMotor.updMotor hs.updMotor)) (.ite hs.updMotor.updMotor hs.updMotor)) hs))
theorem Canonical.startStops {n} (hs : Canonical s) : Canonical (State.startStops n s) := .ite hs.updMotor hs
theorem Canonical.loopLimits {n meas} (hs : Canonical s) : Canonical (State.loopLimits n meas s) := .ite hs hs.limitFlag.limitFlag
theorem Canonical.reversalRefused {n} (hs : Canonical s) : Canonical (State.reversalRefused n s) := hs.limitFlag
theorem Canonical.loopPeriod {n meas} (hs : Canonical s) : Canonical (loopPeriod n meas s) := by
  refine .whenOn (fun s hs => ?_) hs
  extract_lets t m
  have ht : Canonical t := hs.updMotor
  split
  · exact ht
  · exact ht
  · exact ht
  · exact ht
  · exact .ite ht ht.updMotor
  · exact ht.reload.driveGates
  · exact ht.startMoves.periodEnds
  · exact ht.startMoves.periodEnds
  · exact ht.startMoves.periodEnds
  all_goals exact .periodEnds (.startStops (.reversalRefused (.ite ht.loopLimits.torqueMoves ht.loopLimits.refMoves)))

/-! ### Machine/Quality.lean -/

theorem Canonical.selectGate {g v} (hs : Canonical s) : Canonical (State.selectGate g v s) :=
  .ite hs (.ite (.updGate (.ite hs.updGate hs)) (.forAll (fun _ _ hs => hs.updCell) (.updGate (.updGate (.ite hs.updGate hs)))))
theorem Canonical.recalGate {g} (hs : Canonical s) : Canonical (State.recalGate g s) := .ite hs.updGate (.ite hs.updGate hs)
theorem Canonical.gatePulse {g rise fall} (hs : Canonical s) : Canonical (gatePulse g rise fall s) := .ite hs.at_.updGate hs.updGate
theorem Canonical.gateCalEnd {g} (hs : Canonical s) : Canonical (gateCalEnd g s) :=
  .ite (.ite hs.at_.updGate.gateEvt (.ite hs.at_.updGate.gateEvt.updGate hs.at_.updGate.gateEvt)) hs
theorem Canonical.dropHits {cells} (hs : Canonical s) : Canonical (State.dropHits cells s) := .forAll (fun _ _ hs => hs.updLink) hs
theorem Canonical.startRounds {h lane plane pattern rounds} (hs : Canonical s) : Canonical (State.startRounds h lane plane pattern rounds s) :=
  .spitOver (.forAll (fun _ _ hs => .ite hs.dropHits.updGate hs.dropHits.updGate.updGate.settleRounds) (.forAll (fun _ _ hs => hs.updCell) hs))
theorem Canonical.startPurge {h lane plane rounds} (hs : Canonical s) : Canonical (State.startPurge h lane plane rounds s) :=
  .purgeOver (.forAll (fun _ _ hs => hs.updCell) hs)
theorem Canonical.spitTest {q p} (hs : Canonical s) : Canonical (spitTest q p s) := by
  unfold Machine.spitTest
  exact .long (fun _ _ hs => .ite hs.startPurge hs.startRounds) hs
theorem Canonical.abortPurge {h c} (hs : Canonical s) : Canonical (State.abortPurge h c s) := by
  unfold State.abortPurge
  exact .updCell (.forAll (fun _ _ hs => hs.updLink) hs)
theorem Canonical.abortSpit {h} (hs : Canonical s) : Canonical (State.abortSpit h s) := by
  unfold State.abortSpit
  exact .finish (.forAll (fun _ _ hs => hs.abortPurge) (.forAll (fun _ _ hs => by split; exacts [hs, .ite hs hs.untest.dropHits.updGate]) hs))
theorem Canonical.servoCtl {q p} (hs : Canonical s) : Canonical (servoCtl q p s) :=
  .immediate (fun _ hs => .forAll (fun _ _ hs => hs.retarget) (.ite hs.updLane.skipTests hs.updLane)) hs
theorem Canonical.nozzleMark {q p} (hs : Canonical s) : Canonical (nozzleMark q p s) := .command (fun _ hs => hs.updCell) hs
theorem Canonical.servoHit {c n v vt} (hs : Canonical s) : Canonical (State.servoHit c n v vt s) := .ite hs (.ite hs.updCell hs.updNozzle)
theorem Canonical.detect {g c n hit} (hs : Canonical s) : Canonical (State.detect g c n hit s) :=
  .ite (.ite hs.updCell (.ite hs.updCell (.ite hs.updCell.updCell.gateEvt hs.updCell))) (.ite hs.updCell (.ite hs.updCell hs.updCell.updCell.gateEvt))
theorem Canonical.outcome {g t sp vt on} (hs : Canonical s) : Canonical (State.outcome g t sp vt on s) := by
  unfold State.outcome
  extract_lets _ _ _ hit s1 s2
  have h2 : Canonical s2 := hs.updGate.updCell
  clear_value s2
  split
  · exact h2.detect
  · extract_lets _ shown s3 _ _ s4 s5
    have h3 : Canonical s3 := .updGate (by dsimp only [shown]; split; exacts [h2, h2.fresh])
    clear_value s3
    have h4 : Canonical s4 := .ite h3.servoHit h3
    clear_value s4
    exact .detect (.ite h4.updLink h4)
theorem Canonical.testWindowClose {g} (hs : Canonical s) : Canonical (testWindowClose g s) := by
  dsimp only [Machine.testWindowClose]
  split; exacts [hs, .ite hs (.settleRounds (by split; exacts [hs.at_.updGate.outcome, hs.at_.updGate.updGate]))]
theorem Canonical.interpLink {l} (hs : Canonical s) : Canonical (State.interpLink l s) := .ite hs hs.updLink
theorem Canonical.tempInterp {c} (hs : Canonical s) : Canonical (tempInterp c s) :=
  .ite (.forAll (fun _ _ hs => hs.interpLink.retarget) hs.updCell) hs
theorem Canonical.tfStep {c} (hs : Canonical s) : Canonical (tfStep c s) := .ite (.forAll (fun _ _ hs => hs.updLink) hs) hs

/-! ### Machine/Relay.lean -/

theorem Canonical.relayError {inj x} (hs : Canonical s) : Canonical (State.relayError inj x s) :=
  .ite hs.updPort.updChn.raise.faultInj hs.updPort.updChn
theorem Canonical.relayed {x fr} (hs : Canonical s) : Canonical (State.relayed s x fr).2 := by
  unfold State.relayed
  dsimp only
  split; exacts [hs.fresh, hs]
theorem Canonical.forward {x fr} (hs : Canonical s) : Canonical (State.forward x fr s) := .ite hs hs.relayed.updPort.send
theorem Canonical.forwardBroken {x fr} (hs : Canonical s) : Canonical (State.forwardBroken x fr s) := .ite hs hs.relayed.send
theorem Canonical.fwBlock {off data} (hs : Canonical s) : Canonical (fwBlock off data s) := by
  unfold Machine.fwBlock
  split; exacts [hs, .ite hs.rest hs]
theorem Canonical.deliver {x fr} (hs : Canonical s) : Canonical (State.deliver x fr s) := by
  unfold State.deliver
  split; exacts [hs.prlTimeSync, hs.probe, hs.probeReply, hs.join, hs.joinReply, hs.register, hs.prepare, hs.ack, hs.commitEpoch, hs.cancelEpoch,
    hs.batonReq, hs.batonMove, hs.claim, .ite hs.fwBlock hs, hs.alert, hs]
theorem Canonical.hello {x h crcOk} (hs : Canonical s) : Canonical (hello x h crcOk s) :=
  .ite (.ite hs.relayError.injDone (.ite hs.hearHello hs.relayError)) hs
theorem Canonical.prlFrame {x frame codeOk} (hs : Canonical s) : Canonical (prlFrame x frame codeOk s) :=
  .ite (.ite hs.sendOn (.ite hs hs.relayError)) (.ite hs (.ite (.relayError (.ite hs.forwardBroken hs)) (.ite hs (.ite (.ite hs.deliver hs) (.ite hs
    (.ite (.deliver (.updChn (.ite hs hs.forward))) (.ite hs hs.forward)))))))
theorem Canonical.chainStatus {q p} (hs : Canonical s) : Canonical (chainStatus q p s) := .immediate (fun _ hs => hs.freeBuf) hs
theorem Canonical.chainJoin {q p} (hs : Canonical s) : Canonical (chainJoin q p s) := by
  unfold Machine.chainJoin
  exact .long (fun _ _ hs => hs.updChn) hs
theorem Canonical.batonRequest {q p} (hs : Canonical s) : Canonical (batonRequest q p s) :=
  .long (fun _ _ hs => .ite hs.finish (.ite hs.contended hs.sendPrl)) hs
theorem Canonical.relayOnly {q p} (hs : Canonical s) : Canonical (relayOnly q p s) :=
  .immediate (fun _ hs => .ite hs.enterRelay (.ite hs.leaveRelay hs)) hs
theorem Canonical.levelEnable {q p} (hs : Canonical s) : Canonical (levelEnable q p s) := by
  unfold Machine.levelEnable
  exact .long (fun _ _ hs => .ite (.ite hs.setOl.finish hs.finish) hs.rest.registerChange) hs

/-! ### Machine/Heat.lean -/

theorem Canonical.endTakeovers {k} (hs : Canonical s) : Canonical (State.endTakeovers k s) := .forAll (fun _ _ hs => hs.failTakeover) hs
theorem Canonical.shutQuad {k head} (hs : Canonical s) : Canonical (State.shutQuad k head s) :=
  .ite hs.updQuad (.stopQuad (.skipTests (.endTakeovers (by split; exacts [hs.updQuad, hs.updQuad.finish]))))
theorem Canonical.shed {keep} (hs : Canonical s) : Canonical (State.shed keep s) :=
  .forAll (fun _ _ hs => hs.setDomain) (.forAll (fun _ _ hs => hs.quadOff) hs)
theorem Canonical.deviceStop {d} (hs : Canonical s) : Canonical (State.deviceStop d s) := .rest (.shed (.ite hs.rest.fault.rest hs.fault))
theorem Canonical.pinActs {n old new} (hs : Canonical s) : Canonical (State.pinActs n old new s) :=
  .ite hs (.ite hs.updPin.raise.fault.shutQuad (.ite hs.updPin.raise.fault (.ite hs.updPin.raise.endCond hs.updPin.raise)))
theorem Canonical.dieActs {d old new} (hs : Canonical s) : Canonical (State.dieActs d old new s) :=
  .ite hs (.ite (.ite (.deviceStop (.forAll (fun _ _ hs => hs.shutQuad) hs.updDie.raise.fault)) (.forAll (fun _ _ hs => hs.shutQuad)
    hs.updDie.raise.fault)) (.ite hs.updDie.raise.fault (.ite hs.updDie.raise.endCond hs.updDie.raise)))
theorem Canonical.brokenActs {inst old new} (hs : Canonical s) : Canonical (State.brokenActs inst old new s) := .ite hs.fault (.ite hs.endCond hs)
theorem Canonical.settleSensors (hs : Canonical s) : Canonical (s.settleSensors) := hs.setCause
theorem Canonical.dropPin {n} (hs : Canonical s) : Canonical (State.dropPin n s) := .ite hs.updPin.endCond hs.updPin.endCond.endCond
theorem Canonical.readPins {m} (hs : Canonical s) : Canonical (State.readPins m s) :=
  .forAll (fun _ _ hs => by split; exacts [hs, hs.updPin.brokenActs.pinActs]) (.forAll (fun _ _ hs => hs.dropPin) hs)
theorem Canonical.readDie {m} (hs : Canonical s) : Canonical (State.readDie m s) :=
  .forAll (fun _ _ hs => by split; exacts [hs, hs.updDie.brokenActs.dieActs]) hs
theorem Canonical.readZones (hs : Canonical s) : Canonical (s.readZones) := .forAll (fun _ _ hs => hs.updQuad) hs
theorem Canonical.ladderDown (hs : Canonical s) : Canonical (s.ladderDown) :=
  .forAll (fun _ _ hs => hs.updQuad) (.forAll (fun _ _ hs => .ite hs hs.updQuad) hs)
theorem Canonical.readGaps (hs : Canonical s) : Canonical (s.readGaps) :=
  .forAll (fun _ _ hs => .ite hs.updQuad.fault (.ite hs.updQuad.endCond hs.updQuad)) hs
theorem Canonical.ladderHold {k} (hs : Canonical s) : Canonical (ladderHold k s) := by
  dsimp only [Machine.ladderHold]
  split; exacts [hs, .ite hs.at_.updQuad.settleClocks hs]
theorem Canonical.readRequests (hs : Canonical s) : Canonical (s.readRequests) :=
  .forAll (fun _ _ hs => .ite (.ite hs.updTreq.raise hs) hs.updTreq) hs
theorem Canonical.graceExpiry {p} (hs : Canonical s) : Canonical (graceExpiry p s) := by
  dsimp only [Machine.graceExpiry]
  split; exacts [hs, .ite hs.at_.updPacer.updTreq.raise hs]
theorem Canonical.rstepExpiry {p} (hs : Canonical s) : Canonical (rstepExpiry p s) := .ite hs.at_.updTreq.raise hs
theorem Canonical.throttleRelease {p} (hs : Canonical s) : Canonical (throttleRelease p s) := by
  dsimp only [Machine.throttleRelease]
  split; exacts [hs, .ite hs.at_.updPacer.updTreq.raise hs]
theorem Canonical.readRails {m} (hs : Canonical s) : Canonical (State.readRails m s) :=
  have h1 : Canonical _ := .rest (.forAll (fun _ _ hs => .ite hs.fault.raise hs.faultInj) (.forAll (fun _ _ hs => hs.rest) (.forAll (fun _ _ hs =>
    hs.endCond) hs)))
  .ite h1 (.ite h1.rest h1.rest)
theorem Canonical.hkRoundStart (hs : Canonical s) : Canonical (hkRoundStart s) := .ite hs.rest hs
theorem Canonical.hkRoundEnd {m} (hs : Canonical s) : Canonical (hkRoundEnd m s) :=
  .ite (.ite hs.at_.rest.readRails.readPins.readDie.settleSensors
    hs.at_.rest.readRails.readPins.readDie.settleSensors.readZones.ladderDown.readGaps.settleClocks.readRequests) hs

/-! ### Machine/Faults.lean -/

theorem Canonical.setCore {i u} (hs : Canonical s) : Canonical (State.setCore i u s) := hs.rest
theorem Canonical.restartOps (hs : Canonical s) : Canonical (s.restartOps) :=
  .rest (.foldl (fun _ _ hs => .forAll (fun _ _ hs => hs.restoreCell) hs) hs)
theorem Canonical.coreFails {inj src i} (hs : Canonical s) : Canonical (State.coreFails inj src i s) :=
  .ite (.queuesGoOn (.rest (.setCore (.ite hs.faultBy.raise.setRstCause hs.faultBy)))) (.ite (.queuesGoOn (.raise (.restartOps (.setCore (.rest
    (.setCore (.ite hs.faultBy.raise.setRstCause hs.faultBy))))))) (.setCause (.fault (.rest (.setCore (.ite hs.faultBy.raise.setRstCause
    hs.faultBy))))))
theorem Canonical.watchdogExpiry {i} (hs : Canonical s) : Canonical (watchdogExpiry i s) := .ite hs.coreFails hs
theorem Canonical.lockstepMismatch {i} (hs : Canonical s) : Canonical (lockstepMismatch i s) := .ite hs.coreFails hs
theorem Canonical.standbyReloadDone (hs : Canonical s) : Canonical (standbyReloadDone s) := by
  unfold Machine.standbyReloadDone
  split; exacts [hs, .ite hs (.ite hs.setRstCause.finishAll.setCore.endCond.endCond.rest hs.setRstCause.finishAll.setCore)]
theorem Canonical.entryFails {c i} (hs : Canonical s) : Canonical (State.entryFails c i s) := .ite hs.updLink hs
theorem Canonical.rewriteTable {c off} (hs : Canonical s) : Canonical (State.rewriteTable c off s) :=
  .ite (.ite hs.beginRefill hs) (.ite (.ite hs.beginRefill hs) hs)
theorem Canonical.tableUe {k off} (hs : Canonical s) : Canonical (State.tableUe k off s) := by
  dsimp only [State.tableUe]
  split; exacts [by split; exacts [hs.updCell.cellEvt, hs.updCell.cellEvt.failTakeover],
                      .rewriteTable (.ite (.entryFails (.retrim (by split; exacts [hs.updCell.cellEvt, hs.updCell.cellEvt.failTakeover]))) (.retrim
    (by split; exacts [hs.updCell.cellEvt, hs.updCell.cellEvt.failTakeover])))]
theorem Canonical.meterLost {detail} (hs : Canonical s) : Canonical (State.meterLost detail s) := by
  unfold State.meterLost
  split; exacts [hs.updMeter, hs.updMeter, hs.rest]
theorem Canonical.faultReport {src cls inst detail t} (hs : Canonical s) : Canonical (faultReport src cls inst detail t s) :=
  .ite (by split; exacts [.ite hs.at_.faultBy.updCell hs.at_.faultBy, .ite hs.at_.faultBy.tableUe hs.at_.faultBy,
             .ite (.ite (.ite hs.at_.faultBy.lockstepMismatch hs.at_.faultBy) (.ite hs.at_.faultBy.meterLost hs.at_.faultBy)) hs.at_.faultBy,
    hs.at_.faultBy]) hs
theorem Canonical.recordWriteDone (hs : Canonical s) : Canonical (recordWriteDone s) := by
  dsimp only [Machine.recordWriteDone]
  exact .ite hs (by split; exacts [hs, by split; exacts [hs.rest, hs.rest.writeRec.rest]])
theorem Canonical.clearFaults (hs : Canonical s) : Canonical (s.clearFaults) := hs.rest
theorem Canonical.quietExpiry {src} (hs : Canonical s) : Canonical (quietExpiry src s) := .ite hs.at_.recover hs
theorem Canonical.clearPers {src} (hs : Canonical s) : Canonical (State.clearPers src s) := .ite hs.updSrc hs.updSrc.setCause
theorem Canonical.aliveToggle (hs : Canonical s) : Canonical (aliveToggle s) := .ite hs.at_.rest hs
theorem Canonical.armInject (hs : Canonical s) : Canonical (s.armInject) := by
  dsimp only [State.armInject]
  exact .ite hs.rest (by split; exacts [by split; exacts [hs.rest, hs.rest.updCell], .ite hs.rest.coreFails hs.rest, .ite hs.rest.coreFails hs.rest,
                                             hs.rest.faultBy.rest, hs.rest])
theorem Canonical.injectionEnd (hs : Canonical s) : Canonical (injectionEnd s) := by
  unfold Machine.injectionEnd
  split; exacts [hs, .ite hs.at_.endCond.rest hs]

/-! ### Machine/Fuses.lean -/

theorem Canonical.fuseRead {q p} (hs : Canonical s) : Canonical (fuseRead q p s) :=
  .immediate (fun s hs => by by_cases hl : bit s.fuse.rl (pnum p 8 1) = true <;> simp only [hl]; exacts [hs, hs.dma]) hs
theorem Canonical.endProg {status} (hs : Canonical s) : Canonical (State.endProg status s) := by
  unfold State.endProg
  split; exacts [hs, hs.rest.finish]
theorem Canonical.nextBit (hs : Canonical s) : Canonical (s.nextBit) := by
  unfold State.nextBit
  split; exacts [hs, .ite hs.endProg (.ite hs hs.endProg)]
theorem Canonical.startProg {p} (hs : Canonical s) : Canonical (State.startProg p s) := .ite hs.rest.nextBit hs.rest.endProg
theorem Canonical.fuseProgram {q p} (hs : Canonical s) : Canonical (fuseProgram q p s) := by
  unfold Machine.fuseProgram
  exact .long (fun _ _ hs => .ite hs.finish hs.startProg) hs
theorem Canonical.fuseLock {q p} (hs : Canonical s) : Canonical (fuseLock q p s) := by
  unfold Machine.fuseLock
  exact .long (fun _ _ hs => hs.startProg) hs
theorem Canonical.setProgBit {p b v} (hs : Canonical s) : Canonical (State.setProgBit p b v s) := .ite hs.rest hs.setFuse
theorem Canonical.fusePulseDone {ok} (hs : Canonical s) : Canonical (fusePulseDone ok s) := by
  unfold Machine.fusePulseDone
  split; exacts [hs, .ite hs (by split; exacts [hs.nextBit, .ite hs.setProgBit.rest.nextBit (.ite hs.rest hs.fresh.setProgBit.endProg)])]
theorem Canonical.exhaust (hs : Canonical s) : Canonical (s.exhaust) := hs.rest.raise.setCause
theorem Canonical.bootEpochProgram {ok} (hs : Canonical s) : Canonical (bootEpochProgram ok s) :=
  .ite hs (.ite hs.setFuse.rest (.ite hs.rest (.ite hs.fresh.setFuse.exhaust hs.fresh.setFuse.rest)))
theorem Canonical.meterRead {q p} (hs : Canonical s) : Canonical (meterRead q p s) := .immediate (fun _ hs => hs.dma) hs
theorem Canonical.closePeriod {l h wall} (hs : Canonical s) : Canonical (State.closePeriod l h wall s) := hs.updMeter.rest
theorem Canonical.periodClose {q p} (hs : Canonical s) : Canonical (periodClose q p s) := by
  unfold Machine.periodClose
  exact .long (fun _ _ hs => .ite hs.rest.raise.finish hs.closePeriod) hs
theorem Canonical.sealRecord (hs : Canonical s) : Canonical (sealRecord s) := by
  unfold Machine.sealRecord
  split; exacts [hs, .ite hs (.ite hs.updMeter.rest (.raise (.ite hs.updMeter.rest.raiseIf.finish hs.updMeter.rest.raiseIf.finish)))]
theorem Canonical.recordRead {q p} (hs : Canonical s) : Canonical (recordRead q p s) := .immediate (fun _ hs => by split; exacts [hs, hs.dma]) hs

/-! ### Machine/Firmware.lean -/

theorem Canonical.fwLoad {q p} (hs : Canonical s) : Canonical (fwLoad q p s) := by
  unfold Machine.fwLoad
  exact .long (fun _ _ hs => hs.rest) hs
theorem Canonical.imageArrived {i ok x} (hs : Canonical s) : Canonical (State.imageArrived i ok x s) :=
  .ite (.ite hs.raise.setCore.setCore hs.raise.setCore) (.ite hs.raise.setCore hs.raise.setCore)
theorem Canonical.fwLoadDone {h x} (hs : Canonical s) : Canonical (fwLoadDone h x s) :=
  .ite hs (by split; exacts [hs.rest.imageArrived.finish.queuesGoOn, .ite hs.rest.imageArrived.queuesGoOn hs, hs])
theorem Canonical.chainbootFetch (hs : Canonical s) : Canonical (chainbootFetch s) := .ite (by split; exacts [hs.at_.rest, hs.at_.rest.rest]) hs
theorem Canonical.startSwap {h} (hs : Canonical s) : Canonical (State.startSwap h s) := hs.rest
theorem Canonical.fwActivate {q p} (hs : Canonical s) : Canonical (fwActivate q p s) :=
  .long (fun _ _ hs => by split; exacts [hs, .ite hs.finish hs.startSwap]) hs
theorem Canonical.coreSwap {q p} (hs : Canonical s) : Canonical (coreSwap q p s) := .long (fun _ _ hs => hs.startSwap) hs
theorem Canonical.coreSwapDone (hs : Canonical s) : Canonical (coreSwapDone s) := by
  unfold Machine.coreSwapDone
  split; exacts [.ite hs.setCore.setCore.rest.raise.finish.queuesGoOn hs, hs]
theorem Canonical.fwInfo {q p} (hs : Canonical s) : Canonical (fwInfo q p s) := .immediate (fun _ hs => hs.freeBuf) hs

/-! ### Machine/Device.lean -/

theorem Canonical.bufferCmd {op lane0 rom states n q p} (hs : Canonical s) : Canonical (bufferCmd op lane0 rom states n q p s) :=
  .immediate (fun _ hs => hs.freeBuf) hs
theorem Canonical.identify {q p} (hs : Canonical s) : Canonical (identify q p s) := hs.bufferCmd
theorem Canonical.deviceStatus {q p} (hs : Canonical s) : Canonical (deviceStatus q p s) := hs.bufferCmd
theorem Canonical.laneStatus {q p} (hs : Canonical s) : Canonical (laneStatus q p s) := hs.bufferCmd
theorem Canonical.getLog {q p} (hs : Canonical s) : Canonical (getLog q p s) := .immediate (fun _ hs => hs.dma) hs
theorem Canonical.nop {q p} (hs : Canonical s) : Canonical (nop q p s) := .immediate (fun _ hs => hs) hs
theorem Canonical.handleQuery {q p} (hs : Canonical s) : Canonical (handleQuery q p s) := .immediate (fun _ hs => hs) hs
theorem Canonical.abortOp {q h} (hs : Canonical s) : Canonical (State.abortOp q h s).1 := by
  unfold State.abortOp
  split
  · exact hs
  · split
    · exact hs
    · split <;> dsimp only
      · exact hs.finish
      · exact Canonical.finish (s := { s with thn := { s.thn with fetch := none } }) hs.rest
      · exact hs.abortSpit
      · exact hs
theorem Canonical.abort {q p} (hs : Canonical s) : Canonical (abort q p s) := .immediate (fun _ hs => hs.abortOp) hs
theorem Canonical.moveQuads {m} (hs : Canonical s) : Canonical (State.moveQuads m s) :=
  .answer (.forAll (fun _ _ hs => .ite hs hs.updLane) (.forAll (fun _ _ hs => hs.updQuad) hs))
theorem Canonical.settleAssign (hs : Canonical s) : Canonical (s.settleAssign) := by
  unfold State.settleAssign
  split; exacts [hs, .ite hs.rest.answer.serveAll (.ite hs hs.rest.moveQuads.serveAll)]
theorem Canonical.quadAssign {q p} (hs : Canonical s) : Canonical (quadAssign q p s) :=
  .command (fun _ hs => .settleAssign (.rest (.forAll (fun _ _ hs => .ite hs.disableRing hs) hs))) hs
theorem Canonical.feedRestart {q p} (hs : Canonical s) : Canonical (feedRestart q p s) := .immediate (fun _ hs => hs.restartEngine) hs
theorem Canonical.faultClear {q p} (hs : Canonical s) : Canonical (faultClear q p s) := .immediate (fun _ hs => hs.clearFaults) hs

/-! ### Machine/Resets.lean -/

theorem Canonical.stopOp {o} (hs : Canonical s) : Canonical (State.stopOp o s) := by
  unfold State.stopOp
  split; exacts [.abortSpit (.foldl (fun _ _ hs => .forAll (fun _ _ hs => hs.restoreCell) hs) hs.rest), .rest (.foldl (fun _ _ hs => .forAll (fun _ _
    hs => hs.restoreCell) hs) hs.rest), .foldl (fun _ _ hs => .forAll (fun _ _ hs => hs.restoreCell) hs) hs.rest]
theorem Canonical.startReset {l issuer flr} (hs : Canonical s) : Canonical (State.startReset l issuer flr s) := by
  unfold State.startReset
  split
  · exact hs.updLane.updHost
  · extract_lets mine theirs s1 s2 s3 s4 s5 s6 printed cells s7 s8 busy s9 s10
    have h3 : Canonical s3 := .ite hs.rest.updHost.rest hs.rest.updHost
    have h5 : Canonical s5 := .foldl (fun _ _ hs => hs.finish.stopOp) (.foldl (fun _ _ hs => hs.stopOp) h3)
    have h6 : Canonical s6 := .forAll (fun _ _ hs => hs.updCell) h5
    have h8 : Canonical s8 := .forAll (fun _ _ hs => hs.limitLane) (.forAll (fun _ _ hs => hs.dropPrefetch) h6)
    have h10 : Canonical s10 := .forAll (fun _ _ hs => hs.abandonLane) h8.updLane
    exact .ite h10.laneStopped h10
theorem Canonical.laneResetCmd {q p} (hs : Canonical s) : Canonical (laneResetCmd q p s) := .command (fun _ hs => hs.startReset.settleAssign) hs
theorem Canonical.resetEntry {l released i} (hs : Canonical s) : Canonical (State.resetEntry l released i s) :=
  .ite hs.post (.ite hs.writeEntry hs.updHost)
theorem Canonical.resetEntries {l released is_} (hs : Canonical s) : Canonical (State.resetEntries l released is_ s) :=
  .foldl (fun _ _ hs => hs.resetEntry) hs
theorem Canonical.clearEvents {l} (hs : Canonical s) : Canonical (State.clearEvents l s) := by
  unfold State.clearEvents
  exact hs.rest.updHost
theorem Canonical.laneCleared {l} (hs : Canonical s) : Canonical (State.laneCleared l s) := by
  unfold State.laneCleared
  exact .updLane (.forAll (fun _ _ hs => hs.emptyData.updBank) (.forAll (fun _ _ hs => hs.updRing) hs))
theorem Canonical.zeroLengthReadDone {l ok} (hs : Canonical s) : Canonical (zeroLengthReadDone l ok s) := by
  unfold Machine.zeroLengthReadDone
  split; exacts [hs, .ite (.setRstCause (.laneCleared (.updHost (.clearEvents (.resetEntries (.ite hs hs.aer)))))) hs]
theorem Canonical.setVfs {en num} (hs : Canonical s) : Canonical (State.setVfs en num s) :=
  .settle (.settleAssign (.forAll (fun _ _ hs => hs.startReset) hs.rest))
theorem Canonical.numvfsWrite {en num} (hs : Canonical s) : Canonical (numvfsWrite en num s) := .ite hs.setVfs hs
theorem Canonical.flr {f} (hs : Canonical s) : Canonical (flr f s) :=
  .ite (.ite hs.updHost.startReset.setVfs.rest hs.updHost.startReset.settleAssign) hs
theorem Canonical.d3hotEntry {f} (hs : Canonical s) : Canonical (d3hotEntry f s) := .ite hs.updHost hs
theorem Canonical.d0Return {f} (hs : Canonical s) : Canonical (d0Return f s) := .ite hs.updHost.settleFn hs
theorem Canonical.pendAll (hs : Canonical s) : Canonical (s.pendAll) := .foldl (fun _ _ hs => hs.updHost) hs
theorem Canonical.busReset (hs : Canonical s) : Canonical (s.busReset) :=
  .pendAll (.rest (.feedClear hs.mapHost))
theorem Canonical.conventionalReset {cause} (hs : Canonical s) : Canonical (conventionalReset cause s) :=
  .ite (.ite hs.busReset.settleAssign.setRstCause hs.busReset.settleAssign.setRstCause.rest) hs
theorem Canonical.perstNDeassert {width} (hs : Canonical s) : Canonical (perstNDeassert width s) := .ite hs.rest hs
theorem Canonical.tapInstruction {code} (hs : Canonical s) : Canonical (tapInstruction code s) := .ite hs.rest hs

/-! ### Machine/Powerup.lean -/

theorem Canonical.upServices (hs : Canonical s) : Canonical (s.upServices) :=
  .forAll (fun _ _ hs => hs.updMotor) (.rest (.forAll (fun _ _ hs => hs.setDomain) hs))
theorem Canonical.bringUp {t0} (hs : Canonical s) : Canonical (State.bringUp t0 s) :=
  .forAll (fun _ _ hs => .forAll (fun _ _ hs => hs.quadUp) hs.at_) (.forAll (fun _ _ hs => hs.lsUp) hs.upServices.leaveRelay)
theorem Canonical.firstUp {t0} (hs : Canonical s) : Canonical (State.firstUp t0 s) := hs.bringUp.raiseIf
theorem Canonical.settleReady (hs : Canonical s) : Canonical (s.settleReady) := .ite (.endCond (.ite hs.rest.setRstCause hs.rest)) hs
theorem Canonical.coldState (hs : Canonical s) : Canonical (s.coldState) := by
  constructor <;> first | exact tabWf_nil | exact hs.hostMem
theorem Canonical.coldPowerUp {cause lock} (hs : Canonical s) : Canonical (coldPowerUp cause lock s) :=
  .ite hs (.ite (.firstUp (.ite hs.coldState.rest.exhaust hs.coldState.rest)) (.fault (.ite hs.coldState.rest.exhaust hs.coldState.rest)))
theorem Canonical.pllLockRetry {lock} (hs : Canonical s) : Canonical (pllLockRetry lock s) := .ite hs.firstUp hs
theorem Canonical.powerFail (hs : Canonical s) : Canonical (powerFail s) := .ite hs.shed.rest hs
theorem Canonical.prstNPulse {ns} (hs : Canonical s) : Canonical (prstNPulse ns s) := .ite hs (.ite hs.coldState (.ite hs.rest.coldState hs.rest))
theorem Canonical.rootPllUnlock (hs : Canonical s) : Canonical (rootPllUnlock s) :=
  .ite (.fault (.rest (.losePaths (.updChn (.forAll (fun _ _ hs => hs.dropPort) hs))))) hs
theorem Canonical.chnOff (hs : Canonical s) : Canonical (s.chnOff) := hs.rest
theorem Canonical.relockState (hs : Canonical s) : Canonical (s.relockState) := by
  unfold State.relockState
  exact { hs.coldState with
    quads := tabWf_tabMap _ (fun _ x => x.restarted) _ hs.quads
    host := tabWf_tabMap _ (fun _ h => { hostReset 0 with next := h.next, prSeq := h.prSeq }) _ hs.host
    cells := tabWf_tabMap _ s.keptService _ hs.cells
    gates := tabWf_tabMap _ (fun g x => { gateReset g with owner := x.owner, serve := x.serve, refused := x.refused }) _ hs.gates
    banks := tabWf_tabMap _ (fun k x => { bankReset k with
      eValid := x.eValid, eIsUe := x.eIsUe, eBlock := x.eBlock, lastRow := x.lastRow }) _ hs.banks }
theorem Canonical.relockRestart (hs : Canonical s) : Canonical (relockRestart s) := .ite hs.relockState.bringUp hs
theorem Canonical.quadCalEnd {k} (hs : Canonical s) : Canonical (quadCalEnd k s) := by
  unfold Machine.quadCalEnd
  split; exacts [.ite hs (.ite hs.at_.updQuad.gatesCalibrated.updQuad.settleClocks.settleReady (.settleCycle (.settleClocks (.forAll (fun _ _ hs =>
    hs.beginReturn) hs.at_.updQuad.gatesCalibrated.updQuad)))), hs]
theorem Canonical.refillCell {x imgs c} (hs : Canonical s) : Canonical (State.refillCell x imgs c s) := hs.retrim.admitCell
theorem Canonical.refillFails {k h} (hs : Canonical s) : Canonical (State.refillFails k h s) := by
  unfold State.refillFails
  split; exacts [hs.updQuad, hs.updQuad.finish]
theorem Canonical.refillQuad {k data} (hs : Canonical s) : Canonical (State.refillQuad k data s) := by
  unfold State.refillQuad
  split; exacts [.ite (.settleCycle (.updQuad (.forAll (fun _ _ hs => hs.refillCell) hs))) hs.refillFails, .settleCycle (.updQuad (.foldl (fun _ _ hs
    => hs.refillSet) hs)), hs]
theorem Canonical.commandReadDone {r data} (hs : Canonical s) : Canonical (commandReadDone r data s) := by
  unfold Machine.commandReadDone
  refine .ite hs ?_
  split
  · exact hs.refillQuad
  · exact hs.refillRead
  · split
    · exact hs
    · split; exacts [.ite hs hs.commitRead, .ite hs hs.patchRead, hs.tempsetRead, hs]
theorem Canonical.aerAt {f cause} (hs : Canonical s) : Canonical (State.aerAt f cause s) := by
  unfold State.aerAt
  split; exacts [hs, hs.aer]
theorem Canonical.hostReadError {r cause} (hs : Canonical s) : Canonical (hostReadError r cause s) := by
  unfold Machine.hostReadError
  refine .ite hs ?_
  split
  · split; exacts [.ite hs.aerAt.refillQuad hs, hs]
  · split; exacts [hs, .ite hs.aerAt.refillRead hs]
  · split
    · exact hs
    · dsimp only
      split
      exacts [hs.aer.finish, hs.aer.finish, .ite hs hs.aer.finish, .ite hs hs.aerAt.refuseChange, .ite hs hs.aerAt.refuseChange, hs]
theorem Canonical.domainDone {h} (hs : Canonical s) : Canonical (State.domainDone h s) := hs.setRstCause.finish
theorem Canonical.resetCore {i} (hs : Canonical s) : Canonical (State.resetCore i s) := .setRstCause (.setCore (.ite hs.setCore.raise hs))
theorem Canonical.cycleOff {d h} (hs : Canonical s) : Canonical (State.cycleOff d h s) := .ite hs.rest.rest.settleLsOff hs.rest.setDomain
theorem Canonical.chainReset (hs : Canonical s) : Canonical (s.chainReset) := by
  unfold State.chainReset
  extract_lets t
  have ht : Canonical t := .ite hs.endCond hs
  exact .raiseIf { ht.chnOff with pacers := tabWf_nil, encs := tabWf_nil, trigs := tabWf_nil }
theorem Canonical.domainGoes {d cycle force h} (hs : Canonical s) : Canonical (State.domainGoes d cycle force h s) := by
  unfold State.domainGoes
  extract_lets t
  have ht : Canonical t := .ite hs.resetCore (.ite (.ite hs.feedClear (.ite hs.feedStop hs)) (.ite { hs with motors := tabWf_nil }
    (.ite (.ite hs.chainReset hs.chainReset.leaveRelay) (.ite hs (.foldl (fun _ _ hs => hs.bankLogicReset) hs)))))
  exact .ite hs.updQuad.stopQuad (.ite ht.cycleOff (.ite ht ht.domainDone))
theorem Canonical.cycleOn {d h} (hs : Canonical s) : Canonical (State.cycleOn d h s) :=
  .ite hs.rest.setDomain (.domainDone (.ite (.forAll (fun _ _ hs => hs.updMotor) hs.rest.setDomain) (.ite hs.rest.setDomain.lsUp.settleStarts (.ite
    hs.rest.setDomain.leaveRelay hs.rest.setDomain))))
theorem Canonical.regulatorReady {d} (hs : Canonical s) : Canonical (regulatorReady d s) :=
  .ite (by split; exacts [.ite hs.quadStart hs, .ite hs.supplyReached hs]) (by split; exacts [.ite hs.cycleOn hs, hs])
theorem Canonical.domainCommand {cycle q p} (hs : Canonical s) : Canonical (domainCommand cycle q p s) := by
  unfold Machine.domainCommand
  exact .long (fun _ _ hs => .ite hs.domainGoes hs.finish) hs
theorem Canonical.domainReset {q p} (hs : Canonical s) : Canonical (domainReset q p s) := hs.domainCommand
theorem Canonical.domainCycle {q p} (hs : Canonical s) : Canonical (domainCycle q p s) := hs.domainCommand
theorem Canonical.discLocked {err} (hs : Canonical s) : Canonical (discLocked err s) := .ite (.ite hs.trimBy hs.trimBy.setDisc) hs
theorem Canonical.discUnlocked {err} (hs : Canonical s) : Canonical (discUnlocked err s) := .ite hs.trimBy.setDisc hs

/-! ### Machine/RegWrite.lean -/

theorem Canonical.putClkCtl {v} (hs : Canonical s) : Canonical (State.putClkCtl v s) := .rest (.ite hs hs.setDisc)
theorem Canonical.putGlb {a v} (hs : Canonical s) : Canonical (State.putGlb a v s) :=
  .ite hs.putClkCtl (.ite hs.rest (by split; exacts [hs.updQuad.requestQuad, hs.setDbgWin, hs.selectGate, hs.updBank, hs]))
theorem Canonical.putStat {f w v} (hs : Canonical s) : Canonical (State.putStat f w v s) := .settle (.rest (.ite hs hs.stray))
theorem Canonical.putEn {f w v} (hs : Canonical s) : Canonical (State.putEn f w v s) :=
  .settle (.foldl (fun _ _ hs => .ite hs.signal hs) (.rest (.ite hs hs.stray)))
theorem Canonical.putMap {src v} (hs : Canonical s) : Canonical (State.putMap src v s) := hs.rest.settle
theorem Canonical.putVec {f v off x} (hs : Canonical s) : Canonical (State.putVec f v off x s) := hs.updHost.settleFn
theorem Canonical.putEvt {f a v} (hs : Canonical s) : Canonical (State.putEvt f a v s) := by
  unfold State.putEvt
  split; exacts [hs.putStat, hs.putEn, .ite hs.putMap hs.stray, hs.putVec, .ite hs.updHost.drain.serveAll hs.updHost]
theorem Canonical.queueBell {f l off v unknown} (hs : Canonical s) : Canonical (State.queueBell f l off v unknown s) :=
  .ite hs (.ite hs.stray (.ite hs (.ite hs.updHost.serveAll hs.updHost.drain.serveAll)))
theorem Canonical.putInj {v} (hs : Canonical s) : Canonical (State.putInj v s) := .ite hs.rest.armInject hs.rest
theorem Canonical.putFlt {a v} (hs : Canonical s) : Canonical (State.putFlt a v s) :=
  .ite hs.rest (.ite hs.rest (.ite hs.putInj (.ite hs.rest (by split; exacts [.ite hs.updSrc.clearPers hs.updSrc, hs]))))
theorem Canonical.putHk {a v} (hs : Canonical s) : Canonical (State.putHk a v s) :=
  .ite hs.rest (.ite hs.rest (by split; exacts [hs.rest, hs.updPin, hs.updPin, hs.updPin, by split; exacts [hs.updPin, hs.updDie, hs]]))
theorem Canonical.realign {p} (hs : Canonical s) : Canonical (State.realign p s) := by
  unfold State.realign
  split; exacts [hs, hs.updPacer]
theorem Canonical.putRefCfg {p v} (hs : Canonical s) : Canonical (State.putRefCfg p v s) :=
  .ite (.ite hs.updPacer hs) (.ite (.realign (.updPacer (.ite hs.updPacer hs))) (.updPacer (.ite hs.updPacer hs)))
theorem Canonical.putPos {a v} (hs : Canonical s) : Canonical (State.putPos a v s) := by
  unfold State.putPos
  split; exacts [hs.updEnc, hs.updTrig, .ite hs.putRefCfg (.ite hs.updPacer hs), hs]
theorem Canonical.putPacer {a v} (hs : Canonical s) : Canonical (State.putPacer a v s) := by
  unfold State.putPacer
  split; exacts [.ite hs.updPacer (.ite (.ite hs.updPacer.realign hs.updPacer) hs), hs]
theorem Canonical.putChn {a v} (hs : Canonical s) : Canonical (State.putChn a v s) := .ite hs.updChn.leadRule hs
theorem Canonical.putMeter {a v} (hs : Canonical s) : Canonical (State.putMeter a v s) := by
  unfold State.putMeter
  split; exacts [by split; exacts [.ite hs hs.updMeter, hs], hs]
theorem Canonical.putRingCfg {f r v} (hs : Canonical s) : Canonical (State.putRingCfg f r v s) :=
  .ite hs.updRing.enableRing (.ite hs.updRing.disableRing hs.updRing)
theorem Canonical.putFeed {f a v} (hs : Canonical s) : Canonical (State.putFeed f a v s) :=
  .ite hs.updHost (.ite (.ite hs.stray (.ite hs.putRingCfg hs.updRing)) hs)
theorem Canonical.snapshot {c v} (hs : Canonical s) : Canonical (State.snapshot c v s) := by
  unfold State.snapshot
  exact hs.updCell
theorem Canonical.putLinkCtl {l v} (hs : Canonical s) : Canonical (State.putLinkCtl l v s) :=
  .ite (.linkGoesDown (.ite hs.updLink.sendCtl hs.updLink)) (.ite hs.updLink.sendCtl hs.updLink)
theorem Canonical.putLink {f l off locked v} (hs : Canonical s) : Canonical (State.putLink f l off locked v s) :=
  .ite hs.putLinkCtl (.ite hs.updLink (.ite hs.updLink hs))
theorem Canonical.putGate {g off v} (hs : Canonical s) : Canonical (State.putGate g off v s) :=
  .ite (.ite hs hs.updGate) (.ite (.ite (.recalGate (.ite hs hs.updGate)) (.ite hs hs.updGate)) (.ite hs.updGate hs))
theorem Canonical.putCell {f c a v} (hs : Canonical s) : Canonical (State.putCell f c a v s) :=
  .ite hs.updCell (.ite hs (.ite hs.updCell (.ite hs.snapshot (.ite (.ite hs.updCell hs) (.ite hs.updCell (.ite (.ite (.forAll (fun _ _ hs =>
    hs.retarget) hs.updCell) hs) (by split; exacts [hs.putLink, by split; exacts [hs, .ite hs.putGate hs], hs])))))))
theorem Canonical.regPut {f a v} (hs : Canonical s) : Canonical (State.regPut f a v s) := by
  unfold State.regPut
  generalize blockOf a = b
  cases b with
  | ringBell => exact .ite hs.feedDoorbell hs
  | mot => cases slotAt (a - 0x320000) 0 0x40 8; exacts [hs, hs.updMotor]
  | glb => exact hs.putGlb
  | queueBell => exact hs.queueBell
  | evt => exact hs.putEvt
  | flt => exact hs.putFlt
  | hk => exact hs.putHk
  | pos => exact hs.putPos
  | pacer => exact hs.putPacer
  | chn => exact hs.putChn
  | meter => exact hs.putMeter
  | feed => exact hs.putFeed
  | cell c => exact hs.putCell
  | fuse => exact hs
  | gap => exact hs

/-! ### Machine/Access.lean -/

theorem Canonical.hostReadPair {f a} (hs : Canonical s) : Canonical (State.hostReadPair f a s) := by
  unfold State.hostReadPair
  exact hs.updHost
theorem Canonical.hostReadReg {f a} (hs : Canonical s) : Canonical (State.hostReadReg f a s) := by
  unfold State.hostReadReg
  exact hs.updHost
theorem Canonical.perform {f x} (hs : Canonical s) : Canonical (State.perform f x s) :=
  .ite (by split; exacts [hs.updHost, hs.stray, hs.updHost, hs.stray, hs.stray, hs, hs, hs])
    (by split; exacts [hs.hostReadReg, hs.regPut, hs.hostReadPair, hs.regPut.regPut, hs.queueBell, hs.aer, hs.dbgReadNow, hs.dbgWriteNow])
theorem Canonical.access {f x} (hs : Canonical s) : Canonical (State.access f x s) := .ite hs (.ite hs.aer (.ite hs.updHost hs.perform))
theorem Canonical.write {f a v} (hs : Canonical s) : Canonical (State.write f a v s) := hs.access
theorem Canonical.completeHeld {f n} (hs : Canonical s) : Canonical (State.completeHeld f n s) := by
  induction n generalizing s with
  | zero => exact hs
  | succ n ih =>
    unfold State.completeHeld
    split
    · exact hs
    · exact .ite hs (ih hs.updHost.perform)
theorem Canonical.coreReadNow {i a wide} (hs : Canonical s) : Canonical (State.coreReadNow i a wide s) := by
  unfold State.coreReadNow
  exact hs.setCore
theorem Canonical.coreRead {i a wide} (hs : Canonical s) : Canonical (State.coreRead i a wide s) := .ite hs (.ite hs.setCore hs.coreReadNow)
theorem Canonical.completeCore {i n} (hs : Canonical s) : Canonical (State.completeCore i n s) := by
  induction n generalizing s with
  | zero => exact hs
  | succ n ih =>
    unfold State.completeCore
    split
    · exact hs
    · exact .ite hs (ih hs.setCore.coreReadNow)
theorem Canonical.hungAccessComplete {rq} (hs : Canonical s) : Canonical (hungAccessComplete rq s) := by
  unfold Machine.hungAccessComplete
  split; exacts [.ite hs.completeHeld hs, .ite hs.completeCore hs]
theorem Canonical.readBy {rq a wide} (hs : Canonical s) : Canonical (State.readBy rq a wide s) := by
  unfold State.readBy
  split; exacts [hs.access, hs.coreRead]
theorem Canonical.lowWordRead {rq a wide} (hs : Canonical s) : Canonical (lowWordRead rq a wide s) := hs.readBy
theorem Canonical.highWordRead {rq a} (hs : Canonical s) : Canonical (highWordRead rq a s) := hs.readBy
theorem Canonical.sqTail {f lane tail unknown} (hs : Canonical s) : Canonical (sqTail f lane tail unknown s) := hs.access
theorem Canonical.cqHead {f lane head} (hs : Canonical s) : Canonical (cqHead f lane head s) := hs.write
theorem Canonical.ringDoorbell {f r pidx} (hs : Canonical s) : Canonical (ringDoorbell f r pidx s) := hs.write
theorem Canonical.qpEnable {f} (hs : Canonical s) : Canonical (qpEnable f s) := hs.write
theorem Canonical.ringEnable {f v} (hs : Canonical s) : Canonical (ringEnable f v s) := hs.write
theorem Canonical.ringDisable {f v} (hs : Canonical s) : Canonical (ringDisable f v s) := hs.write
theorem Canonical.precEnable {f v} (hs : Canonical s) : Canonical (precEnable f v s) := hs.write
theorem Canonical.precDisable {f} (hs : Canonical s) : Canonical (precDisable f s) := hs.write
theorem Canonical.quadWrite {f k v d x} (hs : Canonical s) : Canonical (State.quadWrite f k v d x s) := hs.write
theorem Canonical.vsetWrite {f k code} (hs : Canonical s) : Canonical (vsetWrite f k code s) := hs.quadWrite
theorem Canonical.divreqWrite {f k code} (hs : Canonical s) : Canonical (divreqWrite f k code s) := hs.quadWrite
theorem Canonical.skipWrite {f k code} (hs : Canonical s) : Canonical (skipWrite f k code s) := hs.quadWrite
theorem Canonical.pcieClkmodeWrite {f common} (hs : Canonical s) : Canonical (pcieClkmodeWrite f common s) := hs.write
theorem Canonical.discEnWrite {f en} (hs : Canonical s) : Canonical (discEnWrite f en s) := hs.write
theorem Canonical.gateselWrite {f g v} (hs : Canonical s) : Canonical (gateselWrite f g v s) := hs.write
theorem Canonical.debugWindowRead {i off len ecc} (hs : Canonical s) : Canonical (debugWindowRead i off len ecc s) := hs.access
theorem Canonical.debugWindowWrite {i off data ecc} (hs : Canonical s) : Canonical (debugWindowWrite i off data ecc s) := hs.access
theorem Canonical.evtStatWrite {f w v} (hs : Canonical s) : Canonical (evtStatWrite f w v s) := hs.write
theorem Canonical.evtEnWrite {f w v} (hs : Canonical s) : Canonical (evtEnWrite f w v s) := hs.write
theorem Canonical.evtMapWrite {f src v} (hs : Canonical s) : Canonical (evtMapWrite f src v s) := hs.write
theorem Canonical.msixConditionClear {f c} (hs : Canonical s) : Canonical (msixConditionClear f c s) := by
  unfold Machine.msixConditionClear
  split; exacts [.ite hs.updHost.settleFn hs, .ite hs.updHost.settleFn hs, hs.write]
theorem Canonical.idxarm {f n} (hs : Canonical s) : Canonical (idxarm f n s) := hs.write
theorem Canonical.forceback {f p} (hs : Canonical s) : Canonical (forceback f p s) := hs.write
theorem Canonical.pvselSnapshot {f c v} (hs : Canonical s) : Canonical (pvselSnapshot f c v s) := hs.write
theorem Canonical.linkEnWrite {f l en} (hs : Canonical s) : Canonical (linkEnWrite f l en s) := hs.write
theorem Canonical.retrain {f l} (hs : Canonical s) : Canonical (retrain f l s) := hs.write
theorem Canonical.recal {f g} (hs : Canonical s) : Canonical (recal f g s) := hs.write
theorem Canonical.dutyCommit {f n dw} (hs : Canonical s) : Canonical (dutyCommit f n dw s) := hs.write
theorem Canonical.fltInjArm {f v} (hs : Canonical s) : Canonical (fltInjArm f v s) := hs.write
theorem Canonical.persClear {f src} (hs : Canonical s) : Canonical (persClear f src s) := hs.write
theorem Canonical.registerWrite {f a v} (hs : Canonical s) : Canonical (registerWrite f a v s) := by
  unfold Machine.registerWrite
  split; exacts [hs.write, hs.access]
theorem Canonical.completerAbort {f a size dir} (hs : Canonical s) : Canonical (completerAbort f a size dir s) := by
  unfold Machine.completerAbort
  split; exacts [hs.access, hs.access]
theorem Canonical.idle (hs : Canonical s) : Canonical (idle s) := .ite hs.rest hs

/-! ### Machine/Step.lean -/


/-! ### The step -/

/-- What an answer of the model leaves canonical: its next state, where it has one. -/
def NextCanonical (o : Host.Outcome State Fault Refusal) : Prop := ∀ t, o = .next t → Canonical t

theorem NextCanonical.next (hs : Canonical s) : NextCanonical (.next s) := fun _ h => Host.Outcome.next.inj h ▸ hs

/-- Every command keeps the canonical form. -/
theorem Canonical.exec (hs : Canonical s) (i : Instr) : NextCanonical (exec i s) := by
  cases i with
  | identify => exact .next hs.identify
  | getLog => exact .next hs.getLog
  | deviceStatus => exact .next hs.deviceStatus
  | nop => exact .next hs.nop
  | laneReset => exact .next hs.laneResetCmd
  | quadAssign => exact .next hs.quadAssign
  | laneStatus => exact .next hs.laneStatus
  | handleQuery => exact .next hs.handleQuery
  | abort => exact .next hs.abort
  | configLoad => exact .next hs.configLoad
  | configLoadDone => exact .next hs.configLoadDone
  | configCommit => exact .next hs.configCommit
  | configPatch => exact .next hs.configPatch
  | configReload => exact .next hs.configReload
  | configRead => exact .next hs.configRead
  | configDiscard => exact .next hs.configDiscard
  | printStart => exact .next hs.printStart
  | printStop => exact .next hs.printStop
  | setSpeed => exact .next hs.setSpeed
  | setCeiling => exact .next hs.setCeiling
  | windowArm => exact .next hs.windowArm
  | alignSet => exact .next hs.alignSet
  | spitTest => exact .next hs.spitTest
  | tempsetLoad => exact .next hs.tempsetLoad
  | nozzleMark => exact .next hs.nozzleMark
  | servoCtl => exact .next hs.servoCtl
  | motorBind => exact .next hs.motorBind
  | motorEnable => exact .next hs.motorEnable
  | motorStop => exact .next hs.motorStop
  | motorCal => exact .next hs.motorCal
  | chainStatus => exact .next hs.chainStatus
  | chainJoin => exact .next hs.chainJoin
  | batonRequest => exact .next hs.batonRequest
  | relayOnly => exact .next hs.relayOnly
  | levelEnable => exact .next hs.levelEnable
  | meterRead => exact .next hs.meterRead
  | periodClose => exact .next hs.periodClose
  | recordRead => exact .next hs.recordRead
  | fuseRead => exact .next hs.fuseRead
  | fuseProgram => exact .next hs.fuseProgram
  | fuseLock => exact .next hs.fuseLock
  | domainReset => exact .next hs.domainReset
  | domainCycle => exact .next hs.domainCycle
  | spareTakeover => exact .next hs.spareTakeover
  | spareReturn => exact .next hs.spareReturn
  | selftestCtl => exact .next hs.selftestCtl
  | feedRestart => exact .next hs.feedRestart
  | faultClear => exact .next hs.faultClear
  | fwLoad => exact .next hs.fwLoad
  | fwLoadDone => exact .next hs.fwLoadDone
  | fwActivate => exact .next hs.fwActivate
  | coreSwap => exact .next hs.coreSwap
  | fwInfo => exact .next hs.fwInfo
  | sqTail => exact .next hs.sqTail
  | cqHead => exact .next hs.cqHead
  | feedDoorbell => exact .next hs.ringDoorbell
  | qpEnable => exact .next hs.qpEnable
  | ringEnable => exact .next hs.ringEnable
  | ringDisable => exact .next hs.ringDisable
  | vsetWrite => exact .next hs.vsetWrite
  | divreqWrite => exact .next hs.divreqWrite
  | skipWrite => exact .next hs.skipWrite
  | pcieClkmodeWrite => exact .next hs.pcieClkmodeWrite
  | discEnWrite => exact .next hs.discEnWrite
  | debugWindowRead => exact .next hs.debugWindowRead
  | debugWindowWrite => exact .next hs.debugWindowWrite
  | evtStatWrite => exact .next hs.evtStatWrite
  | evtEnWrite => exact .next hs.evtEnWrite
  | evtMapWrite => exact .next hs.evtMapWrite
  | msixConditionClear => exact .next hs.msixConditionClear
  | lowWordRead => exact .next hs.lowWordRead
  | highWordRead => exact .next hs.highWordRead
  | idxarm => exact .next hs.idxarm
  | forceback => exact .next hs.forceback
  | pvselSnapshot => exact .next hs.pvselSnapshot
  | linkEnWrite => exact .next hs.linkEnWrite
  | retrain => exact .next hs.retrain
  | gateselWrite => exact .next hs.gateselWrite
  | recal => exact .next hs.recal
  | dutyCommit => exact .next hs.dutyCommit
  | fltInjArm => exact .next hs.fltInjArm
  | persClear => exact .next hs.persClear
  | precEnable => exact .next hs.precEnable
  | precDisable => exact .next hs.precDisable
  | registerWrite => exact .next hs.registerWrite
  | completerAbort => exact .next hs.completerAbort
  | hungAccessComplete => exact .next hs.hungAccessComplete
  | conventionalReset => exact .next hs.conventionalReset
  | flr => exact .next hs.flr
  | numvfsWrite => exact .next hs.numvfsWrite
  | d3hotEntry => exact .next hs.d3hotEntry
  | d0Return => exact .next hs.d0Return
  | hostReadError => exact .next hs.hostReadError
  | descriptorArrival => exact .next hs.descriptorArrival
  | channelStart => exact .next hs.channelStart
  | readCompletion => exact .next hs.readCompletion
  | burstAck => exact .next hs.burstAck.settleAssign
  | channelComplete => exact .next hs.channelComplete
  | busErrorStop => exact .next hs.busErrorStop.settleAssign
  | creditWindow => exact .next hs.creditWindow
  | scrubRead => exact .next hs.scrubRead
  | rowRepair => exact .next hs.rowRepair
  | configCheck => exact .next hs.configCheck
  | dataLineStart => exact .next hs.dataLineStart
  | dataLineProcessed => exact .next hs.dataLineProcessed
  | exchangeArrival => exact .next hs.exchangeArrival
  | takeoverFail => exact .next hs.takeoverFail
  | selftestTick => exact .next hs.selftestTick
  | selftestDone => exact .next hs.selftestDone
  | cellBoundaryTimer => exact .next hs.cellBoundaryTimer
  | encoderEdge => exact .next hs.encoderEdge
  | pairFault => exact .next hs.pairFault
  | index => exact .next hs.index
  | speedWindow => exact .next hs.speedWindow
  | still => exact .next hs.still
  | edgeLearn => exact .next hs.edgeLearn
  | edgeOverdue => exact .next hs.edgeOverdue
  | pacerLineBoundary => exact .next hs.pacerLineBoundary
  | pacerMark => exact .next hs.pacerMark
  | fillTimer => exact .next hs.fillTimer
  | strobeCommit => exact .next hs.strobeCommit
  | strobeRelease => exact .next hs.strobeRelease
  | strobeDrop => exact .next hs.strobeDrop
  | latchLoad => exact .next hs.latchLoad
  | llAck => exact .next hs.llAck
  | llAckTimeout => exact .next hs.llAckTimeout
  | referenceLoss => exact .next hs.referenceLoss
  | referenceRequalified => exact .next hs.referenceRequalified
  | drlim => exact .next hs.drlim
  | triggerEdge => exact .next hs.triggerEdge
  | productRecord => exact .next hs.productRecord
  | linkTraining => exact .next hs.linkTraining
  | longRetry => exact .next hs.longRetry
  | headLinkDown => exact .next hs.headLinkDown
  | status => exact .next hs.status
  | hlTimeSync => exact .next hs.hlTimeSync
  | configResend => exact .next hs.configResend
  | governorRelease => exact .next hs.governorRelease
  | gatePulse => exact .next hs.gatePulse
  | gateCalEnd => exact .next hs.gateCalEnd
  | testLine => exact .next hs.testLine
  | testWindowClose => exact .next hs.testWindowClose
  | tempInterp => exact .next hs.tempInterp
  | tfStep => exact .next hs.tfStep
  | quadCalEnd => exact .next hs.quadCalEnd
  | loopPeriod => exact .next hs.loopPeriod
  | motorStart => exact .next hs.motorStart
  | startAttemptFail => exact .next hs.startAttemptFail
  | startRetryGap => exact .next hs.startRetryGap
  | stopComplete => exact .next hs.stopComplete
  | brakeTimeout => exact .next hs.brakeTimeout
  | portTraining => exact .next hs.portTraining
  | portDown => exact .next hs.portDown
  | helloSend => exact .next hs.helloSend
  | hello => exact .next hs.hello
  | prlFrame => exact .next hs.prlFrame
  | prlTimeSync => exact .next hs.prlTimeSync
  | probeSend => exact .next hs.probeSend
  | probe => exact .next hs.probe
  | probeReply => exact .next hs.probeReply
  | join => exact .next hs.join
  | joinReply => exact .next hs.joinReply
  | joinTimeout => exact .next hs.joinTimeout
  | register => exact .next hs.register
  | prepare => exact .next hs.prepare
  | ack => exact .next hs.ack
  | commit => exact .next hs.commitEpoch
  | cancel => exact .next hs.cancelEpoch
  | epochBoundary => exact .next hs.epochBoundary
  | batonReq => exact .next hs.batonReq
  | batonMove => exact .next hs.batonMove
  | timeSyncLoss => exact .next hs.timeSyncLoss
  | claim => exact .next hs.claim
  | claimTimer => exact .next hs.claimTimer
  | fwBlock => exact .next hs.fwBlock
  | alert => exact .next hs.alert
  | discLocked => exact .next hs.discLocked
  | discUnlocked => exact .next hs.discUnlocked
  | hkRoundStart => exact .next hs.hkRoundStart
  | hkRoundEnd => exact .next hs.hkRoundEnd
  | graceExpiry => exact .next hs.graceExpiry
  | rstepExpiry => exact .next hs.rstepExpiry
  | throttleRelease => exact .next hs.throttleRelease
  | ladderHold => exact .next hs.ladderHold
  | coldPowerUp => exact .next hs.coldPowerUp
  | pllLockRetry => exact .next hs.pllLockRetry
  | powerFail => exact .next hs.powerFail
  | prstNPulse => exact .next hs.prstNPulse
  | rootPllUnlock => exact .next hs.rootPllUnlock
  | relockRestart => exact .next hs.relockRestart
  | tapInstruction => exact .next hs.tapInstruction
  | faultReport => exact .next hs.faultReport
  | recordWriteDone => exact .next hs.recordWriteDone
  | quietExpiry => exact .next hs.quietExpiry
  | watchdogExpiry => exact .next hs.watchdogExpiry
  | lockstepMismatch => exact .next hs.lockstepMismatch
  | standbyReloadDone => exact .next hs.standbyReloadDone
  | aliveToggle => exact .next hs.aliveToggle
  | bootEpochProgram => exact .next hs.bootEpochProgram
  | sealStep => exact .next hs.sealRecord
  | chainbootFetch => exact .next hs.chainbootFetch
  | regulatorReady => exact .next hs.regulatorReady
  | dividerChangeDone => exact .next hs.dividerChangeDone
  | pairFaultEnd => exact .next hs.pairFaultEnd
  | zeroLengthReadDone => exact .next hs.zeroLengthReadDone
  | commandReadDone => exact .next hs.commandReadDone
  | takeoverCopyDone => exact .next hs.takeoverCopyDone
  | coreSwapDone => exact .next hs.coreSwapDone
  | fusePulseDone => exact .next hs.fusePulseDone
  | motorCalDone => exact .next hs.motorCalDone
  | perstNDeassert => exact .next hs.perstNDeassert
  | injectionEnd => exact .next hs.injectionEnd

theorem Canonical.step (hs : Canonical s) : NextCanonical (step s) := by
  unfold Machine.step
  split
  · exact .next hs.idle
  · exact hs.rest.exec _

end

/-- Settles O58: the step is one command, and every operation that a command is built of keeps the canonical form. -/
theorem everyStepKeepsTheCanonicalForm : Obligations.EveryStepKeepsTheCanonicalForm := fun _ t hs ht => hs.step t ht

end Sys2Proof.Machine
end

section
/-! Pulses of PRST_N (R88, R89): short ones are ignored, long ones are a cold reset, and between the two a free value decides (log entry 4). -/

namespace Sys2Proof.Machine

section
variable {ns : Nat} {s : State}

theorem prstNPulse_short (h : ns < 1000) : prstNPulse ns s = s := if_pos (.inr h)

theorem prstNPulse_long (h : 10000 ≤ ns) (hp : s.glb.powered = true) : prstNPulse ns s = s.coldState := by
  have hn : ¬ns < 1000 := by omega
  simp [prstNPulse, hp, h, hn]

/-- What a pulse between the two limits leaves: nothing, or a cold reset, with one free value used where the part has power. -/
theorem prstNPulse_between (h : ns < 10000) :
    ({ prstNPulse ns s with free := s.free } : State) = s ∨ ({ prstNPulse ns s with free := s.free } : State) = s.coldState := by
  unfold prstNPulse
  split
  · exact .inl rfl
  · rw [if_neg (by omega)]
    dsimp only
    split
    · exact .inr rfl
    · exact .inl rfl

end

/-- Settles O53: by the length of the pulse, with what a cold reset leaves read off its definition. -/
theorem resetPulsesAreTimed : Obligations.ResetPulsesAreTimed := fun _ _ =>
  ⟨fun h => congrArg Host.Outcome.next (prstNPulse_short h), fun _ h => ⟨_, rfl, prstNPulse_between h⟩,
    fun h hp => ⟨congrArg Host.Outcome.next (prstNPulse_long h hp), rfl, rfl, rfl, rfl, rfl⟩⟩

end Sys2Proof.Machine
end

section
/-! Writes of GLB_CLKCTL (R57, R62): DISC moves only while the discipline is enabled, so clearing DISC_EN a second time leaves DISC as it stands. -/

namespace Sys2Proof.Machine

/-- With DISC_EN at 0 a change of the discipline state does nothing (R57). -/
theorem State.setDisc_disabled {s : State} (h : s.glb.discEn = false) (d : Disc) : s.setDisc d = s := by simp [State.setDisc, h]

/-- So a write of GLB_CLKCTL by the physical function, with DISC_EN at 0 already, leaves DISC. -/
theorem discEnWrite_disabled {s : State} (ha : Arrives 0 s) (h : s.glb.discEn = false) (b : Bool) : (discEnWrite 0 b s).glb.disc = s.glb.disc := by
  have hr : s.stoppedAt 0x124 = false := State.stoppedAt_of_runs (fun _ ht => nomatch ht)
  rw [discEnWrite, State.write, regAcc_aligned rfl, State.access_write ha (.inl rfl) hr]
  change (State.putClkCtl _ s).glb.disc = _
  unfold State.putClkCtl
  split
  · rfl
  · rw [State.setDisc_disabled h]

/-- A part with its host up that shows LOCKED while DISC_EN is 0. -/
def lockedWithoutEnable : State :=
  let g := State.reset.glb
  { State.reset with glb := { g with powered := true, clk := setBit g.clk dHOST true, linkUp := true, discEn := false, disc := .locked } }

theorem arrives_lockedWithoutEnable : Arrives 0 lockedWithoutEnable where
  reaches := by decide
  d0      := rfl
  free    := rfl

/-- Refutes O17: DISC_EN = 0 written where DISC_EN is 0 already, with DISC at LOCKED, leaves DISC at LOCKED and not at FREE. -/
theorem not_quadAndClockWrites : ¬ Obligations.QuadAndClockWrites := by
  intro h
  obtain ⟨-, -, -, -, -, -, -, -, hdisc, -⟩ := h 0 0 0 0 false lockedWithoutEnable
  obtain ⟨t, ht, -, hfree, -⟩ := hdisc arrives_lockedWithoutEnable
  cases ht
  have hkept := discEnWrite_disabled arrives_lockedWithoutEnable rfl false
  exact absurd (hkept.symm.trans (hfree rfl)) (by decide)

end Sys2Proof.Machine
end

section
/-! Quad clocks and supplies, and the limits of housekeeping (R66, R72, R473 to R476): settling the clocks moves nothing but the change in
flight and the wait for the supply of each quad, and the timers of housekeeping are updates of their request. -/

namespace Sys2Proof.Machine

/-! ### Settling the clocks (R66) -/

/-- t differs from s in nothing but the change in flight and the wait for the supply of its quads. -/
structure ClocksMove (s t : State) : Prop where
  rest : ({ t with quads := s.quads } : State) = s
  quad : ∀ j, ({ t.getQuad j with goDiv := (s.getQuad j).goDiv, vWait := (s.getQuad j).vWait } : Quad) = s.getQuad j

namespace ClocksMove

theorem refl (s : State) : ClocksMove s s := ⟨rfl, fun _ => rfl⟩

theorem trans {a b c : State} (h : ClocksMove a b) (k : ClocksMove b c) : ClocksMove a c where
  rest := by
    have := congrArg (fun x : State => ({ x with quads := a.quads } : State)) k.rest
    exact this.trans h.rest
  quad j := by
    have := congrArg (fun x : Quad => ({ x with goDiv := (a.getQuad j).goDiv, vWait := (a.getQuad j).vWait } : Quad)) (k.quad j)
    exact this.trans (h.quad j)

theorem updQuad (s : State) (k : Nat) {u : Quad → Quad}
    (hu : ∀ x, ({ u x with goDiv := x.goDiv, vWait := x.vWait } : Quad) = x) : ClocksMove s (s.updQuad k u) where
  rest := rfl
  quad j := by
    by_cases h : j = k
    · subst h
      simp [hu]
    · rw [State.getQuad_updQuad_ne _ _ _ _ h]

variable {s t : State}

theorem quads (h : ClocksMove s t) : ({ s with quads := t.quads } : State) = t :=
  (congrArg (fun x : State => ({ x with quads := t.quads } : State)) h.rest).symm

theorem glb (h : ClocksMove s t) : t.glb = s.glb := (congrArg State.glb h.rest :)
theorem lanes (h : ClocksMove s t) : t.lanes = s.lanes := (congrArg State.lanes h.rest :)
theorem cells (h : ClocksMove s t) : t.cells = s.cells := (congrArg State.cells h.rest :)
theorem meter (h : ClocksMove s t) : t.meter = s.meter := (congrArg State.meter h.rest :)

theorem samePlant {s₀ : State} (h : ClocksMove s t) (hs : ({ s₀ with quads := s.quads } : State) = s) :
    SamePlant { s₀ with quads := t.quads } t := by
  have : ({ s₀ with quads := t.quads } : State) = t :=
    (congrArg (fun x : State => ({ x with quads := t.quads } : State)) hs).trans h.quads
  rw [this]
  exact .refl t

section
variable (h : ClocksMove s t) (j : Nat)
include h

theorem divAct : (t.getQuad j).divAct = (s.getQuad j).divAct := (congrArg Quad.divAct (h.quad j) :)
theorem skipAct : (t.getQuad j).skipAct = (s.getQuad j).skipAct := (congrArg Quad.skipAct (h.quad j) :)
theorem vact : (t.getQuad j).vact = (s.getQuad j).vact := (congrArg Quad.vact (h.quad j) :)
theorem rung : (t.getQuad j).rung = (s.getQuad j).rung := (congrArg Quad.rung (h.quad j) :)
theorem coolFrom : (t.getQuad j).coolFrom = (s.getQuad j).coolFrom := (congrArg Quad.coolFrom (h.quad j) :)
theorem job : (t.getQuad j).job = (s.getQuad j).job := (congrArg Quad.job (h.quad j) :)
theorem calib : (t.getQuad j).calib = (s.getQuad j).calib := (congrArg Quad.calib (h.quad j) :)
theorem shutdown : (t.getQuad j).shutdown = (s.getQuad j).shutdown := (congrArg Quad.shutdown (h.quad j) :)

end

end ClocksMove

/-- Starting the changes that R66 lets start, and noting the supplies to wait for, is all that settling does. -/
theorem State.settleClocks_moves (s : State) : ClocksMove s s.settleClocks := by
  refine foldl_inv (ClocksMove s) _ (fun t e ht => ?_) _ s (.refl s)
  dsimp only
  refine (ht.trans ?_).trans (.updQuad _ _ (fun _ => rfl))
  split
  · exact .refl t
  · exact .updQuad _ _ (fun _ => rfl)

theorem State.settleStarts_none {s : State} (h : ∀ j g, (s.getQuad j).job ≠ .starting g) : s.settleStarts = s := by
  refine foldl_inv (· = s) _ (fun t k ht => ?_) _ s rfl
  subst ht
  split
  · next g hg => exact absurd hg (h k g)
  · rfl

/-- A divider change that ends beside no waiting quad takes effect, and others may start (R66). -/
theorem dividerChangeDone_eq {s : State} {k : Nat} {g : BitVec 2 × BitVec 3} (hf : s.fire = true) (hp : bit s.glb.pwr k = true)
    (hg : (s.getQuad k).goDiv = some g) (hj : ∀ j h, (s.getQuad j).job ≠ .starting h) : dividerChangeDone k s =
      (s.updQuad k (fun x => { x with divAct := g.1, skipAct := g.2, goDiv := none })).settleClocks := by
  unfold dividerChangeDone
  rw [hg]
  dsimp only
  rw [if_pos ⟨hf, hp⟩]
  refine State.settleStarts_none (fun j h => ?_)
  rw [(State.settleClocks_moves _).job j]
  by_cases hjk : j = k
  · subst hjk
    simpa using hj j h
  · rw [State.getQuad_updQuad_ne _ _ _ _ hjk]
    exact hj j h

theorem regulatorReady_running {s : State} {d : Nat} (hd : d < 68) (hf : s.fire = true) (hv : s.glb.failing = false)
    (hp : bit s.glb.pwr d = true) (hj : ∀ h, (s.getQuad d).job ≠ .ramping h) (hw : (s.getQuad d).vWait = true) :
    regulatorReady d s = s.supplyReached d := by
  unfold regulatorReady
  rw [if_pos hd]
  split
  · next h hh => exact absurd hh (hj h)
  · simp [hf, hv, hp, hw]

theorem ladderHold_eq {s : State} {k c : Nat} (ha : s.alive = true) (hc : (s.getQuad k).calib = true) (hr : (s.getQuad k).rung ≠ 0)
    (hq : s.quadHot k = false) (hf : (s.getQuad k).coolFrom = some c) : ladderHold k s =
      ((s.at_ (c + s.hk.hold.toNat * 10 * msTicks)).updQuad k (fun x => { x with
        rung := x.rung - 1, coolFrom := some (s.at_ (c + s.hk.hold.toNat * 10 * msTicks)).now })).settleClocks := by
  simp only [ladderHold, hf, ha, hc, hq, decide_eq_true hr, Bool.and_self, Bool.not_false, if_true]

/-! ### Print-rate requests (R475, R476) -/

/-- Moving chain time changes the time and nothing else. -/
theorem State.at_time (s : State) (t : Nat) : ∃ time, s.at_ t = { s with time := time } := by
  unfold State.at_
  split
  · exact ⟨_, rfl⟩
  · exact ⟨s.time, rfl⟩

theorem State.hk_raise (s : State) (src : Nat) : (s.raise src).hk = s.hk := by simp
theorem State.pacers_raise (s : State) (src : Nat) : (s.raise src).pacers = s.pacers := by simp
theorem State.getTreq_raise (s : State) (src p : Nat) : (s.raise src).getTreq p = s.getTreq p := by simp [State.getTreq]
theorem State.getPacer_raise (s : State) (src p : Nat) : (s.raise src).getPacer p = s.getPacer p := by simp [State.getPacer]
theorem State.getPacer_updTreq (s : State) (k p : Nat) (u : Treq → Treq) : (s.updTreq k u).getPacer p = s.getPacer p := rfl
theorem State.now_raise (s : State) (src : Nat) : (s.raise src).now = s.now := by simp [State.now]

section
variable {s : State} {p : Nat}

theorem graceExpiry_eq {c : Nat} {v : BitVec 24} {rest : List (Nat × BitVec 24)} (ha : s.alive = true) (hr : (s.getTreq p).req = true)
    (hd : (s.getTreq p).due = (c, v) :: rest) : graceExpiry p s =
      ((((s.at_ (c + s.hk.grace.toNat * msTicks)).updPacer p (fun x => { x with thr := v.setWidth 32 })).updTreq p
        (fun r => { r with enf := true, due := rest })).raise 369) := by
  simp [graceExpiry, hd, ha, hr]

theorem rstepExpiry_eq (ha : s.alive = true) (hr : (s.getTreq p).req = true) (ht : s.throttled p = true) : rstepExpiry p s =
      ((s.at_ ((s.getTreq p).asked + s.hk.rstep.toNat * msTicks)).updTreq p (fun r => { r with
        target := s.lowered (s.getTreq p).target.toNat, asked := (s.at_ ((s.getTreq p).asked + s.hk.rstep.toNat * msTicks)).now
        due := r.due ++ [((s.at_ ((s.getTreq p).asked + s.hk.rstep.toNat * msTicks)).now, s.lowered (s.getTreq p).target.toNat)] })).raise 368 := by
  obtain ⟨time, h⟩ := s.at_time ((s.getTreq p).asked + s.hk.rstep.toNat * msTicks)
  simp only [rstepExpiry, ha, hr, ht, Bool.and_self, if_true, h]
  rfl

theorem throttleRelease_eq {c : Nat} (ha : s.alive = true) (hr : (s.getTreq p).req = true) (ht : s.throttled p = false)
    (hc : (s.getTreq p).calmFrom = some c) : throttleRelease p s =
      ((((s.at_ (c + s.hk.hold.toNat * 10 * msTicks)).updPacer p (fun x => { x with thr := 0xFFFFFFFF })).updTreq p
        (fun r => { r with req := false, enf := false, due := [], calmFrom := none })).raise 368) := by
  simp [throttleRelease, hc, ha, hr, ht]

end

/-- Settles O38: each timer is an update of its request or its quad, then an event or a settling of the clocks, which keep the rest. -/
theorem heatLowersTheRate : Obligations.HeatLowersTheRate := by
  intro s ha
  refine ⟨fun p hr => ⟨fun c v rest hd => ?_, fun ht => ?_, fun c ht hc => ?_⟩, fun k c hcal hrung hq hf => ?_,
    fun k hf hp g hg hj => ?_, fun d hd hf hv hp hj hw => ?_⟩
  · obtain ⟨time, h⟩ := s.at_time (c + s.hk.grace.toNat * msTicks)
    refine ⟨_, congrArg Host.Outcome.next (graceExpiry_eq ha hr hd), ?_⟩
    rw [h, State.getTreq_raise, State.getPacer_raise, State.getPacer_updTreq, State.hk_raise, State.pacers_raise]
    exact ⟨State.getTreq_updTreq .., State.getPacer_updPacer .., (State.raise_stat_self · (by decide)), samePlant_raise ..⟩
  · obtain ⟨time, h⟩ := s.at_time ((s.getTreq p.val).asked + s.hk.rstep.toNat * msTicks)
    refine ⟨_, congrArg Host.Outcome.next (rstepExpiry_eq ha hr ht), ?_⟩
    rw [h, State.getTreq_raise, State.hk_raise, State.now_raise]
    exact ⟨State.getTreq_updTreq .., (State.raise_stat_self · (by decide)), samePlant_raise ..⟩
  · obtain ⟨time, h⟩ := s.at_time (c + s.hk.hold.toNat * 10 * msTicks)
    refine ⟨_, congrArg Host.Outcome.next (throttleRelease_eq ha hr ht hc), ?_⟩
    rw [h, State.getTreq_raise, State.getPacer_raise, State.getPacer_updTreq, State.hk_raise, State.pacers_raise]
    exact ⟨State.getTreq_updTreq .., congrArg Pacer.thr (State.getPacer_updPacer ..), samePlant_raise ..⟩
  · obtain ⟨time, h⟩ := s.at_time (c + s.hk.hold.toNat * 10 * msTicks)
    refine ⟨_, congrArg Host.Outcome.next (ladderHold_eq ha hcal hrung hq hf), ?_⟩
    rw [h]
    have hm := State.settleClocks_moves (({ s with time := time } : State).updQuad k.val (fun x => { x with
      rung := x.rung - 1, coolFrom := some time.toNat }))
    exact ⟨(hm.rung k).trans (congrArg Quad.rung (State.getQuad_updQuad ..)),
      (hm.coolFrom k).trans ((congrArg Quad.coolFrom (State.getQuad_updQuad ..)).trans (congrArg (some ∘ State.now) hm.rest).symm), hm.samePlant rfl⟩
  · have hm := State.settleClocks_moves (s.updQuad k.val (fun x => { x with divAct := g.1, skipAct := g.2, goDiv := none }))
    exact ⟨_, congrArg Host.Outcome.next (dividerChangeDone_eq hf hp hg hj), hm.samePlant rfl,
      (hm.divAct k).trans (congrArg Quad.divAct (State.getQuad_updQuad ..)), (hm.skipAct k).trans (congrArg Quad.skipAct (State.getQuad_updQuad ..))⟩
  · have hm := State.settleClocks_moves (s.updQuad d.val (fun x => { x with
      vact := BitVec.ofNat 5 (s.supplyFor d.val (s.targetOf d.val).1 (s.targetOf d.val).2), vWait := false }))
    exact ⟨_, congrArg Host.Outcome.next (regulatorReady_running hd hf hv hp hj hw), hm.samePlant rfl,
      (hm.vact d).trans (congrArg Quad.vact (State.getQuad_updQuad ..))⟩

end Sys2Proof.Machine
end

section
/-! Discipline (R57 to R59) and the end of a quad's calibration (R83, R264, R396, R486). -/

namespace Sys2Proof.Machine

/-! ### The trim (R59; log entry 65) -/

/-- A measured error sets DISC_ERR and whether the unit is able to follow it, and moves the trim by a step at most, within ±100 ppm. -/
theorem State.trimBy_does (s : State) (err : Int) : ∃ trim at_ e,
    s.trimBy err = { s with glb := { s.glb with
      trim := trim, trimAt := at_, discErr := e, unable := decide (100000 < (s.glb.trim - err).natAbs) } } ∧
    (-100000 ≤ s.glb.trim → s.glb.trim ≤ 100000 → -100000 ≤ trim ∧ trim ≤ 100000 ∧
      (trim - s.glb.trim).natAbs ≤ 500 * (s.now - s.glb.trimAt) / (1000 * msTicks)) := by
  unfold State.trimBy State.stepTrim
  dsimp only
  split
  · exact ⟨s.glb.trim, s.glb.trimAt, _, rfl, fun hl hu => ⟨hl, hu, by simp⟩⟩
  · next hstep =>
    refine ⟨_, _, _, rfl, fun hl hu => ?_⟩
    have hlate : s.glb.trimAt + 2 * msTicks ≤ s.now := by
      simp only [Bool.or_eq_true, not_or, decide_eq_true_eq, not_lt] at hstep
      exact hstep.2
    have hone : 1 ≤ 500 * (s.now - s.glb.trimAt) / (1000 * msTicks) := by
      have hgap : 2 * msTicks ≤ s.now - s.glb.trimAt := Nat.le_sub_of_add_le' hlate
      exact (Nat.le_div_iff_mul_le (by decide)).mpr (by omega)
    refine ⟨by omega, by omega, le_trans ?_ hone⟩
    omega

/-- A change of the discipline state, where the discipline runs, is reported and keeps the time of the last step (R57, R58). -/
theorem State.setDisc_moves {s : State} {d : Disc} (he : s.glb.discEn = true) (hd : s.glb.disc ≠ d) (hr : s.disciplines = true) :
    s.setDisc d = ({ s with glb := { s.glb with disc := d } } : State).raise 317 := by
  simp [State.setDisc, he, hd, hr]

section
variable {s : State} {err : Int}

theorem State.trimBy_disciplines (s : State) (err : Int) : (s.trimBy err).disciplines = s.disciplines := by
  obtain ⟨_, _, _, h, -⟩ := s.trimBy_does err
  rw [h]
  rfl

theorem State.trimBy_frame (s : State) (err : Int) : s.trimBy err = { s with glb := (s.trimBy err).glb } ∧
    (s.trimBy err).glb.disc = s.glb.disc ∧ (s.trimBy err).glb.discEn = s.glb.discEn ∧ (∀ d, (s.trimBy err).on d = s.on d) := by
  obtain ⟨_, _, _, h, -⟩ := s.trimBy_does err
  rw [h]
  exact ⟨rfl, rfl, rfl, fun _ => rfl⟩

/-- A measurement that moves the discipline state: the trim has its step, the state is d, and event 317 says so. -/
theorem State.trimBy_setDisc {d : Disc} (he : s.glb.discEn = true) (hd : s.glb.disc ≠ d) (hr : s.disciplines = true) :
    SamePlant { s with glb := { (s.trimBy err).glb with disc := d } } ((s.trimBy err).setDisc d) ∧
      (s.on dHOST = true → bit ((s.trimBy err).setDisc d).evt.stat 317 = true) := by
  obtain ⟨hs, hdisc, hen, hon⟩ := s.trimBy_frame err
  rw [State.setDisc_moves (hen.trans he) (hdisc ▸ hd) ((s.trimBy_disciplines err).trans hr)]
  refine ⟨?_, fun h => State.raise_stat_self ((hon dHOST).trans h) (by decide)⟩
  rw [hs]
  exact samePlant_raise ..

theorem discLocked_eq (hf : s.fire = true) (hd : s.glb.disc = .acquire) (he : err.natAbs < 50) (hu : (s.trimBy err).glb.unable = false) :
    discLocked err s = (s.trimBy err).setDisc .locked := by
  simp [discLocked, hf, hd, he, hu]

theorem discUnlocked_eq (hf : s.fire = true) (hd : s.glb.disc = .locked) (he : 200 < err.natAbs) :
    discUnlocked err s = (s.trimBy err).setDisc .acquire := by
  simp [discUnlocked, hf, hd, he]

end

/-- What a measurement of the root clock's error does (R57 to R59). -/
theorem disciplineFollows {s : State} (err : Int) (hf : s.fire = true) (he : s.glb.discEn = true) :
    let g := (s.trimBy err).glb
    (s.glb.disc = .acquire → err.natAbs < 50 → g.unable = false → ∃ t, exec (.discLocked err) s = .next t ∧
      SamePlant { s with glb := { g with disc := .locked } } t ∧ (s.on dHOST = true → bit t.evt.stat 317 = true)) ∧
    (s.glb.disc = .locked → 200 < err.natAbs → ∃ t, exec (.discUnlocked err) s = .next t ∧
      SamePlant { s with glb := { g with disc := .acquire } } t ∧ (s.on dHOST = true → bit t.evt.stat 317 = true)) ∧
    (g.unable = true ↔ 100000 < (s.glb.trim - err).natAbs) ∧
    (-100000 ≤ s.glb.trim → s.glb.trim ≤ 100000 → -100000 ≤ g.trim ∧ g.trim ≤ 100000 ∧
      (g.trim - s.glb.trim).natAbs ≤ 500 * (s.now - s.glb.trimAt) / (1000 * msTicks)) := by
  refine ⟨fun hd hb hu => ⟨_, congrArg Host.Outcome.next (discLocked_eq hf hd hb hu), State.trimBy_setDisc he (by simp [hd]) (by simp [State.disciplines, hd])⟩,
    fun hd hb => ⟨_, congrArg Host.Outcome.next (discUnlocked_eq hf hd hb), State.trimBy_setDisc he (by simp [hd]) (by simp [State.disciplines, hd])⟩, ?_, ?_⟩
  all_goals obtain ⟨_, _, _, h, hrange⟩ := s.trimBy_does err
  · rw [h]
    exact decide_eq_true_iff
  · rw [h]
    exact hrange

/-! ### Loops over the quads, cells and links -/

/-- A loop that comes to a, where one step for a brings P about, and that keeps P and what P needs, ends in P. -/
theorem foldl_reaches {α β : Type} {I P : β → Prop} {u : β → α → β} {a : α} {l : List α} (ha : a ∈ l) (hI : ∀ t b, I t → I (u t b))
    (hP : ∀ t, I t → P (u t a)) (hk : ∀ t b, P t → P (u t b)) {s : β} (hs : I s) : P (l.foldl u s) := by
  induction l generalizing s with
  | nil => cases ha
  | cons b l ih =>
    rcases List.mem_cons.mp ha with rfl | hl
    · exact foldl_inv P u hk l _ (hP s hs)
    · exact ih hl (hI s b hs)

/-! ### The end of a calibration (R83 step 10, R396, R486) -/

/-- Quad k is calibrated, and its gates go back to work (R396, R486). -/
def State.calibrated (k : Nat) (s : State) : State :=
  let s := s.at_ ((s.getQuad k).upAt + 40 * msTicks)
  (s.updQuad k (fun x => { x with calib := true, rung := if s.quadHot k then 3 else 0 })).gatesCalibrated k

theorem State.gatesCalibrated_gates (k : Nat) (s : State) : ∃ gates, s.gatesCalibrated k = { s with gates := gates } := by
  refine foldl_inv (fun t => ∃ gates, t = { s with gates := gates }) _ (fun t g ht => ?_) _ s ⟨s.gates, rfl⟩
  split
  · obtain ⟨_, rfl⟩ := ht
    exact ⟨_, rfl⟩
  · exact ht

theorem State.calibrated_does (k : Nat) (s : State) :
    (s.calibrated k).getQuad k = { s.getQuad k with calib := true, rung := if s.quadHot k then 3 else 0 } ∧
    (∀ j, j ≠ k → (s.calibrated k).getQuad j = s.getQuad j) ∧ (s.calibrated k).glb = s.glb ∧ (s.calibrated k).cells = s.cells ∧
    (s.calibrated k).lanes = s.lanes ∧ (s.calibrated k).meter = s.meter := by
  obtain ⟨time, ht⟩ := s.at_time ((s.getQuad k).upAt + 40 * msTicks)
  unfold State.calibrated
  rw [ht]
  obtain ⟨gates, hg⟩ := State.gatesCalibrated_gates k
    (({ s with time := time } : State).updQuad k (fun x => { x with calib := true, rung := if s.quadHot k then 3 else 0 }))
  exact hg ▸ ⟨tabGet_tabPut_self .., fun j hj => tabGet_tabPut_ne _ _ _ _ _ hj, rfl, rfl, rfl, rfl⟩

/-- The cells of quad k whose work a spare has taken and whose return can begin (R264). -/
def State.toReturn (k : Nat) (s : State) : List Nat :=
  if k < 64 then (cellsOfQuad k).filter (fun c => decide ((s.getCell c).svc = .stoodIn) && !(s.getCell c).tkoActive) else []

theorem quadCalEnd_before {s : State} {k : Nat} {h : Option W32} (hon : s.on k = true) (hj : (s.getQuad k).job = .calibrating h)
    (hw : s.glb.hwrdy = false) : quadCalEnd k s = ((s.calibrated k).updQuad k (fun x => { x with job := .none })).settleClocks.settleReady := by
  obtain ⟨-, -, hg, -⟩ := s.calibrated_does k
  have hw' : (s.calibrated k).glb.hwrdy = false := hg ▸ hw
  unfold quadCalEnd
  rw [hj]
  dsimp only
  rw [if_neg (by simp [hon])]
  exact if_pos (congrArg not hw')

/-- What is left to be read again for quad k, and the returns of its cells begin (R86 steps 7 and 8). -/
def State.beginRestore (k : Nat) (h : Option W32) (image : Bool) (sets : List Nat) (s : State) : State :=
  let s := s.updQuad k (fun x => { x with job := .restoring h image sets })
  forAll (s.toReturn k) (fun s c => s.beginReturn c) s

theorem quadCalEnd_after {s : State} {k : Nat} {h : Option W32} (hon : s.on k = true) (hj : (s.getQuad k).job = .calibrating h)
    (hw : s.glb.hwrdy = true) : ∃ image sets, quadCalEnd k s = ((s.calibrated k).beginRestore k h image sets).settleClocks.settleCycle k := by
  obtain ⟨-, -, hg, -⟩ := s.calibrated_does k
  have hw' : (s.calibrated k).glb.hwrdy = true := hg ▸ hw
  unfold quadCalEnd
  rw [hj]
  dsimp only
  rw [if_neg (by simp [hon])]
  exact ⟨_, _, if_neg (by rw [← State.calibrated, hw']; decide)⟩

theorem State.beginReturns_cells (l : List Nat) (s : State) : ∃ cells, forAll l (fun s c => s.beginReturn c) s = { s with cells := cells } := by
  refine foldl_inv (fun t => ∃ cells, t = { s with cells := cells }) _ (fun t g ht => ?_) _ s ⟨s.cells, rfl⟩
  obtain ⟨_, rfl⟩ := ht
  exact ⟨_, rfl⟩

theorem State.beginRestore_eq (k : Nat) (h : Option W32) (image : Bool) (sets : List Nat) (s : State) : ∃ cells,
    s.beginRestore k h image sets = ({ s with cells := cells } : State).updQuad k (fun x => { x with job := .restoring h image sets }) :=
  State.beginReturns_cells ..

/-- The return of a cell from its spare has begun (R264). -/
structure Returning (spare : Nat) (x : Cell) : Prop where
  active : x.tkoActive = true
  step   : x.tkoStep = 1
  peer   : x.tkoPeer = spare
  server : x.server = spare

theorem State.beginReturn_self (c : Nat) (s : State) : Returning (s.getCell c).server ((s.beginReturn c).getCell c) := by
  unfold State.beginReturn
  rw [State.getCell_updCell]
  exact ⟨rfl, rfl, rfl, rfl⟩

theorem State.beginReturn_server (b c : Nat) (s : State) : ((s.beginReturn b).getCell c).server = (s.getCell c).server := by
  by_cases h : c = b
  · subst h
    exact (State.beginReturn_self c s).server
  · unfold State.beginReturn
    rw [State.getCell_updCell_ne _ _ _ _ h]

/-- A return that is among those that begin has begun in the end (R264). -/
theorem State.beginRestore_returns {k c : Nat} {h : Option W32} {image : Bool} {sets : List Nat} {s : State} (hk : k < 64)
    (hc : c ∈ cellsOfQuad k) (hs : (s.getCell c).svc = .stoodIn) (ha : (s.getCell c).tkoActive = false) :
    Returning (s.getCell c).server ((s.beginRestore k h image sets).getCell c) := by
  have hmem : c ∈ (s.updQuad k (fun x => { x with job := .restoring h image sets })).toReturn k := by
    rw [State.toReturn, if_pos hk, List.mem_filter]
    exact ⟨hc, by simpa [State.getCell] using ⟨hs, ha⟩⟩
  refine foldl_reaches (I := fun t : State => (t.getCell c).server = (s.getCell c).server)
    (P := fun t : State => Returning (s.getCell c).server (t.getCell c)) hmem (fun t b ht => ?_) (fun t ht => ?_) (fun t b ht => ?_) rfl
  · exact (State.beginReturn_server b c t).trans ht
  · exact ht ▸ State.beginReturn_self c t
  · by_cases hb : c = b
    · subst hb
      exact ht.server ▸ State.beginReturn_self c t
    · unfold State.beginReturn
      rwa [State.getCell_updCell_ne _ _ _ _ hb]

/-- A cycle waits for a return of a cell of its quad (R86 step 8). -/
theorem State.settleCycle_waits {k c : Nat} {s : State} (hk : k < 64) (hc : c ∈ cellsOfQuad k) (ha : (s.getCell c).tkoActive = true) :
    s.settleCycle k = s := by
  unfold State.settleCycle
  split
  · rw [if_pos ⟨hk, List.any_eq_true.mpr ⟨c, hc, ha⟩⟩]
  · rfl

theorem State.getQuad_setRstCause (s : State) (b k : Nat) : (s.setRstCause b).getQuad k = s.getQuad k := rfl

theorem State.getQuad_finish (s : State) (h : W32) (status : BitVec 16) (detail k : Nat) :
    (s.finish h status detail).getQuad k = s.getQuad k := by
  simp [State.getQuad]

/-- The end of a cycle changes neither the calibration nor the rung of its quad, nor a lane, nor the meters (R86 step 8). -/
theorem State.settleCycle_keeps (k : Nat) (s : State) : ((s.settleCycle k).getQuad k).calib = (s.getQuad k).calib ∧
    ((s.settleCycle k).getQuad k).rung = (s.getQuad k).rung ∧ (s.settleCycle k).lanes = s.lanes ∧ (s.settleCycle k).meter = s.meter := by
  unfold State.settleCycle
  split
  · next h hj =>
    split
    · exact ⟨rfl, rfl, rfl, rfl⟩
    · have hm := State.settleClocks_moves ((s.updQuad k (fun x => { x with job := .none, forced := false })).setRstCause 5)
      have hcal := hm.calib k
      have hrung := hm.rung k
      rw [State.getQuad_setRstCause, State.getQuad_updQuad] at hcal hrung
      cases h with
      | none => exact ⟨hcal, hrung, hm.lanes, hm.meter⟩
      | some g =>
        dsimp only
        rw [State.getQuad_finish]
        exact ⟨hcal, hrung, (by simp : _ = _).trans hm.lanes, (by simp : _ = _).trans hm.meter⟩
  · exact ⟨rfl, rfl, rfl, rfl⟩

/-- HWRDY comes once every quad with power is calibrated and every other is in latched shutdown (R83 step 11). -/
theorem State.settleReady_hwrdy {s : State}
    (h : ∀ j < 68, if bit s.glb.pwr j then (s.getQuad j).calib = true else (s.getQuad j).shutdown = true) :
    s.settleReady.glb.hwrdy = true := by
  have hall : (List.range 68).all (fun k => if bit s.glb.pwr k then (s.getQuad k).calib else (s.getQuad k).shutdown) = true := by
    rw [List.all_eq_true]
    intro j hj
    have := h j (List.mem_range.mp hj)
    split at this <;> simp_all
  unfold State.settleReady
  rw [hall]
  cases hw : s.glb.hwrdy with
  | true => exact hw
  | false =>
    simp only [Bool.not_false, Bool.and_self, if_true]
    split <;> simp [State.setRstCause]

theorem State.settleReady_keeps (s : State) : s.settleReady.quads = s.quads ∧ s.settleReady.lanes = s.lanes ∧ s.settleReady.meter = s.meter := by
  unfold State.settleReady
  split
  · dsimp only
    split <;> simp [State.setRstCause]
  · exact ⟨rfl, rfl, rfl⟩

theorem mem_cellsOfQuad {c : Nat} : c ∈ cellsOfQuad (quadOf c) := by
  simp only [cellsOfQuad, quadOf, List.mem_cons, List.not_mem_nil, or_false]
  omega

section
variable {s : State} {k : Nat} {h : Option W32}

/-- What the end of a calibration does before HWRDY (R83 steps 10 and 11). -/
theorem quadCalEnd_before_does (hon : s.on k = true) (hj : (s.getQuad k).job = .calibrating h) (hw : s.glb.hwrdy = false) :
    ((quadCalEnd k s).getQuad k).calib = true ∧ ((quadCalEnd k s).getQuad k).rung = (if s.quadHot k then 3 else 0) ∧
    (quadCalEnd k s).lanes = s.lanes ∧ (quadCalEnd k s).meter = s.meter ∧ ((quadCalEnd k s).getQuad k).job = .none ∧
      ((∀ j < 68, j ≠ k → if bit s.glb.pwr j then (s.getQuad j).calib = true else (s.getQuad j).shutdown = true) →
        (bit s.glb.pwr k = true ∨ (s.getQuad k).shutdown = true) → (quadCalEnd k s).glb.hwrdy = true) := by
  rw [quadCalEnd_before hon hj hw]
  obtain ⟨hck, hcj, hcg, -, hcl, hcm⟩ := s.calibrated_does k
  generalize hu : (s.calibrated k).updQuad k _ = u
  have huk : u.getQuad k = { s.getQuad k with calib := true, rung := if s.quadHot k then 3 else 0, job := .none } := by
    rw [← hu, State.getQuad_updQuad, hck]
  have huj : ∀ j, j ≠ k → u.getQuad j = s.getQuad j := fun j hjk => by
    rw [← hu, State.getQuad_updQuad_ne _ _ _ _ hjk, hcj j hjk]
  have hul : u.lanes = s.lanes := hu ▸ hcl
  have hum : u.meter = s.meter := hu ▸ hcm
  have hug : u.glb = s.glb := hu ▸ hcg
  have hm := u.settleClocks_moves
  obtain ⟨hq, hl, hmt⟩ := u.settleClocks.settleReady_keeps
  have hk : u.settleClocks.settleReady.getQuad k = u.settleClocks.getQuad k := congrArg (tabGet Machine.quadReset · k) hq
  refine ⟨?_, ?_, (hl.trans hm.lanes).trans hul, (hmt.trans hm.meter).trans hum, ?_, fun hothers hself => State.settleReady_hwrdy (fun j hj => ?_)⟩
  · rw [hk, hm.calib, huk]
  · rw [hk, hm.rung, huk]
  · rw [hk, hm.job, huk]
  · rw [hm.glb, hug, hm.calib, hm.shutdown]
    by_cases hjk : j = k
    · subst hjk
      rw [huk]
      split
      · rfl
      · next hp => exact hself.resolve_left hp
    · rw [huj j hjk]
      exact hothers j hj hjk

/-- What the end of a calibration does after HWRDY (R86 steps 7 and 8, R264). -/
theorem quadCalEnd_after_does (hon : s.on k = true) (hj : (s.getQuad k).job = .calibrating h) (hw : s.glb.hwrdy = true) :
    ((quadCalEnd k s).getQuad k).calib = true ∧ ((quadCalEnd k s).getQuad k).rung = (if s.quadHot k then 3 else 0) ∧
    (quadCalEnd k s).lanes = s.lanes ∧ (quadCalEnd k s).meter = s.meter ∧ (∀ c < 256, quadOf c = k → (s.getCell c).svc = .stoodIn →
      (s.getCell c).tkoActive = false → Returning (s.getCell c).server ((quadCalEnd k s).getCell c)) := by
  obtain ⟨image, sets, hend⟩ := quadCalEnd_after hon hj hw
  rw [hend]
  obtain ⟨hck, -, -, hcc, hcl, hcm⟩ := s.calibrated_does k
  obtain ⟨cells, hr⟩ := (s.calibrated k).beginRestore_eq k h image sets
  have hcell : ∀ c, (s.calibrated k).getCell c = s.getCell c := fun c => congrArg (tabGet cellReset · c) hcc
  have hret : ∀ c, k < 64 → c ∈ cellsOfQuad k → ((s.calibrated k).getCell c).svc = .stoodIn → ((s.calibrated k).getCell c).tkoActive = false →
      Returning ((s.calibrated k).getCell c).server (((s.calibrated k).beginRestore k h image sets).getCell c) :=
    fun c => State.beginRestore_returns
  simp only [hcell] at hret
  generalize (s.calibrated k).beginRestore k h image sets = u at hr hret
  have huk : u.getQuad k = { s.getQuad k with calib := true, rung := if s.quadHot k then 3 else 0, job := .restoring h image sets } := by
    rw [hr, State.getQuad_updQuad]
    exact congrArg (fun x : Quad => ({ x with job := .restoring h image sets } : Quad)) hck
  have hm := u.settleClocks_moves
  obtain ⟨hcal, hrung, hl, hmt⟩ := u.settleClocks.settleCycle_keeps k
  refine ⟨?_, ?_, (hl.trans hm.lanes).trans (hr ▸ hcl), (hmt.trans hm.meter).trans (hr ▸ hcm), fun c hc hck hs ha => ?_⟩
  · rw [hcal, hm.calib, huk]
  · rw [hrung, hm.rung, huk]
  · subst hck
    have hback := hret c (by simp only [quadOf]; omega) mem_cellsOfQuad hs ha
    have hcell : u.settleClocks.getCell c = u.getCell c := congrArg (tabGet cellReset · c) hm.cells
    rw [State.settleCycle_waits (by simp only [quadOf]; omega) mem_cellsOfQuad (hcell ▸ hback.active), hcell]
    exact hback

end

/-- Settles O51: a calibration ends before or after HWRDY, and a measured error moves the discipline state. -/
theorem quadsCalibrateAndDisciplineLocks : Obligations.QuadsCalibrateAndDisciplineLocks := by
  refine fun s => ⟨fun k h hon hj => ⟨_, rfl, ?_⟩, fun err hf he => disciplineFollows err hf he⟩
  cases hw : s.glb.hwrdy with
  | false =>
    obtain ⟨hcal, hrung, hl, hm, hjob, hready⟩ := quadCalEnd_before_does hon hj hw
    exact ⟨hcal, hrung, hl, hm, fun _ => ⟨hjob, hready⟩, nofun⟩
  | true =>
    obtain ⟨hcal, hrung, hl, hm, hret⟩ := quadCalEnd_after_does hon hj hw
    exact ⟨hcal, hrung, hl, hm, nofun, fun _ c hc hk hs ha => ⟨(hret c hc hk hs ha).active, (hret c hc hk hs ha).step, (hret c hc hk hs ha).peer⟩⟩

end Sys2Proof.Machine
end

section
/-! The start of a long command (R159, R164 to R166), and the takeovers, returns and domain commands that start so (R81, R85, R86, R263, R264). -/

namespace Sys2Proof.Machine

/-! ### A long command that passes its checks (R159, R166) -/

section
variable {q : Nat} {p : Packet} {s : State}

theorem State.nextHandle_takeHead (s : State) (q : Nat) : (s.takeHead q).nextHandle q = s.nextHandle q := by
  unfold State.nextHandle
  rw [getHost_takeHead]
  rfl

theorem State.noHandle_takeHead (s : State) (q : Nat) : (s.takeHead q).noHandle q = s.noHandle q := by
  unfold State.noHandle
  rw [getHost_takeHead]
  simp only [State.takeHead_frame]
  rfl

theorem State.held_takeHead (s : State) (q : Nat) (r : Res) : (s.takeHead q).held r = s.held r := by
  simp [State.held]

/-- What posting an entry that is not final does to its queue, on which nothing waits (R152, R153). -/
theorem State.post_accepted {b : State} {e : Entry} (hw : (b.getHost q).waiting = []) (he : (b.getHost q).en = true) (hc : b.corePosts = true)
    (hf : e.final = false) : (b.post q e).ops = b.ops ∧ ((b.post q e).getHost q).sqHead = (b.getHost q).sqHead ∧
      ((b.post q e).getHost q).next = (b.getHost q).next ∧ ((b.post q e).getHost q).unknown = (b.getHost q).unknown ∧
      ((b.post q e).getHost q).fence = (b.getHost q).fence ∧
      ((b.getHost q).room = true → (b.post q e).hostMem =
        hostWrite b.hostMem (hostKey q ((b.getHost q).cqBase.toNat + 16 * (b.getHost q).cqTail.toNat)) (entryBytes (b.getHost q) e)) ∧
      ((b.getHost q).room = false → (b.post q e).hostMem = b.hostMem ∧ ((b.post q e).getHost q).waiting = [e]) := by
  cases hr : (b.getHost q).room with
  | true =>
    obtain ⟨ha, hm, ho⟩ := State.post_room b q e hw he hr hc
    rw [hf] at ho
    exact ⟨ho, ha.sqHead, ha.next, ha.unknown, ha.fence, fun _ => hm, nofun⟩
  | false =>
    rw [State.post_full b q e hw (by rw [hr]; rfl), State.getHost_updHost]
    exact ⟨rfl, rfl, rfl, rfl, rfl, nofun, fun _ => ⟨rfl, congrArg (· ++ [e]) hw⟩⟩

/-- The state to which ACCEPTED is posted: the packet is taken, the counter has moved on, and the operation is outstanding (R166). -/
def State.withOp (q : Nat) (p : Packet) (kind : OpKind) (s : State) : State :=
  { (s.takeHead q).updHost q HostFn.nextUsed with ops := s.ops ++ [Machine.opOf q p kind s] }

theorem State.getHost_withOp (q : Nat) (p : Packet) (kind : OpKind) (s : State) :
    (s.withOp q p kind).getHost q = (s.getHost q).pastHead.nextUsed := by
  refine (tabGet_tabPut_self ..).trans ?_
  rw [getHost_takeHead]

theorem samePlant_withOp (q : Nat) (p : Packet) (kind : OpKind) (s : State) : SamePlant s (s.withOp q p kind) := by
  rw [samePlant_iff]
  simp [State.withOp]

/-- The entry ACCEPTED of a command (R159). -/
def acceptedEntry (q : Nat) (p : Packet) (s : State) : Entry :=
  { tag := p.tag, handle := s.nextHandle q, status := stAccepted, detail := 0, hv := true, final := false }

theorem State.accept_takeHead (q : Nat) (p : Packet) (kind : OpKind) (s : State) : (s.takeHead q).accept q p kind =
    (s.withOp q p kind).post q (acceptedEntry q p s) := by
  unfold State.accept
  rw [State.nextHandle_takeHead]
  rfl

/-- Accepting a command leaves its handle outstanding and posts ACCEPTED (R159, R166), and touches nothing else but the counter. -/
theorem State.accept_begun (ht : s.takes q = true) (kind : OpKind) :
    Begun q p kind s ((s.takeHead q).accept q p kind) ∧ SamePlant s ((s.takeHead q).accept q p kind) ∧
      (((s.takeHead q).accept q p kind).getHost q).unknown = (s.getHost q).unknown ∧
      (((s.takeHead q).accept q p kind).getHost q).fence = none := by
  obtain ⟨hen, hwait, hfence, -⟩ := State.takes_host ht
  have hg := State.getHost_withOp q p kind s
  have hpost : (s.withOp q p kind).corePosts = s.corePosts := rfl
  obtain ⟨hops, hhead, hnext, hunk, hfen, hput, hkept⟩ := State.post_accepted (b := s.withOp q p kind) (e := acceptedEntry q p s)
    (by rw [hg]; exact hwait) (by rw [hg]; exact hen) (hpost.trans (State.takes_posts ht)) rfl
  rw [hg] at hhead hnext hunk hfen hput hkept
  rw [State.accept_takeHead]
  refine ⟨⟨hops, hnext, ?_⟩, (samePlant_withOp ..).trans (samePlant_post ..), hunk, hfen.trans hfence⟩
  unfold Entered
  dsimp only
  rw [getHost_takeHead]
  exact ⟨hhead, hput, hkept⟩

end

section
variable {c : Cmd} {q : LaneIx} {p : Packet} {kind : State → OpKind} {start : W32 → State → State} {s : State} {fs : List Field}

/-- A long command that passes its checks and finds a handle starts on the state that ACCEPTED leaves. -/
theorem long_starts (h : Served c.lane0 c.rom c.early fs q p s c.target0) (hc : c.check q.val p (s.takeHead q.val) = none)
    (hn : s.noHandle q.val = none) : long c q p kind start s =
      (start (s.nextHandle q.val) ((s.takeHead q.val).accept q.val p (kind (s.takeHead q.val)))).serveAll q.val := by
  unfold long
  rw [command_runs h hc, State.noHandle_takeHead, hn, State.nextHandle_takeHead]

/-- A start that leaves queues, host memory and handles alone: the command has begun, on what the start makes of the plant. -/
theorem long_begins {k : OpKind} {a t : State} (h : Served c.lane0 c.rom c.early fs q p s c.target0)
    (hc : c.check q.val p (s.takeHead q.val) = none) (hn : s.noHandle q.val = none) (hk : kind (s.takeHead q.val) = k)
    (ha : (s.takeHead q.val).accept q.val p k = a) (hs : start (s.nextHandle q.val) a = t) (hq : (t.getHost q.val).Agrees (a.getHost q.val))
    (hm : t.hostMem = a.hostMem) (ho : t.ops = a.ops) : long c q p kind start s = t ∧ Begun q.val p k s t := by
  obtain ⟨⟨hops, hnext, hhead, hput, hwait⟩, -, hu, hf⟩ := State.accept_begun (p := p) h.takes k
  rw [ha] at hops hnext hhead hput hwait hu hf
  refine ⟨?_, ho.trans hops, hq.next.trans hnext, hq.sqHead.trans hhead, fun hr => hm.trans (hput hr),
    fun hr => ⟨hm.trans (hwait hr).1, hq.waiting.trans (hwait hr).2⟩⟩
  rw [long_starts h hc hn, hk, ha, hs]
  exact State.serveAll_none ((hq.unknown.trans hu).trans h.rows) (hq.fence.trans hf)

end

end Sys2Proof.Machine
end

section
/-! SPARE-TAKEOVER, SPARE-RETURN, DOMAIN-RESET and DOMAIN-CYCLE (R81, R85, R86, R168, R262 to R264). -/

namespace Sys2Proof.Machine

/-! ### The cells of a takeover and of a return (R263, R264) -/

theorem ClocksMove.getHost {s t : State} (h : ClocksMove s t) (q : Nat) : t.getHost q = s.getHost q :=
  congrArg (tabGet hostReset · q) (congrArg State.host h.rest :)

theorem agrees_setCause (s : State) (b : Nat) (on : Bool) (q : Nat) : ((s.setCause b on).getHost q).Agrees (s.getHost q) :=
  (agrees_raiseIf ..).trans (agrees_of_host rfl q)

/-- The start of a takeover touches no queue (R263). -/
theorem State.beginTakeover_quiet (c k : Nat) (s : State) : (∀ q, ((s.beginTakeover c k).getHost q).Agrees (s.getHost q)) ∧
    (s.beginTakeover c k).hostMem = s.hostMem ∧ (s.beginTakeover c k).ops = s.ops := by
  unfold State.beginTakeover
  dsimp only
  generalize hu : State.updCell (State.updCell s c _) k _ = u
  have hm := u.settleSpares.settleClocks_moves
  refine ⟨fun q => ?_, ?_, ?_⟩
  · rw [hm.getHost]
    exact (agrees_setCause ..).trans (agrees_of_host (hu ▸ rfl) q)
  · exact (congrArg State.hostMem hm.rest :).trans ((by simp [State.settleSpares] : u.settleSpares.hostMem = u.hostMem).trans (hu ▸ rfl))
  · exact (congrArg State.ops hm.rest :).trans ((by simp [State.settleSpares] : u.settleSpares.ops = u.ops).trans (hu ▸ rfl))

/-- The cells at the start of a takeover: the cell at step 1 with the spare as its peer, the spare COPYING for it (R263). -/
theorem State.beginTakeover_cells {c k : Nat} (s : State) (hk : k ≠ c) :
    ((s.beginTakeover c k).getCell c) = { s.getCell c with tkoActive := true, tkoStep := 1, tkoPeer := k, tkoBlocks := 0 } ∧
    ((s.beginTakeover c k).getCell k) = { s.getCell k with svc := .copying, server := c, tkoPeer := c } := by
  have hc : ∀ j, (s.beginTakeover c k).getCell j = ((s.updCell c (fun x => { x with tkoActive := true, tkoStep := 1, tkoPeer := k, tkoBlocks := 0 })).updCell k
      (fun y => { y with svc := .copying, server := c, tkoPeer := c })).getCell j := fun j =>
    congrArg (tabGet cellReset · j) ((State.settleClocks_moves _).cells.trans (by simp [State.settleSpares]))
  rw [hc, hc]
  refine ⟨?_, ?_⟩
  · rw [State.getCell_updCell_ne _ _ _ _ hk.symm, State.getCell_updCell]
  · rw [State.getCell_updCell, State.getCell_updCell_ne _ _ _ _ hk]

theorem SamePlant.cells {s t : State} (h : SamePlant s t) : t.cells = s.cells := (congrArg State.cells h :)
theorem SamePlant.lanes {s t : State} (h : SamePlant s t) : t.lanes = s.lanes := (congrArg State.lanes h :)
theorem SamePlant.glb {s t : State} (h : SamePlant s t) : t.glb = s.glb := (congrArg State.glb h :)
theorem SamePlant.getMotor {s t : State} (h : SamePlant s t) (n : Nat) : t.getMotor n = s.getMotor n :=
  congrArg (tabGet motorReset · n) (congrArg State.motors h :)

theorem SamePlant.updCell {s t : State} (h : SamePlant s t) (c : Nat) (u : Cell → Cell) : SamePlant (s.updCell c u) (t.updCell c u) := by
  rw [samePlant_iff] at h ⊢
  simp [State.updCell, State.setCell, State.getCell, h]

section
variable {q : LaneIx} {p : Packet} {s : State}

/-- SPARE-TAKEOVER of a cell in service by a spare that qualifies (R168, R262, R263). -/
theorem spareTakeover_does {k : Nat} (hn : s.noHandle q.val = none) (hs : InState none p s)
    (h : Served true false false [fMax p 8 2 255, ⟨10, 2, decide (pnum p 10 2 = 0xFFFF) || decide (256 ≤ pnum p 10 2 ∧ pnum p 10 2 < 272)⟩] q p s)
    (hk : s.spareFor (pnum p 8 2) (pnum p 10 2) = some k) (hsvc : (s.getCell (pnum p 8 2)).svc = .inService)
    (hc : s.held (.cell (pnum p 8 2)) = false) (hck : s.held (.cell k) = false) :
    ∃ a : State, spareTakeover q p s = a.beginTakeover (pnum p 8 2) k ∧
      Begun q.val p (.spareTakeover (pnum p 8 2) k) s (a.beginTakeover (pnum p 8 2) k) := by
  obtain ⟨hq, hm, ho⟩ := State.beginTakeover_quiet (pnum p 8 2) k ((s.takeHead q.val).accept q.val p (.spareTakeover (pnum p 8 2) k))
  unfold spareTakeover
  dsimp only
  rw [hk]
  refine ⟨_, long_begins h (served_check h (.inr hs) rfl rfl ?_ rfl) hn rfl rfl rfl (hq q.val) hm ho⟩
  have hsvc' : ((s.takeHead q.val).getCell (pnum p 8 2)).svc = .inService := hsvc
  dsimp only
  rw [hsvc', State.held_takeHead, State.held_takeHead, hc]
  exact hck

/-- SPARE-RETURN of a cell whose work a spare carries (R168, R264). -/
theorem spareReturn_does (hn : s.noHandle q.val = none) (hs : InState none p s) (h : Served true false false [fMax p 8 2 255] q p s)
    (hsvc : (s.getCell (pnum p 8 2)).svc = .stoodIn) (hon : s.on (quadOf (pnum p 8 2)) = true) (hpass : (s.getCell (pnum p 8 2)).passed = true)
    (hc : s.held (.cell (pnum p 8 2)) = false) (hsp : s.held (.cell (s.getCell (pnum p 8 2)).server) = false) :
    ∃ a : State, SamePlant s a ∧ spareReturn q p s = a.beginReturn (pnum p 8 2) ∧
      Begun q.val p (.spareReturn (pnum p 8 2) (s.getCell (pnum p 8 2)).server) s (a.beginReturn (pnum p 8 2)) := by
  obtain ⟨-, hplant, -⟩ := State.accept_begun (p := p) h.takes (.spareReturn (pnum p 8 2) (s.getCell (pnum p 8 2)).server)
  unfold spareReturn
  generalize hA : (s.takeHead q.val).accept q.val p (.spareReturn (pnum p 8 2) (s.getCell (pnum p 8 2)).server) = A at hplant
  refine ⟨A, hplant, long_begins (t := A.beginReturn (pnum p 8 2)) h (served_check h (.inr hs) rfl rfl ?_ rfl) hn rfl hA rfl
    (agrees_of_host rfl q.val) rfl rfl⟩
  have hcell : (s.takeHead q.val).getCell (pnum p 8 2) = s.getCell (pnum p 8 2) := rfl
  have hon' : (s.takeHead q.val).on (quadOf (pnum p 8 2)) = true := hon
  dsimp only
  rw [hcell, hsvc, hon', hpass, State.held_takeHead, State.held_takeHead, hc, hsp]
  rfl

end

/-! ### DOMAIN-RESET and DOMAIN-CYCLE of MOT (R85, R86) -/

theorem bit_setBit_false {w : Nat} (x : BitVec w) (i : Nat) : bit (setBit x i false) i = false := by
  simp [bit, setBit]
  omega

/-- The motor domain fits where every channel has stopped (R81). -/
theorem State.domainFits_mot {s : State} {force cycle : Bool} (h : ∀ n < 8, (s.getMotor n).stopped = true) :
    s.domainFits dMOT force cycle = true := by
  change (List.range 8).all (fun n => (s.getMotor n).stopped) = true
  simpa using h

theorem State.domainReset_mot (s : State) (force : Bool) (h : W32) :
    s.domainGoes dMOT false force h = ({ s with motors := [] } : State).domainDone h := rfl

/-- Every channel at reset and MOT without power and clock, until its cycle for handle h ends (R86 steps 2 to 4). -/
def State.offMot (h : W32) (s : State) : State :=
  ({ s with motors := [], glb := { s.glb with cycles := s.glb.cycles ++ [(dMOT, h)] } } : State).setDomain dMOT false

theorem State.domainCycle_mot (s : State) (force : Bool) (h : W32) : s.domainGoes dMOT true force h = s.offMot h := rfl

theorem State.cycleOn_mot (s : State) (h : W32) : s.cycleOn dMOT h =
    (forAll (List.range 8) (fun s n => s.updMotor n (fun m => { m with st := .cal }))
      (({ s with glb := { s.glb with cycles := s.glb.cycles.filter (fun e => decide (e.1 ≠ dMOT)) } } : State).setDomain dMOT true)).domainDone h := rfl

theorem State.fire_of_glb {s t : State} (h : t.glb = s.glb) : t.fire = s.fire := by simp [State.fire, State.alive, h]

/-- Once the regulator of MOT is ready, VMAIN not failing, the first cycle of MOT that waits ends (R86 step 5). -/
theorem regulatorReady_mot {s : State} {cycles : List (Nat × W32)} {h : W32} (hf : s.fire = true) (hv : s.glb.failing = false)
    (hp : bit s.glb.pwr dMOT = false) (hc : s.glb.cycles = cycles ++ [(dMOT, h)]) :
    ∃ g, regulatorReady dMOT s = s.cycleOn dMOT g := by
  unfold regulatorReady
  rw [if_neg (by decide)]
  split
  · exact ⟨_, if_pos (by simp [hf, hv, hp])⟩
  · next hnone =>
    rw [hc] at hnone
    simp at hnone

/-- Eight channels that were at reset calibrate (R83 step 8). -/
theorem State.calibrateMotors {s : State} (hs : s.motors = []) {n : Nat} (hn : n < 8) :
    (forAll (List.range 8) (fun s n => s.updMotor n (fun m => { m with st := .cal })) s).getMotor n = { motorReset n with st := .cal } := by
  have hstep : ∀ (t : State) b, (∃ st, t.getMotor n = { motorReset n with st := st }) →
      ∃ st, (t.updMotor b (fun m => { m with st := .cal })).getMotor n = { motorReset n with st := st } := fun t b ⟨st, ht⟩ => by
    by_cases hb : n = b
    · subst hb
      exact ⟨.cal, by rw [State.getMotor_updMotor, ht]⟩
    · exact ⟨st, by rw [State.getMotor_updMotor_ne _ _ _ _ hb, ht]⟩
  refine foldl_reaches (P := fun t : State => t.getMotor n = { motorReset n with st := .cal }) (List.mem_range.mpr hn) hstep
    (fun t ⟨st, ht⟩ => by rw [State.getMotor_updMotor, ht]) (fun t b ht => ?_) ⟨(motorReset n).st, by rw [State.getMotor, hs]; rfl⟩
  by_cases hb : n = b
  · subst hb
    rw [State.getMotor_updMotor, ht]
  · rw [State.getMotor_updMotor_ne _ _ _ _ hb, ht]

theorem State.getMotor_domainDone (s : State) (h : W32) (n : Nat) : (s.domainDone h).getMotor n = s.getMotor n := by
  simp [State.domainDone, State.getMotor, State.setRstCause]

theorem State.domainDone_glb (s : State) (h : W32) : (s.domainDone h).glb = (s.setRstCause 5).glb := by
  simp [State.domainDone]

/-- The end of a cycle of MOT: its power and clock are back, its cause is recorded, and its channels calibrate (R83 step 8, R86 step 5). -/
theorem State.cycleOn_mot_does (s : State) (h : W32) (hs : s.motors = []) : bit (s.cycleOn dMOT h).glb.pwr dMOT = true ∧
    bit (s.cycleOn dMOT h).glb.clk dMOT = true ∧ bit (s.cycleOn dMOT h).glb.rstCause 5 = true ∧
    ∀ n < 8, (s.cycleOn dMOT h).getMotor n = { motorReset n with st := .cal } := by
  rw [State.cycleOn_mot, State.domainDone_glb]
  generalize hu : State.setDomain _ dMOT true = u
  have hg : (forAll (List.range 8) (fun s n => s.updMotor n (fun m => { m with st := .cal })) u).glb = u.glb :=
    foldl_keeps State.glb _ (fun _ _ => by simp) _ u
  refine ⟨?_, ?_, bit_setBit_self _ (by decide), fun n hn => ?_⟩
  · change bit (forAll _ _ u).glb.pwr dMOT = true
    rw [hg, ← hu]
    exact bit_setBit_self _ (by decide)
  · change bit (forAll _ _ u).glb.clk dMOT = true
    rw [hg, ← hu]
    exact bit_setBit_self _ (by decide)
  · rw [State.getMotor_domainDone]
    have hmu : u.motors = s.motors := by rw [← hu]; rfl
    exact State.calibrateMotors (hmu.trans hs) hn

section
variable {q : LaneIx} {p : Packet} {s : State}

/-- DOMAIN-RESET of MOT with every channel stopped (R85). -/
theorem domainReset_mot_does (hn : s.noHandle q.val = none) (hs : InState none p s) (h : Served true false false [fMax p 8 1 79] q p s)
    (hh : s.held (.domain (pnum p 8 1)) = false) (hd : pnum p 8 1 = dMOT) (hm : ∀ n < 8, (s.getMotor n).stopped = true) :
    (domainReset q p s).motors = [] ∧ bit (domainReset q p s).glb.rstCause 5 = true ∧ (domainReset q p s).cells = s.cells ∧
      (domainReset q p s).lanes = s.lanes := by
  obtain ⟨-, hplant, -⟩ := State.accept_begun (p := p) h.takes (.domainReset dMOT (pforce p))
  generalize hA : (s.takeHead q.val).accept q.val p (.domainReset dMOT (pforce p)) = A at hplant
  have hfit := State.domainFits_mot (force := pforce p) (cycle := false) (fun n hn => (congrArg Motor.stopped (hplant.getMotor n)).trans (hm n hn))
  have he : domainReset q p s = (A.domainGoes dMOT false (pforce p) (s.nextHandle q.val)).serveAll q.val := by
    unfold domainReset domainCommand
    rw [hd]
    refine (long_starts h (served_check h (.inr hs) rfl rfl ((State.held_takeHead ..).trans (hd ▸ hh)) rfl) hn).trans ?_
    exact congrArg (State.serveAll q.val) ((if_pos (hA ▸ hfit)).trans (hA ▸ rfl))
  rw [he, State.domainReset_mot]
  refine ⟨by simp [State.domainDone, State.setRstCause], ?_, ?_, ?_⟩
  · simp only [State.serveAll_frame, State.domainDone_glb]
    exact bit_setBit_self _ (by decide)
  · exact (by simp [State.domainDone, State.setRstCause] : _ = A.cells).trans hplant.cells
  · exact (by simp [State.domainDone, State.setRstCause] : _ = A.lanes).trans hplant.lanes

/-- DOMAIN-CYCLE of MOT with every channel stopped takes its power and clock away (R86). -/
theorem domainCycle_mot_does (hn : s.noHandle q.val = none) (hs : InState none p s) (h : Served true false false [fMax p 8 1 79] q p s)
    (hh : s.held (.domain (pnum p 8 1)) = false) (hd : pnum p 8 1 = dMOT) (hm : ∀ n < 8, (s.getMotor n).stopped = true) :
    ∃ (a : State) (g : W32), SamePlant s a ∧
      domainCycle q p s = a.offMot g ∧ Begun q.val p (.domainCycle dMOT (pforce p)) s (a.offMot g) := by
  obtain ⟨-, hplant, -⟩ := State.accept_begun (p := p) h.takes (.domainCycle dMOT (pforce p))
  generalize hA : (s.takeHead q.val).accept q.val p (.domainCycle dMOT (pforce p)) = A at hplant
  have hfit := State.domainFits_mot (force := pforce p) (cycle := true) (fun n hn => (congrArg Motor.stopped (hplant.getMotor n)).trans (hm n hn))
  unfold domainCycle domainCommand
  rw [hd]
  have hgoes := State.domainCycle_mot A (pforce p) (s.nextHandle q.val)
  exact ⟨A, _, hplant, long_begins h (served_check h (.inr hs) rfl rfl ((State.held_takeHead ..).trans (hd ▸ hh)) rfl) hn rfl hA
    ((if_pos hfit).trans hgoes) (agrees_of_host rfl q.val) rfl rfl⟩

end

/-- Settles O10: each command passes its checks, and its start is read off what ACCEPTED leaves. -/
theorem spareAndDomainCommandsBegin : Obligations.SpareAndDomainCommandsBegin := by
  refine fun q p s hn hs => ⟨fun k h hk hsvc hc hck hne => ?_, fun h hsvc hon hpass hc hsp => ?_, fun h hh hd hm => ⟨?_, ?_⟩⟩
  · obtain ⟨a, he, hb⟩ := spareTakeover_does hn hs h hk hsvc hc hck
    obtain ⟨hcell, hspare⟩ := a.beginTakeover_cells hne
    exact ⟨_, congrArg Host.Outcome.next he, hb, by rw [hcell], by rw [hcell], by rw [hcell], by rw [hspare], by rw [hspare]⟩
  · obtain ⟨a, hplant, he, hb⟩ := spareReturn_does hn hs h hsvc hon hpass hc hsp
    exact ⟨_, congrArg Host.Outcome.next he, hb, hplant.updCell ..⟩
  · exact ⟨_, rfl, domainReset_mot_does hn hs h hh hd hm⟩
  · obtain ⟨a, g, hplant, he, hb⟩ := domainCycle_mot_does hn hs h hh hd hm
    refine ⟨_, congrArg Host.Outcome.next he, hb, bit_setBit_false .., bit_setBit_false .., rfl, fun hf hv => ?_⟩
    obtain ⟨g', hr⟩ := regulatorReady_mot (s := a.offMot g)
      ((State.fire_of_glb hplant.glb).trans hf) ((congrArg Glb.failing hplant.glb).trans hv) (bit_setBit_false ..) rfl
    obtain ⟨hpwr, hclk, hcause, hmotors⟩ := (a.offMot g).cycleOn_mot_does g' rfl
    exact ⟨_, congrArg Host.Outcome.next hr, hpwr, hclk, hcause, hmotors⟩

end Sys2Proof.Machine
end

section
/-! Conventional resets, PERST# and the boundary-scan port (R62, R88, R114 to R117, R142, R143, R154, R166, R199). -/

namespace Sys2Proof.Machine

/-! ### Tables mapped entry by entry -/

theorem tabGet_of_lt {α : Type} (d : Nat → α) {t : Tab α} {k : Nat} (h : ∀ e ∈ t, k < e.1) : tabGet d t k = d k := by
  induction t with
  | nil => rfl
  | cons e t ih =>
    rw [tabGet, if_neg (Nat.ne_of_gt (h e (by simp)))]
    exact ih (fun x hx => h x (by simp [hx]))

/-- A table mapped entry by entry reads at k as the map of what it read, where the map keeps the reset value of k. -/
theorem tabGet_tabMap {α : Type} [DecidableEq α] {d : Nat → α} {u : Nat → α → α} {t : Tab α} {k : Nat}
    (ht : t.Pairwise (fun a b => a.1 < b.1)) (hu : u k (d k) = d k) : tabGet d (tabMap d u t) k = u k (tabGet d t k) := by
  induction t with
  | nil => exact hu.symm
  | cons e t ih =>
    obtain ⟨hlt, htail⟩ := List.pairwise_cons.mp ht
    obtain ⟨j, v⟩ := e
    have ih := ih htail
    unfold tabMap at ih ⊢
    by_cases hj : j = k
    · subst hj
      rw [tabGet, if_pos rfl]
      by_cases hd : u j v = d j
      · rw [List.filterMap_cons_none (by simp [hd]), ih, tabGet_of_lt d hlt, hu, hd]
      · rw [List.filterMap_cons_some (by simp [hd]; exact rfl), tabGet, if_pos rfl]
    · rw [tabGet, if_neg hj, ← ih]
      by_cases hd : u j v = d j
      · rw [List.filterMap_cons_none (by simp [hd])]
      · rw [List.filterMap_cons_some (by simp [hd]; exact rfl), tabGet, if_neg hj]

/-! ### FEED without a descriptor (R199) -/

/-- t differs from s in nothing but request lines, engines, bank credits and the counter of free values. -/
def BurstsMove (s t : State) : Prop :=
  ({ t with reqs := s.reqs, banks := s.banks, engines := s.engines, free := s.free } : State) = s

theorem BurstsMove.trans {a b c : State} (h : BurstsMove a b) (k : BurstsMove b c) : BurstsMove a c :=
  (congrArg (fun x : State => ({ x with reqs := a.reqs, banks := a.banks, engines := a.engines, free := a.free } : State)) k).trans h

theorem BurstsMove.eq {s t : State} (h : BurstsMove s t) :
    t = { s with reqs := t.reqs, banks := t.banks, engines := t.engines, free := t.free } :=
  (congrArg (fun x : State => ({ x with reqs := t.reqs, banks := t.banks, engines := t.engines, free := t.free } : State)) h :)

theorem State.feedCredit_moves (b n : Nat) (s : State) : BurstsMove s (s.feedCredit b n) := by
  unfold State.feedCredit
  split <;> rfl

theorem State.finishBursts_moves (s : State) : BurstsMove s s.finishBursts := by
  refine foldl_inv (BurstsMove s) _ (fun t e ht => ?_) _ s rfl
  refine BurstsMove.trans (foldl_inv (BurstsMove s) _ (fun t ch ht => ?_) _ t ht) rfl
  dsimp only
  generalize hx : State.updEngine _ e _ = x
  have hm : BurstsMove s x := BurstsMove.trans ht (hx ▸ rfl)
  split
  · exact hm
  · exact hm.trans (State.feedCredit_moves ..)

theorem State.settleLsOff_none {s : State} (h : s.glb.lsOff = []) : s.settleLsOff = s := by
  refine foldl_inv (· = s) _ (fun t q ht => ?_) _ s rfl
  subst ht
  simp [h]

theorem State.resetEngine_none {s : State} (h : ∀ l, (s.getLane l).reset = none) (e : Nat) : s.resetEngine e = s := by
  refine foldl_inv (· = s) _ (fun t l ht => ?_) _ s rfl
  subst ht
  rw [h]

/-- With no quadrant and no lane reset waiting, FEED is at reset, every queue keeps all but FEED_WSEL, and nothing else moves. -/
theorem State.feedClear_eq {s : State} (hls : s.glb.lsOff = []) (hres : ∀ l, (s.getLane l).reset = none) : ∃ reqs banks free,
    s.feedClear = { s with reqs := reqs, banks := banks, free := free, rings := [], engines := []
                           host := tabMap hostReset (fun _ h => { h with wsel := 0 }) s.host } := by
  have hf := s.finishBursts_moves.eq
  unfold State.feedClear
  generalize s.finishBursts = f at hf
  obtain ⟨reqs, banks, engines, free, rfl⟩ : ∃ reqs banks engines free, f = { s with reqs := reqs, banks := banks, engines := engines, free := free } :=
    ⟨_, _, _, _, hf⟩
  dsimp only
  generalize hx : ({ s with reqs := _, banks := banks, engines := [], free := free, rings := [], host := _ } : State) = x
  have hxl : x.glb.lsOff = [] := by rw [← hx]; exact hls
  have hxr : ∀ l, (x.getLane l).reset = none := fun l => by rw [← hx]; exact hres l
  rw [State.settleLsOff_none hxl]
  refine ⟨_, banks, free, Eq.trans ?_ hx.symm⟩
  exact foldl_inv (· = x) _ (fun t e ht => by subst ht; exact State.resetEngine_none hxr e) _ x rfl

/-! ### A conventional reset (R88, R142, R143) -/

/-- Setting pending bits leaves the rest of each queue pair, and everything else (R143). -/
structure Pends (s t : State) : Prop where
  rest : ∃ host, t = { s with host := host }
  host : ∀ f, ∃ pba, t.getHost f = { s.getHost f with pba := pba }

theorem Pends.step {s t : State} (h : Pends s t) (k v : Nat) : Pends s (t.updHost k (fun h => { h with pba := setBit h.pba v true })) where
  rest := by
    obtain ⟨host, rfl⟩ := h.rest
    exact ⟨_, rfl⟩
  host f := by
    obtain ⟨pba, hf⟩ := h.host f
    by_cases hk : f = k
    · subst hk
      exact ⟨_, by rw [State.getHost_updHost, hf]⟩
    · exact ⟨pba, by rw [State.getHost_updHost_ne _ _ _ _ hk, hf]⟩

theorem State.pendAll_pends (s : State) : Pends s s.pendAll :=
  foldl_inv (Pends s) _ (fun _ _ ht => ht.step ..) _ s ⟨⟨s.host, rfl⟩, fun f => ⟨(s.getHost f).pba, rfl⟩⟩

/-- Every vector to which a source with a high request is mapped is pending (R143). -/
theorem State.pendAll_pending {s : State} {src : Nat} (hs : src < 384) (hr : s.request src = true) (hv : (s.getMap src).2 < 128) :
    bit (s.pendAll.getHost (s.getMap src).1).pba (s.getMap src).2 = true := by
  have hmem : src ∈ (List.range 384).filter s.request := List.mem_filter.mpr ⟨List.mem_range.mpr hs, hr⟩
  unfold State.pendAll
  generalize (List.range 384).filter s.request = l at hmem ⊢
  refine foldl_reaches (I := fun t : State => t.getMap src = s.getMap src)
    (P := fun t : State => bit (t.getHost (s.getMap src).1).pba (s.getMap src).2 = true)
    hmem (fun t b ht => ?_) (fun t ht => ?_) (fun t src' ht => ?_) rfl
  · simpa [State.getMap] using ht
  · rw [ht, State.getHost_updHost]
    exact bit_setBit_self _ hv
  · by_cases hk : (s.getMap src).1 = (t.getMap src').1
    · rw [← hk, State.getHost_updHost]
      exact bit_setBit_of_bit _ ht
    · rw [State.getHost_updHost_ne _ _ _ _ hk]
      exact ht

/-- What a conventional reset makes of a queue pair but for its pending bits. -/
theorem State.getHost_busReset {s : State} (hc : Canonical s) (hls : s.glb.lsOff = []) (hres : ∀ l, (s.getLane l).reset = none) :
    (∃ reqs banks free host, s.busReset = { s with
      reqs := reqs, banks := banks, free := free, host := host, rings := [], engines := []
      glb := { s.glb with linkUp := false, vfEn := false, numVfs := 0, vfBar := 0 } }) ∧
    (∀ f, ∃ pba, s.busReset.getHost f = { (s.getHost f).busReset with pba := pba }) ∧
    (∀ src < 384, s.request src = true → (s.getMap src).2 < 128 → bit (s.busReset.getHost (s.getMap src).1).pba (s.getMap src).2 = true) := by
  unfold State.busReset
  dsimp only
  obtain ⟨reqs, banks, free, he⟩ := State.feedClear_eq (s := { s with host := tabMap hostReset (fun _ h => h.busReset) s.host }) hls hres
  rw [he]
  generalize hx : ({ s with reqs := reqs, banks := banks, free := free, rings := [], engines := [], host := _, glb := _ } : State) = x
  have hhost : ∀ f, x.getHost f = (s.getHost f).busReset := fun f => by
    have h1 : tabGet hostReset (tabMap hostReset (fun _ h => h.busReset) s.host) f = (s.getHost f).busReset := tabGet_tabMap hc.host.1 rfl
    have h2 := tabGet_tabMap (d := hostReset) (u := fun _ (h : HostFn) => ({ h with wsel := 0 } : HostFn)) (k := f) (hc.mapHost (f := fun _ h => h.busReset)).host.1 rfl
    rw [← hx]
    exact h2.trans (congrArg (fun h : HostFn => ({ h with wsel := 0 } : HostFn)) h1)
  have hp := x.pendAll_pends
  refine ⟨?_, fun f => ?_, fun src hs hr hv => ?_⟩
  · obtain ⟨host, hh⟩ := hp.rest
    exact ⟨reqs, banks, free, host, by rw [hh, ← hx]⟩
  · obtain ⟨pba, hf⟩ := hp.host f
    exact ⟨pba, by rw [hf, hhost]⟩
  · have hmap : x.getMap = s.getMap := by rw [← hx]; rfl
    have hreq : x.request = s.request := by rw [← hx]; rfl
    rw [← hmap] at hv ⊢
    exact State.pendAll_pending hs (hreq ▸ hr) hv

/-- A conventional reset on a part with HOST running and nothing waiting for FEED (R62, R88). -/
theorem conventionalReset_eq {s : State} {cause : PcieReset} (hon : s.on dHOST = true) (ha : s.busReset.assign = none) :
    conventionalReset cause s = { s.busReset with glb := { s.busReset.glb with
      rstCause := setBit s.busReset.glb.rstCause (if cause = .perst then 2 else 3) true
      clkModeOn := if cause = .linkDown then s.busReset.glb.clkModeOn else s.busReset.glb.clkMode } } := by
  unfold conventionalReset
  rw [if_pos hon]
  have h : s.busReset.settleAssign = s.busReset := by
    unfold State.settleAssign
    rw [ha]
  rw [h]
  cases cause <;> rfl

/-! ### Boundary scan (R114 to R116) -/

/-- The instructions that take the pins are among those of R114, which are their own codes. -/
theorem takesPins_tapCode (code : Byte) : takesPins (tapCode code) = decide (code ∈ [0x00#8, 0x03, 0x04, 0x05, 0x06]) := by
  unfold tapCode
  split
  · simp [takesPins]
  · next h =>
    refine (decide_eq_false fun hm => h ?_).symm
    simp only [List.mem_cons, List.not_mem_nil, or_false] at hm
    rcases hm with rfl | rfl | rfl | rfl | rfl <;> decide

section
variable {s : State} {code : Byte}

theorem tapInstruction_eq (hr : s.aonRuns = true) : tapInstruction code s = { s with glb := { s.glb with
    tapIr := tapCode code, tapDr := tapCapture (tapCode code)
    tapScans := if scansPins (tapCode code) then s.glb.tapScans + 1 else s.glb.tapScans, pins := s.glb.pins || takesPins (tapCode code) } } :=
  if_pos hr

/-- An instruction that takes the pins stops every domain; another leaves the domains that run (R116). -/
theorem tapInstruction_on (hr : s.aonRuns = true) (d : Nat) :
    (tapInstruction code s).on d = (s.on d && !decide (code ∈ [0x00#8, 0x03, 0x04, 0x05, 0x06])) := by
  rw [tapInstruction_eq hr, takesPins_tapCode]
  simp only [State.on, State.alive]
  generalize decide (code ∈ [0x00#8, 0x03, 0x04, 0x05, 0x06]) = takes
  cases takes <;> simp

end

/-- Settles O49: the reset of the bus by the equation of each of its parts, the training and the boundary-scan port by their definitions. -/
theorem busResetsKeepPrinting : Obligations.BusResetsKeepPrinting := by
  refine fun s => ⟨fun cause hon hc ha hls hres => ⟨_, rfl, ?_⟩, fun w hon => congrArg Host.Outcome.next (if_pos hon),
    fun code hr => ⟨_, rfl, ?_, ?_, ?_, ?_, fun hm d => ?_, fun hm d => ?_⟩⟩
  · obtain ⟨⟨reqs, banks, free, host, he⟩, hhost, hpend⟩ := State.getHost_busReset hc hls hres
    have hend := conventionalReset_eq (cause := cause) hon (by rw [he]; exact ha)
    have hq : ∀ f, (conventionalReset cause s).getHost f = s.busReset.getHost f := fun f => by
      rw [hend]
      rfl
    have hq' : ∀ f, ∃ pba, (conventionalReset cause s).getHost f = { (s.getHost f).busReset with pba := pba } := fun f => by
      rw [hq]
      exact hhost f
    refine ⟨?_, ?_, ?_, fun f _ => ?_, fun src hs hr hv => ?_, ?_⟩
    · rw [hend, he]
    · rw [hend, he]
    · rw [hend, he]
    · obtain ⟨pba, hf⟩ := hq' f
      rw [hf]
      exact ⟨rfl, rfl, rfl, rfl, rfl, rfl, rfl, rfl, rfl⟩
    · rw [hq]
      exact hpend src hs hr hv
    · rw [hend, he]
      exact ⟨rfl, rfl, rfl, rfl, rfl, rfl, rfl, rfl, rfl⟩
  · rw [tapInstruction_eq hr]
  · rw [tapInstruction_eq hr]
  · rintro rfl
    rw [tapInstruction_eq hr]
    exact (by decide : tapCapture (tapCode 0x02) = some 0x1960054F)
  · rw [tapInstruction_eq hr]
  · rw [tapInstruction_on hr, decide_eq_true hm, Bool.not_true, Bool.and_false]
  · rw [tapInstruction_on hr, decide_eq_false hm, Bool.not_false, Bool.and_true]

end Sys2Proof.Machine
end

section
/-! Bringing domains up (R83 steps 6 to 10, R396, R477): what the restart of work and the start of quads and line stores touch, and what they
leave, one lemma per operation. -/

namespace Sys2Proof.Machine

/-! ### Work that starts again (R83, R273, R357, R489) -/

/-- t differs from s in nothing but cells, links, gates, Pacers, events and the conditions of fault sources; the causes of SVCREQ and the
registers of the queues are kept. -/
structure WorkRestarts (s t : State) : Prop where
  rest  : ({ t with host := s.host, evt := s.evt, out := s.out, flt := s.flt, cells := s.cells, links := s.links
                    gates := s.gates, pacers := s.pacers } : State) = s
  cause : t.flt.cause = s.flt.cause
  hosts : ∀ q, (t.getHost q).Agrees (s.getHost q)

namespace WorkRestarts

theorem refl (s : State) : WorkRestarts s s := ⟨rfl, rfl, fun _ => .refl _⟩

theorem trans {a b c : State} (h : WorkRestarts a b) (k : WorkRestarts b c) : WorkRestarts a c where
  rest := (congrArg (fun x : State => ({ x with
    host := a.host, evt := a.evt, out := a.out, flt := a.flt, cells := a.cells, links := a.links, gates := a.gates, pacers := a.pacers } : State))
      k.rest :).trans h.rest
  cause := k.cause.trans h.cause
  hosts q := (k.hosts q).trans (h.hosts q)

theorem glb {s t : State} (h : WorkRestarts s t) : t.glb = s.glb := (congrArg State.glb h.rest :)
theorem time {s t : State} (h : WorkRestarts s t) : t.time = s.time := (congrArg State.time h.rest :)
theorem getQuad {s t : State} (h : WorkRestarts s t) (j : Nat) : t.getQuad j = s.getQuad j :=
  (congrArg (fun x : State => tabGet Machine.quadReset x.quads j) h.rest :)

theorem forAll {l : List Nat} {u : State → Nat → State} (h : ∀ t a, WorkRestarts t (u t a)) (s : State) : WorkRestarts s (forAll l u s) :=
  foldl_inv (WorkRestarts s) u (fun t a ht => ht.trans (h t a)) l s (.refl s)

theorem ite {s t u : State} {p : Prop} [Decidable p] (h : WorkRestarts s t) (k : WorkRestarts s u) : WorkRestarts s (if p then t else u) := by
  split
  · exact h
  · exact k

theorem updCell (s : State) (c : Nat) (u : Cell → Cell) : WorkRestarts s (s.updCell c u) := ⟨rfl, rfl, fun _ => .refl _⟩
theorem updLink (s : State) (l : Nat) (u : Link → Link) : WorkRestarts s (s.updLink l u) := ⟨rfl, rfl, fun _ => .refl _⟩
theorem updGate (s : State) (g : Nat) (u : Gate → Gate) : WorkRestarts s (s.updGate g u) := ⟨rfl, rfl, fun _ => .refl _⟩
theorem updPacer (s : State) (p : Nat) (u : Pacer → Pacer) : WorkRestarts s (s.updPacer p u) := ⟨rfl, rfl, fun _ => .refl _⟩

theorem endCond (s : State) (src inst : Nat) : WorkRestarts s (s.endCond src inst) := by
  unfold State.endCond
  split
  · exact ⟨rfl, rfl, fun _ => .refl _⟩
  · exact .refl s

theorem raise (s : State) (src : Nat) : WorkRestarts s (s.raise src) where
  rest := by
    unfold State.raise State.signal
    split
    · dsimp only
      split
      · split <;> rfl
      · rfl
    · rfl
  cause := by simp
  hosts := agrees_raise s src

theorem retrim (s : State) (c : Nat) (u : Cell → Cell) : WorkRestarts s (s.retrim c u) :=
  (updCell s c u).trans (foldl_inv (WorkRestarts (s.updCell c u)) _ (fun _ _ ht => ht.trans (updLink ..)) _ _ (.refl _))

theorem updateGov (s : State) (p : Nat) : WorkRestarts s (s.updateGov p) := by
  unfold State.updateGov
  dsimp only
  split
  · exact .refl s
  · exact (updPacer ..).trans (raise ..)

theorem restartWork (s : State) (k : Nat) (u : Nat → Cell → Cell) : WorkRestarts s (s.restartWork k u) := by
  unfold State.restartWork
  dsimp only
  exact (forAll (fun t c => (retrim ..).trans (forAll (fun t l => updLink ..) _)) s).trans (forAll (fun t p => updateGov ..) _)

end WorkRestarts

/-! ### The start of a quad (R83 step 10, R86 step 5) -/

/-- The registers of quad k at the start of its clock. -/
def State.quadStarts (k : Nat) (h : Option W32) (s : State) : State :=
  let s := s.updQuad k (fun x => { x with vact := x.vset, divAct := 2, skipAct := 0, goDiv := none })
  let v := s.supplyFor k 2 0
  (s.setDomain k true).updQuad k (fun x => { x with
    vact := BitVec.ofNat 5 v, vWait := false, rung := 0, shutdown := false, shead := false, sdie := false
    calib := false, coolFrom := none, upAt := s.now, job := .calibrating h })

theorem State.quadUp_eq (k : Nat) (h : Option W32) (s : State) :
    ∃ m, WorkRestarts (s.quadStarts k h) m ∧ s.quadUp k h = m.settleClocks := by
  unfold State.quadUp
  refine ⟨_, ?_, rfl⟩
  refine .trans ?_ (.forAll (fun t g => .updGate ..) _)
  refine .trans ?_ (.forAll (fun t c => (WorkRestarts.updCell ..).trans (.endCond ..)) _)
  refine .trans ?_ (.ite (.endCond ..) (.refl _))
  refine .trans ?_ (.forAll (fun t n => .endCond ..) _)
  refine .trans ?_ (.restartWork ..)
  exact .forAll (fun t l => .updLink ..) _

/-! ### Domains that come up (R83 steps 6 to 10) -/

theorem bit_setBit_ne {w i j : Nat} (x : BitVec w) (h : j ≠ i) : bit (setBit x i true) j = bit x j := by
  simp [bit, setBit]
  omega

/-- Domain d has power and a clock. -/
def State.clocked (s : State) (d : Nat) : Prop := bit s.glb.pwr d = true ∧ bit s.glb.clk d = true

theorem State.clocked_setDomain (s : State) {d : Nat} (h : d < 80) : (s.setDomain d true).clocked d :=
  ⟨bit_setBit_self _ h, bit_setBit_self _ h⟩

theorem State.clocked.setDomain {s : State} {d : Nat} (h : s.clocked d) (k : Nat) : (s.setDomain k true).clocked d :=
  ⟨bit_setBit_of_bit k h.1, bit_setBit_of_bit k h.2⟩

/-- t comes from s by domains that come up, quads among them, by work that starts again, and by time that passes. -/
structure BringsUp (s t : State) : Prop where
  rest  : ({ t with time := s.time, glb := s.glb, quads := s.quads, store := s.store, banks := s.banks, host := s.host, evt := s.evt
                    out := s.out, flt := s.flt, cells := s.cells, links := s.links, gates := s.gates, pacers := s.pacers } : State) = s
  glb   : ({ t.glb with clk := s.glb.clk, pwr := s.glb.pwr } : Glb) = s.glb
  up    : ∀ d, s.clocked d → t.clocked d
  cause : t.flt.cause = s.flt.cause
  hosts : ∀ q, (t.getHost q).Agrees (s.getHost q)

namespace BringsUp

theorem refl (s : State) : BringsUp s s := ⟨rfl, rfl, fun _ h => h, rfl, fun _ => .refl _⟩

theorem trans {a b c : State} (h : BringsUp a b) (k : BringsUp b c) : BringsUp a c where
  rest := (congrArg (fun x : State => ({ x with
    time := a.time, glb := a.glb, quads := a.quads, store := a.store, banks := a.banks, host := a.host, evt := a.evt
    out := a.out, flt := a.flt, cells := a.cells, links := a.links, gates := a.gates, pacers := a.pacers } : State)) k.rest :).trans h.rest
  glb := (congrArg (fun x : Glb => ({ x with clk := a.glb.clk, pwr := a.glb.pwr } : Glb)) k.glb :).trans h.glb
  up d hd := k.up d (h.up d hd)
  cause := k.cause.trans h.cause
  hosts q := (k.hosts q).trans (h.hosts q)

theorem kept {s t : State} (h : BringsUp s t) : (t.lanes = s.lanes ∧ t.ops = s.ops ∧ t.meter = s.meter ∧ t.fuse = s.fuse ∧
    t.hostMem = s.hostMem ∧ t.pending = s.pending) ∧ t.thn = s.thn ∧ t.chn = s.chn ∧ t.motors = s.motors :=
  ⟨⟨(congrArg State.lanes h.rest :), (congrArg State.ops h.rest :), (congrArg State.meter h.rest :), (congrArg State.fuse h.rest :),
    (congrArg State.hostMem h.rest :), (congrArg State.pending h.rest :)⟩, (congrArg State.thn h.rest :), (congrArg State.chn h.rest :),
    (congrArg State.motors h.rest :)⟩

theorem forAll {l : List Nat} {u : State → Nat → State} (h : ∀ t a, BringsUp t (u t a)) (s : State) : BringsUp s (forAll l u s) :=
  foldl_inv (BringsUp s) u (fun t a ht => ht.trans (h t a)) l s (.refl s)

theorem setDomain (s : State) (d : Nat) : BringsUp s (s.setDomain d true) :=
  ⟨rfl, rfl, fun _ h => h.setDomain d, rfl, fun _ => .refl _⟩

theorem at_ (s : State) (t : Nat) : BringsUp s (s.at_ t) := by
  obtain ⟨time, h⟩ := s.at_time t
  rw [h]
  exact ⟨rfl, rfl, fun _ h => h, rfl, fun _ => .refl _⟩

theorem lsUp (s : State) (q : Nat) : BringsUp s (s.lsUp q) := by
  unfold State.lsUp
  dsimp only
  generalize hx : ({ s with store := _ } : State) = x
  have hclear : BringsUp s x := hx ▸ ⟨rfl, rfl, fun _ h => h, rfl, fun _ => .refl _⟩
  generalize banksOf q = bs
  have hbanks := foldl_inv (BringsUp s) State.bankUp (fun t b ht => ht.trans ⟨rfl, rfl, fun _ h => h, rfl, fun _ => .refl _⟩) bs x hclear
  exact hbanks.trans (.setDomain ..)

variable {s t : State}

theorem of_clocks (h : ClocksMove s t) : BringsUp s t where
  rest := (congrArg (fun x : State => ({ x with
    time := s.time, glb := s.glb, store := s.store, banks := s.banks, host := s.host, evt := s.evt
    out := s.out, flt := s.flt, cells := s.cells, links := s.links, gates := s.gates, pacers := s.pacers } : State)) h.rest :)
  glb := congrArg (fun x : Glb => ({ x with clk := s.glb.clk, pwr := s.glb.pwr } : Glb)) h.glb
  up d hd := by rwa [State.clocked, h.glb]
  cause := (congrArg (fun x : State => x.flt.cause) h.rest :)
  hosts q := by rw [h.getHost]; exact .refl _

theorem of_work (h : WorkRestarts s t) : BringsUp s t where
  rest := (congrArg (fun x : State => ({ x with
    time := s.time, glb := s.glb, quads := s.quads, store := s.store, banks := s.banks } : State)) h.rest :)
  glb := (congrArg (fun x : State => ({ x.glb with clk := s.glb.clk, pwr := s.glb.pwr } : Glb)) h.rest :)
  up d hd := by rwa [State.clocked, h.glb]
  cause := h.cause
  hosts := h.hosts

theorem quadUp (s : State) (k : Nat) (h : Option W32) : BringsUp s (s.quadUp k h) := by
  obtain ⟨m, hm, he⟩ := s.quadUp_eq k h
  rw [he]
  refine .trans ?_ ((of_work hm).trans (of_clocks m.settleClocks_moves))
  exact ⟨rfl, rfl, fun _ h => h.setDomain k, rfl, fun _ => .refl _⟩

end BringsUp

/-! ### What the start of a quad does to its registers -/

section
variable {s : State} {k : Nat} {h : Option W32}

/-- What the start of quad k leaves of the registers of quads and of the domains: those of its start, but for the settled clocks. -/
theorem State.quadUp_clocks (k : Nat) (h : Option W32) (s : State) : (s.quadUp k h).glb = (s.setDomain k true).glb ∧ (s.quadUp k h).time = s.time ∧
    ∀ j, ((s.quadUp k h).getQuad j).job = ((s.quadStarts k h).getQuad j).job ∧
      ((s.quadUp k h).getQuad j).divAct = ((s.quadStarts k h).getQuad j).divAct ∧
      ((s.quadUp k h).getQuad j).shutdown = ((s.quadStarts k h).getQuad j).shutdown := by
  obtain ⟨m, hm, he⟩ := s.quadUp_eq k h
  have hs := m.settleClocks_moves
  rw [he]
  refine ⟨hs.glb.trans hm.glb, (congrArg State.time hs.rest :).trans hm.time, fun j => ⟨?_, ?_, ?_⟩⟩
  · rw [hs.job, hm.getQuad]
  · rw [hs.divAct, hm.getQuad]
  · rw [hs.shutdown, hm.getQuad]

theorem State.getQuad_setDomain (s : State) (d : Nat) (up : Bool) (j : Nat) : (s.setDomain d up).getQuad j = s.getQuad j := rfl

theorem State.getQuad_quadStarts_ne {j : Nat} (hj : j ≠ k) : (s.quadStarts k h).getQuad j = s.getQuad j := by
  unfold State.quadStarts
  rw [State.getQuad_updQuad_ne _ _ _ _ hj, State.getQuad_setDomain, State.getQuad_updQuad_ne _ _ _ _ hj]

theorem State.getQuad_quadStarts (k : Nat) (h : Option W32) (s : State) : ((s.quadStarts k h).getQuad k).job = .calibrating h ∧
    ((s.quadStarts k h).getQuad k).divAct = 2 ∧ ((s.quadStarts k h).getQuad k).shutdown = false := by
  unfold State.quadStarts
  rw [State.getQuad_updQuad, State.getQuad_setDomain, State.getQuad_updQuad]
  exact ⟨rfl, rfl, rfl⟩

/-- Quad k is calibrating at ÷4, with power and a clock, and not shut down. -/
structure QuadRuns (k : Nat) (h : Option W32) (s : State) : Prop where
  job      : (s.getQuad k).job = .calibrating h
  divAct   : (s.getQuad k).divAct = 2
  shutdown : (s.getQuad k).shutdown = false
  clocked  : s.clocked k

theorem QuadRuns.quadUp (hk : k < 80) : QuadRuns k h (s.quadUp k h) := by
  obtain ⟨hg, -, hq⟩ := s.quadUp_clocks k h
  obtain ⟨hjob, hdiv, hshut⟩ := hq k
  obtain ⟨hjob', hdiv', hshut'⟩ := s.getQuad_quadStarts k h
  refine ⟨hjob.trans hjob', hdiv.trans hdiv', hshut.trans hshut', ?_⟩
  rw [State.clocked, hg]
  exact State.clocked_setDomain s hk

/-- Quad j is in latched shutdown and has no power. -/
def QuadDark (j : Nat) (s : State) : Prop := (s.getQuad j).shutdown = true ∧ bit s.glb.pwr j = false

/-- The start of another quad leaves what quad j shows. -/
theorem State.quadUp_ne {j : Nat} (hj : j ≠ k) : ((s.quadUp k h).getQuad j).job = (s.getQuad j).job ∧
    ((s.quadUp k h).getQuad j).divAct = (s.getQuad j).divAct ∧ ((s.quadUp k h).getQuad j).shutdown = (s.getQuad j).shutdown ∧
    bit (s.quadUp k h).glb.pwr j = bit s.glb.pwr j := by
  obtain ⟨hg, -, hq⟩ := s.quadUp_clocks k h
  obtain ⟨hjob, hdiv, hshut⟩ := hq j
  rw [State.getQuad_quadStarts_ne hj] at hjob hdiv hshut
  exact ⟨hjob, hdiv, hshut, hg ▸ bit_setBit_ne _ hj⟩

theorem QuadRuns.after_quadUp {j : Nat} (hr : QuadRuns j h s) (hj : j < 80) : QuadRuns j h (s.quadUp k h) := by
  by_cases hjk : j = k
  · subst hjk
    exact .quadUp hj
  · obtain ⟨hjob, hdiv, hshut, -⟩ := State.quadUp_ne (s := s) (h := h) hjk
    exact ⟨hjob.trans hr.job, hdiv.trans hr.divAct, hshut.trans hr.shutdown, (BringsUp.quadUp s k h).up j hr.clocked⟩

theorem State.shutdown_after_quadUp {j : Nat} (hs : (s.getQuad j).shutdown = false) : ((s.quadUp k h).getQuad j).shutdown = false := by
  by_cases hjk : j = k
  · subst hjk
    obtain ⟨-, -, hq⟩ := s.quadUp_clocks j h
    exact (hq j).2.2.trans (s.getQuad_quadStarts j h).2.2
  · exact (State.quadUp_ne hjk).2.2.1.trans hs

theorem QuadDark.after_quadUp {j : Nat} (hd : QuadDark j s) (hjk : j ≠ k) : QuadDark j (s.quadUp k h) := by
  obtain ⟨-, -, hshut, hpwr⟩ := State.quadUp_ne (s := s) (h := h) hjk
  exact ⟨hshut.trans hd.1, hpwr.trans hd.2⟩

end

/-! ### The waves of quads (R83 step 10) -/

/-- One wave of quads: those that are not in latched shutdown. -/
def State.wave (t0 : Nat) (s : State) (w : Nat) : State :=
  forAll ((waveQuads w).filter (fun k => !(s.getQuad k).shutdown)) (fun s k => s.quadUp k none) (s.at_ (t0 + (8 + 10 * w) * msTicks))

theorem State.bringUp_eq (t0 : Nat) (s : State) :
    s.bringUp t0 = forAll (List.range 17) (State.wave t0) (forAll [0, 1, 2, 3] (fun s q => s.lsUp q) s.upServices.leaveRelay) := rfl

theorem mem_waveQuads : ∀ k < 68, ∃ w ∈ List.range 17, k ∈ waveQuads w := by decide

section
variable {t0 j : Nat} {s : State}

theorem BringsUp.wave (t0 : Nat) (s : State) (w : Nat) : BringsUp s (s.wave t0 w) :=
  (BringsUp.at_ ..).trans (.forAll (fun _ _ => .quadUp ..) _)

theorem QuadRuns.after_wave (h : QuadRuns j none s) (hj : j < 80) (w : Nat) : QuadRuns j none (s.wave t0 w) := by
  obtain ⟨time, ht⟩ := s.at_time (t0 + (8 + 10 * w) * msTicks)
  unfold State.wave
  rw [ht]
  exact foldl_inv (QuadRuns j none) _ (fun _ _ ht => ht.after_quadUp hj) _ _ ⟨h.job, h.divAct, h.shutdown, h.clocked⟩

theorem State.shutdown_after_wave (h : (s.getQuad j).shutdown = false) (w : Nat) : ((s.wave t0 w).getQuad j).shutdown = false := by
  obtain ⟨time, ht⟩ := s.at_time (t0 + (8 + 10 * w) * msTicks)
  unfold State.wave
  rw [ht]
  exact foldl_inv (fun t : State => (t.getQuad j).shutdown = false) _ (fun _ _ ht => State.shutdown_after_quadUp ht) _ _ h

theorem QuadDark.after_wave (h : QuadDark j s) (w : Nat) : QuadDark j (s.wave t0 w) := by
  obtain ⟨time, ht⟩ := s.at_time (t0 + (8 + 10 * w) * msTicks)
  unfold State.wave
  rw [ht]
  refine List.foldlRecOn _ _ (motive := QuadDark j) h (fun t hd k hk => hd.after_quadUp ?_)
  rintro rfl
  simp [h.1] at hk

/-- The wave of a quad that is not shut down starts it. -/
theorem QuadRuns.of_wave {w : Nat} (hw : j ∈ waveQuads w) (hj : j < 80) (h : (s.getQuad j).shutdown = false) : QuadRuns j none (s.wave t0 w) := by
  have hmem : j ∈ (waveQuads w).filter (fun k => !(s.getQuad k).shutdown) := List.mem_filter.mpr ⟨hw, by rw [h]; rfl⟩
  exact foldl_reaches (I := fun _ => True) (P := QuadRuns j none) hmem (fun _ _ _ => trivial) (fun _ _ => .quadUp hj)
    (fun _ _ ht => ht.after_quadUp hj) trivial

/-- Chain time moved to a tick within 64 bits does not go back (R56). -/
theorem State.le_now_at {t : Nat} (ht : t < 2 ^ 64) : s.now ≤ (s.at_ t).now := by
  unfold State.at_
  split
  · next h =>
    have : (BitVec.ofNat 64 t).toNat = t := (BitVec.toNat_ofNat t 64).trans (Nat.mod_eq_of_lt ht)
    change s.time.toNat ≤ (BitVec.ofNat 64 t).toNat
    omega
  · exact le_refl _

theorem State.le_now_wave {w : Nat} (ht : t0 + (8 + 10 * w) * msTicks < 2 ^ 64) : s.now ≤ (s.wave t0 w).now := by
  have hkeep : (s.wave t0 w).time = (s.at_ (t0 + (8 + 10 * w) * msTicks)).time :=
    foldl_keeps State.time (fun s k => s.quadUp k none) (fun u k => (u.quadUp_clocks k none).2.1) _ _
  exact (State.le_now_at ht).trans_eq (congrArg BitVec.toNat hkeep).symm

/-! ### The waves together -/

/-- All seventeen waves of quads. -/
def State.waves (t0 : Nat) (s : State) : State := forAll (List.range 17) (State.wave t0) s

theorem BringsUp.waves (t0 : Nat) (s : State) : BringsUp s (s.waves t0) := .forAll (BringsUp.wave t0) s

theorem QuadRuns.waves (hj : j < 68) (h : (s.getQuad j).shutdown = false) : QuadRuns j none (s.waves t0) := by
  obtain ⟨w, hw, hjw⟩ := mem_waveQuads j hj
  unfold State.waves
  generalize List.range 17 = l at hw ⊢
  exact foldl_reaches (I := fun t : State => (t.getQuad j).shutdown = false) hw (fun _ w ht => State.shutdown_after_wave ht w)
    (fun _ ht => .of_wave hjw (by omega) ht) (fun _ w ht => ht.after_wave (by omega) w) h

theorem QuadDark.waves (h : QuadDark j s) : QuadDark j (s.waves t0) :=
  foldl_inv (QuadDark j) _ (fun _ w ht => ht.after_wave w) _ s h

theorem State.le_now_waves (ht : t0 + 168 * msTicks < 2 ^ 64) : s.now ≤ (s.waves t0).now := by
  have hbound : ∀ w ∈ List.range 17, t0 + (8 + 10 * w) * msTicks < 2 ^ 64 := fun w hw => by
    have hw := List.mem_range.mp hw
    exact (Nat.add_le_add_left (Nat.mul_le_mul_right msTicks (by omega : 8 + 10 * w ≤ 168)) t0).trans_lt ht
  unfold State.waves
  generalize List.range 17 = l at hbound ⊢
  exact List.foldlRecOn _ _ (motive := fun t : State => s.now ≤ t.now) (le_refl _)
    (fun t hle w hw => hle.trans (State.le_now_wave (hbound w hw)))

end

/-! ### Services and line stores (R83 steps 5 to 9) -/

theorem State.powerAll {l : List Nat} {d : Nat} (hd : d ∈ l) (h : d < 80) (s : State) : (forAll l (fun s d => s.setDomain d true) s).clocked d :=
  foldl_reaches (I := fun _ => True) (P := fun t : State => t.clocked d) hd (fun _ _ _ => trivial) (fun t _ => t.clocked_setDomain h)
    (fun _ k ht => ht.setDomain k) trivial

/-- The services with their clocks, before the motor channels calibrate. -/
def State.served (s : State) : State :=
  let s := forAll [dAON, dHOST, dTHNA, dTHNB, dFEED, dMOT, dCHN, dMETA] (fun s d => s.setDomain d true) s
  { s with
    glb := { s.glb with rootLock := true, phyLock := true, serdes := true }
    thn := { s.thn with a := { s.thn.a with role := .rom } } }

/-- Every motor channel calibrates, and nothing else moves (R83 step 8). -/
theorem State.motors_calibrate (s : State) : ∃ motors,
    forAll (List.range 8) (fun s n => s.updMotor n (fun m => { m with st := .cal })) s = { s with motors := motors } ∧
    ∀ n < 8, (tabGet motorReset motors n).st = .cal := by
  have hcal : ∀ n < 8, ((forAll (List.range 8) (fun s n => s.updMotor n (fun m => { m with st := .cal })) s).getMotor n).st = .cal := by
    intro n hn
    refine foldl_reaches (I := fun _ => True) (P := fun t : State => (t.getMotor n).st = .cal) (List.mem_range.mpr hn) (fun _ _ _ => trivial)
      (fun t _ => congrArg Motor.st (State.getMotor_updMotor ..)) (fun t b ht => ?_) trivial
    by_cases hb : n = b
    · subst hb
      exact congrArg Motor.st (State.getMotor_updMotor ..)
    · exact (congrArg Motor.st (State.getMotor_updMotor_ne _ _ _ _ hb)).trans ht
  have hrest : ∃ motors, forAll (List.range 8) (fun s n => s.updMotor n (fun m => { m with st := .cal })) s = { s with motors := motors } := by
    refine foldl_inv (fun t : State => ∃ motors, t = { s with motors := motors }) _ (fun t n ht => ?_) _ s ⟨s.motors, rfl⟩
    obtain ⟨_, rfl⟩ := ht
    exact ⟨_, rfl⟩
  obtain ⟨motors, hm⟩ := hrest
  rw [hm] at hcal
  exact ⟨motors, hm, hcal⟩

theorem State.upServices_eq (s : State) : ∃ motors, s.upServices = { s.served with motors := motors } ∧
    ∀ n < 8, (tabGet motorReset motors n).st = .cal := s.served.motors_calibrate

theorem QuadDark.setDomain {s : State} {k d : Nat} (h : QuadDark k s) (hk : k < 68) (hd : 68 ≤ d) : QuadDark k (s.setDomain d true) :=
  ⟨h.1, (bit_setBit_ne _ (by omega)).trans h.2⟩

theorem services_bounds : ∀ d ∈ [dAON, dHOST, dTHNA, dTHNB, dFEED, dMOT, dCHN, dMETA], 68 ≤ d ∧ d < 80 := by decide

/-- The services have power and a clock, the root PLL is locked, and the boot ROM serves. -/
structure Serves (s v : State) : Prop where
  rest     : v = { s with glb := v.glb, thn := v.thn }
  glb      : ({ v.glb with clk := s.glb.clk, pwr := s.glb.pwr } : Glb) = { s.glb with rootLock := true, phyLock := true, serdes := true }
  role     : v.thn.a.role = .rom
  services : ∀ d ∈ [dAON, dHOST, dTHNA, dTHNB, dFEED, dMOT, dCHN, dMETA], v.clocked d
  dark     : ∀ k < 68, QuadDark k s → QuadDark k v

theorem State.served_serves (s : State) : Serves s s.served where
  rest := rfl
  glb := rfl
  role := rfl
  services d hd := State.powerAll hd (services_bounds d hd).2 s
  dark k hk h :=
    (List.foldlRecOn _ _ (motive := QuadDark k) h (fun _ ht d hd => ht.setDomain hk (services_bounds d hd).1) :
      QuadDark k (forAll [dAON, dHOST, dTHNA, dTHNB, dFEED, dMOT, dCHN, dMETA] (fun s d => s.setDomain d true) s))

theorem State.setDomain_glb {s t : State} (h : t.glb = s.glb) (d : Nat) (up : Bool) : (t.setDomain d up).glb = (s.setDomain d up).glb := by
  simp [State.setDomain, h]

theorem State.bankUps_keep (bs : List Nat) (s : State) : (bs.foldl State.bankUp s).quads = s.quads ∧ (bs.foldl State.bankUp s).glb = s.glb ∧
    (bs.foldl State.bankUp s).time = s.time :=
  ⟨foldl_keeps State.quads State.bankUp (fun _ _ => by simp [State.bankUp]) bs s,
    foldl_keeps State.glb State.bankUp (fun _ _ => by simp [State.bankUp]) bs s,
    foldl_keeps State.time State.bankUp (fun _ _ => by simp [State.bankUp]) bs s⟩

theorem State.lsUp_does (q : Nat) (s : State) : (s.lsUp q).quads = s.quads ∧ (s.lsUp q).glb = (s.setDomain (dLS q) true).glb ∧
    (s.lsUp q).time = s.time := by
  unfold State.lsUp
  simp [State.bankUps_keep, State.setDomain]

/-- Line stores come up, and no quad is touched (R83 step 9). -/
theorem State.lineStores_up {l : List Nat} (hl : ∀ q ∈ l, q < 4) (s : State) : BringsUp s (forAll l (fun s q => s.lsUp q) s) ∧
    (forAll l (fun s q => s.lsUp q) s).quads = s.quads ∧ (forAll l (fun s q => s.lsUp q) s).time = s.time ∧
    (∀ q ∈ l, (forAll l (fun s q => s.lsUp q) s).clocked (dLS q)) ∧
    (∀ k < 68, QuadDark k s → QuadDark k (forAll l (fun s q => s.lsUp q) s)) := by
  have hclocked : ∀ (t : State) q, q < 4 → (t.lsUp q).clocked (dLS q) := fun t q hq => by
    rw [State.clocked, (t.lsUp_does q).2.1]
    exact State.clocked_setDomain t (by simp only [dLS]; omega)
  refine ⟨.forAll (fun _ _ => .lsUp ..) s, foldl_keeps State.quads (fun s q => s.lsUp q) (fun t q => (t.lsUp_does q).1) l s,
    foldl_keeps State.time (fun s q => s.lsUp q) (fun t q => (t.lsUp_does q).2.2) l s, fun q hq => ?_, fun k hk h => ?_⟩
  · exact foldl_reaches (I := fun _ => True) (P := fun t : State => t.clocked (dLS q)) (u := fun s q => s.lsUp q) hq
      (fun _ _ _ => trivial) (fun t _ => hclocked t q (hl q hq)) (fun t b ht => (BringsUp.lsUp t b).up (dLS q) ht) trivial
  · refine foldl_inv (QuadDark k) _ (fun t q ht => ?_) l s h
    obtain ⟨hquads, hglb, -⟩ := t.lsUp_does q
    obtain ⟨hshut, hpwr⟩ := ht.setDomain hk (d := dLS q) (by simp only [dLS]; omega)
    exact ⟨by rw [State.getQuad, hquads]; exact hshut, by rw [hglb]; exact hpwr⟩

theorem State.leaveRelay_restarts (s : State) : ∃ chn, chn.loadNext = s.chn.loadNext ∧ WorkRestarts { s with chn := chn } s.leaveRelay := by
  unfold State.leaveRelay
  split
  · refine ⟨_, ?_, .raise (s.updChn _) 318⟩
    rfl
  · exact ⟨s.chn, rfl, .refl s⟩

/-- What steps 6 to 10 of a power-up make of a part. -/
structure BroughtUp (t0 : Nat) (s t : State) : Prop where
  kept    : t.lanes = s.lanes ∧ t.ops = s.ops ∧ t.meter = s.meter ∧ t.fuse = s.fuse ∧ t.hostMem = s.hostMem ∧ t.pending = s.pending
  glb     : ({ t.glb with clk := s.glb.clk, pwr := s.glb.pwr } : Glb) = { s.glb with rootLock := true, phyLock := true, serdes := true }
  role    : t.thn.a.role = .rom
  load    : t.chn.loadNext = s.chn.loadNext
  cause   : t.flt.cause = s.flt.cause
  hosts   : ∀ q, (t.getHost q).Agrees (s.getHost q)
  motors  : ∀ n < 8, (t.getMotor n).st = .cal
  domains : ∀ d, 68 ≤ d → d < 80 → t.clocked d
  runs    : ∀ k < 68, (s.getQuad k).shutdown = false → QuadRuns k none t
  dark    : ∀ k < 68, QuadDark k s → QuadDark k t
  time    : t0 + 168 * msTicks < 2 ^ 64 → s.now ≤ t.now

theorem powerDomains_cover : ∀ d < 80, 68 ≤ d →
    d ∈ [dAON, dHOST, dTHNA, dTHNB, dFEED, dMOT, dCHN, dMETA] ∨ ∃ q ∈ [0, 1, 2, 3], d = dLS q := by decide

theorem State.bringUp_does (t0 : Nat) (s : State) : BroughtUp t0 s (s.bringUp t0) := by
  obtain ⟨motors, hm, hmot⟩ := s.upServices_eq
  obtain ⟨chn, hload, hchn⟩ := State.leaveRelay_restarts { s.served with motors := motors }
  have hv := s.served_serves
  rw [State.bringUp_eq, hm]
  generalize s.served = v at hv hchn hload ⊢
  generalize State.leaveRelay _ = c at hchn ⊢
  obtain ⟨hls, hquads, htime, hlsClocked, hlsDark⟩ := State.lineStores_up (by decide : ∀ q ∈ [0, 1, 2, 3], q < 4) c
  generalize forAll [0, 1, 2, 3] _ c = d at hls hquads htime hlsClocked hlsDark ⊢
  change BroughtUp t0 s (d.waves t0)
  have hwaves := BringsUp.waves t0 d
  have hruns : ∀ k < 68, (d.getQuad k).shutdown = false → QuadRuns k none (d.waves t0) := fun _ => .waves
  have hdark : ∀ k, QuadDark k d → QuadDark k (d.waves t0) := fun _ => .waves
  have hlater : t0 + 168 * msTicks < 2 ^ 64 → d.now ≤ (d.waves t0).now := State.le_now_waves
  generalize d.waves t0 = t at hwaves hruns hdark hlater ⊢
  have hall := ((BringsUp.of_work hchn).trans hls).trans hwaves
  obtain ⟨⟨hlanes, hops, hmeter, hfuse, hmem, hpend⟩, hthn, hchain, hmotors⟩ := hall.kept
  have hrest := hv.rest
  have hquad : ∀ j, d.getQuad j = s.getQuad j := fun j =>
    ((congrArg (tabGet Machine.quadReset · j) hquads).trans (hchn.getQuad j)).trans (congrArg (tabGet Machine.quadReset ·.quads j) hrest :)
  refine ⟨⟨hlanes.trans (congrArg State.lanes hrest :), hops.trans (congrArg State.ops hrest :), hmeter.trans (congrArg State.meter hrest :),
    hfuse.trans (congrArg State.fuse hrest :), hmem.trans (congrArg State.hostMem hrest :), hpend.trans (congrArg State.pending hrest :)⟩, ?_,
    (congrArg (fun x : Thn => x.a.role) hthn).trans hv.role, ((congrArg Chain.loadNext hchain).trans hload).trans (congrArg (fun x : State => x.chn.loadNext) hrest :),
    hall.cause.trans (congrArg (fun x : State => x.flt.cause) hrest :), fun q => (hall.hosts q).trans (agrees_of_host (congrArg State.host hrest :) q),
    fun n hn => ?_, fun i hi hi' => ?_, fun k hk h => ?_, fun k hk h => ?_, fun h => ?_⟩
  · exact (congrArg (fun x : Glb => ({ x with clk := s.glb.clk, pwr := s.glb.pwr } : Glb)) hall.glb :).trans hv.glb
  · rw [State.getMotor, hmotors]
    exact hmot n hn
  · rcases powerDomains_cover i hi' hi with h | ⟨q, hq, rfl⟩
    · exact hall.up i (hv.services i h)
    · exact hwaves.up _ (hlsClocked q hq)
  · exact hruns k hk ((congrArg Quad.shutdown (hquad k)).trans h)
  · refine hdark k (hlsDark k hk ?_)
    obtain ⟨hshut, hpwr⟩ := hv.dark k hk h
    exact ⟨(congrArg Quad.shutdown (hchn.getQuad k)).trans hshut, (congrArg (bit ·.pwr k) hchn.glb).trans hpwr⟩
  · refine le_trans (le_of_eq ?_) (hlater h)
    exact (congrArg BitVec.toNat ((htime.trans hchn.time).trans (congrArg State.time hrest :))).symm

end Sys2Proof.Machine
end

section
/-! Power-up and power failure (R82 to R84, R101, R512, R514, R515). -/

namespace Sys2Proof.Machine

/-! ### Faults (R488, R489) -/

theorem State.getSrc_writeRec (s : State) (r : Rec) (first : Bool) (i : Nat) : (s.writeRec r first).getSrc i = s.getSrc i := by
  unfold State.writeRec
  split
  · rfl
  · split
    · simp [State.getSrc]
    · rfl

theorem State.getSrc_raise (s : State) (src i : Nat) : (s.raise src).getSrc i = s.getSrc i := by simp [State.getSrc]
theorem State.getSrc_aer (s : State) (f : Nat) (e : Aer) (i : Nat) : (s.aer f e).getSrc i = s.getSrc i := by simp [State.getSrc]

/-- A fault marks its class as outstanding on its source, and a condition that stands is noted (R488, R489). -/
theorem State.fault_marks (s : State) (src : Nat) (cls : BitVec 2) (inst : Nat) (detail : W64) :
    bit ((s.fault src cls inst detail true).getSrc src).outCls cls.toNat = true ∧ inst ∈ ((s.fault src cls inst detail true).getSrc src).conds := by
  have hmark : ∃ x, (s.fault src cls inst detail true).getSrc src = x ∧ bit x.outCls cls.toNat = true ∧ inst ∈ x.conds := by
    unfold State.fault State.faultInj
    dsimp only
    generalize hm : s.updSrc src _ = m
    refine ⟨m.getSrc src, ?_, ?_⟩
    · split <;> split <;> simp only [State.getSrc_writeRec, State.getSrc_aer, State.getSrc_raise]
    · rw [← hm, State.getSrc_updSrc]
      refine ⟨bit_setBit_self _ cls.isLt, ?_⟩
      dsimp only
      split
      · exact List.mem_cons_self ..
      · next h => simpa using h
  obtain ⟨x, hx, hbit, hcond⟩ := hmark
  exact hx ▸ ⟨hbit, hcond⟩

/-! ### Steps 6 to 10 of a cold power-up (R83) -/

theorem QuadRuns.of_work {k : Nat} {h : Option W32} {s t : State} (hr : QuadRuns k h s) (hw : WorkRestarts s t) : QuadRuns k h t where
  job := (congrArg Quad.job (hw.getQuad k)).trans hr.job
  divAct := (congrArg Quad.divAct (hw.getQuad k)).trans hr.divAct
  shutdown := (congrArg Quad.shutdown (hw.getQuad k)).trans hr.shutdown
  clocked := (BringsUp.of_work hw).up k hr.clocked

theorem QuadDark.of_work {k : Nat} {s t : State} (hd : QuadDark k s) (hw : WorkRestarts s t) : QuadDark k t :=
  ⟨(congrArg Quad.shutdown (hw.getQuad k)).trans hd.1, (congrArg (bit ·.pwr k) hw.glb).trans hd.2⟩

/-- Work that starts again after a power-up leaves what the power-up has brought. -/
theorem BroughtUp.of_work {t0 : Nat} {s t u : State} (h : BroughtUp t0 s t) (hw : WorkRestarts t u) : BroughtUp t0 s u := by
  obtain ⟨⟨hlanes, hops, hmeter, hfuse, hmem, hpend⟩, hthn, hchn, hmot⟩ := (BringsUp.of_work hw).kept
  obtain ⟨klanes, kops, kmeter, kfuse, kmem, kpend⟩ := h.kept
  exact {
    kept := ⟨hlanes.trans klanes, hops.trans kops, hmeter.trans kmeter, hfuse.trans kfuse, hmem.trans kmem, hpend.trans kpend⟩
    glb := (congrArg (fun x : Glb => ({ x with clk := s.glb.clk, pwr := s.glb.pwr } : Glb)) hw.glb).trans h.glb
    role := (congrArg (fun x : Thn => x.a.role) hthn).trans h.role
    load := (congrArg Chain.loadNext hchn).trans h.load
    cause := hw.cause.trans h.cause
    hosts := fun q => (hw.hosts q).trans (h.hosts q)
    motors := fun n hn => (congrArg (fun m => (tabGet motorReset m n).st) hmot).trans (h.motors n hn)
    domains := fun d hd hd' => (BringsUp.of_work hw).up d (h.domains d hd hd')
    runs := fun k hk hs => (h.runs k hk hs).of_work hw
    dark := fun k hk hd => (h.dark k hk hd).of_work hw
    time := fun ht => (h.time ht).trans_eq (congrArg BitVec.toNat hw.time).symm }

section
variable {t0 : Nat} {s : State}

theorem State.firstUp_does (t0 : Nat) (s : State) : BroughtUp t0 s (s.firstUp t0) := by
  have h := s.bringUp_does t0
  unfold State.firstUp State.raiseIf
  split
  · exact h.of_work (.raise ..)
  · exact h

theorem BroughtUp.alive {t : State} (h : BroughtUp t0 s t) : t.alive = s.alive :=
  (congrArg (fun x : Glb => x.powered && !x.devStop && !x.pins) h.glb :)

/-- Epochs that are exhausted are reported once HOST runs (R515). -/
theorem State.firstUp_reports (ha : s.alive = true) (he : s.fuse.epochExh = true) : bit (s.firstUp t0).evt.stat 374 = true := by
  have h := s.bringUp_does t0
  have hon : (s.bringUp t0).on dHOST = true := by
    obtain ⟨-, hclk⟩ := h.domains dHOST (by decide) (by decide)
    simp only [State.on, h.alive, ha, hclk, Bool.and_self]
  unfold State.firstUp State.raiseIf
  rw [he, if_pos rfl]
  exact State.raise_stat_self (src := 374) hon (by decide)

/-- Every domain that is no quad, and every quad that is not in latched shutdown, has power and a clock. -/
theorem BroughtUp.powered {t : State} (h : BroughtUp t0 s t) : ∀ d < 80, 68 ≤ d ∨ (s.getQuad d).shutdown = false → t.clocked d := by
  intro d hd hq
  by_cases hd' : 68 ≤ d
  · exact h.domains d hd' hd
  · exact (h.runs d (by omega) (hq.resolve_left hd')).clocked

end

/-! ### A cold power-up (R83, R84, R515, R520) -/

/-- What a cold power-up starts from: the reset values, with the fuses, host memory and the work queue kept, its cause recorded, and the
epochs exhausted or one to be programmed (R515, R520). -/
structure ColdStart (cause : ColdCause) (s t : State) : Prop where
  glb   : t.glb = { resetGlb with
    powered := true, resOk := true, clkMode := bit (s.getFuse 5 2) 0, clkModeOn := bit (s.getFuse 5 2) 0
    rstCause := if cause = .vin then 1 else 2 }
  empty : t.quads = [] ∧ t.lanes = [] ∧ t.ops = [] ∧ t.meter = resetMeter
  kept  : t.hostMem = s.hostMem ∧ t.pending = s.pending ∧ t.fuse.words = s.fuse.words ∧ t.fuse.wl = s.fuse.wl ∧ t.fuse.rl = s.fuse.rl
  spent : s.bootEpoch = some 4095 → t.fuse.epochExh = true ∧ t.fuse.epochPend = false ∧ bit t.flt.cause 3 = true
  fresh : s.bootEpoch ≠ some 4095 → t.fuse.epochExh = false ∧ t.fuse.epochPend = true

/-- Exhausted epochs are noted and are the cause SEAL of SVCREQ (R515, R520). -/
theorem State.exhaust_does (s : State) : s.exhaust.glb = s.glb ∧ s.exhaust.quads = s.quads ∧ s.exhaust.lanes = s.lanes ∧ s.exhaust.ops = s.ops ∧
    s.exhaust.meter = s.meter ∧ s.exhaust.hostMem = s.hostMem ∧ s.exhaust.pending = s.pending ∧
    s.exhaust.fuse.words = s.fuse.words ∧ s.exhaust.fuse.wl = s.fuse.wl ∧ s.exhaust.fuse.rl = s.fuse.rl ∧ s.exhaust.fuse.epochExh = true ∧
    s.exhaust.fuse.epochPend = false ∧ bit s.exhaust.flt.cause 3 = true := by
  have hcause : ∀ (t : State), bit (t.setCause 3 true).flt.cause 3 = true := fun t => by
    unfold State.setCause
    simp only [State.raiseIf_frame]
    exact bit_setBit_self (i := 3) _ (by decide)
  unfold State.exhaust
  refine ⟨?_, ?_, ?_, ?_, ?_, ?_, ?_, ?_, ?_, ?_, ?_, ?_, hcause _⟩ <;> simp

/-- The state at the start of a cold power-up. -/
def State.coldStart (cause : ColdCause) (s : State) : State :=
  let t : State := { s.coldState with glb := { resetGlb with
    powered := true, resOk := true, clkMode := bit (s.getFuse 5 2) 0, clkModeOn := bit (s.getFuse 5 2) 0
    rstCause := if cause = .vin then 1 else 2 } }
  if s.bootEpoch = some 4095 then t.exhaust else t

theorem State.coldStart_starts (cause : ColdCause) (s : State) : ColdStart cause s (s.coldStart cause) := by
  unfold State.coldStart
  dsimp only
  generalize ht : ({ s.coldState with glb := _ } : State) = t
  split
  · next he =>
    obtain ⟨hglb, hquads, hlanes, hops, hmeter, hmem, hpend, hwords, hwl, hrl, hexh, hnone, hcause⟩ := t.exhaust_does
    subst ht
    exact ⟨hglb, ⟨hquads, hlanes, hops, hmeter⟩, ⟨hmem, hpend, hwords, hwl, hrl⟩, fun _ => ⟨hexh, hnone, hcause⟩, fun h => absurd he h⟩
  · next he =>
    subst ht
    exact ⟨rfl, ⟨rfl, rfl, rfl, rfl⟩, ⟨rfl, rfl, rfl, rfl, rfl⟩, fun h => absurd h he, fun _ => ⟨rfl, rfl⟩⟩

theorem coldPowerUp_eq {cause : ColdCause} {s : State} (lock : Bool) (h : s.glb.powered = false ∨ s.glb.failing = true) :
    coldPowerUp cause lock s = if lock then (s.coldStart cause).firstUp 0 else (s.coldStart cause).fault 10 3 0 0 true := by
  have hc : (s.glb.powered && !s.glb.failing) = false := by rcases h with h | h <;> simp [h]
  unfold coldPowerUp
  rw [hc]
  rfl

section
variable {cause : ColdCause} {s c : State}

theorem ColdStart.shutdown (h : ColdStart cause s c) (k : Nat) : (c.getQuad k).shutdown = false := by
  rw [State.getQuad, h.empty.1]
  rfl

/-- A cold power-up with lock (R83). -/
theorem ColdStart.locks (h : ColdStart cause s c) : let t := c.firstUp 0
    t.glb.powered = true ∧ t.glb.failing = false ∧ t.glb.rootLock = true ∧ t.glb.hwrdy = false ∧
    (∀ d < 80, bit t.glb.pwr d = true ∧ bit t.glb.clk d = true) ∧ t.thn.a.role = .rom ∧ (∀ l < 16, (t.getLane l).st = .idle) ∧ t.ops = [] ∧
    (∀ k < 68, (t.getQuad k).job = .calibrating none ∧ (t.getQuad k).divAct = 2) ∧ (∀ n < 8, (t.getMotor n).st = .cal) ∧
    t.meter = resetMeter ∧ t.fuse.words = s.fuse.words ∧ t.fuse.wl = s.fuse.wl ∧ t.fuse.rl = s.fuse.rl ∧ t.hostMem = s.hostMem ∧
    t.pending = s.pending ∧ t.glb.rstCause = (if cause = .vin then 1 else 2) ∧ t.glb.clkModeOn = bit (s.getFuse 5 2) 0 ∧
    (s.bootEpoch = some 4095 → t.fuse.epochExh = true ∧ t.fuse.epochPend = false ∧ bit t.evt.stat 374 = true ∧ bit t.flt.cause 3 = true) ∧
    (s.bootEpoch ≠ some 4095 → t.fuse.epochExh = false ∧ t.fuse.epochPend = true) := by
  have hup := c.firstUp_does 0
  have hrep := c.firstUp_reports (t0 := 0)
  dsimp only
  generalize c.firstUp 0 = t at hup hrep ⊢
  have hg := hup.glb
  have halive : c.alive = true := by rw [State.alive, h.glb]; rfl
  rw [h.glb] at hg
  obtain ⟨-, hlanes, hops, hmeter⟩ := h.empty
  obtain ⟨hmem, hpend, hwords, hwl, hrl⟩ := h.kept
  obtain ⟨klanes, kops, kmeter, kfuse, kmem, kpend⟩ := hup.kept
  rw [kfuse, kops, kmeter, kmem, kpend, hup.cause]
  refine ⟨(congrArg Glb.powered hg :), (congrArg Glb.failing hg :), (congrArg Glb.rootLock hg :), (congrArg Glb.hwrdy hg :),
    fun d hd => hup.powered d hd (.inr (h.shutdown d)), hup.role, fun l _ => ?_, hops, fun k hk => ?_, hup.motors, hmeter, hwords, hwl, hrl, hmem, hpend,
    (congrArg Glb.rstCause hg :), (congrArg Glb.clkModeOn hg :), fun he => ?_, h.fresh⟩
  · rw [State.getLane, klanes, hlanes]
    rfl
  · exact ⟨(hup.runs k hk (h.shutdown k)).job, (hup.runs k hk (h.shutdown k)).divAct⟩
  · obtain ⟨hexh, hnone, hcause⟩ := h.spent he
    exact ⟨hexh, hnone, hrep halive hexh, hcause⟩

theorem bit_aonClock : ∀ d < 80, bit (1#80 <<< dAON) d = decide (d = dAON) := by decide

/-- A cold power-up without lock stops in step 5: only AON runs, and the root clock is a DEVICE-CRITICAL fault (R84, R489). -/
theorem ColdStart.stops (h : ColdStart cause s c) : let t := c.fault 10 3 0 0 true
    t.glb.powered = true ∧ t.glb.rootLock = false ∧ t.fuse.words = s.fuse.words ∧
    (∀ d < 80, d ≠ dAON → bit t.glb.pwr d = false ∧ bit t.glb.clk d = false) ∧ bit (t.getSrc 10).outCls 3 = true ∧
    t.glb.rstCause = (if cause = .vin then 1 else 2) := by
  have hmark := (c.fault_marks 10 3 0 0).1
  have hg : (c.fault 10 3 0 0 true).glb = c.glb := by simp
  have hf : (c.fault 10 3 0 0 true).fuse = c.fuse := by simp
  dsimp only
  generalize c.fault 10 3 0 0 true = t at hmark hg hf ⊢
  rw [hg, hf, h.glb]
  refine ⟨rfl, rfl, h.kept.2.2.1, fun d hd hne => ⟨BitVec.getLsbD_zero, ?_⟩, hmark, rfl⟩
  exact (bit_aonClock d hd).trans (decide_eq_false hne)

end

/-- PLL-LOCK-RETRY on a part that has not locked (R84). -/
theorem pllLockRetry_eq {s : State} (lock : Bool) (ha : s.alive = true) (hv : s.glb.failing = false) (hr : s.glb.rootLock = false)
    (hp : bit s.glb.pwr dHOST = false) : pllLockRetry lock s = if lock then s.firstUp s.now else s := by
  unfold pllLockRetry
  rw [ha, hv, hr, hp]
  cases lock <;> rfl

end Sys2Proof.Machine
end

section
/-! POWER-FAIL sheds the load (R82, R101, R265, R266, R358, R400). -/

namespace Sys2Proof.Machine

/-! ### What the loss of a quad leaves (R86) -/

/-- The domains, the meters, the fuses and CHN of t are those of s. -/
structure SupplyKept (s t : State) : Prop where
  glb   : t.glb = s.glb
  meter : t.meter = s.meter
  fuse  : t.fuse = s.fuse
  chn   : t.chn = s.chn

namespace SupplyKept

theorem refl (s : State) : SupplyKept s s := ⟨rfl, rfl, rfl, rfl⟩

theorem trans {a b c : State} (h : SupplyKept a b) (k : SupplyKept b c) : SupplyKept a c :=
  ⟨k.glb.trans h.glb, k.meter.trans h.meter, k.fuse.trans h.fuse, k.chn.trans h.chn⟩

theorem ite {s t u : State} {p : Prop} [Decidable p] (h : SupplyKept s t) (k : SupplyKept s u) : SupplyKept s (if p then t else u) := by
  split
  · exact h
  · exact k

theorem forAll {l : List Nat} {u : State → Nat → State} (h : ∀ t a, SupplyKept t (u t a)) (s : State) : SupplyKept s (forAll l u s) :=
  foldl_inv (SupplyKept s) u (fun t a ht => ht.trans (h t a)) l s (.refl s)

variable (s : State)

theorem updCell (c : Nat) (u : Cell → Cell) : SupplyKept s (s.updCell c u) := ⟨rfl, rfl, rfl, rfl⟩
theorem updTest (q : Nat) (u : SelfTest → SelfTest) : SupplyKept s (s.updTest q u) := ⟨rfl, rfl, rfl, rfl⟩
theorem updLink (l : Nat) (u : Link → Link) : SupplyKept s (s.updLink l u) := ⟨rfl, rfl, rfl, rfl⟩
theorem updGate (g : Nat) (u : Gate → Gate) : SupplyKept s (s.updGate g u) := ⟨rfl, rfl, rfl, rfl⟩
theorem updQuad (k : Nat) (u : Quad → Quad) : SupplyKept s (s.updQuad k u) := ⟨rfl, rfl, rfl, rfl⟩
theorem raise (src : Nat) : SupplyKept s (s.raise src) := ⟨by simp, by simp, by simp, by simp⟩
theorem cellEvt (c i : Nat) : SupplyKept s (s.cellEvt c i) := ⟨by simp, by simp, by simp, by simp⟩
theorem hlEvt (l i : Nat) : SupplyKept s (s.hlEvt l i) := ⟨by simp, by simp, by simp, by simp⟩
theorem settleSpares : SupplyKept s s.settleSpares := by
  unfold State.settleSpares
  exact ⟨by simp, by simp, by simp, by simp⟩
theorem fault (src : Nat) (cls : BitVec 2) (inst : Nat) (detail : W64) (stands : Bool) : SupplyKept s (s.fault src cls inst detail stands) :=
  ⟨by simp, by simp, by simp, by simp⟩
theorem finishAll (p : Op → Bool) (status : BitVec 16) (detail : Nat) : SupplyKept s (s.finishAll p status detail) :=
  ⟨by simp, by simp, by simp, by simp⟩

theorem sparesOut (q : Nat) : SupplyKept s (s.sparesOut q) := by
  unfold State.sparesOut
  exact .ite (settleSpares s) (((((forAll (fun _ _ => updCell ..) s).trans (updTest ..)).trans (settleSpares _))).trans (raise ..))

theorem spareStays (q : Nat) (stays : Bool) : SupplyKept s (s.spareStays q stays) := .ite (sparesOut s q) (settleSpares s)

theorem recycleSpares (out : Bool) (spare : Nat) : SupplyKept s (s.recycleSpares out spare) := .ite (updQuad ..) (.refl s)

theorem failTakeover (c : Nat) : SupplyKept s (s.failTakeover c) := by
  unfold State.failTakeover
  dsimp only
  refine .trans ?_ (finishAll ..)
  refine .trans ?_ (recycleSpares ..)
  refine .trans ?_ (spareStays ..)
  refine .trans ?_ (.ite (updTest ..) (.refl _))
  refine .trans ?_ (fault ..)
  refine .trans ?_ (cellEvt ..)
  refine .trans ?_ (.ite (updCell ..) (.refl _))
  exact updCell ..

theorem quadLosesWork (k : Nat) : SupplyKept s (s.quadLosesWork k) := by
  unfold State.quadLosesWork
  refine (forAll (fun t c => failTakeover t c) s).trans (forAll (fun t q => ?_) _)
  split
  · exact .refl t
  · exact .ite (((updCell ..).trans (updTest ..)).trans (spareStays ..)) (.refl t)

theorem skipTests (p : GTest → Bool) : SupplyKept s (s.skipTests p) := forAll (fun t _ => .ite (.refl t) (updGate ..)) s

theorem linkGoesDown (l : Nat) : SupplyKept s (s.linkGoesDown l) := by
  unfold State.linkGoesDown
  dsimp only
  refine .ite (updLink ..) ?_
  refine .trans ?_ (.ite (fault ..) (.refl _))
  exact (((updLink ..).trans (skipTests ..)).trans (updLink ..)).trans (hlEvt ..)

theorem dropExchange (k : Nat) : SupplyKept s (s.dropExchange k) :=
  forAll (fun t _ => (SupplyKept.ite (.refl t) (updCell ..)).trans (updCell ..)) s

end SupplyKept

/-- A quad that goes off loses its power and its clock; no other domain does (R86 steps 2 and 3). -/
theorem State.quadOff_keeps (s : State) (k : Nat) : (s.quadOff k).glb = (s.setDomain k false).glb ∧ (s.quadOff k).meter = s.meter ∧
    (s.quadOff k).fuse = s.fuse ∧ (s.quadOff k).chn = s.chn := by
  unfold State.quadOff
  dsimp only
  generalize (s.quadLosesWork k).workCells k = cells
  have hwork := SupplyKept.quadLosesWork s k
  generalize s.quadLosesWork k = t at hwork ⊢
  have hlinks := SupplyKept.forAll (l := cells.flatMap linksOf) (fun t l => .linkGoesDown t l) t
  generalize forAll (cells.flatMap linksOf) _ t = u at hlinks ⊢
  have hgates := SupplyKept.forAll (l := u.gatesOf k) (u := fun s g => s.gateDown g) (fun t _ => .updGate t ..) u
  generalize forAll (u.gatesOf k) _ u = v at hgates ⊢
  obtain ⟨hglb, hmeter, hfuse, hchn⟩ := ((hwork.trans hlinks).trans hgates).trans (.dropExchange v k)
  exact ⟨State.setDomain_glb hglb k false, hmeter, hfuse, hchn⟩

/-! ### What the shed load leaves (R82, R101) -/

theorem bit_setBit_false_ne {w i j : Nat} (x : BitVec w) (h : j ≠ i) : bit (setBit x i false) j = bit x j := by
  simp [bit, setBit]
  intro hj
  have hw := BitVec.lt_of_getLsbD hj
  omega

/-- The domains of l have the power and the clock in t that they have in s, and t's meters, fuses and CHN are those of s. -/
structure LeavesOn (l : List Nat) (s t : State) : Prop where
  domains : ∀ d ∈ l, bit t.glb.pwr d = bit s.glb.pwr d ∧ bit t.glb.clk d = bit s.glb.clk d
  rest    : t.meter = s.meter ∧ t.fuse = s.fuse ∧ t.chn = s.chn

namespace LeavesOn

variable {l : List Nat} {s : State}

theorem refl (l : List Nat) (s : State) : LeavesOn l s s := ⟨fun _ _ => ⟨rfl, rfl⟩, rfl, rfl, rfl⟩

theorem trans {t u : State} (h : LeavesOn l s t) (k : LeavesOn l t u) : LeavesOn l s u where
  domains d hd := ⟨(k.domains d hd).1.trans (h.domains d hd).1, (k.domains d hd).2.trans (h.domains d hd).2⟩
  rest := ⟨k.rest.1.trans h.rest.1, k.rest.2.1.trans h.rest.2.1, k.rest.2.2.trans h.rest.2.2⟩

theorem setDomain {k : Nat} (hk : k ∉ l) (s : State) : LeavesOn l s (s.setDomain k false) where
  domains d hd := by
    have hne : d ≠ k := fun h => hk (h ▸ hd)
    exact ⟨bit_setBit_false_ne _ hne, bit_setBit_false_ne _ hne⟩
  rest := ⟨rfl, rfl, rfl⟩

theorem quadOff {k : Nat} (hk : k ∉ l) (s : State) : LeavesOn l s (s.quadOff k) := by
  obtain ⟨hglb, hrest⟩ := s.quadOff_keeps k
  exact ⟨fun d hd => hglb ▸ (setDomain hk s).domains d hd, hrest⟩

end LeavesOn

/-- Domain d has neither power nor a clock. -/
def State.dark (s : State) (d : Nat) : Prop := bit s.glb.pwr d = false ∧ bit s.glb.clk d = false

theorem State.dark_setDomain (s : State) (d : Nat) : (s.setDomain d false).dark d := ⟨bit_setBit_false .., bit_setBit_false ..⟩

theorem State.dark.setDomain {s : State} {d : Nat} (h : s.dark d) (k : Nat) : (s.setDomain k false).dark d := by
  by_cases hk : d = k
  · exact hk ▸ s.dark_setDomain d
  · exact ⟨(bit_setBit_false_ne _ hk).trans h.1, (bit_setBit_false_ne _ hk).trans h.2⟩

/-- Shedding the load leaves the domains to keep, none of which is a quad, and takes power and clock from all others. -/
theorem State.shed_does {keep : List Nat} (hkeep : ∀ k < 68, k ∉ keep) (s : State) :
    LeavesOn keep s (s.shed keep) ∧ ∀ d < 80, d ∉ keep → (s.shed keep).dark d := by
  unfold State.shed
  dsimp only
  generalize hl : (List.range 68).filter (fun k => bit s.glb.pwr k) = quads
  generalize hr : (List.range 80).filter (fun d => !keep.contains d) = rest
  have hquads : LeavesOn keep s (forAll quads (fun s k => s.quadOff k) s) :=
    List.foldlRecOn _ _ (motive := LeavesOn keep s) (.refl keep s) fun t ht k hk => by
      rw [← hl] at hk
      exact ht.trans (.quadOff (hkeep k (List.mem_range.mp (List.mem_of_mem_filter hk))) t)
  generalize forAll quads _ s = t at hquads ⊢
  refine ⟨hquads.trans (List.foldlRecOn _ _ (motive := LeavesOn keep t) (.refl keep t) fun u hu d hd => ?_), fun d hd hne => ?_⟩
  · subst hr
    exact hu.trans (.setDomain (by simpa using (List.mem_filter.mp hd).2) u)
  · have hmem : d ∈ rest := by
      rw [← hr]
      simpa using ⟨hd, hne⟩
    exact foldl_reaches (I := fun _ => True) (P := fun u : State => u.dark d) (u := fun u b => u.setDomain b false) hmem (fun _ _ _ => trivial)
      (fun u _ => u.dark_setDomain d) (fun u b hu => hu.setDomain b) trivial

theorem powerFail_eq {s : State} (hp : s.glb.powered = true) (hv : s.glb.failing = false) : ∃ t, t = s.shed [dAON, dCHN, dMETA] ∧
    powerFail s = { t with glb := { t.glb with failing := true, linkUp := false } } := by
  refine ⟨_, rfl, ?_⟩
  unfold powerFail
  rw [hp, hv]
  rfl

theorem quad_notMem_kept : ∀ k < 68, k ∉ [dAON, dCHN, dMETA] := by decide

/-- Settles O52: power-up and lock retry bring up every domain by `State.bringUp_does`, and the shed load leaves AON, CHN and META. -/
theorem powerComesAndGoes : Obligations.PowerComesAndGoes := by
  unfold Obligations.PowerComesAndGoes
  intro s
  refine ⟨fun cause hoff => ⟨⟨_, congrArg Host.Outcome.next (coldPowerUp_eq true hoff), (s.coldStart_starts cause).locks⟩,
    ⟨_, congrArg Host.Outcome.next (coldPowerUp_eq false hoff), (s.coldStart_starts cause).stops⟩⟩, fun ha hv hr hp => ?_, fun hp hv => ?_⟩
  · have hup := s.firstUp_does s.now
    obtain ⟨-, -, hmeter, hfuse, -, -⟩ := hup.kept
    exact ⟨congrArg Host.Outcome.next (pllLockRetry_eq false ha hv hr hp), _, congrArg Host.Outcome.next (pllLockRetry_eq true ha hv hr hp),
      (congrArg Glb.rootLock hup.glb :), hup.role, hup.powered, hfuse, hmeter⟩
  · obtain ⟨t, ht, heq⟩ := powerFail_eq hp hv
    obtain ⟨⟨hkept, hmeter, hfuse, hchn⟩, hdark⟩ := s.shed_does quad_notMem_kept
    rw [← ht] at hkept hmeter hfuse hchn hdark
    refine ⟨_, congrArg Host.Outcome.next heq, rfl, rfl, fun d hd => ?_, hmeter, hfuse, hchn⟩
    split
    · next h => exact hkept d (by simpa using h)
    · next h => exact hdark d hd (by simpa using h)

end Sys2Proof.Machine
end
section
/-! The root clock is lost and returns (R56, R61, R88, R434, R501). -/

namespace Sys2Proof.Machine

/-! ### ROOT-PLL-UNLOCK (R56) -/

/-- t is s but for CHN, the discipline state and what is held of interrupts: time, power, lanes, meters, fuses and the operations stay. -/
structure RunsOn (s t : State) : Prop where
  rest : t.time = s.time ∧ t.lanes = s.lanes ∧ t.meter = s.meter ∧ t.fuse = s.fuse ∧ t.ops = s.ops
  pwr  : t.glb.pwr = s.glb.pwr

namespace RunsOn

theorem refl (s : State) : RunsOn s s := ⟨⟨rfl, rfl, rfl, rfl, rfl⟩, rfl⟩

theorem trans {a b c : State} (h : RunsOn a b) (k : RunsOn b c) : RunsOn a c := by
  obtain ⟨⟨htime, hlanes, hmeter, hfuse, hops⟩, hpwr⟩ := h
  obtain ⟨⟨ktime, klanes, kmeter, kfuse, kops⟩, kpwr⟩ := k
  exact ⟨⟨ktime.trans htime, klanes.trans hlanes, kmeter.trans hmeter, kfuse.trans hfuse, kops.trans hops⟩, kpwr.trans hpwr⟩

theorem dropPort (s : State) (x : Nat) : RunsOn s (s.dropPort x) := by
  constructor <;> simp [State.dropPort, State.setPort, State.updPort]

theorem setDisc (s : State) (d : Disc) : RunsOn s (s.setDisc d) := by
  unfold State.setDisc
  split
  · exact .refl s
  · constructor <;> simp

theorem losePaths (s : State) : RunsOn s s.losePaths := by
  unfold State.losePaths
  split
  · exact setDisc s _
  · exact .refl s

theorem fault (s : State) (src : Nat) (cls : BitVec 2) (inst : Nat) (detail : W64) (stands : Bool) : RunsOn s (s.fault src cls inst detail stands) := by
  constructor <;> simp

end RunsOn

theorem State.losePaths_chn (s : State) : s.losePaths.chn = s.chn := by
  unfold State.losePaths State.setDisc
  split
  · split <;> simp
  · rfl

theorem State.getPort_dropPort (s : State) (x : Nat) : ((s.dropPort x).getPort x).st = .down := by
  unfold State.dropPort State.setPort
  simp [State.getPort, State.updPort, tabGet_tabPut_self]

/-- A port that is down stays down when a port goes down. -/
theorem State.down_dropPort {s : State} {y : Nat} (h : (s.getPort y).st = .down) (x : Nat) : ((s.dropPort x).getPort y).st = .down := by
  by_cases hx : y = x
  · exact hx ▸ s.getPort_dropPort y
  · unfold State.dropPort State.setPort
    simpa [State.getPort, State.updPort, tabGet_tabPut_ne _ _ _ _ _ hx] using h

/-- The chain ports of l go down (R434). -/
def State.dropPorts (l : List Nat) (s : State) : State := forAll l (fun s x => s.dropPort x) s

theorem RunsOn.dropPorts (l : List Nat) (s : State) : RunsOn s (s.dropPorts l) :=
  foldl_inv (RunsOn s) (fun s x => s.dropPort x) (fun t x ht => ht.trans (.dropPort t x)) l s (.refl s)

theorem State.dropPorts_down {l : List Nat} {x : Nat} (hx : x ∈ l) (s : State) : ((s.dropPorts l).getPort x).st = .down :=
  foldl_reaches (I := fun _ => True) (P := fun t : State => (t.getPort x).st = .down) (u := fun s x => s.dropPort x) hx
    (fun _ _ _ => trivial) (fun t _ => t.getPort_dropPort x) (fun _ y ht => State.down_dropPort ht y) trivial

/-- The chain is open and every clock but AON's has stopped (R56, R434). -/
def State.unlocked (s : State) : State :=
  let s := ((s.dropPorts [0, 1, 2, 3]).updChn (fun c => { c with closed := false, spur := false })).losePaths
  { s with glb := { s.glb with
    rootLock := false, serdes := false, phyLock := s.glb.phyLock && s.glb.clkModeOn, clk := 1#80 <<< dAON } }

theorem rootPllUnlock_eq {s : State} (ha : s.alive = true) (hr : s.glb.rootLock = true) : rootPllUnlock s = s.unlocked.fault 10 3 0 0 true := by
  unfold rootPllUnlock State.unlocked State.dropPorts
  rw [ha, hr, Bool.and_self, if_pos rfl]

theorem State.unlocked_does (s : State) : RunsOn s s.unlocked ∧ s.unlocked.glb.rootLock = false ∧ s.unlocked.glb.clk = 1#80 <<< dAON ∧
    s.unlocked.chn.closed = false ∧ ∀ x < 4, (s.unlocked.getPort x).st = .down := by
  have hdown : ∀ x < 4, ((s.dropPorts [0, 1, 2, 3]).getPort x).st = .down := fun x hx =>
    State.dropPorts_down (List.mem_range.mpr hx : x ∈ List.range 4) s
  have hruns := RunsOn.dropPorts [0, 1, 2, 3] s
  unfold State.unlocked
  generalize s.dropPorts [0, 1, 2, 3] = t at hdown hruns ⊢
  dsimp only
  have hopen : RunsOn t (t.updChn (fun c => { c with closed := false, spur := false })) := ⟨⟨rfl, rfl, rfl, rfl, rfl⟩, rfl⟩
  have hchn := State.losePaths_chn (t.updChn (fun c => { c with closed := false, spur := false }))
  have hlose := RunsOn.losePaths (t.updChn (fun c => { c with closed := false, spur := false }))
  generalize State.losePaths _ = u at hchn hlose ⊢
  obtain ⟨hrest, hpwr⟩ := (hruns.trans hopen).trans hlose
  refine ⟨⟨hrest, hpwr⟩, rfl, rfl, (congrArg Chain.closed hchn :), fun x hx => ?_⟩
  exact (congrArg (fun c : Chain => (tabGet portReset c.ports x).st) hchn :).trans (hdown x hx)

theorem rootPllUnlock_stops {s : State} (ha : s.alive = true) (hr : s.glb.rootLock = true) :
    let t := rootPllUnlock s
    t.glb.rootLock = false ∧ t.fire = false ∧ t.time = s.time ∧ (∀ d < 80, bit t.glb.clk d = decide (d = dAON)) ∧ t.glb.pwr = s.glb.pwr ∧
    (∀ x < 4, (t.getPort x).st = .down) ∧ t.chn.closed = false ∧ bit (t.getSrc 10).outCls 3 = true ∧ 0 ∈ (t.getSrc 10).conds ∧
    t.lanes = s.lanes ∧ t.meter = s.meter ∧ t.fuse = s.fuse ∧ t.ops = s.ops := by
  rw [rootPllUnlock_eq ha hr]
  obtain ⟨hruns, hlock, hclk, hclosed, hdown⟩ := s.unlocked_does
  generalize s.unlocked = u at hruns hlock hclk hclosed hdown ⊢
  obtain ⟨hcls, hcond⟩ := u.fault_marks 10 3 0 0
  have hglb : (u.fault 10 3 0 0 true).glb = u.glb := by simp
  have hchn : (u.fault 10 3 0 0 true).chn = u.chn := by simp
  obtain ⟨⟨htime, hlanes, hmeter, hfuse, hops⟩, hpwr⟩ := hruns.trans (.fault u 10 3 0 0 true)
  dsimp only
  generalize u.fault 10 3 0 0 true = t at hcls hcond hglb hchn htime hlanes hmeter hfuse hops hpwr ⊢
  refine ⟨hglb ▸ hlock, ?_, htime, fun d hd => ?_, hpwr, fun x hx => ?_, hchn ▸ hclosed, hcls, hcond, hlanes, hmeter, hfuse, hops⟩
  · rw [State.fire, hglb, hlock, Bool.and_false]
  · rw [hglb, hclk]
    exact bit_aonClock d hd
  · rw [State.getPort, hchn]
    exact hdown x hx

/-! ### RELOCK-RESTART (R501) -/

theorem relockRestart_eq {s : State} (ha : s.alive = true) (hv : s.glb.failing = false) (hr : s.glb.rootLock = false)
    (hp : bit s.glb.pwr dHOST = true) : relockRestart s = s.relockState.bringUp s.now := by
  unfold relockRestart
  rw [ha, hv, hr, hp]
  rfl

section
variable {s : State}

/-- A relock restart keeps a quad's registers in AON, its latched shutdown among them. -/
theorem State.getQuad_relockState (hc : Canonical s) (k : Nat) : s.relockState.getQuad k = (s.getQuad k).restarted :=
  tabGet_tabMap (u := fun _ (x : Quad) => x.restarted) hc.quads.1 rfl

/-- A relock restart leaves a queue pair at reset but for its counters. -/
theorem State.getHost_relockState (hc : Canonical s) (f : Nat) :
    s.relockState.getHost f = { hostReset 0 with next := (s.getHost f).next, prSeq := (s.getHost f).prSeq } :=
  tabGet_tabMap (u := fun _ (h : HostFn) => { hostReset 0 with next := h.next, prSeq := h.prSeq }) hc.host.1 rfl

theorem bit_relockPower : ∀ k < 68, bit ((1#80 <<< dAON) ||| (1#80 <<< dMETA)) k = false := by decide

theorem relockRestart_restarts (hc : Canonical s) : let t := s.relockState.bringUp s.now
    t.glb.rootLock = true ∧ t.glb.hwrdy = false ∧ t.glb.linkUp = false ∧ t.chn.loadNext = true ∧ t.thn.a.role = .rom ∧
    (∀ l < 16, (t.getLane l).st = .idle) ∧ t.ops = [] ∧
    (∀ d < 80, 68 ≤ d ∨ (s.getQuad d).shutdown = false → bit t.glb.pwr d = true ∧ bit t.glb.clk d = true) ∧
    (∀ k < 68, (s.getQuad k).shutdown = false → (t.getQuad k).job = .calibrating none) ∧
    (∀ k < 68, (s.getQuad k).shutdown = true → bit t.glb.pwr k = false ∧ (t.getQuad k).shutdown = true) ∧
    (∀ f < 16, (t.getHost f).en = false ∧ (t.getHost f).next = (s.getHost f).next) ∧
    t.fuse = s.fuse ∧ t.meter = s.meter ∧ (s.now + 168 * msTicks < 2 ^ 64 → s.now ≤ t.now) ∧ t.glb.rstCause = s.glb.rstCause := by
  have hup := s.relockState.bringUp_does s.now
  have hshut : ∀ k, (s.relockState.getQuad k).shutdown = (s.getQuad k).shutdown := fun k => (congrArg Quad.shutdown (State.getQuad_relockState hc k) :)
  dsimp only
  generalize s.relockState.bringUp s.now = t at hup ⊢
  have hg := hup.glb
  obtain ⟨hlanes, hops, hmeter, hfuse, -, -⟩ := hup.kept
  refine ⟨(congrArg Glb.rootLock hg :), (congrArg Glb.hwrdy hg :), (congrArg Glb.linkUp hg :), hup.load, hup.role, fun l _ => ?_, hops,
    fun d hd hq => hup.powered d hd (hq.imp_right fun h => (hshut d).trans h), fun k hk h => (hup.runs k hk ((hshut k).trans h)).job, fun k hk h => ?_,
    fun f _ => ?_, hfuse, hmeter, hup.time, (congrArg Glb.rstCause hg :)⟩
  · rw [State.getLane, hlanes]
    rfl
  · obtain ⟨hs, hp⟩ := hup.dark k hk ⟨(hshut k).trans h, bit_relockPower k hk⟩
    exact ⟨hp, hs⟩
  · have hhost := State.getHost_relockState hc f
    exact ⟨(hup.hosts f).en.trans (congrArg HostFn.en hhost :), (hup.hosts f).next.trans (congrArg HostFn.next hhost :)⟩

end

/-- Settles O54: the loss stops every clock but AON's, and the restart is `State.bringUp` from the state that AON and META keep. -/
theorem rootClockIsLostAndReturns : Obligations.RootClockIsLostAndReturns := by
  unfold Obligations.RootClockIsLostAndReturns
  intro s ha
  exact ⟨fun hr => ⟨_, rfl, rootPllUnlock_stops ha hr⟩, fun hr hv hp hc =>
    ⟨_, congrArg Host.Outcome.next (relockRestart_eq ha hv hr hp), relockRestart_restarts hc⟩⟩

end Sys2Proof.Machine
end

section
/-! The reset state (R147, R149, R431), and the doorbells of queue pairs and feed rings (R131 to R133, R151, R152, R156, R183). -/

namespace Sys2Proof.Machine

/-! ### The reset state -/

theorem canonical_reset : Canonical State.reset where
  store := tabWf_nil
  hostMem := .nil
  quads := tabWf_nil
  host := tabWf_nil
  lanes := tabWf_nil
  rings := tabWf_nil
  engines := tabWf_nil
  reqs := tabWf_nil
  banks := tabWf_nil
  cells := tabWf_nil
  tests := tabWf_nil
  links := tabWf_nil
  encs := tabWf_nil
  trigs := tabWf_nil
  pacers := tabWf_nil
  gates := tabWf_nil
  motors := tabWf_nil

/-- At reset nothing is about to be programmed, and the part has no power to try a boot-epoch bit (R83, R514). -/
theorem fusesBlank_reset : FusesBlank State.reset where
  prog := nofun
  epoch := nofun

/-- EVT_EN at reset (R147). -/
theorem eventEnables_reset : ∀ w < 12, State.reset.regRead 0 (0x200040 + 4 * w) = if w = 10 ∨ w = 11 then 0xFFFF else 0 := by
  decide +kernel

/-- Settles O57: every table is empty, and the registers are read. -/
theorem theResetStateIsWellFormed : Obligations.TheResetStateIsWellFormed :=
  ⟨canonical_reset, nofun, fusesBlank_reset, rfl, eventEnables_reset, by decide, by decide, by decide, by decide⟩

/-! ### Doorbells as accesses (R131, R132) -/

/-- A packet of no row as the row SQ_TAIL brings it: its index, its TAG and its FENCE. -/
def Unknown.ofPacket (u : BitVec 12 × W32 × Bool) : Unknown := { index := u.1, tag := u.2.1, fence := u.2.2 }

theorem exec_sqTail (f l : LaneIx) (v : W32) (us : List (BitVec 12 × W32 × Bool)) (s : State) :
    exec (.sqTail f l v us) s = .next (s.access f.val (.tail l.val v (us.map Unknown.ofPacket))) := rfl

theorem exec_cqHead (f l : LaneIx) (v : W32) (s : State) :
    exec (.cqHead f l v) s = .next (s.access f.val (regAcc (0x180004 + 16 * l.val) true v)) := rfl

theorem exec_feedDoorbell (f : LaneIx) (r : RingIx) (v : W32) (s : State) :
    exec (.feedDoorbell f r v) s = .next (s.access f.val (regAcc (0x100000 + 8 * r.val) true v)) := rfl

theorem blockOf_queueBell {l : Nat} (h : l < 16) : blockOf (0x180004 + 16 * l) = .queueBell := by
  unfold blockOf
  rw [if_neg (by omega), if_neg (by omega), if_pos (by omega)]

theorem blockOf_ringBell {r : Nat} (h : r < 65536) : blockOf (0x100000 + 8 * r) = .ringBell := by
  unfold blockOf
  rw [if_neg (by omega), if_pos (by omega)]

section
variable {f : Nat} {s : State} {v : W32}

/-- A doorbell of another lane is counted and discarded (R133). -/
theorem State.queueBell_other {l off : Nat} {us : List Unknown} (ho : off = 0 ∨ off = 4) (h : f ≠ l) : s.queueBell f l off v us = s.stray f := by
  unfold State.queueBell
  rw [if_neg (by omega), if_pos h]

/-- A doorbell of a lane that is RESETTING is discarded (R133). -/
theorem State.queueBell_resetting {off : Nat} {us : List Unknown} (h : (s.getLane f).st = .resetting) : s.queueBell f f off v us = s := by
  unfold State.queueBell
  rw [if_neg (not_not_intro rfl), if_pos h]
  exact ite_self s

theorem feedDoorbell_other {r : Nat} (h : s.ringLane r ≠ f) : feedDoorbell f r v s = s.stray f := if_pos h

theorem feedDoorbell_resetting {r : Nat} (h : s.ringLane r = f) (hr : (s.getLane f).st = .resetting) : feedDoorbell f r v s = s := by
  unfold feedDoorbell
  rw [if_neg (not_not_intro h), if_pos hr]

/-- A write of SQ_TAIL rings the queue pair's doorbell: one of another lane is stray by its view and by its row alike (R128, R133). -/
theorem State.access_tail (ha : Arrives f s) (l : Nat) (us : List Unknown) : s.access f (.tail l v us) = s.queueBell f l 0 v us := by
  rw [State.access_performed ha (by simp [State.hangs])]
  unfold State.perform
  by_cases h : s.filtered f (.tail l v us) = true
  · have hl : f ≠ l := by
      simp [State.filtered] at h
      exact h.2
    rw [if_pos h, State.queueBell_other (.inl rfl) hl]
  · rw [if_neg h]

/-- A write of CQ_HEAD rings the queue pair's doorbell (R132). -/
theorem State.access_head (ha : Arrives f s) {l : Nat} (hl : l < 16) :
    s.access f (regAcc (0x180004 + 16 * l) true v) = s.queueBell f l 4 v [] := by
  have hb := blockOf_queueBell hl
  have hlane : (0x180004 + 16 * l - 0x180000) / 16 = l := by omega
  have hoff : (0x180004 + 16 * l) % 16 = 4 := by omega
  have hsees : s.mayWrite f (0x180004 + 16 * l) = decide (l = f) := by simp [State.mayWrite, State.sees, hb, hlane]
  rw [regAcc_aligned (by omega)]
  by_cases hv : f = 0 ∨ l = f
  · have hrun : s.stoppedAt (0x180004 + 16 * l) = false := State.stoppedAt_of_runs (by simp [State.target, hb])
    rw [State.access_write ha (hv.imp_right fun h => hsees.trans (decide_eq_true h)) hrun, State.regPut, hb]
    dsimp only
    rw [hlane, hoff]
  · obtain ⟨h0, hne⟩ := not_or.mp hv
    rw [State.access_write_stray ha h0 (hsees.trans (decide_eq_false hne)), State.queueBell_other (.inr rfl) (Ne.symm hne)]

/-- A write of a feed ring's doorbell (R131). -/
theorem State.access_ringBell (ha : Arrives f s) {r : Nat} (hr : r < 65536) :
    s.access f (regAcc (0x100000 + 8 * r) true v) = feedDoorbell f r v s := by
  have hb := blockOf_ringBell hr
  have hring : (0x100000 + 8 * r - 0x100000) / 8 = r := by omega
  have hsees : s.mayWrite f (0x100000 + 8 * r) = decide (s.ringLane r = f) := by simp [State.mayWrite, State.sees, hb]
  rw [regAcc_aligned (by omega)]
  by_cases hv : f = 0 ∨ s.ringLane r = f
  · have hrun : s.stoppedAt (0x100000 + 8 * r) = false := State.stoppedAt_of_runs (by simp [State.target, hb])
    rw [State.access_write ha (hv.imp_right fun h => hsees.trans (decide_eq_true h)) hrun, State.regPut, hb]
    dsimp only
    rw [hring, if_pos (by omega)]
  · obtain ⟨h0, hne⟩ := not_or.mp hv
    rw [State.access_write_stray ha h0 (hsees.trans (decide_eq_false hne)), feedDoorbell_other hne]

end

section
variable {f : LaneIx} {s : State}

theorem sqTail_rings (ha : Arrives f.val s) (l : LaneIx) (v : W32) (us : List (BitVec 12 × W32 × Bool)) :
    exec (.sqTail f l v us) s = .next (s.queueBell f.val l.val 0 v (us.map Unknown.ofPacket)) := by
  rw [exec_sqTail, State.access_tail ha]

theorem cqHead_rings (ha : Arrives f.val s) (l : LaneIx) (v : W32) : exec (.cqHead f l v) s = .next (s.queueBell f.val l.val 4 v []) := by
  rw [exec_cqHead, State.access_head ha l.isLt]

theorem feedDoorbell_rings (ha : Arrives f.val s) (r : RingIx) (v : W32) : exec (.feedDoorbell f r v) s = .next (feedDoorbell f.val r.val v s) := by
  rw [exec_feedDoorbell, State.access_ringBell ha r.isLt]

end

/-- Settles O14: every doorbell goes to its row, which discards it. That one of another lane that is RESETTING is counted is log entry 58. -/
theorem doorbellsOfOthersAreStray : Obligations.DoorbellsOfOthersAreStray := by
  unfold Obligations.DoorbellsOfOthersAreStray
  intro f v us s ha
  dsimp only
  refine ⟨fun l hl => ?_, fun r hr => ?_, fun hr => ⟨?_, ?_, fun r hown => ?_⟩⟩
  · have hne : f.val ≠ l.val := fun e => hl (Fin.ext e.symm)
    rw [sqTail_rings ha, cqHead_rings ha, State.queueBell_other (.inl rfl) hne, State.queueBell_other (.inr rfl) hne]
    exact ⟨rfl, rfl⟩
  · rw [feedDoorbell_rings ha, feedDoorbell_other hr]
    rfl
  · rw [sqTail_rings ha, State.queueBell_resetting hr]
  · rw [cqHead_rings ha, State.queueBell_resetting hr]
  · rw [feedDoorbell_rings ha, feedDoorbell_resetting hown hr]

end Sys2Proof.Machine
end

section
/-! A function-level reset of function 0 (R142, R177) clears the base address of the virtual functions too (log entry 54). -/

namespace Sys2Proof.Machine

/-- An FLR of function 0 leaves no base address to the virtual functions. -/
theorem flr_physical_clears_vfBar {s : State} (hon : s.on dHOST = true) (hl : s.glb.linkUp = true) : (flr 0 s).glb.vfBar = 0 := by
  have hreach : (s.on dHOST && s.glb.linkUp && s.present 0) = true := by simp [hon, hl, State.present]
  unfold flr
  rw [if_pos hreach, if_pos rfl]

/-- The part with power and its link up, HOST running, and the virtual functions' base address written. -/
def virtualBasePlaced : State :=
  { State.reset with glb := { State.reset.glb with powered := true, linkUp := true, clk := 1#80 <<< dHOST, vfBar := 0x4000000 } }

/-- Refutes O47: an FLR of function 0 does not leave the rest of GLB as it was, since it clears the virtual functions' base address. -/
theorem not_functionsLeaveAndReturn : ¬ Obligations.FunctionsLeaveAndReturn := by
  unfold Obligations.FunctionsLeaveAndReturn
  intro h
  have hon : virtualBasePlaced.on dHOST = true := by decide
  obtain ⟨hflr, -⟩ := h virtualBasePlaced hon rfl
  obtain ⟨t, ht, -, -, -, -, -, -, -, hglb⟩ := hflr 0 rfl
  have hcleared : t.glb.vfBar = 0 := by
    rw [← Host.Outcome.next.inj ht]
    exact flr_physical_clears_vfBar hon rfl
  have hkept : t.glb.vfBar = 0x4000000 := congrArg Glb.vfBar hglb
  exact absurd (hkept.symm.trans hcleared) (by decide)

end Sys2Proof.Machine
end

section
/-! What posting entries, answering packets and settling messages leave of a queue pair (R144, R152 to R154), and what SQ-TAIL, CQ-HEAD and the
feed doorbell do (R131, R132, R151, R152, R155, R156, R183). -/

namespace Sys2Proof.Machine

/-! ### What entries and messages leave of a function -/

/-- A function's registers but for those that move as entries are posted, packets taken and messages held. -/
def HostFn.steady (h : HostFn) : HostFn :=
  { h with unknown := [], fence := none, pba := 0, phase := true, cqTail := 0, sqHead := 0, waiting := [] }

/-- The steady registers of function g. -/
def State.steady (s : State) (g : Nat) : HostFn := (s.getHost g).steady

section
variable (s : State)

/-- An update of a function that leaves its steady registers leaves those of every function. -/
theorem State.steady_updHost (f : Nat) {u : HostFn → HostFn} (h : ∀ x : HostFn, (u x).steady = x.steady) :
    (s.updHost f u).steady = s.steady := by
  funext g
  unfold State.steady
  by_cases hg : g = f
  · subst hg
    rw [State.getHost_updHost, h]
  · rw [State.getHost_updHost_ne _ _ _ _ hg]

theorem State.steady_signal (f v : Nat) : (s.signal f v).steady = s.steady := by
  unfold State.signal
  split
  · rfl
  · exact s.steady_updHost f fun _ => rfl

theorem State.steady_raise (src : Nat) : (s.raise src).steady = s.steady := by
  unfold State.raise
  split
  · dsimp only
    split
    · exact State.steady_signal _ _ _
    · rfl
  · rfl

theorem State.steady_of_host {s t : State} (h : t.host = s.host) : t.steady = s.steady := by
  unfold State.steady State.getHost
  rw [h]

theorem State.steady_writeEntry (q : Nat) (e : Entry) : (s.writeEntry q e).steady = s.steady := by
  unfold State.writeEntry
  dsimp only
  generalize hd : s.dma q _ _ = t
  have hput : (t.updHost q HostFn.advanceCq).steady = s.steady := by
    rw [← State.steady_of_host (hd ▸ (State.dma_frame ..).2.2.2.1 : t.host = s.host)]
    exact t.steady_updHost q fun _ => rfl
  rw [State.steady_raise]
  split
  · exact hput
  · exact hput

theorem State.steady_drain (q n : Nat) : (State.drain q n s).steady = s.steady := by
  induction n generalizing s with
  | zero => rfl
  | succ n ih =>
    unfold State.drain
    dsimp only
    split
    · rfl
    · split
      · rw [ih, State.steady_writeEntry]
        exact s.steady_updHost q fun _ => rfl
      · rfl

theorem State.steady_post (q : Nat) (e : Entry) : (s.post q e).steady = s.steady := by
  unfold State.post
  rw [State.steady_drain]
  exact s.steady_updHost q fun _ => rfl

theorem State.steady_serveUnknown (q n : Nat) : (s.serveUnknown q n).steady = s.steady := by
  induction n generalizing s with
  | zero => rfl
  | succ n ih =>
    unfold State.serveUnknown
    dsimp only
    split
    · split
      · rw [ih, State.badOpcode, State.answer, State.steady_post]
        exact s.steady_updHost q fun _ => rfl
      · rfl
    · rfl
    · rfl
    · next u _ _ =>
      have htaken : ((s.takeHead q).updHost q (fun h => { h with unknown := h.unknown.filter (fun x => decide (x.index ≠ u.index)) })).steady =
          s.steady := by
        rw [← (s.steady_updHost q fun _ => rfl : (s.takeHead q).steady = s.steady)]
        exact State.steady_updHost _ q fun _ => rfl
      split
      · split
        · rw [← htaken]
          exact State.steady_updHost _ q fun _ => rfl
        · rw [ih, State.badOpcode, State.answer, State.steady_post, htaken]
      · rfl

theorem State.steady_serveAll (q : Nat) : (s.serveAll q).steady = s.steady := State.steady_serveUnknown ..

theorem State.steady_settleVec (f v : Nat) : (State.settleVec f s v).steady = s.steady := by
  have hclear : (s.updHost f (fun h => { h with pba := setBit h.pba v false })).steady = s.steady := s.steady_updHost f fun _ => rfl
  unfold State.settleVec
  split
  · split
    · split
      · exact hclear
      · rfl
    · exact hclear
  · rfl

theorem State.steady_settleFn (f : Nat) : (s.settleFn f).steady = s.steady := by
  unfold State.settleFn
  split
  · rfl
  · exact foldl_keeps _ _ (fun s v => s.steady_settleVec f v) _ s

end

/-- Posting what waits and answering packets touches no register of the plant. -/
theorem samePlant_drain (s : State) (q n : Nat) : SamePlant s (State.drain q n s) := by
  rw [samePlant_iff]
  simp

theorem samePlant_serveAll (s : State) (q : Nat) : SamePlant s (s.serveAll q) := by
  rw [samePlant_iff]
  simp

/-! ### The registers that a doorbell moves (R151, R152) -/

/-- A queue pair with another SQ_TAIL. -/
def HostFn.withTail (v : Nat) (h : HostFn) : HostFn := { h with sqTail := BitVec.ofNat 12 v }
/-- A queue pair whose ring holds these packets of no row. -/
def HostFn.withUnknown (us : List Unknown) (h : HostFn) : HostFn := { h with unknown := us }

section
variable {h : HostFn} {v : Nat}

theorem HostFn.ringSq_inside (he : h.en = true) (hv : v < 2 ^ h.sqLog.toNat) : h.ringSq v = h.withTail v := by
  simp [HostFn.ringSq, HostFn.withTail, he, hv]

theorem HostFn.ringSq_beyond (he : h.en = true) (hv : 2 ^ h.sqLog.toNat ≤ v) : h.ringSq v = { h with sqErr := true } := by
  simp [HostFn.ringSq, he, Nat.not_lt.mpr hv]

theorem HostFn.ringCq_inside (he : h.en = true) (hv : v < 2 ^ h.cqLog.toNat)
    (hu : (v + 2 ^ h.cqLog.toNat - h.cqHead.toNat) % 2 ^ h.cqLog.toNat ≤ h.unconsumed) : h.ringCq v = { h with cqHead := BitVec.ofNat 16 v } := by
  simp [HostFn.ringCq, he, hv, hu]

theorem HostFn.ringCq_beyond (he : h.en = true) (hv : 2 ^ h.cqLog.toNat ≤ v) : h.ringCq v = { h with cqErr := true } := by
  simp [HostFn.ringCq, he, Nat.not_lt.mpr hv]

/-- A packet at SQ_HEAD is in the queue when the tail lies elsewhere. -/
theorem HostFn.queued_head (hh : h.sqHead.toNat < 2 ^ h.sqLog.toNat) (ht : h.sqTail.toNat < 2 ^ h.sqLog.toNat) (hne : h.sqTail.toNat ≠ h.sqHead.toNat) :
    h.queued h.sqHead.toNat = true := by
  have hpos : 0 < (h.sqTail.toNat + 2 ^ h.sqLog.toNat - h.sqHead.toNat) % 2 ^ h.sqLog.toNat := by
    by_cases hlt : h.sqTail.toNat < h.sqHead.toNat
    · rw [Nat.mod_eq_of_lt (by omega)]
      omega
    · rw [show h.sqTail.toNat + 2 ^ h.sqLog.toNat - h.sqHead.toNat = h.sqTail.toNat - h.sqHead.toNat + 2 ^ h.sqLog.toNat by omega,
        Nat.add_mod_right, Nat.mod_eq_of_lt (by omega)]
      omega
  simpa [HostFn.queued, hh] using hpos

end

section
variable {f : Nat} {s : State} {v : W32}

/-- SQ_TAIL of the function's own lane (R151). -/
theorem State.queueBell_tail (hr : (s.getLane f).st ≠ .resetting) (us : List Unknown) :
    s.queueBell f f 0 v us = (s.updHost f (fun h => (h.ringSq v.toNat).learn us)).serveAll f := by
  unfold State.queueBell
  rw [if_neg (by omega), if_neg (not_not_intro rfl), if_neg hr, if_pos rfl]

/-- CQ_HEAD of the function's own lane (R152). -/
theorem State.queueBell_head (hr : (s.getLane f).st ≠ .resetting) : s.queueBell f f 4 v [] =
    (State.drain f ((s.updHost f (fun h => h.ringCq v.toNat)).getHost f).waiting.length (s.updHost f (fun h => h.ringCq v.toNat))).serveAll f := by
  unfold State.queueBell
  rw [if_neg (by omega), if_neg (not_not_intro rfl), if_neg hr, if_neg (by omega)]

/-- A doorbell's packets leave every other register of the queue pair. -/
theorem State.queueBell_tail_moves (hr : (s.getLane f).st ≠ .resetting) (us : List Unknown) : SamePlant s (s.queueBell f f 0 v us) ∧
    ((s.queueBell f f 0 v us).getHost f).steady = ((s.getHost f).ringSq v.toNat).steady := by
  rw [State.queueBell_tail hr]
  refine ⟨(samePlant_updHost ..).trans (samePlant_serveAll ..), (congrFun (State.steady_serveAll ..) f).trans ?_⟩
  unfold State.steady
  rw [State.getHost_updHost]
  rfl

theorem State.queueBell_head_moves (hr : (s.getLane f).st ≠ .resetting) : SamePlant s (s.queueBell f f 4 v []) ∧
    ((s.queueBell f f 4 v []).getHost f).steady = ((s.getHost f).ringCq v.toNat).steady := by
  rw [State.queueBell_head hr]
  refine ⟨((samePlant_updHost ..).trans (samePlant_drain ..)).trans (samePlant_serveAll ..),
    (congrFun ((State.steady_serveAll ..).trans (State.steady_drain ..)) f).trans ?_⟩
  unfold State.steady
  rw [State.getHost_updHost]

/-- The doorbell of the function's own ring that takes one (R183). -/
theorem feedDoorbell_takes {r : Nat} (ho : s.ringLane r = f) (hr : (s.getLane f).st ≠ .resetting)
    (hst : (s.getRing r).st = .run ∨ (s.getRing r).st = .stopped) : feedDoorbell f r v s =
      if v.toNat < (s.getRing r).size then s.updRing r (fun x => { x with pidx := BitVec.ofNat 12 v.toNat })
      else s.updRing r (fun x => { x with err := errDoorbell }) := by
  unfold feedDoorbell
  rw [if_neg (not_not_intro ho), if_neg hr]
  exact if_pos hst

end

/-! ### A packet of no row at the head of its queue (R156) -/

section
variable {f : Nat} {s : State} {u : Unknown}

/-- A packet of no row is taken (R151, R156). -/
def State.takeUnknown (f : Nat) (u : Unknown) (s : State) : State :=
  (s.takeHead f).updHost f (fun h => { h with unknown := h.unknown.filter (fun x => decide (x.index ≠ u.index)) })

theorem State.getHost_takeUnknown (h : (s.getHost f).unknown = [u]) :
    (s.takeUnknown f u).getHost f = (s.getHost f).pastHead.withUnknown [] := by
  unfold State.takeUnknown
  rw [State.getHost_updHost, getHost_takeHead]
  simp [HostFn.pastHead, HostFn.withUnknown, h]

/-- Serving one packet of no row, with FENCE = 0, that can be taken: it goes from the ring, and BAD-OPCODE is its entry. -/
theorem State.serveUnknown_takes (n : Nat) (ht : s.takes f = true)
    (hu : (s.getHost f).unknown.find? (fun x => decide (x.index = (s.getHost f).sqHead)) = some u) (hf : u.fence = false) :
    s.serveUnknown f (n + 1) = ((s.takeUnknown f u).badOpcode f u.tag).serveUnknown f n := by
  obtain ⟨-, -, hfence, -⟩ := State.takes_host ht
  rw [State.serveUnknown]
  dsimp only
  rw [hfence, hu]
  dsimp only
  rw [if_pos ht, if_neg (by simp [hf])]
  rfl

/-- One packet of no row, with FENCE = 0, that can be taken is taken and answered, and nothing is left to serve. -/
theorem State.serveAll_one (ht : s.takes f = true) (hu : (s.getHost f).unknown = [u]) (hi : u.index = (s.getHost f).sqHead)
    (hf : u.fence = false) : s.serveAll f = (s.takeUnknown f u).badOpcode f u.tag := by
  obtain ⟨hen, hwait, hfence, -⟩ := State.takes_host ht
  have hg := State.getHost_takeUnknown hu
  have hpost : (s.takeUnknown f u).corePosts = s.corePosts := rfl
  obtain ⟨-, -, -, hunk, hfen, -, -⟩ := State.post_accepted (q := f) (b := s.takeUnknown f u)
    (e := { tag := u.tag, handle := 0, status := if s.imageRuns then stBadOpcode else stBadState, detail := 0, hv := false, final := false })
    (by rw [hg]; exact hwait) (by rw [hg]; exact hen) (hpost.trans (State.takes_posts ht)) rfl
  rw [hg] at hunk hfen
  unfold State.serveAll
  rw [State.serveUnknown_takes _ ht (by simp [hu, hi]) hf]
  exact State.serveUnknown_id _ _ _ hunk (fun x hx => nomatch hx.symm.trans (hfen.trans hfence))

/-- A doorbell that brings one packet of no row to SQ_HEAD: beside what a doorbell `ring` without it does, the packet's one entry (R156). -/
theorem State.learnOne_enters {ring : HostFn → HostFn} (hu : (ring (s.getHost f)).unknown = []) (ht : (s.updHost f ring).takes f = true)
    (hi : u.index = (ring (s.getHost f)).sqHead) (hf : u.fence = false) (himg : s.imageRuns = true) :
    Entered f { tag := u.tag, handle := 0, status := stBadOpcode, detail := 0, hv := false, final := false } s.hostMem (s.updHost f ring)
      ((s.updHost f (fun h => (ring h).withUnknown [u])).serveAll f) := by
  have hg : (s.updHost f (fun h => (ring h).withUnknown [u])).getHost f = (ring (s.getHost f)).withUnknown [u] :=
    State.getHost_updHost ..
  have ht' : (s.updHost f (fun h => (ring h).withUnknown [u])).takes f = true := by
    unfold State.takes at ht ⊢
    dsimp only at ht ⊢
    rw [State.getHost_updHost] at ht ⊢
    exact ht
  have hmem : (s.updHost f (fun h => (ring h).withUnknown [u])).hostMem = s.hostMem := rfl
  have himg' : (s.updHost f (fun h => (ring h).withUnknown [u])).imageRuns = true := himg
  generalize s.updHost f (fun h => (ring h).withUnknown [u]) = b at hg ht' hmem himg'
  have hunk : (b.getHost f).unknown = [u] := congrArg HostFn.unknown hg
  have hagree : ((b.takeUnknown f u).getHost f).Agrees (((s.updHost f ring).takeHead f).getHost f) := by
    rw [State.getHost_takeUnknown hunk, hg, getHost_takeHead, State.getHost_updHost]
    exact ⟨rfl, rfl, rfl, rfl, rfl, rfl, rfl, rfl, rfl, rfl, hu.symm⟩
  have hpost : (b.takeUnknown f u).corePosts = b.corePosts := rfl
  have htaken : (b.takeUnknown f u).imageRuns = b.imageRuns := rfl
  have hput : (b.takeUnknown f u).hostMem = b.hostMem := rfl
  have henter := entered_of_post (e := { tag := u.tag, handle := 0, status := stBadOpcode, detail := 0, hv := false, final := false }) ht hagree
    (hpost.trans (State.takes_posts ht'))
  rw [hput, hmem] at henter
  rw [State.serveAll_one ht' hunk (by rw [hg]; exact hi) hf, State.badOpcode, htaken, himg', if_pos rfl]
  exact henter

/-! ### What SQ_TAIL makes of the packets it brings -/

theorem State.updHost_congr {u u' : HostFn → HostFn} (h : u (s.getHost f) = u' (s.getHost f)) : s.updHost f u = s.updHost f u' :=
  congrArg (s.setHost f) h

/-- With no packet of no row in the ring, a doorbell that brings none leaves it so. -/
theorem HostFn.learn_none {h : HostFn} (hu : h.unknown = []) : h.learn [] = h := by
  have : h.learn [] = h.withUnknown h.unknown := by simp [HostFn.learn, HostFn.withUnknown, hu]
  exact this

/-- A packet of no row in the queue is noted. -/
theorem HostFn.learn_one {h : HostFn} (hu : h.unknown = []) (hq : h.queued u.index.toNat = true) : h.learn [u] = h.withUnknown [u] := by
  simp [HostFn.learn, HostFn.withUnknown, hu, hq]

/-- SQ_TAIL with one packet of no row, which lies at SQ_HEAD. -/
theorem HostFn.ringSq_learn_head {h : HostFn} {v : Nat} (he : h.en = true) (hu : h.unknown = []) (hh : h.sqHead.toNat < 2 ^ h.sqLog.toNat)
    (hv : v < 2 ^ h.sqLog.toNat) (hne : v ≠ h.sqHead.toNat) (hl : h.sqLog.toNat ≤ 12) (hi : u.index = h.sqHead) :
    (h.ringSq v).learn [u] = (h.withTail v).withUnknown [u] := by
  have htail : (h.withTail v).sqTail.toNat = v :=
    (BitVec.toNat_ofNat ..).trans (Nat.mod_eq_of_lt (hv.trans_le (Nat.pow_le_pow_right (by omega) hl)))
  rw [HostFn.ringSq_inside he hv]
  refine HostFn.learn_one hu ?_
  rw [hi]
  exact HostFn.queued_head (h := h.withTail v) hh (htail.trans_lt hv) (htail.trans_ne hne)

/-- A doorbell that brings no packet of no row, with none in the ring and no command under FENCE, moves the tail alone. -/
theorem State.queueBell_tail_quiet {v : W32} (hr : (s.getLane f).st ≠ .resetting) (he : (s.getHost f).en = true)
    (hu : (s.getHost f).unknown = []) (hf : (s.getHost f).fence = none) (hv : v.toNat < 2 ^ (s.getHost f).sqLog.toNat) :
    s.queueBell f f 0 v [] = s.updHost f (HostFn.withTail v.toNat) := by
  rw [State.queueBell_tail hr, State.updHost_congr (u' := HostFn.withTail v.toNat)
    (by rw [HostFn.ringSq_inside he hv]; exact HostFn.learn_none hu)]
  exact State.serveAll_none (by rw [State.getHost_updHost]; exact hu) (by rw [State.getHost_updHost]; exact hf)

/-- A doorbell that brings one packet of no row to SQ_HEAD, where the queue can be served: the packet's one entry (R156). -/
theorem State.queueBell_tail_answers {v : W32} (hr : (s.getLane f).st ≠ .resetting) (hu : (s.getHost f).unknown = [])
    (hh : (s.getHost f).sqHead.toNat < 2 ^ (s.getHost f).sqLog.toNat) (hv : v.toNat < 2 ^ (s.getHost f).sqLog.toNat)
    (hne : v.toNat ≠ (s.getHost f).sqHead.toNat) (hl : (s.getHost f).sqLog.toNat ≤ 12)
    (ht : (s.updHost f (HostFn.withTail v.toNat)).takes f = true) (himg : s.imageRuns = true) (hi : u.index = (s.getHost f).sqHead)
    (hf : u.fence = false) :
    Entered f { tag := u.tag, handle := 0, status := stBadOpcode, detail := 0, hv := false, final := false } s.hostMem
      (s.updHost f (HostFn.withTail v.toNat)) (s.queueBell f f 0 v [u]) := by
  have hen := (State.takes_host ht).1
  rw [State.getHost_updHost] at hen
  rw [State.queueBell_tail hr, State.updHost_congr (u := fun h => (h.ringSq v.toNat).learn [u])
    (u' := fun h => (h.withTail v.toNat).withUnknown [u])
    (HostFn.ringSq_learn_head hen hu hh hv hne hl hi)]
  exact State.learnOne_enters (ring := HostFn.withTail v.toNat) hu ht hi hf himg

end

/-- Settles O13. -/
theorem doorbellsMoveTheirIndex : Obligations.DoorbellsMoveTheirIndex := by
  unfold Obligations.DoorbellsMoveTheirIndex
  intro f v s ha hr
  dsimp only
  refine ⟨fun us he hv => ⟨_, sqTail_rings ha .., ?_⟩, fun us he hv => ⟨_, sqTail_rings ha .., ?_⟩, fun he hu hf hv => ?_,
    fun tag hu hhead htail hne hlog ht himg => ⟨_, sqTail_rings ha .., ?_⟩, fun he hv hfree => ⟨_, cqHead_rings ha .., ?_⟩,
    fun he hv => ⟨_, cqHead_rings ha .., ?_⟩, fun r ho hst => ⟨fun hv => ?_, fun hv => ?_⟩⟩
  · obtain ⟨hplant, hregs⟩ := State.queueBell_tail_moves (v := v) hr (us.map Unknown.ofPacket)
    rw [HostFn.ringSq_inside he hv] at hregs
    exact ⟨hplant, (congrArg HostFn.sqTail hregs :), (congrArg HostFn.sqErr hregs :)⟩
  · obtain ⟨hplant, hregs⟩ := State.queueBell_tail_moves (v := v) hr (us.map Unknown.ofPacket)
    rw [HostFn.ringSq_beyond he hv] at hregs
    exact ⟨hplant, (congrArg HostFn.sqTail hregs :), (congrArg HostFn.sqErr hregs :)⟩
  · rw [sqTail_rings ha]
    exact congrArg Host.Outcome.next (State.queueBell_tail_quiet hr he hu hf hv)
  · exact ⟨(State.queueBell_tail_moves hr _).1, State.queueBell_tail_answers hr hu hhead htail hne hlog ht himg rfl rfl⟩
  · obtain ⟨hplant, hregs⟩ := State.queueBell_head_moves (v := v) hr
    rw [HostFn.ringCq_inside he hv hfree] at hregs
    exact ⟨hplant, (congrArg HostFn.cqHead hregs :), (congrArg HostFn.cqErr hregs :)⟩
  · obtain ⟨hplant, hregs⟩ := State.queueBell_head_moves (v := v) hr
    rw [HostFn.ringCq_beyond he hv] at hregs
    exact ⟨hplant, (congrArg HostFn.cqHead hregs :), (congrArg HostFn.cqErr hregs :)⟩
  · rw [feedDoorbell_rings ha, feedDoorbell_takes ho hr hst, if_pos hv]
  · rw [feedDoorbell_rings ha, feedDoorbell_takes ho hr hst, if_neg (Nat.not_lt.mpr hv)]

end Sys2Proof.Machine
end

section
/-! Writes of EVT_STAT, EVT_EN, EVT_MAP and of the MSI-X conditions (R143, R144, R147). -/

namespace Sys2Proof.Machine

/-! ### Register arrays -/

theorem slotAt_inside {a base size n : Nat} (i j : Nat) (ha : a = base + size * i + j) (hi : i < n) (hj : j < size) :
    slotAt a base size n = some (i, j) := by
  have hle : size * i + size ≤ size * n := by
    rw [← Nat.mul_succ]
    exact Nat.mul_le_mul_left size hi
  have hoff : a - base = j + size * i := by omega
  unfold slotAt
  rw [if_pos ⟨by omega, by omega⟩, hoff, Nat.add_mul_div_left _ _ (by omega), Nat.div_eq_of_lt hj, Nat.add_mul_mod_self_left,
    Nat.mod_eq_of_lt hj, Nat.zero_add]

theorem slotAt_outside {a base size n : Nat} (h : a < base ∨ base + size * n ≤ a) : slotAt a base size n = none :=
  if_neg (by omega)

/-! ### Settling pending bits (R144) -/

/-- Settling messages touches no register of the plant. -/
theorem samePlant_settleFn (s : State) (f : Nat) : SamePlant s (s.settleFn f) := by
  rw [samePlant_iff]
  simp

theorem samePlant_settle (s : State) : SamePlant s s.settle := by
  rw [samePlant_iff]
  simp

section
variable {s : State} {f : Nat} {v : W32}

/-! ### Writes of the event block (R128, R147) -/

/-- Offsets of the event block that a virtual function only reads (R128). -/
def evtReadOnly (o : Nat) : Bool :=
  decide (o = 0x100) || decide (0x1000 ≤ o ∧ o < 0x1600) || [0x401C, 0x4020, 0x404C, 0x4050, 0x4054].contains o

theorem blockOf_evt {o : Nat} (h : o < 0x100000) : blockOf (0x200000 + o) = .evt := by
  unfold blockOf
  rw [if_neg (by omega), if_neg (by omega), if_neg (by omega), if_neg (by omega), if_pos (by omega)]

theorem State.mayWrite_evt {o : Nat} (h : o < 0x100000) : s.mayWrite f (0x200000 + o) = !evtReadOnly o := by
  have hoff : 0x200000 + o - 0x200000 = o := by omega
  simp only [State.mayWrite, State.sees, blockOf_evt h, hoff, Bool.true_and]
  rfl

/-- A write that the event block takes. -/
theorem State.access_evt {o : Nat} (ha : Arrives f s) (h : o < 0x100000) (h4 : o % 4 = 0) (hv : f = 0 ∨ evtReadOnly o = false) :
    s.access f (regAcc (0x200000 + o) true v) = s.putEvt f o v := by
  have hrun : s.stoppedAt (0x200000 + o) = false := State.stoppedAt_of_runs (by simp [State.target, blockOf_evt h])
  have hoff : 0x200000 + o - 0x200000 = o := by omega
  rw [regAcc_aligned (by omega), State.access_write ha (hv.imp_right fun h' => by rw [State.mayWrite_evt h, h']; rfl) hrun, State.regPut,
    blockOf_evt h, hoff]

theorem State.access_evt_stray {o : Nat} (ha : Arrives f s) (h : o < 0x100000) (h4 : o % 4 = 0) (h0 : f ≠ 0) (hv : evtReadOnly o = true) :
    s.access f (regAcc (0x200000 + o) true v) = s.stray f := by
  rw [regAcc_aligned (by omega), State.access_write_stray ha h0 (by rw [State.mayWrite_evt h, hv]; rfl)]

theorem State.putEvt_stat {w : Nat} (hw : w < 12) : s.putEvt f (4 * w) v = s.putStat f w v := by
  unfold State.putEvt
  rw [slotAt_inside w 0 (by omega) hw (by omega), slotAt_outside (by omega), slotAt_outside (by omega), slotAt_outside (by omega)]
  rfl

theorem State.putEvt_en {w : Nat} (hw : w < 12) : s.putEvt f (0x40 + 4 * w) v = s.putEn f w v := by
  unfold State.putEvt
  rw [slotAt_outside (by omega), slotAt_inside w 0 (by omega) hw (by omega), slotAt_outside (by omega), slotAt_outside (by omega)]
  rfl

theorem State.putEvt_map {src : Nat} (hs : src < 384) : s.putEvt 0 (0x1000 + 4 * src) v = s.putMap src v := by
  unfold State.putEvt
  rw [slotAt_outside (by omega), slotAt_outside (by omega), slotAt_inside src 0 (by omega) hs (by omega)]
  exact if_pos rfl

theorem State.putEvt_vec {vec : Nat} (hv : vec < 128) : s.putEvt f (0x800C + 16 * vec) v = s.putVec f vec 12 v := by
  unfold State.putEvt
  rw [slotAt_outside (by omega), slotAt_outside (by omega), slotAt_outside (by omega), slotAt_inside vec 12 (by omega) hv (by omega)]

/-! ### What the writes do (R144) -/

/-- A state with the same plant and the same events but for those of `e`. -/
structure EvtMoves (e : Evt) (s t : State) : Prop where
  plant : SamePlant s t
  evt : t.evt = e

theorem EvtMoves.stray_ite {c : Prop} [Decidable c] : EvtMoves s.evt s (if c then s else s.stray f) := by
  split
  · exact ⟨.refl s, rfl⟩
  · exact ⟨samePlant_updHost .., rfl⟩

theorem EvtMoves.put {e : Evt} {t : State} (h : EvtMoves s.evt s t) : EvtMoves e s { t with evt := e } := ⟨h.plant, rfl⟩

theorem EvtMoves.settle {e : Evt} {t : State} (h : EvtMoves e s t) : EvtMoves e s t.settle :=
  ⟨h.plant.trans (samePlant_settle t), by simp [h.evt]⟩

theorem EvtMoves.signals {e : Evt} {t : State} (h : EvtMoves e s t) (l : List Nat) (c : State → Nat → Bool) (at_ : State → Nat → Nat × Nat) :
    EvtMoves e s (l.foldl (fun t i => if c t i then t.signal (at_ t i).1 (at_ t i).2 else t) t) :=
  foldl_inv (EvtMoves e s) _ (fun t i h => by
    split
    · exact ⟨h.plant.trans (by rw [samePlant_iff]; simp), by simp [h.evt]⟩
    · exact h) l t h

theorem State.putStat_does (f w : Nat) (v : W32) (s : State) :
    EvtMoves { s.evt with stat := s.evt.stat &&& ~~~(((v &&& s.srcMask f w).setWidth 384) <<< (32 * w)) } s (s.putStat f w v) := by
  have hs := EvtMoves.stray_ite (s := s) (f := f) (c := v &&& ~~~s.srcMask f w = 0)
  unfold State.putStat
  dsimp only
  generalize (if v &&& ~~~s.srcMask f w = 0 then s else s.stray f) = t at hs
  rw [hs.evt]
  exact hs.put.settle

theorem State.putEn_does (f w : Nat) (v : W32) (s : State) :
    EvtMoves { s.evt with en := (s.evt.en &&& ~~~((s.srcMask f w).setWidth 384 <<< (32 * w))) |||
      (((v &&& s.srcMask f w).setWidth 384) <<< (32 * w)) } s (s.putEn f w v) := by
  have hs := EvtMoves.stray_ite (s := s) (f := f) (c := v &&& ~~~s.srcMask f w = 0)
  unfold State.putEn
  dsimp only
  generalize (if v &&& ~~~s.srcMask f w = 0 then s else s.stray f) = t at hs
  rw [hs.evt]
  exact (hs.put.signals ..).settle

theorem State.putMap_does (src : Nat) (v : W32) (s : State) :
    EvtMoves { s.evt with maps := tabPut mapReset s.evt.maps src ((fld v 16 4).toNat, (fld v 0 7).toNat) } s (s.putMap src v) :=
  EvtMoves.settle (EvtMoves.put ⟨.refl s, rfl⟩)

end

/-! ### The MSI-X conditions (R143, R144) -/

section
variable {s : State} {f : Nat}

/-- An update of a function, and the messages that it lets go: the plant and the events stay, and the function's steady registers are those of
the update. -/
theorem State.settleFn_updHost (s : State) (f : Nat) (u : HostFn → HostFn) : EvtMoves s.evt s ((s.updHost f u).settleFn f) ∧
    (((s.updHost f u).settleFn f).getHost f).steady = (u (s.getHost f)).steady := by
  refine ⟨⟨(samePlant_updHost ..).trans (samePlant_settleFn ..), by simp⟩, (congrFun (State.steady_settleFn ..) f).trans ?_⟩
  unfold State.steady
  rw [State.getHost_updHost]

theorem msixConditionClear_enable (ha : Arrives f s) (b : Bool) :
    msixConditionClear f (.enable b) s = (s.updHost f (fun h => { h with msixEn := b })).settleFn f := if_pos ha.reaches

theorem msixConditionClear_maskAll (ha : Arrives f s) (b : Bool) :
    msixConditionClear f (.maskAll b) s = (s.updHost f (fun h => { h with maskAll := b })).settleFn f := if_pos ha.reaches

theorem bit_putB_zero (b : Bool) : bit (putB 0 b) 0 = b := by cases b <;> rfl

/-- A write of a vector's mask word (R143). -/
theorem State.putVec_mask (s : State) (f vec : Nat) (b : Bool) : EvtMoves s.evt s (s.putVec f vec 12 (putB 0 b)) ∧
    (tabGet vecReset ((s.putVec f vec 12 (putB 0 b)).getHost f).vecs vec).mask = b := by
  obtain ⟨hmoves, hregs⟩ := s.settleFn_updHost f (fun h => { h with
    vecs := tabPut vecReset h.vecs vec { tabGet vecReset h.vecs vec with mask := bit (putB 0 b) 0 } })
  have hvecs : ((s.putVec f vec 12 (putB 0 b)).getHost f).vecs = _ := (congrArg HostFn.vecs hregs :)
  refine ⟨hmoves, ?_⟩
  rw [hvecs]
  exact (congrArg Vec.mask (tabGet_tabPut_self ..)).trans (bit_putB_zero b)

end

/-! ### The rows -/

theorem exec_evtStatWrite (f : LaneIx) (w : Fin 12) (v : W32) (s : State) :
    exec (.evtStatWrite f w v) s = .next (s.access f.val (regAcc (0x200000 + 4 * w.val) true v)) := rfl

theorem exec_evtEnWrite (f : LaneIx) (w : Fin 12) (v : W32) (s : State) :
    exec (.evtEnWrite f w v) s = .next (s.access f.val (regAcc (0x200040 + 4 * w.val) true v)) := rfl

theorem exec_evtMapWrite (f : LaneIx) (src : SrcIx) (v : W32) (s : State) :
    exec (.evtMapWrite f src v) s = .next (s.access f.val (regAcc (0x201000 + 4 * src.val) true v)) := rfl

theorem exec_msixConditionClear (f : LaneIx) (c : MsixChange) (s : State) :
    exec (.msixConditionClear f c) s = .next (msixConditionClear f.val c s) := rfl

section
variable {s : State} {f : LaneIx}

theorem evtReadOnly_low : ∀ o < 0x70, evtReadOnly o = false := by decide

theorem evtStatWrite_puts (ha : Arrives f.val s) (w : Fin 12) (v : W32) : exec (.evtStatWrite f w v) s = .next (s.putStat f.val w.val v) := by
  rw [exec_evtStatWrite, State.access_evt ha (by omega) (by omega) (.inr (evtReadOnly_low _ (by omega))), State.putEvt_stat w.isLt]

theorem evtEnWrite_puts (ha : Arrives f.val s) (w : Fin 12) (v : W32) : exec (.evtEnWrite f w v) s = .next (s.putEn f.val w.val v) := by
  rw [exec_evtEnWrite, show 0x200040 + 4 * w.val = 0x200000 + (0x40 + 4 * w.val) by omega,
    State.access_evt ha (by omega) (by omega) (.inr (evtReadOnly_low _ (by omega))), State.putEvt_en w.isLt]

theorem evtMapWrite_physical (ha : Arrives f.val s) (h0 : f.val = 0) (src : SrcIx) (v : W32) :
    exec (.evtMapWrite f src v) s = .next (s.putMap src.val v) := by
  rw [exec_evtMapWrite, show 0x201000 + 4 * src.val = 0x200000 + (0x1000 + 4 * src.val) by omega,
    State.access_evt ha (by omega) (by omega) (.inl h0), h0, State.putEvt_map src.isLt]

theorem evtMapWrite_virtual (ha : Arrives f.val s) (h0 : f.val ≠ 0) (src : SrcIx) (v : W32) :
    exec (.evtMapWrite f src v) s = .next (s.stray f.val) := by
  have hmap : evtReadOnly (0x1000 + 4 * src.val) = true := by
    have : 0x1000 ≤ 0x1000 + 4 * src.val ∧ 0x1000 + 4 * src.val < 0x1600 := by omega
    simp [evtReadOnly, this]
  rw [exec_evtMapWrite, show 0x201000 + 4 * src.val = 0x200000 + (0x1000 + 4 * src.val) by omega,
    State.access_evt_stray ha (by omega) (by omega) h0 hmap]

theorem msixConditionClear_maskVec (ha : Arrives f.val s) (vec : Fin 128) (b : Bool) :
    msixConditionClear f.val (.maskVec vec b) s = s.putVec f.val vec.val 12 (putB 0 b) := by
  have hvec : evtReadOnly (0x800C + 16 * vec.val) = false := by
    simp [evtReadOnly]
    omega
  show s.access f.val (regAcc (0x20800C + 16 * vec.val) true (putB 0 b)) = _
  rw [show 0x20800C + 16 * vec.val = 0x200000 + (0x800C + 16 * vec.val) by omega, State.access_evt ha (by omega) (by omega) (.inr hvec),
    State.putEvt_vec vec.isLt]

end

/-- Settles O19. -/
theorem eventWritesTakeEffect : Obligations.EventWritesTakeEffect := by
  unfold Obligations.EventWritesTakeEffect
  intro f w v src vec b s ha
  refine ⟨⟨_, evtStatWrite_puts ha w v, ?_⟩, ⟨_, evtEnWrite_puts ha w v, ?_⟩, fun h0 => ⟨_, evtMapWrite_physical ha h0 src v, ?_⟩,
    fun h0 => evtMapWrite_virtual ha h0 src v, ⟨_, exec_msixConditionClear .., ?_⟩, ⟨_, exec_msixConditionClear .., ?_⟩,
    ⟨_, exec_msixConditionClear .., ?_⟩⟩
  · obtain ⟨hplant, hevt⟩ := State.putStat_does f.val w.val v s
    exact ⟨hplant, (congrArg Evt.en hevt :), (congrArg Evt.maps hevt :), (congrArg Evt.stat hevt :)⟩
  · obtain ⟨hplant, hevt⟩ := State.putEn_does f.val w.val v s
    exact ⟨hplant, (congrArg Evt.stat hevt :), (congrArg Evt.maps hevt :), (congrArg Evt.en hevt :)⟩
  · obtain ⟨hplant, hevt⟩ := State.putMap_does src.val v s
    refine ⟨hplant, (congrArg Evt.stat hevt :), (congrArg Evt.en hevt :), ?_⟩
    rw [State.getMap, hevt, tabGet_tabPut_self]
  · obtain ⟨⟨hplant, hevt⟩, hregs⟩ := s.settleFn_updHost f.val (fun h => { h with msixEn := b })
    rw [msixConditionClear_enable ha]
    exact ⟨hplant, hevt, (congrArg HostFn.msixEn hregs :)⟩
  · obtain ⟨⟨hplant, hevt⟩, hregs⟩ := s.settleFn_updHost f.val (fun h => { h with maskAll := b })
    rw [msixConditionClear_maskAll ha]
    exact ⟨hplant, hevt, (congrArg HostFn.maskAll hregs :)⟩
  · obtain ⟨⟨hplant, hevt⟩, hmask⟩ := s.putVec_mask f.val vec.val b
    rw [msixConditionClear_maskVec ha]
    exact ⟨hplant, hevt, hmask⟩

end Sys2Proof.Machine
end

section
/-! The debug windows (R129, R205, R215 to R217): what an open window reads and writes. -/

namespace Sys2Proof.Machine

/-! ### Bytes of the line store -/

/-- Bytes read back as they were written. -/
theorem Memory.readBytes_writeBytes (bs : List Byte) : ∀ (m : Memory) (a : Nat), (m.writeBytes a bs).readBytes a bs.length = bs := by
  induction bs with
  | nil => intro m a; rfl
  | cons x bs ih =>
    intro m a
    have hx : ((m.write a x).writeBytes (a + 1) bs).read a = x := by
      rw [Memory.read_writeBytes_out _ _ _ _ (.inl (Nat.lt_succ_self a)), Memory.read_write_self]
    show ((m.write a x).writeBytes (a + 1) bs).read a :: ((m.write a x).writeBytes (a + 1) bs).readBytes (a + 1) bs.length = x :: bs
    rw [hx, ih]

/-! ### Accesses of the windows (R77, R129) -/

section
variable {s : State} {i : Nat}

/-- A closed window hangs no access, and no more does an open one on a bank whose line-store clock runs. -/
theorem State.dbgHangs_of_reaches (h : (s.dbgWin i).en = false ∨ s.on (dLS (quadrantOf (s.dbgWin i).cell.toNat)) = true) :
    s.dbgHangs i = false := by
  unfold State.dbgHangs
  rcases h with h | h <;> simp [h]

theorem debugWindowRead_now {off len : Nat} (ha : Arrives 0 s) (hh : s.dbgHangs i = false) (hl : off + len ≤ 524288)
    (ecc : List (BlockIx × Ecc)) : debugWindowRead i off len ecc s = s.dbgReadNow i off len ecc := by
  unfold debugWindowRead
  rw [Nat.min_eq_left (by omega), State.access_performed ha (by simp [State.hangs, hh])]
  rfl

theorem debugWindowWrite_now {off : Nat} {data : List Byte} (ha : Arrives 0 s) (hh : s.dbgHangs i = false) (hl : off + data.length ≤ 524288)
    (ecc : List (BlockIx × Ecc)) : debugWindowWrite i off data ecc s = s.dbgWriteNow i off data ecc := by
  unfold debugWindowWrite
  rw [List.take_of_length_le (by omega), State.access_performed ha (by simp [State.hangs, hh])]
  rfl

/-! ### Reading blocks (R216, R217) -/

/-- Reading blocks moves no byte of the line store and no cell. -/
theorem State.blocksRead_keeps (s : State) (b : Nat) (blocks : List Nat) (ecc : List (BlockIx × Ecc)) :
    (s.blocksRead b blocks ecc).store = s.store ∧ (s.blocksRead b blocks ecc).cells = s.cells := by
  have hue : ∀ (t : State) (k : Nat), (t.blockUe b k).store = t.store ∧ (t.blockUe b k).cells = t.cells := fun t k => by
    simp [State.blockUe]
  have hce : ∀ (t : State) (k : Nat), (t.blockCe b k).store = t.store ∧ (t.blockCe b k).cells = t.cells := fun t k => by
    simp [State.blockCe]
  unfold State.blocksRead
  refine ⟨?_, ?_⟩
  · rw [foldl_keeps State.store _ (fun t k => (hce t k).1), foldl_keeps State.store _ (fun t k => (hue t k).1)]
  · rw [foldl_keeps State.cells _ (fun t k => (hce t k).2), foldl_keeps State.cells _ (fun t k => (hue t k).2)]

/-! ### Reads (R215, R217) -/

variable {off len : Nat} {ecc : List (BlockIx × Ecc)}

theorem State.dbgReadNow_closed (h : (s.dbgWin i).en = false) :
    s.dbgReadNow i off len ecc = s.updHost 0 (fun h => { h with dbgData := List.replicate len 0 }) := by
  unfold State.dbgReadNow
  dsimp only
  rw [h]
  rfl

/-- The state of an open window's read once the credits are used and the blocks are read (R215). -/
def State.dbgFetched (i off len : Nat) (ecc : List (BlockIx × Ecc)) (s : State) : State :=
  (s.updBank (s.dbgWin i).cell.toNat (fun x => { x with crDbg := useCredit x.crDbg (blocksOf off len).length })).blocksRead
    (s.dbgWin i).cell.toNat (blocksOf off len) ecc

theorem State.dbgReadNow_clean (h : (s.dbgWin i).en = true) (hu : s.ueAmong (s.dbgWin i).cell.toNat (blocksOf off len) ecc = []) :
    s.dbgReadNow i off len ecc = (s.dbgFetched i off len ecc).updHost 0 (fun h =>
      { h with dbgData := s.store.readBytes (storeKey (s.dbgWin i).cell.toNat off) len }) := by
  unfold State.dbgReadNow
  dsimp only
  rw [h, hu]
  rfl

theorem State.dbgReadNow_poisoned (h : (s.dbgWin i).en = true) (hu : s.ueAmong (s.dbgWin i).cell.toNat (blocksOf off len) ecc ≠ []) :
    s.dbgReadNow i off len ecc = ((s.dbgFetched i off len ecc).aer 0 .poisoned).updHost 0 (fun h => { h with dbgData := List.replicate len 0xFF }) := by
  unfold State.dbgReadNow
  dsimp only
  rw [h, List.isEmpty_eq_false_iff.mpr hu]
  rfl

/-! ### Writes (R215) -/

variable {data : List Byte}

theorem State.dbgWriteNow_closed (h : ((s.dbgWin i).en && (s.dbgWin i).wren) = false) : s.dbgWriteNow i off data ecc = s := by
  unfold State.dbgWriteNow
  dsimp only
  rw [h]
  rfl

/-- A write into the bank of a cell that serves its own work, with no takeover: its bytes lie in the line store at their offset. -/
theorem State.cellPut_store {c : Nat} (hs : s.serverOf c = c) (ht : (s.getCell c).tkoActive = false) (off : Nat) (data : List Byte) :
    (s.cellPut c off data).store = s.store.writeBytes (storeKey c off) data := by
  have hm : s.mirrors c = false := by simp [State.mirrors, ht]
  unfold State.cellPut
  rw [hm, hs, if_neg (by simp)]
  unfold State.bankPut
  dsimp only
  split
  · rfl
  · rfl

theorem State.dbgWriteNow_open {b : Nat} (hb : (s.dbgWin i).cell.toNat = b) (he : (s.dbgWin i).en = true) (hw : (s.dbgWin i).wren = true)
    (hwork : s.workOf b = b) (hserve : s.serverOf b = b) (ht : (s.getCell b).tkoActive = false) :
    (s.dbgWriteNow i off data ecc).store = s.store.writeBytes (storeKey b off) data := by
  unfold State.dbgWriteNow
  dsimp only
  rw [he, hw, hb]
  generalize hn : s.updBank b _ = t
  have hbank : t.store = s.store ∧ t.cells = s.cells := hn ▸ ⟨rfl, rfl⟩
  generalize hr : t.blocksRead b _ ecc = u
  have hread := hr ▸ t.blocksRead_keeps b _ ecc
  have hcell : ∀ c, u.getCell c = s.getCell c := fun c => by rw [State.getCell, hread.2, hbank.2, State.getCell]
  have hworkU : u.workOf b = b := by
    unfold State.workOf
    rw [hcell]
    exact hwork
  have hserveU : u.serverOf b = b := by
    unfold State.serverOf
    rw [hcell]
    exact hserve
  rw [if_neg (by simp), hworkU, if_pos hserveU, State.cellPut_store hserveU (by rw [hcell]; exact ht), hread.1, hbank.1]

end

/-! ### The rows -/

theorem exec_debugWindowRead (i : Fin 4) (off : Fin 524288) (len : Nat) (ecc : List (BlockIx × Ecc)) (s : State) :
    exec (.debugWindowRead i off len ecc) s = .next (debugWindowRead i.val off.val len ecc s) := rfl

theorem exec_debugWindowWrite (i : Fin 4) (off : Fin 524288) (data : List Byte) (ecc : List (BlockIx × Ecc)) (s : State) :
    exec (.debugWindowWrite i off ⟨data, ecc⟩) s = .next (debugWindowWrite i.val off.val data ecc s) := rfl

/-- Settles O18. -/
theorem debugWindowsReachTheirBank : Obligations.DebugWindowsReachTheirBank := by
  unfold Obligations.DebugWindowsReachTheirBank
  intro i off len data ecc s ha
  dsimp only
  refine ⟨fun hwf => ?_, fun hwf => ?_⟩
  · have hl : off.val + len ≤ 524288 := (of_decide_eq_true hwf).2
    refine ⟨fun he => ⟨_, exec_debugWindowRead .., ?_⟩, fun he hon hu => ⟨_, exec_debugWindowRead .., ?_⟩,
      fun he hon hu => ⟨_, exec_debugWindowRead .., ?_⟩⟩
    · rw [debugWindowRead_now ha (State.dbgHangs_of_reaches (.inl he)) hl, State.dbgReadNow_closed he, State.getHost_updHost]
      exact ⟨samePlant_updHost .., rfl⟩
    · rw [debugWindowRead_now ha (State.dbgHangs_of_reaches (.inr hon)) hl, State.dbgReadNow_clean he hu, State.getHost_updHost]
      exact ⟨(State.blocksRead_keeps ..).1, rfl⟩
    · rw [debugWindowRead_now ha (State.dbgHangs_of_reaches (.inr hon)) hl, State.dbgReadNow_poisoned he hu, State.getHost_updHost, State.aer,
        State.getHost_updHost]
      exact ⟨rfl, List.mem_cons_self⟩
  · have hl : off.val + data.length ≤ 524288 := (of_decide_eq_true hwf).2
    refine ⟨fun hw hreach => ?_, fun he hw hon _ hwork hserve ht => ⟨_, exec_debugWindowWrite .., ?_⟩⟩
    · rw [exec_debugWindowWrite, debugWindowWrite_now ha (State.dbgHangs_of_reaches hreach) hl, State.dbgWriteNow_closed hw]
    · rw [debugWindowWrite_now ha (State.dbgHangs_of_reaches (.inr hon)) hl, State.dbgWriteNow_open rfl he hw hwork hserve ht]
      exact ⟨Memory.readBytes_writeBytes .., fun a h => Memory.read_writeBytes_out _ _ _ _ h⟩

end Sys2Proof.Machine
end

section
/-! The commands of service (R123, R168, R196, R254, R266, R410, R463): QUAD-ASSIGN, FEED-RESTART, SELFTEST-CTL, MOTOR-BIND, NOZZLE-MARK and
RELAY-ONLY. -/

namespace Sys2Proof.Machine

/-! ### Loops that change one entry of a table each -/

/-- A loop none of whose steps changes the state it starts from. -/
theorem forAll_same {u : State → Nat → State} {s : State} : ∀ {l : List Nat}, (∀ k ∈ l, u s k = s) → forAll l u s = s
  | [], _ => rfl
  | k :: l, h => by
    have hk : forAll (k :: l) u s = forAll l u (u s k) := rfl
    rw [hk, h k List.mem_cons_self]
    exact forAll_same fun j hj => h j (List.mem_cons_of_mem _ hj)

section
variable {α : Type} {get : State → Nat → α} {I : State → Prop} {step : State → Nat → State} {u : Nat → α → α}

/-- A loop whose step for k gives entry k its new value, once and for all, and leaves the other entries: the entries of the list have their
new value, and the others are as they were. -/
theorem forAll_get (hI : ∀ s k, I s → I (step s k)) (hself : ∀ s k, I s → get (step s k) k = u k (get s k))
    (hne : ∀ s k j, j ≠ k → get (step s k) j = get s j) (hid : ∀ k x, u k (u k x) = u k x) (l : List Nat) (j : Nat) :
    ∀ s, I s → get (forAll l step s) j = if j ∈ l then u j (get s j) else get s j := by
  induction l with
  | nil => intro s _; simp [forAll]
  | cons k l ih =>
    intro s hs
    have hk : forAll (k :: l) step s = forAll l step (step s k) := rfl
    rw [hk, ih _ (hI s k hs)]
    by_cases hj : j = k
    · subst hj
      simp [hself s j hs, hid]
    · simp [hj, hne s k j hj]

end

/-! ### QUAD-ASSIGN (R123, R200) -/

def Quad.ownedBy (l : Fin 16) (x : Quad) : Quad := { x with owner := l }

/-- A lane without its copies in force that are of a cell for which keep is false. -/
def Lane.keepCopies (keep : Nat → Bool) (x : Lane) : Lane := { x with inForce := x.inForce.filter (fun y => keep y.cell) }

theorem Lane.keepCopies_twice (keep : Nat → Bool) (x : Lane) : (x.keepCopies keep).keepCopies keep = x.keepCopies keep := by
  simp [Lane.keepCopies, List.filter_filter]

/-- Where every copy is of a cell to keep, none is lost. -/
theorem Lane.keepCopies_all {keep : Nat → Bool} {x : Lane} (h : x.inForce.all (fun y => keep y.cell) = true) : x.keepCopies keep = x := by
  rw [Lane.keepCopies, List.filter_eq_self.mpr (List.all_eq_true.mp h)]

/-- The quads of the map belong to their new lane. -/
def State.giveQuads (l : Fin 16) (quads : List Nat) (s : State) : State := forAll quads (fun s k => s.updQuad k (Quad.ownedBy l)) s

/-- Lane l keeps the copies in force of the cells it owns. -/
def State.trimLane (s : State) (l : Nat) : State :=
  if (s.getLane l).inForce.all (fun y => decide (s.laneOf y.cell = l)) then s
  else s.updLane l (Lane.keepCopies (fun c => decide (s.laneOf c = l)))

def State.trimLanes (s : State) : State := forAll (List.range 16) State.trimLane s

/-- The quads move to lane l, and each lane keeps the copies in force of the cells it still owns. -/
def State.assignQuads (l : Fin 16) (quads : List Nat) (s : State) : State := (s.giveQuads l quads).trimLanes

theorem State.moveQuads_answers (m : Moving) (s : State) : s.moveQuads m = (s.assignQuads m.lane m.quads).answer 0 m.tag stOk 0 := rfl

def State.withQuads (t : Tab Quad) (s : State) : State := { s with quads := t }
def State.withLanes (t : Tab Lane) (s : State) : State := { s with lanes := t }

theorem State.giveQuads_quads (l : Fin 16) (quads : List Nat) (s : State) : ∃ t, s.giveQuads l quads = s.withQuads t := by
  unfold State.giveQuads forAll
  refine foldl_inv (fun u => ∃ t, u = s.withQuads t) _ (fun u k ⟨t, h⟩ => ?_) _ s ⟨s.quads, rfl⟩
  rw [h]
  exact ⟨_, rfl⟩

theorem State.getQuad_giveQuads (l : Fin 16) (quads : List Nat) (s : State) (k : Nat) :
    (s.giveQuads l quads).getQuad k = if k ∈ quads then { s.getQuad k with owner := l } else s.getQuad k :=
  forAll_get (get := State.getQuad) (I := fun _ => True) (u := fun _ => Quad.ownedBy l) (fun _ _ => id)
    (fun _ _ _ => State.getQuad_updQuad ..) (fun _ _ _ => State.getQuad_updQuad_ne _ _ _ _) (fun _ _ => rfl) quads k s trivial

theorem State.trimLane_lanes (s : State) (l : Nat) : ∃ t, s.trimLane l = s.withLanes t := by
  unfold State.trimLane
  split
  · exact ⟨s.lanes, rfl⟩
  · exact ⟨_, rfl⟩

theorem State.trimLanes_lanes (s : State) : ∃ t, s.trimLanes = s.withLanes t := by
  unfold State.trimLanes forAll
  refine foldl_inv (fun u => ∃ t, u = s.withLanes t) _ (fun u l ⟨_, h⟩ => ?_) _ s ⟨s.lanes, rfl⟩
  obtain ⟨lanes, hl⟩ := u.trimLane_lanes l
  exact ⟨lanes, by rw [hl, h]; rfl⟩

theorem State.getLane_trimLane (s : State) (l : Nat) :
    (s.trimLane l).getLane l = (s.getLane l).keepCopies (fun c => decide (s.laneOf c = l)) := by
  unfold State.trimLane
  split
  · next h => exact (Lane.keepCopies_all (keep := fun c => decide (s.laneOf c = l)) h).symm
  · exact State.getLane_updLane ..

theorem State.getLane_trimLane_ne (s : State) (l j : Nat) (h : j ≠ l) : (s.trimLane l).getLane j = s.getLane j := by
  unfold State.trimLane
  split
  · rfl
  · exact State.getLane_updLane_ne _ _ _ _ h

theorem State.laneOf_of_quads {s t : State} (h : t.quads = s.quads) (c : Nat) : t.laneOf c = s.laneOf c := by
  simp [State.laneOf, State.getQuad, h]

theorem State.getLane_trimLanes (s : State) {l : Nat} (hl : l < 16) :
    s.trimLanes.getLane l = (s.getLane l).keepCopies (fun c => decide (s.laneOf c = l)) := by
  have hkeep : ∀ (u : State) k, u.quads = s.quads → (u.trimLane k).quads = s.quads := fun u k hu => by
    obtain ⟨lanes, h⟩ := u.trimLane_lanes k
    rw [h]
    exact hu
  refine (forAll_get (get := State.getLane) (I := fun u => u.quads = s.quads) (u := fun l => Lane.keepCopies (fun c => decide (s.laneOf c = l)))
    hkeep (fun u k hu => ?_) State.getLane_trimLane_ne (fun _ _ => Lane.keepCopies_twice ..) _ l s rfl).trans (if_pos (List.mem_range.mpr hl))
  rw [State.getLane_trimLane]
  simp only [State.laneOf_of_quads hu]

/-- Moving quads touches nothing but quads and lanes. -/
theorem State.assignQuads_eq (l : Fin 16) (quads : List Nat) (s : State) : ∃ t u, s.assignQuads l quads = (s.withQuads t).withLanes u := by
  obtain ⟨t, hq⟩ := s.giveQuads_quads l quads
  obtain ⟨u, hl⟩ := (s.giveQuads l quads).trimLanes_lanes
  exact ⟨t, u, by rw [State.assignQuads, hl, hq]⟩

theorem State.assignQuads_host (l : Fin 16) (quads : List Nat) (s : State) : (s.assignQuads l quads).host = s.host := by
  obtain ⟨t, u, h⟩ := s.assignQuads_eq l quads
  rw [h]
  rfl

theorem State.getQuad_assignQuads (l : Fin 16) (quads : List Nat) (s : State) (k : Nat) :
    (s.assignQuads l quads).getQuad k = if k ∈ quads then { s.getQuad k with owner := l } else s.getQuad k := by
  obtain ⟨u, hl⟩ := (s.giveQuads l quads).trimLanes_lanes
  rw [← State.getQuad_giveQuads, State.assignQuads, hl]
  rfl

theorem State.getLane_assignQuads (l : Fin 16) (quads : List Nat) (s : State) {j : Nat} (hj : j < 16) :
    (s.assignQuads l quads).getLane j = (s.getLane j).keepCopies (fun c => decide ((s.assignQuads l quads).laneOf c = j)) := by
  obtain ⟨t, hq⟩ := s.giveQuads_quads l quads
  obtain ⟨u, hl⟩ := (s.giveQuads l quads).trimLanes_lanes
  have hquads : (s.assignQuads l quads).quads = (s.giveQuads l quads).quads := by
    rw [State.assignQuads, hl]
    rfl
  have hlane : (s.giveQuads l quads).getLane j = s.getLane j := by
    rw [hq]
    rfl
  rw [State.assignQuads, State.getLane_trimLanes _ hj, hlane]
  exact congrArg (Lane.keepCopies · _) (funext fun c => congrArg (fun o => decide (o = j)) (State.laneOf_of_quads hquads c).symm)

/-- With no quad busy and no ring of theirs enabled or busy, the quads move at once. -/
theorem State.settleAssign_moves {s : State} {m : Moving} (hn : s.assign = none) (hq : s.quadsBusy m.lane.val m.quads = false)
    (hr : ∀ r ∈ s.quadRings m.quads, (s.getRing r).busy = false) :
    State.settleAssign { s with assign := some m } = (s.moveQuads m).serveAll 0 := by
  have he : ({ s with assign := none } : State) = s := by rw [← hn]
  have hb : (s.quadRings m.quads).any (fun r => (s.getRing r).busy) = false := List.any_eq_false.mpr fun r h => by rw [hr r h]; simp
  unfold State.settleAssign
  dsimp only
  rw [he]
  exact (if_neg fun h => Bool.false_ne_true (hq.symm.trans h)).trans (if_neg fun h => Bool.false_ne_true (hb.symm.trans h))

theorem State.takes_assign {s : State} {q : Nat} (h : s.takes q = true) : s.assign = none := by
  unfold State.takes at h
  simp only [Bool.and_eq_true] at h
  obtain ⟨⟨⟨-, h⟩, -⟩, -⟩ := h
  exact Option.isNone_iff_eq_none.mp h

theorem State.quadsBusy_idle {s : State} {l : Nat} {quads : List Nat}
    (hl : ∀ j ∈ l :: quads.map (fun k => (s.getQuad k).owner.toNat), (s.getLane j).st = .idle) (hn : ∀ k ∈ quads, s.quadNamed k = false) :
    s.quadsBusy l quads = false :=
  Bool.or_eq_false_iff.mpr ⟨List.any_eq_false.mpr fun j hj => by rw [hl j hj]; simp, List.any_eq_false.mpr fun k hk => by rw [hn k hk]; simp⟩

/-- The move that QUAD-ASSIGN asks for. -/
def Moving.ofPacket (p : Packet) (quads : List Nat) : Moving := { tag := p.tag, lane := Fin.ofNat 16 (pnum p 16 1), quads := quads }

def quadsOfPacket (p : Packet) : List Nat := (List.range 64).filter (fun k => (BitVec.ofNat 64 (pnum p 8 8)).getLsbD k)

/-- QUAD-ASSIGN between lanes that are IDLE, of quads whose rings are disabled (R123, R200). -/
theorem quadAssign_moves {p : Packet} {s : State} (h : Served true false true [fAny 8 8, fMax p 16 1 15] 0 p s) (ht : pnum p 16 1 < 16)
    (hp : s.present (pnum p 16 1) = true) (hb : s.quadsBusy (pnum p 16 1) (quadsOfPacket p) = false)
    (hr : ∀ r ∈ s.quadRings (quadsOfPacket p), (s.getRing r).en = false ∧ (s.getRing r).busy = false) :
    quadAssign 0 p s = (s.takeHead 0).moveQuads (Moving.ofPacket p (quadsOfPacket p)) := by
  obtain ⟨he, hw, hf, -⟩ := State.takes_host h.takes
  have hrings : forAll ((s.takeHead 0).quadRings (quadsOfPacket p)) (fun s r => if (s.getRing r).en then s.disableRing r else s) (s.takeHead 0)
      = s.takeHead 0 := forAll_same fun r hmem => if_neg (by rw [show ((s.takeHead 0).getRing r).en = _ from (hr r hmem).1]; simp)
  have hto : (Fin.ofNat 16 (pnum p 16 1)).val = pnum p 16 1 := Nat.mod_eq_of_lt ht
  have hassign : s.assign = none := State.takes_assign h.takes
  have hmoves : State.settleAssign { s.takeHead 0 with assign := some (Moving.ofPacket p (quadsOfPacket p)) } =
      ((s.takeHead 0).moveQuads (Moving.ofPacket p (quadsOfPacket p))).serveAll 0 :=
    State.settleAssign_moves hassign ((congrArg (s.quadsBusy · (quadsOfPacket p)) hto).trans hb) fun r hmem => (hr r hmem).2
  have hserve : ((s.takeHead 0).moveQuads (Moving.ofPacket p (quadsOfPacket p))).serveAll 0 =
      (s.takeHead 0).moveQuads (Moving.ofPacket p (quadsOfPacket p)) := by
    have hh : ((s.takeHead 0).assignQuads (Fin.ofNat 16 (pnum p 16 1)) (quadsOfPacket p)).getHost 0 = (s.getHost 0).pastHead :=
      (congrArg (tabGet hostReset · 0) (State.assignQuads_host ..)).trans (getHost_takeHead s 0)
    rw [State.moveQuads_answers]
    refine serveAll_post ?_ ?_ ?_ ?_
    · exact (congrArg HostFn.waiting hh).trans hw
    · exact (congrArg HostFn.en hh).trans he
    · exact (congrArg HostFn.unknown hh).trans h.rows
    · exact (congrArg HostFn.fence hh).trans hf
  refine (command_runs h (served_check h (.inl rfl) rfl (Bool.or_eq_true_iff.mpr (.inr hp)) hb rfl)).trans ?_
  have hbody : (State.settleAssign { forAll ((s.takeHead 0).quadRings (quadsOfPacket p))
      (fun s r => if (s.getRing r).en then s.disableRing r else s) (s.takeHead 0) with assign := some (Moving.ofPacket p (quadsOfPacket p)) }).serveAll 0 =
      (s.takeHead 0).moveQuads (Moving.ofPacket p (quadsOfPacket p)) := by
    rw [hrings, hmoves, hserve, hserve]
  exact hbody

/-! ### Fields of a packet whose bytes are all good (R156) -/

theorem Field.ok_of_bytes {p : Packet} {fs : List Field} {x : Field} (h : firstBad p fs = none) (hx : x ∈ fs) (hlo : 8 ≤ x.off) (hhi : x.off < 64) :
    x.ok = true := by
  unfold firstBad at h
  split at h
  · have hb := List.find?_eq_none.mp h x.off (List.mem_map.mpr ⟨x.off - 8, List.mem_range.mpr (by omega), by omega⟩)
    simp only [badByte, Bool.or_eq_true, not_or, List.any_eq_true, not_exists, not_and] at hb
    simpa using hb.1 x hx
  · cases h

/-! ### What the commands do -/

section
variable {q : LaneIx} {p : Packet} {s : State}

theorem quadAssign_does (h : Served true false true [fAny 8 8, fMax p 16 1 15] q p s) (hp : s.present (pnum p 16 1) = true)
    (hb : s.quadsBusy (pnum p 16 1) (quadsOfPacket p) = false)
    (hr : ∀ r ∈ s.quadRings (quadsOfPacket p), (s.getRing r).en = false ∧ (s.getRing r).busy = false) :
    Answered q.val p stOk 0 s.hostMem s (quadAssign q p s) ∧
      SamePlant ((s.takeHead q.val).assignQuads (Fin.ofNat 16 (pnum p 16 1)) (quadsOfPacket p)) (quadAssign q p s) := by
  have ht : pnum p 16 1 < 16 :=
    Nat.lt_succ_of_le (of_decide_eq_true (Field.ok_of_bytes h.bytes (x := fMax p 16 1 15) (by simp)
      (show 8 ≤ 16 by decide) (show 16 < 64 by decide)))
  obtain rfl : q = 0 := Fin.ext (h.class0 rfl)
  rw [quadAssign_moves h ht hp hb hr, State.moveQuads_answers]
  refine ⟨?_, samePlant_post ..⟩
  obtain ⟨t, u, he⟩ := (s.takeHead 0).assignQuads_eq (Fin.ofNat 16 (pnum p 16 1)) (quadsOfPacket p)
  have hplace : (s.takeHead 0).assignQuads (Moving.ofPacket p (quadsOfPacket p)).lane (Moving.ofPacket p (quadsOfPacket p)).quads =
      ((s.takeHead 0).withQuads t).withLanes u := he
  have hposts : (((s.takeHead 0).withQuads t).withLanes u).corePosts = true := State.takes_posts (s := s) h.takes
  rw [hplace]
  exact entered_of_post (q := 0) (b := ((s.takeHead 0).withQuads t).withLanes u) h.takes (agrees_of_host rfl 0) hposts

theorem State.corePosts_restartEngine (s : State) (e : Nat) : (s.restartEngine e).corePosts = s.corePosts := by
  simp [State.restartEngine, State.corePosts, State.imageRuns, State.romServes]

theorem samePlant_restartEngine (s : State) (q e : Nat) : SamePlant (s.restartEngine e) ((s.takeHead q).restartEngine e) := by
  rw [samePlant_iff]
  simp [State.restartEngine, State.updEngine, State.setEngine, State.getEngine]

/-- FEED-RESTART (R196). -/
theorem feedRestart_does (h : Served true false false [fMax p 8 1 15] q p s) (hs : InState none p s)
    (hst : (s.getEngine (pnum p 8 1)).stopped = true) :
    SamePlant (s.restartEngine (pnum p 8 1)) (feedRestart q p s) ∧ Answered q.val p stOk 0 s.hostMem s (feedRestart q p s) := by
  refine immediate_succeeds h hs rfl rfl rfl ?_ rfl (samePlant_restartEngine ..) ?_ ?_ ?_
  · exact congrArg (!·) (hst : ((s.takeHead q.val).getEngine (pnum p 8 1)).stopped = true)
  · exact (agrees_raise ..).trans (agrees_of_host rfl q.val)
  · exact State.corePosts_restartEngine ..
  · simp [State.restartEngine]

def SelfTest.switched (on : Bool) (t : SelfTest) : SelfTest := { t with on := on }

/-- The self-test of each quadrant of the map on or off (R266). -/
def State.switchTests (s : State) (m : Nat) (on : Bool) : State :=
  forAll ((List.range 4).filter (fun i => decide ((m / 2 ^ i) % 2 = 1))) (fun s i => s.updTest i (SelfTest.switched on)) s

def State.withTests (t : Tab SelfTest) (s : State) : State := { s with tests := t }

theorem State.switchTests_tests (s : State) (m : Nat) (on : Bool) : ∃ t, s.switchTests m on = s.withTests t := by
  unfold State.switchTests forAll
  refine foldl_inv (fun u => ∃ t, u = s.withTests t) _ (fun u k ⟨t, h⟩ => ?_) _ s ⟨s.tests, rfl⟩
  rw [h]
  exact ⟨_, rfl⟩

theorem State.getTest_switchTests (s : State) (m : Nat) (on : Bool) {i : Nat} (hi : i < 4) :
    (s.switchTests m on).getTest i = if m.testBit i then (s.getTest i).switched on else s.getTest i := by
  refine (forAll_get (get := State.getTest) (I := fun _ => True) (u := fun _ => SelfTest.switched on) (fun _ _ => id)
    (fun _ _ _ => State.getTest_updTest ..) (fun _ _ _ => State.getTest_updTest_ne _ _ _ _) (fun _ _ => rfl) _ i s trivial).trans ?_
  simp only [List.mem_filter, List.mem_range, hi, true_and, Nat.testBit_eq_decide_div_mod_eq]

/-- SELFTEST-CTL (R266). -/
theorem selftestCtl_does (h : Served true false false [fMax p 8 1 15, fMax p 9 1 1] q p s) (hs : InState none p s) :
    SamePlant ((s.takeHead q.val).switchTests (pnum p 8 1) (decide (pnum p 9 1 = 1))) (selftestCtl q p s) ∧
      Answered q.val p stOk 0 s.hostMem s (selftestCtl q p s) := by
  obtain ⟨t, ht⟩ := (s.takeHead q.val).switchTests_tests (pnum p 8 1) (decide (pnum p 9 1 = 1))
  refine immediate_succeeds h hs rfl rfl rfl rfl rfl rfl ?_ ?_ ?_
  · exact agrees_of_host (congrArg State.host ht :) q.val
  · exact (congrArg State.corePosts ht :)
  · exact (congrArg State.hostMem ht :)

theorem SamePlant.updMotor {s t : State} (h : SamePlant s t) (n : Nat) (u : Motor → Motor) : SamePlant (s.updMotor n u) (t.updMotor n u) := by
  rw [samePlant_iff] at h ⊢
  simp [State.updMotor, State.setMotor, State.getMotor, h]

/-- The motor channel bound to Pacer k with its ratio, or to none (R410). -/
def Motor.bindTo (k : Nat) (ratio : W32) (m : Motor) : Motor :=
  if h : k < 8 then { m with bound := some ⟨k, h⟩, ratio := ratio } else { m with bound := none, ratio := 0 }

/-- MOTOR-BIND (R410). -/
theorem motorBind_does (h : Served true false false
      [⟨8, 1, decide (pnum p 8 1 < 8) && !(decide (pnum p 9 1 ≠ 0xFF) && decide ((s.getMotor (pnum p 8 1)).mode = 2))⟩,
        ⟨9, 1, decide (pnum p 9 1 < 8) || decide (pnum p 9 1 = 0xFF)⟩, ⟨12, 4, decide (pnum p 9 1 = 0xFF) || decide (pnum p 12 4 ≠ 0)⟩] q p s false)
    (hs : InState none p s) (ho : (s.getMotor (pnum p 8 1)).bound = none ∨ channelOwn q p s = true)
    (hst : (s.getMotor (pnum p 8 1)).stopped = true) (hh : s.held (.channel (pnum p 8 1)) = false) :
    SamePlant (s.updMotor (pnum p 8 1) (Motor.bindTo (pnum p 9 1) (BitVec.ofNat 32 (pnum p 12 4)))) (motorBind q p s) ∧
      Answered q.val p stOk 0 s.hostMem s (motorBind q p s) := by
  refine immediate_succeeds (b := (s.takeHead q.val).updMotor (pnum p 8 1) (Motor.bindTo (pnum p 9 1) (BitVec.ofNat 32 (pnum p 12 4)))) h hs rfl ?_ ?_
    rfl rfl (SamePlant.updMotor (samePlant_updHost ..) ..) (agrees_of_host rfl q.val) rfl rfl
  · rcases ho with ho | ho
    · exact Bool.or_eq_true_iff.mpr (.inl (Bool.or_eq_true_iff.mpr (.inr (Option.isNone_iff_eq_none.mpr ho))))
    · exact Bool.or_eq_true_iff.mpr (.inr ho)
  · exact Bool.or_eq_false_iff.mpr ⟨congrArg (!·) hst, hh⟩

/-- A mark behind those of a cell (R254). -/
def Cell.marked (k : Mark) (y : Cell) : Cell := { y with marks := y.marks ++ [k] }

/-- NOZZLE-MARK (R254): no entry is posted yet. -/
theorem nozzleMark_does (h : Served false false false [fMax p 8 4 1048575, fMax p 12 1 1] q p s) (hs : InState stCP p s)
    (ho : s.laneOf (pnum p 8 4 / 4096) = p.lane.toNat) : nozzleMark q p s = (s.takeHead q.val).updCell (pnum p 8 4 / 4096)
      (Cell.marked { noz := pnum p 8 4 % 4096, clear := decide (pnum p 12 1 = 1), queue := q.val, tag := p.tag }) := by
  have hq : ∀ u, ((s.takeHead q.val).updCell (pnum p 8 4 / 4096) u).getHost q.val = (s.getHost q.val).pastHead := fun u => getHost_takeHead s q.val
  refine (command_runs h (served_check h (.inr hs) rfl (Bool.or_eq_true_iff.mpr (.inr (decide_eq_true ho))) rfl rfl)).trans (State.serveAll_none ?_ ?_)
  · exact (congrArg HostFn.unknown (hq _)).trans h.rows
  · exact (congrArg HostFn.fence (hq _)).trans (State.takes_host h.takes).2.2.1

/-! ### RELAY-ONLY (R463) -/

theorem immediate_chn {c : Cmd} {fs : List Field} {body : State → State × BitVec 16 × Nat} (h : Served c.lane0 c.rom c.early fs q p s c.target0)
    (hc : c.check q.val p (s.takeHead q.val) = none) : (immediate c q p body s).chn = (body (s.takeHead q.val)).1.chn := by
  unfold immediate
  rw [command_runs h hc]
  simp [State.answer]

theorem State.leadRule_st (s : State) : s.leadRule.chn.st = s.chn.st := by
  unfold State.leadRule
  dsimp only
  split
  · simp [State.updChn]
  · split
    · simp [State.updChn]
    · rfl

theorem State.enterRelay_st (s : State) (cause : RelayCause) : (s.enterRelay cause).chn.st = .relayOnly := by
  unfold State.enterRelay
  split
  · next h => exact h
  · simp [State.leadRule_st, State.updChn]

theorem State.leaveRelay_st (s : State) : s.leaveRelay.chn.st ≠ .relayOnly := by
  unfold State.leaveRelay
  split
  · cases h : s.chn.joined <;> simp [State.updChn, h]
  · next h => exact h

/-- RELAY-ONLY sets or ends the state of the command (R463). -/
theorem relayOnly_does (h : Served true false true [fMax p 8 1 1] q p s) (hs : InState none p s) :
    (pnum p 8 1 = 1 → (relayOnly q p s).chn.st = .relayOnly) ∧
      (pnum p 8 1 = 0 → s.chn.rcause = .command → (relayOnly q p s).chn.st ≠ .relayOnly) := by
  have hchn : (relayOnly q p s).chn = (if pnum p 8 1 = 1 then (s.takeHead q.val).enterRelay .command
      else if s.chn.rcause = .command then (s.takeHead q.val).leaveRelay else s.takeHead q.val).chn :=
    immediate_chn h (served_check h (.inr hs) rfl rfl rfl rfl)
  rw [hchn]
  refine ⟨fun h1 => ?_, fun h0 hc => ?_⟩
  · rw [if_pos h1]
    exact State.enterRelay_st ..
  · rw [if_neg (by omega), if_pos hc]
    exact State.leaveRelay_st _

end

/-! ### The obligation -/

theorem SamePlant.of_assignQuads {q : Nat} {s t : State} {quads : List Nat} {l : Fin 16}
    (h : SamePlant ((s.takeHead q).assignQuads l quads) t) : SamePlant { s with quads := t.quads, lanes := t.lanes } t ∧
      (∀ k, t.getQuad k = if k ∈ quads then { s.getQuad k with owner := l } else s.getQuad k) ∧
      ∀ l < 16, t.getLane l = { s.getLane l with inForce := (s.getLane l).inForce.filter (fun y => decide (t.laneOf y.cell = l)) } := by
  have hquads : t.quads = ((s.takeHead q).assignQuads l quads).quads := (congrArg State.quads h :)
  refine ⟨?_, fun k => ?_, fun j hj => ?_⟩
  · obtain ⟨tab, lanes, he⟩ := (s.takeHead q).assignQuads_eq l quads
    rw [he, samePlant_iff] at h
    rw [samePlant_iff]
    simp_all [State.withLanes, State.withQuads]
  · have hget : t.getQuad k = ((s.takeHead q).assignQuads l quads).getQuad k := congrArg (tabGet quadReset · k) hquads
    have hhead : (s.takeHead q).getQuad k = s.getQuad k := rfl
    rw [hget, State.getQuad_assignQuads, hhead]
  · have hget : t.getLane j = ((s.takeHead q).assignQuads l quads).getLane j := congrArg (tabGet laneReset · j) h.lanes
    have hhead : (s.takeHead q).getLane j = s.getLane j := rfl
    rw [hget, State.getLane_assignQuads _ _ _ hj, hhead]
    simp only [Lane.keepCopies, State.laneOf_of_quads hquads]

theorem SamePlant.of_switchTests {q m : Nat} {s t : State} {on : Bool} (h : SamePlant ((s.takeHead q).switchTests m on) t) :
    SamePlant { s with tests := t.tests } t ∧ ∀ i < 4, (t.getTest i).on = if m.testBit i then on else (s.getTest i).on := by
  refine ⟨?_, fun i hi => ?_⟩
  · obtain ⟨tab, he⟩ := (s.takeHead q).switchTests_tests m on
    rw [he, samePlant_iff] at h
    rw [samePlant_iff]
    simp_all [State.withTests]
  · have hget : t.getTest i = ((s.takeHead q).switchTests m on).getTest i := congrArg (tabGet testReset · i) (congrArg State.tests h :)
    have hhead : (s.takeHead q).getTest i = s.getTest i := rfl
    rw [hget, State.getTest_switchTests _ _ _ hi, hhead]
    split <;> rfl

theorem SamePlant.of_bindTo {n k : Nat} {r : W32} {s t : State} (h : SamePlant (s.updMotor n (Motor.bindTo k r)) t) :
    SamePlant { s with motors := t.motors } t ∧ t.getMotor n = (s.getMotor n).bindTo k r := by
  refine ⟨?_, (h.getMotor n).trans (State.getMotor_updMotor ..)⟩
  rw [samePlant_iff] at h ⊢
  simp_all

theorem Motor.bindTo_none (r : W32) (m : Motor) : (m.bindTo 0xFF r).bound = none := rfl

theorem Motor.bindTo_pacer {k : Nat} (h : k < 8) (r : W32) (m : Motor) :
    (m.bindTo k r).bound.map (·.val) = some k ∧ (m.bindTo k r).ratio = r := by
  rw [Motor.bindTo, dif_pos h]
  exact ⟨rfl, rfl⟩

/-- Settles O5: each command passes its checks, has its effect on the state that the taken packet leaves, and answers. -/
theorem serviceCommandsTakeEffect : Obligations.ServiceCommandsTakeEffect := by
  unfold Obligations.ServiceCommandsTakeEffect
  intro q p s
  dsimp only
  refine ⟨fun h hp hidle hnamed hr => ?_, fun h hs hst => ⟨_, rfl, feedRestart_does h hs hst⟩, fun h hs => ?_, fun h hs ho hst hh => ?_,
    fun h hs ho => ?_, fun h hs => ⟨_, rfl, relayOnly_does h hs⟩⟩
  · obtain ⟨hans, hplant⟩ := quadAssign_does h hp (State.quadsBusy_idle hidle hnamed) hr
    exact ⟨_, rfl, hans, hplant.of_assignQuads⟩
  · obtain ⟨hplant, hans⟩ := selftestCtl_does h hs
    exact ⟨_, rfl, hans, hplant.of_switchTests⟩
  · obtain ⟨hplant, hans⟩ := motorBind_does h hs ho hst hh
    obtain ⟨hrest, hmotor⟩ := hplant.of_bindTo
    refine ⟨_, rfl, hans, hrest, fun hk => ?_, fun hk => ?_⟩
    · rw [hmotor, hk]
      exact Motor.bindTo_none ..
    · have hfield : (decide (pnum p 9 1 < 8) || decide (pnum p 9 1 = 0xFF)) = true :=
        Field.ok_of_bytes h.bytes (x := ⟨9, 1, decide (pnum p 9 1 < 8) || decide (pnum p 9 1 = 0xFF)⟩) (by simp)
          (show 8 ≤ 9 by decide) (show 9 < 64 by decide)
      have h8 : pnum p 9 1 < 8 := by simpa [hk] using hfield
      rw [hmotor]
      exact Motor.bindTo_pacer h8 ..
  · refine ⟨_, congrArg Host.Outcome.next (nozzleMark_does h hs ho), rfl, rfl, ?_⟩
    rw [State.getCell_updCell]
    rfl

end Sys2Proof.Machine
end

section
/-! The end of a lane reset (R136 to R138, R140, R149, R166, R199): its entries, then what is cleared. -/

namespace Sys2Proof.Machine

/-! ### Entries of a reset (R137, R140) -/

/-- Entries were posted: the plant, the event map, and the counters of every function are as they were. -/
structure EntriesPosted (s t : State) : Prop where
  plant : SamePlant s t
  maps : t.evt.maps = s.evt.maps
  next : ∀ g, (t.getHost g).next = (s.getHost g).next
  prSeq : ∀ g, (t.getHost g).prSeq = (s.getHost g).prSeq

namespace EntriesPosted

variable {s t u : State}

theorem refl (s : State) : EntriesPosted s s := ⟨.refl s, rfl, fun _ => rfl, fun _ => rfl⟩

theorem trans (h : EntriesPosted s t) (k : EntriesPosted t u) : EntriesPosted s u :=
  ⟨h.plant.trans k.plant, k.maps.trans h.maps, fun g => (k.next g).trans (h.next g), fun g => (k.prSeq g).trans (h.prSeq g)⟩

/-- A change of the queues that leaves each function's steady registers. -/
theorem of_steady (hp : SamePlant s t) (hm : t.evt.maps = s.evt.maps) (hs : t.steady = s.steady) : EntriesPosted s t :=
  ⟨hp, hm, fun g => (congrArg (fun f => (f g).next) hs :), fun g => (congrArg (fun f => (f g).prSeq) hs :)⟩

end EntriesPosted

theorem State.raise_maps (s : State) (src : Nat) : (s.raise src).evt.maps = s.evt.maps := by
  unfold State.raise
  split
  · dsimp only
    split
    · rw [(State.signal_frame ..).2.2.2.1]
    · rfl
  · rfl

theorem State.writeEntry_maps (s : State) (q : Nat) (e : Entry) : (s.writeEntry q e).evt.maps = s.evt.maps := by
  unfold State.writeEntry
  dsimp only
  rw [State.raise_maps]
  split <;> simp [State.endHandle]

theorem State.drain_maps (q n : Nat) (s : State) : (State.drain q n s).evt.maps = s.evt.maps := by
  induction n generalizing s with
  | zero => rfl
  | succ n ih =>
    unfold State.drain
    dsimp only
    split
    · rfl
    · split
      · rw [ih, State.writeEntry_maps, (State.updHost_frame ..).2.2.2.1]
      · rfl

theorem samePlant_writeEntry (s : State) (q : Nat) (e : Entry) : SamePlant s (s.writeEntry q e) := by
  rw [samePlant_iff]
  simp

theorem EntriesPosted.resetEntry (s : State) (l n : Nat) (i : Nat × W32 × Bool) : EntriesPosted s (s.resetEntry l n i) := by
  unfold State.resetEntry
  dsimp only
  split
  · exact .of_steady (samePlant_post ..) (State.drain_maps ..) (State.steady_post ..)
  · split
    · exact .of_steady (samePlant_writeEntry ..) (State.writeEntry_maps ..) (State.steady_writeEntry ..)
    · exact .of_steady (samePlant_updHost ..) rfl (s.steady_updHost l fun _ => rfl)

theorem EntriesPosted.resetEntries (l n : Nat) (is_ : List (Nat × W32 × Bool)) (s : State) : EntriesPosted s (s.resetEntries l n is_) :=
  foldl_inv (EntriesPosted s) _ (fun _ _ h => h.trans (.resetEntry ..)) is_ s (.refl s)

theorem EntriesPosted.aer (s : State) (f : Nat) (e : Aer) : EntriesPosted s (s.aer f e) := by
  have hhost : ∀ g, ((s.aer f e).getHost g).next = (s.getHost g).next ∧ ((s.aer f e).getHost g).prSeq = (s.getHost g).prSeq := fun g => by
    by_cases hg : g = f
    · subst hg
      rw [State.aer, State.getHost_updHost]
      exact ⟨rfl, rfl⟩
    · rw [State.aer, State.getHost_updHost_ne _ _ _ _ hg]
      exact ⟨rfl, rfl⟩
  exact ⟨samePlant_updHost .., rfl, fun g => (hhost g).1, fun g => (hhost g).2⟩

/-- The state that the completion of the read leaves, before its entries are posted: a bad one is logged (R534). -/
def State.readDone (l : Nat) (ok : Bool) (s : State) : State := if ok then s else s.aer l .timeout

theorem EntriesPosted.readDone (l : Nat) (ok : Bool) (s : State) : EntriesPosted s (s.readDone l ok) := by
  unfold State.readDone
  split
  · exact .refl s
  · exact .aer s l _

theorem State.agrees_readDone (l : Nat) (ok : Bool) (s : State) : ((s.readDone l ok).getHost l).Agrees (s.getHost l) := by
  unfold State.readDone
  split
  · exact .refl _
  · rw [State.aer, State.getHost_updHost]
    constructor <;> rfl

/-! ### What a lane reset clears (R137, R138, R199) -/

/-- The bits of a list are 0 once each of them has been cleared. -/
theorem bit_clearAll {w src : Nat} {l : List Nat} (h : src ∈ l) (x : BitVec w) : bit (l.foldl (fun v j => setBit v j false) x) src = false := by
  refine foldl_reaches (I := fun _ => True) (P := fun v : BitVec w => bit v src = false) h (fun _ _ => id) (fun v _ => bit_setBit_false v src)
    (fun v j hv => ?_) trivial
  by_cases hj : src = j
  · subst hj
    exact bit_setBit_false v src
  · rw [bit_setBit_false_ne _ hj]
    exact hv

theorem State.clearEvents_stat {s : State} {l src : Nat} (hsrc : src < 384) (h : (s.getMap src).1 = l) :
    bit (s.clearEvents l).evt.stat src = false :=
  bit_clearAll (List.mem_filter.mpr ⟨List.mem_range.mpr hsrc, decide_eq_true h⟩) _

/-- A cell without the data of its lines and windows (R199). -/
def Cell.emptied (x : Cell) : Cell :=
  { x with nextM := 0, outM := 0, pipe := none, slots := [], xin := [], nextA := 0, assign := [], done := [], relM := 0, skipM := [], rows := []
           keptMasks := [] }

/-- The line store's part of a lane is emptied: cell c, its lines, and the bank that serves it (R124, R199, R211). -/
def State.clearCell (s : State) (c : Nat) : State := (s.emptyData c [] []).updBank (s.serverOf c) Bank.unadmit

def State.clearRings (l : Nat) (s : State) : State := forAll (s.ringsOf l) (fun s r => s.updRing r Ring.laneReset) s

def State.clearCells (l : Nat) (s : State) : State := forAll (s.cellsOf l) State.clearCell s

def State.withRings (t : Tab Ring) (s : State) : State := { s with rings := t }

/-- The state with other cells, line requests and banks. -/
def State.withData (cells : Tab Cell) (reqs : Tab ReqLine) (banks : Tab Bank) (s : State) : State :=
  { s with cells := cells, reqs := reqs, banks := banks }

theorem State.clearRings_rings (l : Nat) (s : State) : ∃ t, s.clearRings l = s.withRings t := by
  unfold State.clearRings forAll
  refine foldl_inv (fun u => ∃ t, u = s.withRings t) _ (fun u k ⟨t, h⟩ => ?_) _ s ⟨s.rings, rfl⟩
  rw [h]
  exact ⟨_, rfl⟩

theorem State.clearLines_reqs (c : Nat) (js : List Nat) (s : State) :
    ∃ t, forAll js (fun s j => s.updReq (reqKey c j) (fun _ => { taken := 0, wptr := 0 })) s = s.withData s.cells t s.banks := by
  unfold forAll
  refine foldl_inv (fun u => ∃ t, u = s.withData s.cells t s.banks) _ (fun u k ⟨t, h⟩ => ?_) _ s ⟨s.reqs, rfl⟩
  rw [h]
  exact ⟨_, rfl⟩

theorem State.clearCell_data (s : State) (c : Nat) : ∃ reqs banks, s.clearCell c = (s.updCell c Cell.emptied).withData (s.updCell c Cell.emptied).cells reqs banks := by
  obtain ⟨reqs, h⟩ := (s.updCell c Cell.emptied).clearLines_reqs c ((List.range 16).filter (fun j => !([] : List Nat).contains j))
  have he : s.emptyData c [] [] = (s.updCell c Cell.emptied).withData (s.updCell c Cell.emptied).cells reqs (s.updCell c Cell.emptied).banks := h
  rw [State.clearCell, he]
  exact ⟨reqs, _, rfl⟩

theorem State.getCell_clearCell (s : State) (c : Nat) : (s.clearCell c).getCell c = (s.getCell c).emptied := by
  obtain ⟨reqs, banks, h⟩ := s.clearCell_data c
  rw [h]
  exact State.getCell_updCell ..

theorem State.getCell_clearCell_ne (s : State) (c j : Nat) (hj : j ≠ c) : (s.clearCell c).getCell j = s.getCell j := by
  obtain ⟨reqs, banks, h⟩ := s.clearCell_data c
  rw [h]
  exact State.getCell_updCell_ne _ _ _ _ hj

theorem State.clearCells_data (l : Nat) (s : State) : ∃ cells reqs banks, s.clearCells l = s.withData cells reqs banks := by
  unfold State.clearCells forAll
  refine foldl_inv (fun u => ∃ cells reqs banks, u = s.withData cells reqs banks) _ (fun u k ⟨_, _, _, h⟩ => ?_) _ s ⟨s.cells, s.reqs, s.banks, rfl⟩
  obtain ⟨reqs, banks, hk⟩ := u.clearCell_data k
  rw [hk, h]
  exact ⟨_, reqs, banks, rfl⟩

theorem State.getCell_clearCells (l c : Nat) (s : State) :
    (s.clearCells l).getCell c = if c ∈ s.cellsOf l then (s.getCell c).emptied else s.getCell c :=
  forAll_get (get := State.getCell) (I := fun _ => True) (u := fun _ => Cell.emptied) (fun _ _ => id) (fun s k _ => s.getCell_clearCell k)
    State.getCell_clearCell_ne (fun _ _ => rfl) _ c s trivial

theorem State.getRing_clearRings (l n : Nat) (s : State) :
    (s.clearRings l).getRing n = if n ∈ s.ringsOf l then (s.getRing n).laneReset else s.getRing n :=
  forAll_get (get := State.getRing) (I := fun _ => True) (u := fun _ => Ring.laneReset) (fun _ _ => id)
    (fun _ _ _ => State.getRing_updRing ..) (fun _ _ _ => State.getRing_updRing_ne _ _ _ _) (fun _ _ => rfl) _ n s trivial

/-- An entry of a table is at its reset value or listed. -/
theorem tabGet_listed {α : Type} (d : Nat → α) (k : Nat) : ∀ t : Tab α, tabGet d t k = d k ∨ (k, tabGet d t k) ∈ t
  | [] => .inl rfl
  | (j, v) :: t => by
    unfold tabGet
    split
    · next h => exact .inr (by rw [h]; exact List.mem_cons_self)
    · exact (tabGet_listed d k t).imp_right (List.mem_cons_of_mem _)

/-- A ring of the lane is DISABLED at its indexes 0 and keeps its base once the lane's rings are cleared (R199). -/
theorem State.clearRings_ring {l n : Nat} {s : State} (h : s.laneOf (s.getRing n).cell.toNat = l) : ((s.clearRings l).getRing n).st = .disabled ∧
    ((s.clearRings l).getRing n).en = false ∧ ((s.clearRings l).getRing n).pidx = 0 ∧ ((s.clearRings l).getRing n).cidx = 0 ∧
    ((s.clearRings l).getRing n).base = (s.getRing n).base := by
  rw [State.getRing_clearRings]
  split
  · exact ⟨rfl, rfl, rfl, rfl, rfl⟩
  · next hn =>
    have hreset : s.getRing n = ringReset n := (tabGet_listed ringReset n s.rings).resolve_right fun hm =>
      hn (List.mem_map.mpr ⟨_, List.mem_filter.mpr ⟨hm, decide_eq_true h⟩, rfl⟩)
    rw [hreset]
    exact ⟨rfl, rfl, rfl, rfl, rfl⟩

theorem State.cellsOf_of_quads {s t : State} (h : t.quads = s.quads) (l : Nat) : t.cellsOf l = s.cellsOf l := by
  have hget : t.getQuad = s.getQuad := funext fun k => congrArg (tabGet Machine.quadReset · k) h
  unfold State.cellsOf State.quadsOf
  rw [hget]

theorem State.mem_cellsOf {s : State} {l c : Nat} (hc : c < 256) (h : s.laneOf c = l) : c ∈ s.cellsOf l :=
  List.mem_flatMap.mpr ⟨quadOf c, List.mem_filter.mpr ⟨List.mem_range.mpr (by simp only [quadOf]; omega), decide_eq_true h⟩, mem_cellsOfQuad⟩

/-- What the end of its reset leaves of a lane (R138). -/
def Lane.afterReset (x : Lane) : Lane :=
  { x with st := .idle, locked := false, fill := 0, comSlot := none, image := none, patches := [], hold := false, unhold := false
           stopping := false, reset := none }

theorem State.laneCleared_eq (l : Nat) (s : State) : s.laneCleared l = ((s.clearRings l).clearCells l).updLane l Lane.afterReset := rfl

theorem State.laneCleared_keeps (l : Nat) (s : State) : (s.laneCleared l).host = s.host ∧ (s.laneCleared l).evt = s.evt ∧
    (s.laneCleared l).glb = s.glb ∧ (s.laneCleared l).meter = s.meter ∧ (s.laneCleared l).hostMem = s.hostMem := by
  obtain ⟨rings, hr⟩ := s.clearRings_rings l
  obtain ⟨cells, reqs, banks, hc⟩ := (s.clearRings l).clearCells_data l
  rw [State.laneCleared_eq, hc, hr]
  exact ⟨rfl, rfl, rfl, rfl, rfl⟩

theorem State.getLane_laneCleared (l : Nat) (s : State) : (s.laneCleared l).getLane l = (s.getLane l).afterReset := by
  obtain ⟨rings, hr⟩ := s.clearRings_rings l
  obtain ⟨cells, reqs, banks, hc⟩ := (s.clearRings l).clearCells_data l
  rw [State.laneCleared_eq, State.getLane_updLane, hc, hr]
  rfl

theorem State.getCell_updLane (s : State) (l c : Nat) (u : Lane → Lane) : (s.updLane l u).getCell c = s.getCell c := rfl

theorem State.getCell_laneCleared (l c : Nat) (s : State) :
    (s.laneCleared l).getCell c = if c ∈ s.cellsOf l then (s.getCell c).emptied else s.getCell c := by
  obtain ⟨rings, hr⟩ := s.clearRings_rings l
  have hcells : (s.clearRings l).cellsOf l = s.cellsOf l ∧ (s.clearRings l).getCell c = s.getCell c := by
    rw [hr]
    exact ⟨rfl, rfl⟩
  rw [State.laneCleared_eq, State.getCell_updLane, State.getCell_clearCells, hcells.1, hcells.2]

theorem State.getRing_laneCleared (l n : Nat) (s : State) : (s.laneCleared l).getRing n = (s.clearRings l).getRing n := by
  obtain ⟨cells, reqs, banks, hc⟩ := (s.clearRings l).clearCells_data l
  rw [State.laneCleared_eq, hc]
  rfl

/-! ### The row -/

/-- The lane's event and queue registers at reset (R137, R138, R149). -/
def State.queueCleared (l : Nat) (s : State) : State := (s.clearEvents l).updHost l HostFn.queueReset

/-- What is cleared once the entries of a reset are posted (R137, R138, R149). -/
def State.resetCleared (l : Nat) (s : State) : State := ((s.queueCleared l).laneCleared l).setRstCause 4

theorem State.getHost_setRstCause (s : State) (b k : Nat) : (s.setRstCause b).getHost k = s.getHost k := rfl
theorem State.getLane_setRstCause (s : State) (b k : Nat) : (s.setRstCause b).getLane k = s.getLane k := rfl
theorem State.getCell_setRstCause (s : State) (b k : Nat) : (s.setRstCause b).getCell k = s.getCell k := rfl
theorem State.getRing_setRstCause (s : State) (b k : Nat) : (s.setRstCause b).getRing k = s.getRing k := rfl
theorem State.setRstCause_keeps (s : State) {b : Nat} (hb : b < 9) : (s.setRstCause b).evt = s.evt ∧ (s.setRstCause b).meter = s.meter ∧
    (s.setRstCause b).hostMem = s.hostMem ∧ bit (s.setRstCause b).glb.rstCause b = true := ⟨rfl, rfl, rfl, bit_setBit_self _ hb⟩

/-- Clearing the queue's registers touches no table of the plant. -/
theorem State.queueCleared_keeps (l : Nat) (s : State) : (s.queueCleared l).evt = (s.clearEvents l).evt ∧ (s.queueCleared l).rings = s.rings ∧
    (s.queueCleared l).quads = s.quads ∧ (s.queueCleared l).cells = s.cells ∧ (s.queueCleared l).lanes = s.lanes ∧
    (s.queueCleared l).meter = s.meter ∧ (s.queueCleared l).hostMem = s.hostMem := by
  simp [State.queueCleared, State.clearEvents]

/-- A function whose queue pair, vectors and stray event are at reset, its two counters kept (R149, R166, R296). -/
structure HostFn.AtReset (h t : HostFn) : Prop where
  en : t.en = false
  sqHead : t.sqHead = 0
  sqTail : t.sqTail = 0
  cqTail : t.cqTail = 0
  stray : t.stray = 0
  vecs : t.vecs = []
  pba : t.pba = 0
  next : t.next = h.next
  prSeq : t.prSeq = h.prSeq

theorem State.resetCleared_host (l : Nat) (s : State) : (s.getHost l).AtReset ((s.resetCleared l).getHost l) := by
  have hhost : (s.resetCleared l).getHost l = ((s.clearEvents l).getHost l).queueReset := by
    rw [State.resetCleared, State.getHost_setRstCause, State.getHost, (State.laneCleared_keeps ..).1]
    exact State.getHost_updHost ..
  rw [hhost, State.clearEvents, State.getHost_updHost]
  constructor <;> rfl

theorem State.resetCleared_ring {l n : Nat} {s : State} (h : s.laneOf (s.getRing n).cell.toNat = l) :
    ((s.resetCleared l).getRing n).st = .disabled ∧ ((s.resetCleared l).getRing n).en = false ∧ ((s.resetCleared l).getRing n).pidx = 0 ∧
      ((s.resetCleared l).getRing n).cidx = 0 ∧ ((s.resetCleared l).getRing n).base = (s.getRing n).base := by
  obtain ⟨-, hrings, hquads, -⟩ := s.queueCleared_keeps l
  have hring : (s.queueCleared l).getRing n = s.getRing n := congrArg (tabGet ringReset · n) hrings
  have hcleared := State.clearRings_ring (s := s.queueCleared l) (l := l) (n := n) (by rw [hring, State.laneOf_of_quads hquads]; exact h)
  rw [State.resetCleared, State.getRing_setRstCause, State.getRing_laneCleared, ← hring]
  exact hcleared

theorem State.getCell_resetCleared (l c : Nat) (s : State) :
    (s.resetCleared l).getCell c = if c ∈ s.cellsOf l then (s.getCell c).emptied else s.getCell c := by
  obtain ⟨-, -, hquads, hcells, -⟩ := s.queueCleared_keeps l
  have hof : (s.queueCleared l).cellsOf l = s.cellsOf l := State.cellsOf_of_quads hquads l
  have hcell : (s.queueCleared l).getCell c = s.getCell c := congrArg (tabGet cellReset · c) hcells
  rw [State.resetCleared, State.getCell_setRstCause, State.getCell_laneCleared, hof, hcell]

theorem State.getLane_resetCleared (l : Nat) (s : State) : (s.resetCleared l).getLane l = (s.getLane l).afterReset := by
  obtain ⟨-, -, -, -, hlanes, -⟩ := s.queueCleared_keeps l
  have hlane : (s.queueCleared l).getLane l = s.getLane l := congrArg (tabGet laneReset · l) hlanes
  rw [State.resetCleared, State.getLane_setRstCause, State.getLane_laneCleared, hlane]

theorem State.resetCleared_keeps (l : Nat) (s : State) : (s.resetCleared l).evt = (s.clearEvents l).evt ∧ (s.resetCleared l).meter = s.meter ∧
    (s.resetCleared l).hostMem = s.hostMem ∧ bit (s.resetCleared l).glb.rstCause 4 = true := by
  obtain ⟨hevtQ, -, -, -, -, hmeterQ, hmemQ⟩ := s.queueCleared_keeps l
  obtain ⟨-, hevt, -, hmeter, hmem⟩ := (s.queueCleared l).laneCleared_keeps l
  obtain ⟨hevtR, hmeterR, hmemR, hcause⟩ := ((s.queueCleared l).laneCleared l).setRstCause_keeps (b := 4) (by decide)
  exact ⟨hevtR.trans (hevt.trans hevtQ), hmeterR.trans (hmeter.trans hmeterQ), hmemR.trans (hmem.trans hmemQ), hcause⟩

/-- The entries of a reset, posted behind the completion of its read (R137, R140). -/
def State.resetPosted (l : Nat) (ok : Bool) (r : LaneReset) (s : State) : State :=
  (s.readDone l ok).resetEntries l r.released (r.issuers.filter (fun i => !(r.flr && decide (i.1 = l))))

theorem EntriesPosted.resetPosted (l : Nat) (ok : Bool) (r : LaneReset) (s : State) : EntriesPosted s (s.resetPosted l ok r) :=
  (EntriesPosted.readDone l ok s).trans (.resetEntries ..)

theorem zeroLengthReadDone_ends {s : State} {l : Nat} {ok : Bool} {r : LaneReset} (ha : s.alive = true) (hr : (s.getLane l).reset = some r)
    (hc : r.cells = []) (he : r.engines = []) (hp : s.corePosts = true)
    (ho : l = 0 ∨ ∀ o ∈ s.ops, s.runsOn l o = false ∧ actsOn l o = false) :
    zeroLengthReadDone l ok s =
      (s.resetPosted l ok r).resetCleared l := by
  have hready : s.resetReady l = true := by
    unfold State.resetReady
    rw [hr]
    rcases ho with rfl | ho
    · simp [hc, he, hp]
    · have hops : s.ops.any (fun o => s.runsOn l o || actsOn l o) = false := List.any_eq_false.mpr fun o hm => by simp [ho o hm]
      simp [hc, he, hp, hops]
  unfold zeroLengthReadDone
  rw [hr]
  exact if_pos (Bool.and_eq_true_iff.mpr ⟨ha, hready⟩)

theorem State.hostMem_readDone (l : Nat) (ok : Bool) (s : State) : (s.readDone l ok).hostMem = s.hostMem := by
  unfold State.readDone
  split
  · rfl
  · simp

/-- With no command to answer, nothing is written. -/
theorem State.resetPosted_none {l : Nat} {ok : Bool} {r : LaneReset} {s : State} (h : r.issuers = []) : (s.resetPosted l ok r).hostMem = s.hostMem := by
  unfold State.resetPosted
  rw [h]
  exact s.hostMem_readDone l ok

/-- The one command of the lane's own queue gets its entry at CQ_TAIL (R137, R140). -/
theorem State.resetPosted_own {l : Nat} {ok : Bool} {r : LaneReset} {s : State} {tag : W32} {first : Bool} (h : r.issuers = [(l, tag, first)])
    (hf : r.flr = false) (hen : (s.getHost l).en = true) : (s.resetPosted l ok r).hostMem =
      hostWrite s.hostMem (hostKey l ((s.getHost l).cqBase.toNat + 16 * (s.getHost l).cqTail.toNat)) (entryBytes (s.getHost l)
        { tag := tag, handle := 0, status := stOk, detail := BitVec.ofNat 16 (if first then r.released else 0), hv := false, final := false }) := by
  have hagree := s.agrees_readDone l ok
  have hone : s.resetPosted l ok r = (s.readDone l ok).writeEntry l
      { tag := tag, handle := 0, status := stOk, detail := BitVec.ofNat 16 (if first then r.released else 0), hv := false, final := false } := by
    unfold State.resetPosted
    rw [h, hf]
    exact (if_neg (by simp)).trans (if_pos (hagree.en.trans hen))
  obtain ⟨-, hmem, -⟩ := (s.readDone l ok).writeEntry_does l
    { tag := tag, handle := 0, status := stOk, detail := BitVec.ofNat 16 (if first then r.released else 0), hv := false, final := false }
  rw [hone, hmem, State.hostMem_readDone, hagree.cqBase, hagree.cqTail, hagree.entryBytes]

theorem exec_zeroLengthReadDone (l : LaneIx) (ok : Bool) (s : State) : exec (.zeroLengthReadDone l ok) s = .next (zeroLengthReadDone l.val ok s) := rfl

/-- Settles O48: the entries leave the plant as it is, and the rest is read off what is cleared. -/
theorem laneResetsEnd : Obligations.LaneResetsEnd := by
  unfold Obligations.LaneResetsEnd
  intro l ok r s ha hr hc he hp ho
  have hposted := EntriesPosted.resetPosted l.val ok r s
  refine ⟨_, exec_zeroLengthReadDone l ok s, ?_⟩
  rw [zeroLengthReadDone_ends ha hr hc he hp ho]
  have hnone : r.issuers = [] → (s.resetPosted l.val ok r).hostMem = s.hostMem := State.resetPosted_none
  have hown := fun tag first (h : r.issuers = [(l.val, tag, first)]) hf hen => State.resetPosted_own (ok := ok) (s := s) h hf hen
  generalize s.resetPosted l.val ok r = p at hposted hnone hown
  obtain ⟨hplant, hmaps, hnext, hseq⟩ := hposted
  have hhost := p.resetCleared_host l.val
  have hlane : (p.resetCleared l.val).getLane l.val = (s.getLane l.val).afterReset :=
    (p.getLane_resetCleared l.val).trans (congrArg (fun x => (tabGet laneReset x l.val).afterReset) hplant.lanes)
  have hquads : p.quads = s.quads := (congrArg State.quads hplant :)
  have hcell : ∀ c, p.getCell c = s.getCell c := fun c => congrArg (tabGet cellReset · c) hplant.cells
  have hring : ∀ n, p.getRing n = s.getRing n := fun n => congrArg (tabGet ringReset · n) (congrArg State.rings hplant :)
  obtain ⟨hevt, hmeter, hmem, hcause⟩ := p.resetCleared_keeps l.val
  rw [hlane, hmem]
  refine ⟨rfl, rfl, rfl, rfl, rfl, hhost.en, hhost.sqHead, hhost.sqTail, hhost.cqTail, hhost.stray, hhost.vecs, hhost.pba,
    hhost.next.trans (hnext _), hhost.prSeq.trans (hseq _), fun src hsrc hmap => ?_, ?_, hmeter.trans (congrArg State.meter hplant :), fun c _ => ?_,
    fun c hlt hcl => ?_, fun n _ hnl => ?_, hcause, hnone, hown⟩
  · rw [hevt]
    exact State.clearEvents_stat hsrc ((congrArg (fun m => (tabGet mapReset m src).1) hmaps).trans hmap)
  · rw [hevt]
    exact hmaps
  · rw [State.getCell_resetCleared, hcell]
    split
    · exact ⟨rfl, rfl⟩
    · exact ⟨rfl, rfl⟩
  · rw [State.getCell_resetCleared, if_pos (State.mem_cellsOf hlt ((State.laneOf_of_quads hquads c).trans hcl))]
    exact ⟨rfl, rfl, rfl⟩
  · have hring' := State.resetCleared_ring (s := p) (l := l.val) (n := n) (by rw [hring, State.laneOf_of_quads hquads]; exact hnl)
    rw [hring n] at hring'
    exact hring'

end Sys2Proof.Machine
end

section
/-! What a lane reset leaves alone as it begins (R135, R136, R199): no lane but its own changes its state, and no operation is added. -/

namespace Sys2Proof.Machine

/-- No lane's state changes from s to t, and no operation is added. -/
structure Quiet (s t : State) : Prop where
  lane : ∀ l, (t.getLane l).st = (s.getLane l).st
  ops : ∀ o ∈ t.ops, o ∈ s.ops

namespace Quiet

variable {s t u : State}

theorem refl (s : State) : Quiet s s := ⟨fun _ => rfl, fun _ => id⟩

theorem trans (h : Quiet s t) (k : Quiet t u) : Quiet s u := ⟨fun l => (k.lane l).trans (h.lane l), fun o ho => h.ops o (k.ops o ho)⟩

/-- A step that touches neither lanes nor operations. -/
theorem same (h : Quiet s t) (hl : u.lanes = t.lanes) (ho : u.ops = t.ops) : Quiet s u :=
  h.trans ⟨fun l => congrArg (fun x => (tabGet laneReset x l).st) hl, fun _ hm => ho ▸ hm⟩

theorem ite {c : Prop} [Decidable c] {a b : State} (ha : Quiet s a) (hb : Quiet s b) : Quiet s (if c then a else b) := by
  split
  · exact ha
  · exact hb

theorem foldl {α : Type} {f : State → α → State} {l : List α} (hf : ∀ t a, Quiet s t → Quiet s (f t a)) (h : Quiet s t) : Quiet s (l.foldl f t) :=
  foldl_inv (Quiet s) f hf l t h

theorem forAll {f : State → Nat → State} {l : List Nat} (hf : ∀ t a, Quiet s t → Quiet s (f t a)) (h : Quiet s t) : Quiet s (forAll l f t) := foldl hf h

/-! ### Tables -/

variable (h : Quiet s t)
include h

theorem updCell {k : Nat} {f : Cell → Cell} : Quiet s (t.updCell k f) := h.same rfl rfl
theorem updLink {k : Nat} {f : Link → Link} : Quiet s (t.updLink k f) := h.same rfl rfl
theorem updGate {k : Nat} {f : Gate → Gate} : Quiet s (t.updGate k f) := h.same rfl rfl
theorem updRing {k : Nat} {f : Ring → Ring} : Quiet s (t.updRing k f) := h.same rfl rfl
theorem updEngine {k : Nat} {f : Engine → Engine} : Quiet s (t.updEngine k f) := h.same rfl rfl
theorem updReq {k : Nat} {f : ReqLine → ReqLine} : Quiet s (t.updReq k f) := h.same rfl rfl
theorem updPacer {k : Nat} {f : Pacer → Pacer} : Quiet s (t.updPacer k f) := h.same rfl rfl
theorem updHost {k : Nat} {f : HostFn → HostFn} : Quiet s (t.updHost k f) := h.same rfl rfl
theorem dma {f a : Nat} {bs : List Byte} : Quiet s (t.dma f a bs) := h.same rfl rfl
theorem raise {src : Nat} : Quiet s (t.raise src) := h.same (by simp) (by simp)
theorem cellEvt {c i : Nat} : Quiet s (t.cellEvt c i) := h.same (by simp) (by simp)

theorem updLane {l : Nat} {f : Lane → Lane} (hf : (f (t.getLane l)).st = (t.getLane l).st) : Quiet s (t.updLane l f) := by
  refine h.trans ⟨fun j => ?_, fun _ => id⟩
  by_cases hj : j = l
  · subst hj
    rw [State.getLane_updLane, hf]
  · rw [State.getLane_updLane_ne _ _ _ _ hj]

/-! ### Entries and handles (R152, R153, R165) -/

omit h

theorem writeEntry (q : Nat) (e : Entry) (s : State) : Quiet s (s.writeEntry q e) := by
  refine ⟨fun l => by simp [State.getLane], fun o ho => ?_⟩
  rw [(s.writeEntry_does q e).2.2] at ho
  split at ho
  · exact (List.mem_filter.mp ho).1
  · exact ho

theorem drain (q n : Nat) (s : State) : Quiet s (State.drain q n s) := by
  induction n generalizing s with
  | zero => exact .refl s
  | succ n ih =>
    unfold State.drain
    dsimp only
    split
    · exact .refl s
    · exact .ite ((((refl s).updHost).trans (.writeEntry ..)).trans (ih _)) (.refl s)

include h

theorem post {q : Nat} {e : Entry} : Quiet s (t.post q e) := h.updHost.trans (.drain ..)
theorem answer {q : Nat} {tag : W32} {status : BitVec 16} {d : Nat} : Quiet s (t.answer q tag status d) := h.post

omit h

theorem serveUnknown (q n : Nat) (s : State) : Quiet s (s.serveUnknown q n) := by
  induction n generalizing s with
  | zero => exact .refl s
  | succ n ih =>
    unfold State.serveUnknown
    dsimp only
    split
    · exact .ite ((refl s).updHost.answer.trans (ih _)) (.refl s)
    · exact .refl s
    · exact .refl s
    · exact .ite (.ite (refl s).updHost.updHost.updHost ((refl s).updHost.updHost.answer.trans (ih _))) (.refl s)

include h

theorem serveAll {q : Nat} : Quiet s (t.serveAll q) := h.trans (.serveUnknown ..)

theorem finish {g : W32} {status : BitVec 16} {d : Nat} : Quiet s (t.finish g status d) := by
  unfold State.finish
  split
  · exact h
  · exact h.post.serveAll

/-! ### Rings and channels (R196 to R200) -/

theorem writeBackAt {f a r idx status done : Nat} : Quiet s (t.writeBackAt f a r idx status done) := by
  unfold State.writeBackAt
  exact h.dma.dma.updRing

theorem settleRing {r n : Nat} : Quiet s (State.settleRing r n t) := by
  induction n generalizing t with
  | zero => exact h
  | succ n ih =>
    unfold State.settleRing
    dsimp only
    split
    · exact h
    · exact .ite h (.ite h.updRing (.ite (ih h.updRing.writeBackAt) h))

theorem settleLsOff : Quiet s t.settleLsOff :=
  forAll (fun _ _ hs => .ite (hs.same rfl rfl) hs) h

theorem dropChans {e : Nat} {p : Chan → Bool} : Quiet s (t.dropChans e p) := h.updEngine.settleLsOff

theorem endChan {status : Nat} {run : Option Nat} {ch : Chan} : Quiet s (t.endChan status run ch) :=
  .ite (h.updReq.writeBackAt) (.ite h.updReq.writeBackAt h.updReq)

theorem endChans {e status : Nat} {p : Chan → Bool} : Quiet s (t.endChans e p status) :=
  forAll (fun _ _ hs => hs.settleRing) (foldl (fun _ _ hs => hs.endChan) h.dropChans)

theorem dropPrefetch {r : Nat} : Quiet s (t.dropPrefetch r) := by
  unfold State.dropPrefetch
  exact h.updRing

theorem limitChans {e : Nat} {p : Chan → Bool} : Quiet s (t.limitChans e p) := h.updEngine

theorem limitLane {l e : Nat} : Quiet s (t.limitLane l e) := h.endChans.limitChans

theorem abandonLane {l e : Nat} : Quiet s (t.abandonLane l e) := h.endChans

/-! ### Operations that stop (R49, R136, R167) -/

theorem sendWaves {c : Nat} {ws : List Nat} : Quiet s (t.sendWaves c ws) :=
  forAll (fun _ _ hs => forAll (fun _ _ hs => .ite (hs.same rfl rfl) hs) hs) h

theorem retrim {c : Nat} {f : Cell → Cell} : Quiet s (t.retrim c f) := foldl (fun _ _ hs => hs.updLink) h.updCell

theorem restoreCell {c : Nat} : Quiet s (t.restoreCell c) := by
  dsimp only [State.restoreCell]
  split
  · exact h.updCell
  · exact .ite h.updCell.retrim h.updCell.retrim.sendWaves

theorem untest {links : List Nat} {q : Nat → Strobe → Bool} : Quiet s (t.untest links q) := forAll (fun _ _ hs => hs.updLink) h

theorem dropHits {cells : List Nat} : Quiet s (t.dropHits cells) := forAll (fun _ _ hs => hs.updLink) h

theorem abortPurge {g : W32} {c : Nat} : Quiet s (t.abortPurge g c) := by
  unfold State.abortPurge
  exact updCell (forAll (fun _ _ hs => hs.updLink) h)

theorem abortSpit {g : W32} : Quiet s (t.abortSpit g) := by
  unfold State.abortSpit
  refine finish (forAll (fun _ _ hs => hs.abortPurge) (forAll (fun t i hs => ?_) h))
  split
  · exact hs
  · exact .ite hs hs.untest.dropHits.updGate

theorem stopOp {o : Op} : Quiet s (t.stopOp o) := by
  have hback : ∀ l : List Change, Quiet s (l.foldl (fun s ch => Machine.forAll ch.cells (fun s c => s.restoreCell c) s)
      { t with changes := t.changes.filter (fun ch => decide (ch.handle ≠ o.handle)) }) := fun l =>
    foldl (fun _ _ hs => forAll (fun _ _ hs => hs.restoreCell) hs) (h.same rfl rfl)
  unfold State.stopOp
  dsimp only
  split
  · exact (hback _).abortSpit
  · exact (hback _).same rfl rfl
  · exact hback _

/-! ### The end of a lane's print (R294, R296) -/

theorem missEdge {c m : Nat} {mapped : Bool} {side : Side} : Quiet s (t.missEdge c m mapped side) := .ite h (.ite h.updCell.cellEvt h.updCell)

theorem settleEdges {c v : Nat} {mapped : Bool} : Quiet s (t.settleEdges c v mapped) := .ite h h.missEdge.missEdge

theorem ensureSegment {p l : Nat} {n : Int} : Quiet s (t.ensureSegment p l n) := .ite h.updPacer h

theorem assignLine {c p : Nat} {old : List Assign} {n : Int} : Quiet s (t.assignLine c p old n) := by
  unfold State.assignLine
  split
  · exact h.updCell
  · exact h.updCell.settleEdges

theorem reassignCell {p c : Nat} : Quiet s (t.reassignCell p c) :=
  forAll (fun _ _ hs => hs.updLink) (foldl (fun _ _ hs => hs.ensureSegment.assignLine) h.updCell)

theorem forceWindows {p : Nat} : Quiet s (t.forceWindows p) := forAll (fun _ _ hs => hs.reassignCell) h.updPacer.updPacer

theorem endSegments {p l : Nat} : Quiet s (t.endSegments p l) := .ite h (h.updLane rfl)

theorem giveUpLines {c : Nat} : Quiet s (t.giveUpLines c) :=
  foldl (fun _ _ hs => hs.updCell) (forAll (fun _ _ hs => hs.updLink) h.updCell)

theorem sendTrims {l j : Nat} {v : List Nat} : Quiet s (t.sendTrims l j v) := h.same rfl rfl

theorem stepTrims {l : Nat} {ran : Bool} : Quiet s (t.stepTrims l ran) := by
  unfold State.stepTrims
  exact updLink (foldl (fun _ _ hs => hs.sendTrims) h)

theorem retarget {l : Nat} : Quiet s (t.retarget l) := by
  unfold State.retarget
  exact h.updLink

theorem applyTargets {l : Nat} : Quiet s (t.applyTargets l) := .ite h.retarget.stepTrims h.retarget

theorem updateGov {p : Nat} : Quiet s (t.updateGov p) := .ite h h.updPacer.raise

theorem writeProduct {p l : Nat} {w : Window} : Quiet s (t.writeProduct p w l) := .ite h.dma.updHost h.updHost

/-! ### Quads that wait (R123) -/

theorem trimLane {l : Nat} : Quiet s (t.trimLane l) := by
  unfold State.trimLane
  split
  · exact h
  · exact h.updLane rfl

theorem assignQuads {l : Fin 16} {quads : List Nat} : Quiet s (t.assignQuads l quads) := by
  obtain ⟨tab, hq⟩ := t.giveQuads_quads l quads
  have hgiven : Quiet s (t.withQuads tab) := h.same rfl rfl
  unfold State.assignQuads State.trimLanes
  rw [hq]
  exact forAll (fun _ _ hs => hs.trimLane) hgiven

theorem moveQuads {m : Moving} : Quiet s (t.moveQuads m) := by
  rw [State.moveQuads_answers]
  exact h.assignQuads.answer

theorem settleAssign : Quiet s t.settleAssign := by
  have hnone : Quiet s { t with assign := none } := h.same rfl rfl
  unfold State.settleAssign
  split
  · exact h
  · exact .ite hnone.answer.serveAll (.ite h hnone.moveQuads.serveAll)

end Quiet

/-! ### The beginning of a lane reset (R135, R136) -/

section
variable {s : State} {l : Nat}

def Lane.leaves (st : LaneSt) (x : Lane) : Lane := { x with st := st, stopping := false, hold := false }

/-- The last lane of Pacer p to print ends its windows (R294). -/
def State.endPrint (p l : Nat) (last : Bool) (s : State) : State := if last then (s.endSegments p l).forceWindows p else s

theorem State.leavePrint_eq (s : State) (l : Nat) (st : LaneSt) (printed : Bool) : ∃ u v, Quiet s u ∧
    s.leavePrint l st printed = v ∧ Quiet (u.updLane l (Lane.leaves st)) v := by
  unfold State.leavePrint
  split
  · exact ⟨s, _, .refl s, rfl, .refl _⟩
  · next p _ =>
    refine ⟨s.endPrint p l (printed && (s.printLanes p).all (fun i => decide (i = l))), _, ?_, rfl, ?_⟩
    · exact .ite (Quiet.refl s).endSegments.forceWindows (.refl s)
    · exact .updateGov (.forAll (fun _ _ hs => hs.applyTargets) (.forAll (fun _ _ hs => hs.giveUpLines) (.ite (Quiet.refl _).updPacer (.refl _))))

/-- Leaving PRINT gives the lane its next state, and adds no operation. -/
theorem State.leavePrint_leaves (s : State) (l : Nat) (st : LaneSt) (printed : Bool) : ((s.leavePrint l st printed).getLane l).st = st ∧
    ∀ o ∈ (s.leavePrint l st printed).ops, o ∈ s.ops := by
  obtain ⟨u, v, hu, he, hv⟩ := s.leavePrint_eq l st printed
  rw [he]
  exact ⟨(hv.lane l).trans (congrArg Lane.st (State.getLane_updLane ..)), fun o ho => hu.ops o (hv.ops o ho)⟩

/-- A lane that has stopped is RESETTING, and no operation is added (R136, R296). -/
theorem State.laneStopped_leaves (s : State) (l : Nat) (upTo : Option Int) (printed : Bool) :
    ((s.laneStopped l upTo printed).getLane l).st = .resetting ∧ ∀ o ∈ (s.laneStopped l upTo printed).ops, o ∈ s.ops := by
  have hrun : ∃ u, Quiet s u ∧ s.laneStopped l upTo printed = u.leavePrint l .resetting printed := by
    unfold State.laneStopped
    split
    · exact ⟨s, .refl s, rfl⟩
    · refine ⟨_, ?_, rfl⟩
      exact .ite (.updPacer (.updPacer (.foldl (fun _ _ hs => hs.writeProduct) (.refl s))))
        (.raise (.updPacer (.updPacer (.updPacer (.foldl (fun _ _ hs => hs.writeProduct) (.refl s))))))
  obtain ⟨u, hu, he⟩ := hrun
  obtain ⟨hst, hops⟩ := u.leavePrint_leaves l .resetting printed
  rw [he]
  exact ⟨hst, fun o ho => hu.ops o (hops o ho)⟩

/-- A lane whose reset begins is RESETTING, and no operation of its queue is outstanding (R135, R136). -/
theorem State.startReset_begins (hr : (s.getLane l).reset = none) (issuer : Option (Nat × W32)) (flr : Bool) :
    ((s.startReset l issuer flr).getLane l).st = .resetting ∧ ∀ o ∈ (s.startReset l issuer flr).ops, o.queue ≠ l := by
  unfold State.startReset
  split
  · next r h =>
    rw [hr] at h
    cases h
  · extract_lets mine theirs s1 s2 s3 s4 s5 s6 printed cells s7 s8 busy s9 s10
    have h2 : Quiet s1 s2 := (Quiet.refl s1).updHost
    have h3 : Quiet s1 s3 := .ite (h2.same rfl rfl) h2
    have h5 : Quiet s1 s5 := .foldl (fun _ _ hs => hs.finish.stopOp) (.foldl (fun _ _ hs => hs.stopOp) h3)
    have h6 : Quiet s1 s6 := .forAll (fun _ _ hs => hs.updCell) h5
    have h8 : Quiet s1 s8 := .forAll (fun _ _ hs => hs.limitLane) (.forAll (fun _ _ hs => hs.dropPrefetch) h6)
    have h9 : (s9.getLane l).st = .resetting := congrArg Lane.st (State.getLane_updLane ..)
    have h10 : Quiet s9 s10 := .forAll (fun _ _ hs => hs.abandonLane) (.refl s9)
    have hops1 : s1.ops = s.ops.filter (fun o => decide (o.queue ≠ l)) := rfl
    have hops9 : s9.ops = s8.ops := (State.updLane_frame s8 l _).2.2.2.2.2.1
    have hops : ∀ o ∈ s10.ops, o.queue ≠ l := fun o ho => by
      have hmem := h8.ops o (hops9 ▸ h10.ops o ho)
      rw [hops1] at hmem
      simpa using (List.mem_filter.mp hmem).2
    have hst10 := (h10.lane l).trans h9
    clear_value s10 cells printed
    obtain ⟨hst, hleft⟩ := s10.laneStopped_leaves l none printed
    split
    · exact ⟨hst, fun o ho => hops o (hleft o ho)⟩
    · exact ⟨hst10, hops⟩

end

end Sys2Proof.Machine
end

section
/-! The stopping commands (R135, R136, R140, R163, R168, R380, R385, R423, R426, R492): LANE-RESET, MOTOR-STOP, SPIT-TEST with pattern 2,
SERVO-CTL and FAULT-CLEAR. -/

namespace Sys2Proof.Machine

theorem SamePlant.updLane {s t : State} (h : SamePlant s t) (l : Nat) (u : Lane → Lane) : SamePlant (s.updLane l u) (t.updLane l u) := by
  rw [samePlant_iff] at h ⊢
  simp [State.updLane, State.setLane, State.getLane, h]

section
variable {q : LaneIx} {p : Packet} {s : State}

/-! ### LANE-RESET (R135, R140, R163) -/

theorem laneReset_runs (h : Served false false true [] q p s) : laneResetCmd q p s =
    (((s.takeHead q.val).startReset p.lane.toNat (some (q.val, p.tag)) false).settleAssign).serveAll q.val :=
  command_runs h (served_check h (.inl rfl) rfl rfl rfl rfl)

theorem laneReset_begins (h : Served false false true [] q p s) (hr : (s.getLane p.lane.toNat).reset = none) :
    ((laneResetCmd q p s).getLane p.lane.toNat).st = .resetting ∧ ∀ o ∈ (laneResetCmd q p s).ops, o.queue ≠ p.lane.toNat := by
  obtain ⟨hst, hops⟩ := State.startReset_begins (s := s.takeHead q.val) hr (some (q.val, p.tag)) false
  have hquiet := (Quiet.refl ((s.takeHead q.val).startReset p.lane.toNat (some (q.val, p.tag)) false)).settleAssign.serveAll (q := q.val)
  rw [laneReset_runs h]
  exact ⟨(hquiet.lane _).trans hst, fun o ho => hops o (hquiet.ops o ho)⟩

/-- A command that joins the reset of its lane (R140). -/
def Lane.joined (r : LaneReset) (i : Nat × W32 × Bool) (x : Lane) : Lane := { x with reset := some { r with issuers := r.issuers ++ [i] } }

theorem State.settleAssign_none {s : State} (h : s.assign = none) : s.settleAssign = s := by
  unfold State.settleAssign
  rw [h]

theorem State.startReset_joins {l n : Nat} {tag : W32} {r : LaneReset} (hr : (s.getLane l).reset = some r) :
    ∃ u : HostFn → HostFn, (∀ h, (u h).Agrees h) ∧
      s.startReset l (some (n, tag)) false = (s.updLane l (Lane.joined r (n, tag, false))).updHost l u := by
  refine ⟨fun h => { h with fence := if false then none else h.fence }, fun h => by constructor <;> rfl, ?_⟩
  have hjoin : Lane.joined r (n, tag, false) = fun x => { x with reset := some { r with
      issuers := r.issuers ++ ((some (n, tag)).map (fun i => (i.1, i.2, false))).toList, flr := r.flr || false } } := by
    rw [Bool.or_false]
    rfl
  unfold State.startReset
  rw [hr, hjoin]

theorem laneReset_joins {r : LaneReset} (h : Served false false true [] q p s) (hr : (s.getLane p.lane.toNat).reset = some r) :
    SamePlant (s.updLane p.lane.toNat (Lane.joined r (q.val, p.tag, false))) (laneResetCmd q p s) ∧ (laneResetCmd q p s).hostMem = s.hostMem := by
  obtain ⟨u, hu, hjoin⟩ := State.startReset_joins (s := s.takeHead q.val) (n := q.val) (tag := p.tag) hr
  have hagree := (agrees_updHost ((s.takeHead q.val).updLane p.lane.toNat (Lane.joined r (q.val, p.tag, false))) p.lane.toNat q.val u (hu _)).trans
    (agrees_of_host (rfl : _ = (s.takeHead q.val).host) q.val)
  have hhead := getHost_takeHead s q.val
  have hassign : (((s.takeHead q.val).updLane p.lane.toNat (Lane.joined r (q.val, p.tag, false))).updHost p.lane.toNat u).assign = none :=
    (State.takes_assign h.takes : s.assign = none)
  rw [laneReset_runs h, hjoin, State.settleAssign_none hassign, State.serveAll_none]
  · exact ⟨(SamePlant.updLane (samePlant_updHost ..) ..).trans (samePlant_updHost ..), rfl⟩
  · rw [hagree.unknown, hhead]
    exact h.rows
  · rw [hagree.fence, hhead]
    exact (State.takes_host h.takes).2.2.1

/-! ### MOTOR-STOP (R423, R426) -/

/-- A running channel ramps to its end. -/
def Motor.rampsDown (m : Motor) : Motor := { m with ending := true, rampStop := true }
/-- A channel brakes to its end. -/
def Motor.brakesDown (m : Motor) : Motor := { m.brake with ending := true }

/-- An operation that is none of the three on channel n is none of some of them. -/
theorem motorOp_none {n : Nat} {o : Op} (h : motorOp true true true n o = false) (e st c : Bool) : motorOp e st c n o = false := by
  unfold motorOp at *
  split <;> simp_all

theorem State.finishAll_none {f : Op → Bool} {status : BitVec 16} {d : Nat} (h : ∀ o ∈ s.ops, f o = false) : s.finishAll f status d = s := by
  have hfilter : s.ops.filter f = [] := List.filter_eq_nil_iff.mpr fun o ho => by rw [h o ho]; simp
  unfold State.finishAll
  rw [hfilter]
  rfl

/-- What MOTOR-STOP makes of a channel that runs: it ramps or brakes to its end (R423, R426). -/
def Motor.stops (ramp : Bool) : Motor → Motor := if ramp then Motor.rampsDown else Motor.brakesDown

theorem motorStop_does (h : Served false false false [fMax p 8 1 7, fMax p 9 1 1] q p s) (hs : InState none p s)
    (ho : channelOwn q p s = true) (hn : s.noHandle q.val = none) (hops : ∀ o ∈ s.ops, motorOp true true true (pnum p 8 1) o = false)
    (hrun : (s.getMotor (pnum p 8 1)).st = .run) (hmove : (s.getMotor (pnum p 8 1)).atRest = false) :
    Begun q.val p (.motorStop (pnum p 8 1)) s (motorStop q p s) ∧
      SamePlant (s.updMotor (pnum p 8 1) (Motor.stops (decide (pnum p 9 1 = 1)))) (motorStop q p s) := by
  obtain ⟨⟨haccepted, -⟩, hplant, -⟩ := State.accept_begun (p := p) h.takes (.motorStop (pnum p 8 1))
  generalize hA : (s.takeHead q.val).accept q.val p (.motorStop (pnum p 8 1)) = a at haccepted hplant
  have hmotor : a.getMotor (pnum p 8 1) = s.getMotor (pnum p 8 1) := hplant.getMotor _
  have hnone : a.finishAll (motorOp true false false (pnum p 8 1)) stAborted 0 = a := State.finishAll_none fun o hm => by
    rw [haccepted] at hm
    rcases List.mem_append.mp hm with hm | hm
    · exact motorOp_none (hops o hm) _ _ _
    · rw [List.mem_singleton.mp hm]
      rfl
  have hbusy : s.ops.any (motorOp false true true (pnum p 8 1)) = false := List.any_eq_false.mpr fun o hm => by
    rw [motorOp_none (hops o hm)]
    simp
  have hruns : motorStop q p s = a.updMotor (pnum p 8 1) (Motor.stops (decide (pnum p 9 1 = 1))) ∧
      Begun q.val p (.motorStop (pnum p 8 1)) s (a.updMotor (pnum p 8 1) (Motor.stops (decide (pnum p 9 1 = 1)))) := by
    unfold motorStop
    dsimp only
    refine long_begins h (served_check h (.inr hs.any) rfl ho hbusy rfl) hn rfl hA ?_ (agrees_of_host rfl q.val) rfl rfl
    rw [hnone, hmotor, hrun, hmove]
    cases decide (pnum p 9 1 = 1) <;> simp [Motor.stopped, hrun, Motor.stops] <;> rfl
  rw [hruns.1]
  exact ⟨hruns.2, hplant.updMotor ..⟩

/-! ### SPIT-TEST with pattern 2 (R380) -/

/-- A test of a purge behind those a cell has. -/
def Cell.owes (t : W32 × Nat) (y : Cell) : Cell := { y with purge := y.purge ++ [t] }

/-- Each cell of the plane has its test lines behind those it has (R380). -/
def State.owePurge (g : W32) (n : Nat) (cells : List Nat) (s : State) : State := forAll cells (fun s c => s.updCell c (Cell.owes (g, n))) s

def State.withCells (t : Tab Cell) (s : State) : State := { s with cells := t }

theorem State.owePurge_cells (g : W32) (n : Nat) (cells : List Nat) (s : State) : ∃ t, s.owePurge g n cells = s.withCells t := by
  unfold State.owePurge forAll
  refine foldl_inv (fun u => ∃ t, u = s.withCells t) _ (fun u k ⟨t, h⟩ => ?_) _ s ⟨s.cells, rfl⟩
  rw [h]
  exact ⟨_, rfl⟩

theorem State.mem_purge_owePurge {g : W32} {n c : Nat} {cells : List Nat} (hc : c ∈ cells) (s : State) :
    (g, n) ∈ ((s.owePurge g n cells).getCell c).purge := by
  refine foldl_reaches (I := fun _ => True) (P := fun t : State => (g, n) ∈ (t.getCell c).purge) hc (fun _ _ => id) (fun t _ => ?_) (fun t k ht => ?_) trivial
  · rw [State.getCell_updCell]
    exact List.mem_append_right _ (List.mem_singleton.mpr rfl)
  · by_cases hk : c = k
    · subst hk
      rw [State.getCell_updCell]
      exact List.mem_append_left _ ht
    · rw [State.getCell_updCell_ne _ _ _ _ hk]
      exact ht

/-- While a cell owes test lines of the command, its purge is not over. -/
theorem State.purgeOver_owed {g : W32} {n c : Nat} {t : State} (h : (g, n) ∈ (t.getCell c).purge) : t.purgeOver g = t := by
  have hlisted : (c, t.getCell c) ∈ t.cells := (tabGet_listed cellReset c t.cells).resolve_left fun hreset => by
    rw [State.getCell, hreset] at h
    cases h
  exact if_pos (List.any_eq_true.mpr ⟨_, hlisted, List.any_eq_true.mpr ⟨_, h, decide_eq_true rfl⟩⟩)

theorem State.startPurge_owes {g : W32} {l k n : Nat} {s : State} (h : s.planeOf l k ≠ []) : s.startPurge g l k n = s.owePurge g n (s.planeOf l k) := by
  obtain ⟨c, hc⟩ := List.exists_mem_of_ne_nil _ h
  exact State.purgeOver_owed (State.mem_purge_owePurge hc s)

theorem SamePlant.planeOf {s t : State} (h : SamePlant s t) (l k : Nat) : t.planeOf l k = s.planeOf l k := by
  have hquads : t.quads = s.quads := (congrArg State.quads h :)
  have hcell : t.getCell = s.getCell := funext fun c => congrArg (tabGet cellReset · c) h.cells
  have hlane : t.laneOf = s.laneOf := funext fun c => State.laneOf_of_quads hquads c
  unfold State.planeOf State.planeCells
  rw [hcell, hlane, State.cellsOf_of_quads hquads]

theorem spitTest_purges (h : Served false false false [fMax p 8 1 15, fMax p 9 1 2, ⟨10, 2, decide (1 ≤ pnum p 10 2 ∧ pnum p 10 2 ≤ 1024)⟩] q p s)
    (hs : InState stCP p s) (hf : (s.getLane p.lane.toNat).fmax ≠ 0) (hn : s.noHandle q.val = none) (h2 : pnum p 9 1 = 2)
    (hg : ∀ g ∈ s.planeGates p.lane.toNat (pnum p 8 1), (s.getGate g).st ≠ .test ∧ (s.getGate g).spit = none ∧ g ∉ s.gatesHeld)
    (hp : s.planeOf p.lane.toNat (pnum p 8 1) ≠ []) : Begun q.val p (.spitTest (pnum p 8 1) 2 (pnum p 10 2)) s (spitTest q p s) ∧
      ∀ c ∈ s.planeOf p.lane.toNat (pnum p 8 1), (s.nextHandle q.val, pnum p 10 2) ∈ ((spitTest q p s).getCell c).purge := by
  obtain ⟨-, hplant, -⟩ := State.accept_begun (p := p) h.takes (.spitTest (pnum p 8 1) 2 (pnum p 10 2))
  generalize hA : (s.takeHead q.val).accept q.val p (.spitTest (pnum p 8 1) 2 (pnum p 10 2)) = a at hplant
  have hplane := hplant.planeOf p.lane.toNat (pnum p 8 1)
  have hstart := State.startPurge_owes (g := s.nextHandle q.val) (n := pnum p 10 2) (hplane ▸ hp)
  have hbusy : (s.planeGates p.lane.toNat (pnum p 8 1)).any (fun g =>
      decide ((s.getGate g).st = .test) || (s.getGate g).spit.isSome || s.gatesHeld.contains g) = false := List.any_eq_false.mpr fun g hm => by
    obtain ⟨ht, hspit, hheld⟩ := hg g hm
    simp [ht, hspit, hheld]
  obtain ⟨tab, htab⟩ := a.owePurge_cells (s.nextHandle q.val) (pnum p 10 2) (a.planeOf p.lane.toNat (pnum p 8 1))
  have hruns : spitTest q p s = a.owePurge (s.nextHandle q.val) (pnum p 10 2) (a.planeOf p.lane.toNat (pnum p 8 1)) ∧
      Begun q.val p (.spitTest (pnum p 8 1) 2 (pnum p 10 2)) s (a.owePurge (s.nextHandle q.val) (pnum p 10 2) (a.planeOf p.lane.toNat (pnum p 8 1))) := by
    unfold spitTest
    dsimp only
    refine long_begins h (served_check h (.inr hs) rfl rfl hbusy (decide_eq_false hf)) hn (congrArg (OpKind.spitTest _ · _) h2) hA
      ((if_pos h2).trans hstart) ?_ ?_ ?_
    · exact agrees_of_host (congrArg State.host htab :) q.val
    · exact (congrArg State.hostMem htab :)
    · exact (congrArg State.ops htab :)
  rw [hruns.1]
  exact ⟨hruns.2, fun c hc => State.mem_purge_owePurge (hplane ▸ hc) a⟩

/-! ### SERVO-CTL (R385) -/

def State.withGates (t : Tab Gate) (s : State) : State := { s with gates := t }
def State.withLinks (t : Tab Link) (s : State) : State := { s with links := t }

theorem State.skipTests_gates (f : GTest → Bool) (s : State) : ∃ t, s.skipTests f = s.withGates t := by
  unfold State.skipTests forAll
  refine foldl_inv (fun u => ∃ t, u = s.withGates t) _ (fun u k ⟨t, h⟩ => ?_) _ s ⟨s.gates, rfl⟩
  split
  · exact ⟨t, h⟩
  · rw [h]
    exact ⟨_, rfl⟩

theorem State.retargetAll_links (links : List Nat) (s : State) : ∃ t, forAll links (fun s i => s.retarget i) s = s.withLinks t := by
  unfold forAll
  refine foldl_inv (fun u => ∃ t, u = s.withLinks t) _ (fun u k ⟨t, h⟩ => ?_) _ s ⟨s.links, rfl⟩
  rw [h]
  exact ⟨_, rfl⟩

/-- A plane's target velocity and switch (R385). -/
def Lane.withServo (plane : Nat) (v : Servo) (x : Lane) : Lane := { x with servos := tabPut servoReset x.servos plane v }

/-- The effect of SERVO-CTL: the plane's switch, the tests that are skipped, the links that aim anew (R385, R389, R390). -/
def State.servoSet (l plane vt : Nat) (on : Bool) (s : State) : State :=
  let s := s.updLane l (Lane.withServo plane { vt := BitVec.ofNat 16 vt, on := on })
  let cells := s.planeOf l plane
  let s := if vt = 0 then s.skipTests (fun t => cells.contains (t.noz / 4096)) else s
  forAll (cells.flatMap linksOf) (fun s i => s.retarget i) s

theorem State.servoSet_eq (l plane vt : Nat) (on : Bool) (s : State) : ∃ gates links, s.servoSet l plane vt on =
    ((s.updLane l (Lane.withServo plane { vt := BitVec.ofNat 16 vt, on := on })).withGates gates).withLinks links := by
  unfold State.servoSet
  dsimp only
  generalize hu : s.updLane l _ = u
  have hskip : ∃ gates, (if vt = 0 then u.skipTests (fun t => (u.planeOf l plane).contains (t.noz / 4096)) else u) = u.withGates gates := by
    split
    · exact State.skipTests_gates ..
    · exact ⟨u.gates, rfl⟩
  obtain ⟨gates, hg⟩ := hskip
  obtain ⟨links, hl⟩ := (u.withGates gates).retargetAll_links ((u.planeOf l plane).flatMap linksOf)
  exact ⟨gates, links, by rw [hg, hl]⟩

theorem servoCtl_does (hs : InState stCP p s) (h : Served false false false [fMax p 8 1 15, fMax p 9 1 1,
      ⟨12, 4, if pnum p 12 4 = 0 then !decide (pnum p 9 1 = 1) else decide (1000 ≤ pnum p 12 4 ∧ pnum p 12 4 ≤ 50000)⟩] q p s) :
    SamePlant ((s.takeHead q.val).servoSet p.lane.toNat (pnum p 8 1) (pnum p 12 4) (decide (pnum p 9 1 = 1))) (servoCtl q p s) ∧
      Answered q.val p stOk 0 s.hostMem s (servoCtl q p s) := by
  obtain ⟨gates, links, he⟩ := (s.takeHead q.val).servoSet_eq p.lane.toNat (pnum p 8 1) (pnum p 12 4) (decide (pnum p 9 1 = 1))
  refine immediate_succeeds h hs rfl rfl rfl rfl rfl rfl ?_ ?_ ?_
  · exact agrees_of_host (congrArg State.host he :) q.val
  · exact (congrArg State.corePosts he :)
  · exact (congrArg State.hostMem he :)

theorem SamePlant.of_servoSet {l plane vt n : Nat} {on : Bool} {t : State} (h : SamePlant ((s.takeHead n).servoSet l plane vt on) t) :
    tabGet servoReset (t.getLane l).servos plane = { vt := BitVec.ofNat 16 vt, on := on } := by
  obtain ⟨gates, links, he⟩ := (s.takeHead n).servoSet_eq l plane vt on
  have hlane : t.getLane l = ((s.takeHead n).updLane l (Lane.withServo plane { vt := BitVec.ofNat 16 vt, on := on })).getLane l :=
    (congrArg (tabGet laneReset · l) h.lanes).trans (by rw [he]; rfl)
  rw [hlane, State.getLane_updLane]
  exact tabGet_tabPut_self ..

/-! ### FAULT-CLEAR (R492) -/

theorem faultClear_does (h : Served true false false [] q p s) (hs : InState none p s) :
    SamePlant s.clearFaults (faultClear q p s) ∧ Answered q.val p stOk 0 s.hostMem s (faultClear q p s) :=
  immediate_succeeds h hs rfl rfl rfl rfl rfl rfl (agrees_of_host rfl q.val) rfl rfl

end

/-- Settles O11: the beginning of a reset adds no operation, and each of the others has its effect on the state that the taken packet or its
ACCEPTED leaves. -/
theorem stoppingCommandsTakeEffect : Obligations.StoppingCommandsTakeEffect := by
  unfold Obligations.StoppingCommandsTakeEffect
  intro q p s
  dsimp only
  refine ⟨fun h hr => ⟨_, rfl, laneReset_begins h hr⟩, fun r h hr => ⟨_, rfl, laneReset_joins h hr⟩, fun h hs ho hn hops hrun hmove => ?_,
    fun h hs hf hn h2 hg hp => ⟨_, rfl, spitTest_purges h hs hf hn h2 hg hp⟩, fun h hs => ?_, fun h hs => ?_⟩
  · obtain ⟨hbegun, hplant⟩ := motorStop_does h hs ho hn hops hrun hmove
    refine ⟨_, rfl, hbegun, ?_⟩
    split
    · next hramp =>
      rw [hramp] at hplant
      exact hplant
    · next hbrake =>
      rw [decide_eq_false hbrake] at hplant
      exact hplant
  · obtain ⟨hplant, hans⟩ := servoCtl_does hs h
    exact ⟨_, rfl, hans, hplant.of_servoSet⟩
  · obtain ⟨hplant, hans⟩ := faultClear_does h hs
    exact ⟨_, rfl, hans, hplant⟩

end Sys2Proof.Machine
end

section
/-! Every step takes one command off the queue, and outstanding handles keep naming their queue (R164 to R166). What an operation does to the
handles, the queue, the fuses and the power flag is said once, for every property of states that rests on these alone: `hs.raise` says that
`State.raise` keeps such a property. -/

namespace Sys2Proof.Machine

/-- A property that rests on no more than the outstanding handles, the queue of commands, the fuses and the power flag, and that stays while
handles end (R165), a queue gives a handle that names it (R164, R166), or the pulses of a fuse start again (R173). -/
structure Steady (P : State → Prop) : Prop where
  rest : ∀ {s t : State}, P s → t.ops.Sublist s.ops → t.pending = s.pending → t.fuse = s.fuse → t.glb.powered = s.glb.powered → P t
  begun : ∀ {s : State} {o : Op}, P s → o.queue < 16 → o.handle.extractLsb' 28 4 = BitVec.ofNat 4 o.queue → P { s with ops := s.ops ++ [o] }
  again : ∀ {s : State}, P s → P { s with fuse := { s.fuse with prog := s.fuse.prog.map (fun p => { p with pulses := 0 }) } }

/-- s has the steady property P. -/
structure Keeps (P : State → Prop) (s : State) : Prop where
  steady : Steady P
  holds : P s

section
variable {P : State → Prop} {s : State}

/-! ### The ways in which an operation is built -/

/-- Handles may end and every field but the queue, the fuses and the power flag may change. -/
theorem Keeps.fewer {t : State} (hs : Keeps P s) (ho : t.ops.Sublist s.ops) (hp : t.pending = s.pending) (hf : t.fuse = s.fuse)
    (hg : t.glb.powered = s.glb.powered) : Keeps P t := ⟨hs.steady, hs.steady.rest hs.holds ho hp hf hg⟩

/-- Every field but the handles, the queue, the fuses and the global registers may change. -/
theorem Keeps.rest {time quads host evt lanes assign changes rings engines reqs banks store cells tests links encs trigs pacers gates motors chn
    hk flt thn meter hostMem free out} (hs : Keeps P s) :
    Keeps P { s with
      time := time, quads := quads, host := host, evt := evt, lanes := lanes, assign := assign, changes := changes, rings := rings
      engines := engines, reqs := reqs, banks := banks, store := store, cells := cells, tests := tests, links := links, encs := encs, trigs := trigs
      pacers := pacers, gates := gates, motors := motors, chn := chn, hk := hk, flt := flt, thn := thn, meter := meter, hostMem := hostMem
      free := free, out := out } :=
  hs.fewer (.refl _) rfl rfl rfl

/-- The global registers may change too, but for the power flag. -/
theorem Keeps.withGlb {time glb quads host evt lanes assign changes rings engines reqs banks store cells tests links encs trigs pacers gates motors
    chn hk flt thn meter hostMem free out} (hs : Keeps P s) (hg : glb.powered = s.glb.powered) :
    Keeps P { s with
      time := time, glb := glb, quads := quads, host := host, evt := evt, lanes := lanes, assign := assign, changes := changes, rings := rings
      engines := engines, reqs := reqs, banks := banks, store := store, cells := cells, tests := tests, links := links, encs := encs, trigs := trigs
      pacers := pacers, gates := gates, motors := motors, chn := chn, hk := hk, flt := flt, thn := thn, meter := meter, hostMem := hostMem
      free := free, out := out } :=
  hs.fewer (.refl _) rfl rfl hg

theorem Keeps.ite {c : Prop} [Decidable c] {a b : State} (ha : Keeps P a) (hb : Keeps P b) : Keeps P (if c then a else b) := by
  split; exacts [ha, hb]

theorem Keeps.foldl {α : Type} {l : List α} {u : State → α → State} (hu : ∀ s a, Keeps P s → Keeps P (u s a)) (hs : Keeps P s) :
    Keeps P (l.foldl u s) := foldl_inv (Keeps P) u hu l s hs

theorem Keeps.forAll {l : List Nat} {u : State → Nat → State} (hu : ∀ s a, Keeps P s → Keeps P (u s a)) (hs : Keeps P s) :
    Keeps P (forAll l u s) := hs.foldl hu

/-! ### Machine/Ops.lean -/

theorem Keeps.updQuad {k u} (hs : Keeps P s) : Keeps P (State.updQuad s k u) := hs.rest
theorem Keeps.updHost {k u} (hs : Keeps P s) : Keeps P (State.updHost s k u) := hs.rest
theorem Keeps.updLane {k u} (hs : Keeps P s) : Keeps P (State.updLane s k u) := hs.rest
theorem Keeps.updRing {k u} (hs : Keeps P s) : Keeps P (State.updRing s k u) := hs.rest
theorem Keeps.updEngine {k u} (hs : Keeps P s) : Keeps P (State.updEngine s k u) := hs.rest
theorem Keeps.updReq {k u} (hs : Keeps P s) : Keeps P (State.updReq s k u) := hs.rest
theorem Keeps.updBank {k u} (hs : Keeps P s) : Keeps P (State.updBank s k u) := hs.rest
theorem Keeps.updCell {k u} (hs : Keeps P s) : Keeps P (State.updCell s k u) := hs.rest
theorem Keeps.updTest {k u} (hs : Keeps P s) : Keeps P (State.updTest s k u) := hs.rest
theorem Keeps.updLink {k u} (hs : Keeps P s) : Keeps P (State.updLink s k u) := hs.rest
theorem Keeps.updEnc {k u} (hs : Keeps P s) : Keeps P (State.updEnc s k u) := hs.rest
theorem Keeps.updTrig {k u} (hs : Keeps P s) : Keeps P (State.updTrig s k u) := hs.rest
theorem Keeps.updPacer {k u} (hs : Keeps P s) : Keeps P (State.updPacer s k u) := hs.rest
theorem Keeps.updGate {k u} (hs : Keeps P s) : Keeps P (State.updGate s k u) := hs.rest
theorem Keeps.updMotor {k u} (hs : Keeps P s) : Keeps P (State.updMotor s k u) := hs.rest
theorem Keeps.updPort {x u} (hs : Keeps P s) : Keeps P (State.updPort s x u) := hs.rest
theorem Keeps.updPin {n u} (hs : Keeps P s) : Keeps P (State.updPin s n u) := hs.rest
theorem Keeps.updDie {n u} (hs : Keeps P s) : Keeps P (State.updDie s n u) := hs.rest
theorem Keeps.updTreq {p u} (hs : Keeps P s) : Keeps P (State.updTreq s p u) := hs.rest
theorem Keeps.updSrc {i u} (hs : Keeps P s) : Keeps P (State.updSrc s i u) := hs.rest
theorem Keeps.updMeter {l u} (hs : Keeps P s) : Keeps P (State.updMeter s l u) := hs.rest
theorem Keeps.at_ {t} (hs : Keeps P s) : Keeps P (State.at_ s t) := .ite hs.rest hs
theorem Keeps.whenOn {d u} (hu : ∀ a0, Keeps P a0 → Keeps P (u a0)) (hs : Keeps P s) : Keeps P (whenOn d u s) := .ite (hu _ hs) hs
theorem Keeps.setDomain {d up} (hs : Keeps P s) : Keeps P (State.setDomain s d up) := hs.withGlb rfl
theorem Keeps.fresh (hs : Keeps P s) : Keeps P (s.fresh).2 := hs.rest
theorem Keeps.send {o} (hs : Keeps P s) : Keeps P (State.send s o) := hs.rest
theorem Keeps.dma {f a bs} (hs : Keeps P s) : Keeps P (State.dma s f a bs) := hs.rest

/-! ### Machine/Flags.lean -/

theorem Keeps.signal {f v} (hs : Keeps P s) : Keeps P (State.signal f v s) := .ite hs.send hs.updHost
theorem Keeps.settleVec {f v} (hs : Keeps P s) : Keeps P (State.settleVec f s v) := .ite (.ite (.ite hs.updHost.send hs) hs.updHost) hs
theorem Keeps.settleFn {f} (hs : Keeps P s) : Keeps P (State.settleFn s f) := .ite hs (.foldl (fun _ _ hs => hs.settleVec) hs)
theorem Keeps.settle (hs : Keeps P s) : Keeps P (s.settle) := .foldl (fun _ _ hs => hs.settleFn) hs
theorem Keeps.raise {src} (hs : Keeps P s) : Keeps P (State.raise src s) := .ite (.ite hs.rest.signal hs.rest) hs
theorem Keeps.raiseIf {b src} (hs : Keeps P s) : Keeps P (State.raiseIf b src s) := .ite hs.raise hs
theorem Keeps.aer {f e} (hs : Keeps P s) : Keeps P (State.aer f e s) := hs.updHost
theorem Keeps.stray {f} (hs : Keeps P s) : Keeps P (State.stray f s) := hs.updHost
theorem Keeps.setCause {b on} (hs : Keeps P s) : Keeps P (State.setCause b on s) := hs.rest.raiseIf
theorem Keeps.writeRec {r first} (hs : Keeps P s) : Keeps P (State.writeRec r first s) := .ite hs (.ite hs.rest.raise hs.rest)
theorem Keeps.faultInj {inj src cls inst detail stands} (hs : Keeps P s) : Keeps P (State.faultInj inj src cls inst detail stands s) :=
  .ite (.writeRec (.ite hs.updSrc.raise.aer hs.updSrc.raise)) (.ite hs.updSrc.raise.aer hs.updSrc.raise)
theorem Keeps.fault {src cls inst detail stands} (hs : Keeps P s) : Keeps P (State.fault src cls inst detail stands s) := hs.faultInj
theorem Keeps.injDone (hs : Keeps P s) : Keeps P (s.injDone) := hs.rest
theorem Keeps.faultBy {b src cls inst detail stands} (hs : Keeps P s) : Keeps P (State.faultBy b src cls inst detail stands s) :=
  .ite hs.faultInj.injDone hs.faultInj
theorem Keeps.endCond {src inst} (hs : Keeps P s) : Keeps P (State.endCond src inst s) := .ite hs.updSrc hs
theorem Keeps.recover {src} (hs : Keeps P s) : Keeps P (State.recover src s) :=
  .writeRec (.ite hs.updSrc.raise.raiseIf.setCause hs.updSrc.raise.raiseIf)
theorem Keeps.cellEvt {c i} (hs : Keeps P s) : Keeps P (State.cellEvt c i s) := hs.updCell.raiseIf
theorem Keeps.linkEvt {c i} (hs : Keeps P s) : Keeps P (State.linkEvt c i s) := .ite hs.updCell hs.updCell.cellEvt
theorem Keeps.hlEvt {l i} (hs : Keeps P s) : Keeps P (State.hlEvt l i s) := hs.linkEvt
theorem Keeps.gateEvt {g i} (hs : Keeps P s) : Keeps P (State.gateEvt g i s) := .ite hs.updGate hs.updGate.raise.cellEvt
theorem Keeps.pacerEvt {p i} (hs : Keeps P s) : Keeps P (State.pacerEvt p i s) := hs.updPacer.raiseIf
theorem Keeps.motorEvt {n i} (hs : Keeps P s) : Keeps P (State.motorEvt n i s) := hs.updMotor.raise
theorem Keeps.skipTests {p} (hs : Keeps P s) : Keeps P (State.skipTests p s) := .forAll (fun _ _ hs => .ite hs hs.updGate) hs

/-! ### Machine/Operands.lean -/

theorem Keeps.endHandle {h} (hs : Keeps P s) : Keeps P (State.endHandle h s) := hs.fewer List.filter_sublist rfl rfl rfl
theorem Keeps.writeEntry {q e} (hs : Keeps P s) : Keeps P (State.writeEntry q e s) := .raise (.ite hs.dma.updHost.endHandle hs.dma.updHost)
theorem Keeps.drain {q n} (hs : Keeps P s) : Keeps P (State.drain q n s) := by
  induction n generalizing s with
  | zero => exact hs
  | succ n ih =>
    unfold State.drain
    dsimp only
    split
    · exact hs
    · exact .ite (ih hs.updHost.writeEntry) hs
theorem Keeps.post {q e} (hs : Keeps P s) : Keeps P (State.post q e s) := hs.updHost.drain
theorem Keeps.answer {q tag status detail} (hs : Keeps P s) : Keeps P (State.answer q tag status detail s) := hs.post
/-- The one place at which an operation is added: its handle carries the number of the queue that gives it (R164). -/
theorem Keeps.withNew {q : LaneIx} {next : BitVec 28} {o : Op} (hs : Keeps P s) (hq : o.queue = q.val)
    (hh : o.handle = BitVec.ofNat 4 q.val ++ next) :
    Keeps P { s with ops := s.ops ++ [o] } :=
  ⟨hs.steady, hs.steady.begun hs.holds (hq ▸ q.isLt) (by rw [hh, hq]; exact BitVec.extractLsb'_append_eq_left)⟩
theorem Keeps.accept {q : LaneIx} {p kind} (hs : Keeps P s) : Keeps P (State.accept q.val p kind s) := .post (hs.updHost.withNew rfl rfl)
theorem Keeps.takeHead {q} (hs : Keeps P s) : Keeps P (State.takeHead q s) := hs.updHost
theorem Keeps.badOpcode {q tag} (hs : Keeps P s) : Keeps P (State.badOpcode q tag s) := hs.answer
theorem Keeps.serveUnknown {q n} (hs : Keeps P s) : Keeps P (State.serveUnknown q n s) := by
  induction n generalizing s with
  | zero => exact hs
  | succ n ih =>
    unfold State.serveUnknown
    dsimp only
    split
    · exact .ite (ih hs.updHost.badOpcode) hs
    · exact hs
    · exact hs
    · exact .ite (.ite hs.takeHead.updHost.updHost (ih hs.takeHead.updHost.badOpcode)) hs
theorem Keeps.serveAll {q} (hs : Keeps P s) : Keeps P (State.serveAll q s) := hs.serveUnknown
theorem Keeps.queuesGoOn (hs : Keeps P s) : Keeps P (s.queuesGoOn) := .forAll (fun _ _ hs => hs.drain.serveAll) hs
theorem Keeps.finish {h status detail} (hs : Keeps P s) : Keeps P (State.finish h status detail s) := by
  unfold State.finish
  split; exacts [hs, hs.post.serveAll]
theorem Keeps.finishAll {p status detail} (hs : Keeps P s) : Keeps P (State.finishAll p status detail s) :=
  .foldl (fun _ _ hs => hs.finish) hs
theorem Keeps.cmdInterpret {c q p body} (hbody : ∀ a0, Keeps P a0 → Keeps P (body a0)) (hs : Keeps P s) : Keeps P (Cmd.interpret c q p
  body s) := by
  unfold Machine.Cmd.interpret
  split; exacts [hs.answer, hbody _ hs]
theorem Keeps.cmdRun {c q p body} (hbody : ∀ a0, Keeps P a0 → Keeps P (body a0)) (hs : Keeps P s) : Keeps P (Cmd.run c q p body s) :=
  .ite (.cmdInterpret (fun _ hs => hbody _ hs) hs.updHost) (.ite (.ite hs.takeHead.updHost (.cmdInterpret (fun _ hs => hbody _ hs) hs.takeHead)) hs)
theorem Keeps.command {c q p body} (hbody : ∀ a0, Keeps P a0 → Keeps P (body a0)) (hs : Keeps P s) : Keeps P (command c q p body s) :=
  .serveAll (.cmdRun (fun _ hs => hbody _ hs) hs.serveAll)
theorem Keeps.immediate {c q p body} (hbody : ∀ a0, Keeps P a0 → Keeps P (body a0).1) (hs : Keeps P s) : Keeps P (immediate c q p body s) :=
  .command (fun _ hs => .answer (hbody _ hs)) hs
theorem Keeps.long {c q p kind start} (hstart : ∀ a0 a1, Keeps P a1 → Keeps P (start a0 a1)) (hs : Keeps P s) :
    Keeps P (long c q p kind start s) :=
  .command (fun _ hs => by split; exacts [hs.answer, hstart _ _ hs.accept]) hs
theorem Keeps.freeBuf {q addr n} (hs : Keeps P s) : Keeps P (State.freeBuf q addr n s) := hs.rest.dma

/-! ### Machine/Areas.lean -/

theorem Keeps.bankPut {b off bs} (hs : Keeps P s) : Keeps P (State.bankPut b off bs s) := by
  dsimp only [State.bankPut]
  exact .updBank (.ite hs.rest hs.rest)
theorem Keeps.cellPut {c off bs} (hs : Keeps P s) : Keeps P (State.cellPut c off bs s) := .ite hs.bankPut.bankPut hs.bankPut

/-! ### Machine/Feed.lean -/

theorem Keeps.writeBackAt {f a r idx status done} (hs : Keeps P s) : Keeps P (State.writeBackAt f a r idx status done s) := by
  unfold State.writeBackAt
  exact hs.dma.dma.updRing
theorem Keeps.writeBack {r idx status done} (hs : Keeps P s) : Keeps P (State.writeBack r idx status done s) := hs.writeBackAt
theorem Keeps.settleRing {r n} (hs : Keeps P s) : Keeps P (State.settleRing r n s) := by
  induction n generalizing s with
  | zero => exact hs
  | succ n ih =>
    unfold State.settleRing
    dsimp only
    split
    · exact hs
    · exact .ite hs (.ite hs.updRing (.ite (ih hs.updRing.writeBack) hs))
theorem Keeps.untake {ch} (hs : Keeps P s) : Keeps P (State.untake ch s) := hs.updReq
theorem Keeps.settleLsOff (hs : Keeps P s) : Keeps P (s.settleLsOff) := .forAll (fun _ _ hs => .ite (hs.setDomain.withGlb rfl) hs) hs
theorem Keeps.dropChans {e p} (hs : Keeps P s) : Keeps P (State.dropChans e p s) := hs.updEngine.settleLsOff
theorem Keeps.endChan {status running ch} (hs : Keeps P s) : Keeps P (State.endChan status running ch s) :=
  .ite hs.untake.writeBackAt (.ite hs.untake.writeBackAt hs.untake)
theorem Keeps.endChans {e p status} (hs : Keeps P s) : Keeps P (State.endChans e p status s) :=
  .forAll (fun _ _ hs => hs.settleRing) (.foldl (fun _ _ hs => hs.endChan) hs.dropChans)
theorem Keeps.dropPrefetch {r} (hs : Keeps P s) : Keeps P (State.dropPrefetch r s) := by
  unfold State.dropPrefetch
  exact hs.updRing
theorem Keeps.finishDisable {r} (hs : Keeps P s) : Keeps P (State.finishDisable r s) := by
  unfold State.finishDisable
  exact hs.endChans.updRing
theorem Keeps.limitChans {e p} (hs : Keeps P s) : Keeps P (State.limitChans e p s) := hs.updEngine
theorem Keeps.disableRing {r} (hs : Keeps P s) : Keeps P (State.disableRing r s) :=
  .ite hs.updRing (.ite hs.updRing.dropPrefetch.endChans.limitChans.updRing hs.updRing.dropPrefetch.endChans.limitChans.finishDisable)
theorem Keeps.enableRing {r} (hs : Keeps P s) : Keeps P (State.enableRing r s) := .ite hs.updRing (.ite hs.updRing hs.updRing)
theorem Keeps.feedDoorbell {f r v} (hs : Keeps P s) : Keeps P (feedDoorbell f r v s) :=
  .ite hs.stray (.ite hs (.ite (.ite hs.updRing hs.updRing) hs))
theorem Keeps.issueReads {e n} (hs : Keeps P s) : Keeps P (State.issueReads e n s) := by
  induction n generalizing s with
  | zero => exact hs
  | succ n ih =>
    unfold State.issueReads
    dsimp only
    refine .ite hs ?_
    split
    · exact hs
    · exact ih hs.updEngine.send
theorem Keeps.descriptorArrival {r raw} (hs : Keeps P s) : Keeps P (descriptorArrival r raw s) :=
  .whenOn (fun _ hs => .ite hs.updRing.issueReads (.ite hs.updRing.settleRing.issueReads hs)) hs
theorem Keeps.channelStart {e} (hs : Keeps P s) : Keeps P (channelStart e s) :=
  .whenOn (fun _ hs => .ite hs (by split; exacts [hs, by split; exacts [hs, hs.updReq.updRing.updEngine.issueReads]])) hs
theorem Keeps.putBlocks {c l n w bs} (hs : Keeps P s) : Keeps P (State.putBlocks c l n w bs s) := by
  induction n generalizing s w bs with
  | zero => exact hs
  | succ n ih => exact ih hs.cellPut
theorem Keeps.pump {e i n} (hs : Keeps P s) : Keeps P (State.pump e i n s) := by
  induction n generalizing s with
  | zero => exact hs
  | succ n ih =>
    unfold State.pump
    split
    · exact hs
    · exact .ite hs (ih hs.putBlocks.updEngine)
theorem Keeps.takeData {e n bs} (hs : Keeps P s) : Keeps P (State.takeData e n bs s) := by
  induction n generalizing s bs with
  | zero => exact hs
  | succ n ih =>
    unfold State.takeData
    split
    · exact hs
    · exact hs
    · exact ih (.ite hs.updEngine hs.updEngine.updEngine.pump)
theorem Keeps.readCompletion {e data} (hs : Keeps P s) : Keeps P (readCompletion e data s) := .whenOn (fun _ hs => hs.takeData.issueReads) hs
theorem Keeps.abandonLane {l e} (hs : Keeps P s) : Keeps P (State.abandonLane l e s) := hs.endChans
theorem Keeps.limitLane {l e} (hs : Keeps P s) : Keeps P (State.limitLane l e s) := hs.endChans.limitChans
theorem Keeps.resetEngine {e} (hs : Keeps P s) : Keeps P (State.resetEngine e s) :=
  .forAll (fun _ _ hs => by split; exacts [hs, .ite hs.abandonLane.updLane hs]) hs
theorem Keeps.feedCredit {b n} (hs : Keeps P s) : Keeps P (State.feedCredit b n s) := .ite hs.fresh.updBank hs.updBank
theorem Keeps.burstAck {e} (hs : Keeps P s) : Keeps P (burstAck e s) :=
  .whenOn (fun _ hs => by split; exacts [hs,
                            .ite hs.updEngine.updReq.feedCredit.resetEngine.finishDisable hs.updEngine.updReq.feedCredit.resetEngine]) hs
theorem Keeps.channelComplete {e} (hs : Keeps P s) : Keeps P (channelComplete e s) :=
  .whenOn (fun _ hs => by split; exacts [hs, .ite hs.updEngine.settleLsOff.writeBackAt.settleRing hs]) hs
theorem Keeps.stopRings {e bad} (hs : Keeps P s) : Keeps P (State.stopRings e bad s) := by
  unfold State.stopRings
  extract_lets _ _ _ _ t u v w
  have hv : Keeps P v := .endChans (.updEngine (.forAll (fun _ _ hs => hs.dropPrefetch) hs))
  clear_value v
  exact hv.rest.resetEngine
theorem Keeps.busErrorStop {e cause r addr} (hs : Keeps P s) : Keeps P (busErrorStop e cause r addr s) :=
  .whenOn (fun _ hs => .ite hs (.ite hs.updEngine (.ite hs (.ite hs.updRing (.raise (.ite hs.updEngine.aer.stopRings.updRing
    hs.updEngine.aer.stopRings)))))) hs
theorem Keeps.restartEngine {e} (hs : Keeps P s) : Keeps P (State.restartEngine e s) := by
  dsimp only [State.restartEngine]
  exact hs.updEngine.rest.raise
theorem Keeps.finishBursts (hs : Keeps P s) : Keeps P (s.finishBursts) :=
  .forAll (fun _ _ hs => .updEngine (.foldl (fun _ _ hs => .ite hs.updReq.updEngine hs.updReq.updEngine.feedCredit) hs)) hs
theorem Keeps.feedStop (hs : Keeps P s) : Keeps P (s.feedStop) := .forAll (fun _ _ hs => hs.stopRings.raise) hs.finishBursts
theorem Keeps.feedClear (hs : Keeps P s) : Keeps P (s.feedClear) := by
  unfold State.feedClear
  extract_lets t u v
  have hv : Keeps P v := hs.finishBursts.rest.rest
  clear_value v
  exact .forAll (fun _ _ hs => hs.resetEngine) hv.settleLsOff

/-! ### Machine/LineStore.lean -/

theorem Keeps.refillCredits {b} (hs : Keeps P s) : Keeps P (State.refillCredits b s) := hs.updBank
theorem Keeps.copyWindow {b} (hs : Keeps P s) : Keeps P (State.copyWindow b s) := .ite (.ite hs.updCell (.ite hs.fresh.updBank.updCell hs)) hs
theorem Keeps.blockUe {b i} (hs : Keeps P s) : Keeps P (State.blockUe b i s) := hs.updBank.faultBy
theorem Keeps.blockCe {b i} (hs : Keeps P s) : Keeps P (State.blockCe b i s) := hs.updBank.faultBy
theorem Keeps.blocksRead {b blocks ecc} (hs : Keeps P s) : Keeps P (State.blocksRead b blocks ecc s) :=
  .foldl (fun _ _ hs => hs.blockCe) (.foldl (fun _ _ hs => hs.blockUe) hs)
theorem Keeps.scrubRead {b ecc} (hs : Keeps P s) : Keeps P (scrubRead b ecc s) :=
  .whenOn (fun _ hs => by dsimp only; split; exacts [hs.updBank, hs.updBank.updBank.blockCe, hs.updBank.blockUe]) hs
theorem Keeps.softRepair {b row i} (hs : Keeps P s) : Keeps P (State.softRepair b row i s) := hs.updBank.fault
theorem Keeps.setDbgWin {i v} (hs : Keeps P s) : Keeps P (State.setDbgWin s i v) := hs.withGlb (by split_ifs <;> rfl)
theorem Keeps.dbgReadNow {i off len ecc} (hs : Keeps P s) : Keeps P (State.dbgReadNow i off len ecc s) :=
  .ite hs.updHost (.updHost (.ite hs.updBank.blocksRead hs.updBank.blocksRead.aer))
theorem Keeps.dbgWriteNow {i off data ecc} (hs : Keeps P s) : Keeps P (State.dbgWriteNow i off data ecc s) :=
  .ite hs (.ite hs.updBank.blocksRead.cellPut hs.updBank.blocksRead.bankPut)
theorem Keeps.bankUp {b} (hs : Keeps P s) : Keeps P (State.bankUp s b) := by
  unfold State.bankUp
  exact hs.updBank
theorem Keeps.bankLogicReset {b} (hs : Keeps P s) : Keeps P (State.bankLogicReset s b) := hs.updBank
theorem Keeps.lsUp {q} (hs : Keeps P s) : Keeps P (State.lsUp q s) :=
  .setDomain (.foldl (fun _ _ hs => hs.bankUp) hs.rest)

/-! ### Machine/Pipe.lean -/

theorem Keeps.sendEdge {c m toSide err levels} (hs : Keeps P s) : Keeps P (State.sendEdge c m toSide err levels s) := by
  unfold State.sendEdge
  split; exacts [hs, hs.updCell]
theorem Keeps.exchangeArrival {c side m} (hs : Keeps P s) : Keeps P (exchangeArrival c side m s) := .ite hs (.ite hs.updCell hs.updCell)
theorem Keeps.missEdge {c m mapped side} (hs : Keeps P s) : Keeps P (State.missEdge c m mapped side s) :=
  .ite hs (.ite hs.updCell.cellEvt hs.updCell)
theorem Keeps.intakeHalf {c ecc} (hs : Keeps P s) : Keeps P (State.intakeHalf c ecc s) := by
  unfold State.intakeHalf
  split; exacts [hs, .ite hs.updCell.updBank.blocksRead hs]
theorem Keeps.creditWindow {b ecc} (hs : Keeps P s) : Keeps P (creditWindow b ecc s) :=
  .whenOn (fun _ hs => .ite hs.refillCredits.copyWindow.intakeHalf hs.refillCredits.copyWindow) hs
theorem Keeps.screenContone {c m row bad missing down} (hs : Keeps P s) : Keeps P (State.screenContone c m row bad missing down s).2 :=
  .cellPut (.ite hs hs.fresh)
theorem Keeps.intakeNow {c m ecc} (hs : Keeps P s) : Keeps P (State.intakeNow c m ecc s) := .ite hs.intakeHalf.intakeHalf hs
theorem Keeps.dataLineStart {c ecc} (hs : Keeps P s) : Keeps P (dataLineStart c ecc s) := by
  have hr : ∀ {t : State} {p : Prop} [Decidable p] {m row bad missing down levels}, Keeps P t →
      Keeps P (if p then t.screenContone c m row bad missing down else (levels, t)).2 := fun ht => by
    split; exacts [ht.screenContone, ht]
  exact .ite (.sendEdge (.sendEdge (.updCell (hr hs.intakeNow.updBank.blocksRead)))) hs
theorem Keeps.dataLineProcessed {c} (hs : Keeps P s) : Keeps P (dataLineProcessed c s) := by
  unfold Machine.dataLineProcessed
  split
  · exact hs
  · exact .ite hs.updCell hs

/-! ### Machine/Govern.lean -/

theorem Keeps.updateGov {p} (hs : Keeps P s) : Keeps P (State.updateGov p s) := .ite hs hs.updPacer.raise
theorem Keeps.govCommit {l b} (hs : Keeps P s) : Keeps P (State.govCommit l b s) := by
  unfold State.govCommit
  extract_lets k es mine all pairs wl shared excess line calm persist run full kmax f s1 s2 s3
  have h2 : Keeps P s2 := .ite hs.updLink hs.updLink.hlEvt
  have h3 : Keeps P s3 := .ite h2.hlEvt h2
  exact .ite (by split; exacts [h3, h3.updateGov]) h3
theorem Keeps.governorRelease {l} (hs : Keeps P s) : Keeps P (governorRelease l s) :=
  .ite hs (.ite (by dsimp only; split; exacts [hs.at_.updLink.hlEvt, hs.at_.updLink.hlEvt.updateGov]) hs)

/-! ### Machine/Windows.lean -/

theorem Keeps.updWindows {p q u} (hs : Keeps P s) : Keeps P (State.updWindows p q u s) := hs.updPacer
theorem Keeps.updWindow {p id u} (hs : Keeps P s) : Keeps P (State.updWindow p id u s) := hs.updWindows
theorem Keeps.flagOpen {p b} (hs : Keeps P s) : Keeps P (State.flagOpen p b s) := hs.updWindows
theorem Keeps.flagLane {lane b} (hs : Keeps P s) : Keeps P (State.flagLane lane b s) := by
  unfold State.flagLane
  split; exacts [hs, hs.updWindows]
theorem Keeps.markLine {p lane n v} (hs : Keeps P s) : Keeps P (State.markLine p lane n v s) := by
  dsimp only [State.markLine]
  split; exacts [hs, .ite hs.updWindow hs]
theorem Keeps.countEmpty {p} (hs : Keeps P s) : Keeps P (State.countEmpty p s) := hs.updPacer
theorem Keeps.openSegment {p n} (hs : Keeps P s) : Keeps P (State.openSegment p n s) := hs.updPacer
theorem Keeps.ensureSegment {p lane n} (hs : Keeps P s) : Keeps P (State.ensureSegment p lane n s) := .ite hs.openSegment hs
theorem Keeps.settleEdges {c v mapped} (hs : Keeps P s) : Keeps P (State.settleEdges c v mapped s) := .ite hs hs.missEdge.missEdge
theorem Keeps.assignLine {c p old n} (hs : Keeps P s) : Keeps P (State.assignLine c p old n s) := by
  unfold State.assignLine
  split; exacts [hs.updCell, hs.updCell.settleEdges]
theorem Keeps.reassignCell {p c} (hs : Keeps P s) : Keeps P (State.reassignCell p c s) :=
  .forAll (fun _ _ hs => hs.updLink) (.foldl (fun _ _ hs => hs.ensureSegment.assignLine) hs.updCell)
theorem Keeps.reassign {p} (hs : Keeps P s) : Keeps P (State.reassign p s) := .forAll (fun _ _ hs => hs.reassignCell) hs
theorem Keeps.discardWindows {p q} (hs : Keeps P s) : Keeps P (State.discardWindows p q s) := hs.updPacer
theorem Keeps.dropEmpty {p} (hs : Keeps P s) : Keeps P (State.dropEmpty p s) := .forAll (fun _ _ hs => hs.discardWindows.countEmpty) hs
theorem Keeps.putClose {p id pc u} (hs : Keeps P s) : Keeps P (State.putClose p id pc u s) := hs.updWindow
theorem Keeps.closeAt {p id pc u} (hs : Keeps P s) : Keeps P (State.closeAt p id pc u s) := hs.putClose.dropEmpty.reassign
theorem Keeps.startWindow {p id pt} (hs : Keeps P s) : Keeps P (State.startWindow p id pt s) := by
  unfold State.startWindow
  split; exacts [hs, .reassign (.dropEmpty (.ite hs.updWindow hs.updWindow.putClose))]
theorem Keeps.forceWindows {p} (hs : Keeps P s) : Keeps P (State.forceWindows p s) := hs.discardWindows.updWindows.reassign
theorem Keeps.openWindow {p n w} (hs : Keeps P s) : Keeps P (State.openWindow p n w s) :=
  .updWindow (.forAll (fun _ _ hs => hs.updWindow.updPacer) hs)
theorem Keeps.windowsAt {p n} (hs : Keeps P s) : Keeps P (State.windowsAt p n s) := .discardWindows (.foldl (fun _ _ hs => hs.openWindow) hs)
theorem Keeps.writeProduct {p w lane} (hs : Keeps P s) : Keeps P (State.writeProduct p w s lane) := .ite hs.dma.updHost hs.updHost
theorem Keeps.productRecord {p} (hs : Keeps P s) : Keeps P (productRecord p s) :=
  .ite hs (by split; exacts [hs,
                .raise (.updPacer (.ite (.discardWindows (.foldl (fun _ _ hs => hs.writeProduct) hs)) (.updWindow (.foldl (fun _ _ hs =>
    hs.writeProduct) hs))))])

/-! ### Machine/Cells.lean -/

theorem Keeps.writeShadow {c body} (hs : Keeps P s) : Keeps P (State.writeShadow c body s) := hs.updCell
theorem Keeps.admitCell {c} (hs : Keeps P s) : Keeps P (State.admitCell c s) := hs.updBank
theorem Keeps.moveReservation {a b} (hs : Keeps P s) : Keeps P (State.moveReservation a b s) := hs.updBank.updBank
theorem Keeps.sendSeq {l frame} (hs : Keeps P s) : Keeps P (State.sendSeq l frame s) := hs.updLink.send
theorem Keeps.sendConfig {l addr data} (hs : Keeps P s) : Keeps P (State.sendConfig l addr data s) := hs.sendSeq
theorem Keeps.sendTrims {l j v} (hs : Keeps P s) : Keeps P (State.sendTrims l j v s) := hs.sendConfig
theorem Keeps.sendCtl {l drive} (hs : Keeps P s) : Keeps P (State.sendCtl l drive s) := hs.sendConfig
theorem Keeps.sendWave {l slot} (hs : Keeps P s) : Keeps P (State.sendWave l slot s) := by
  unfold State.sendWave
  exact hs.sendSeq
theorem Keeps.sendWaves {c ws} (hs : Keeps P s) : Keeps P (State.sendWaves c ws s) :=
  .forAll (fun _ _ hs => .forAll (fun _ _ hs => .ite hs.sendWave hs) hs) hs
theorem Keeps.retrim {c u} (hs : Keeps P s) : Keeps P (State.retrim c u s) := .foldl (fun _ _ hs => hs.updLink) hs.updCell
theorem Keeps.restoreCell {c} (hs : Keeps P s) : Keeps P (State.restoreCell c s) := by
  dsimp only [State.restoreCell]
  split; exacts [hs.updCell, .ite hs.updCell.retrim hs.updCell.retrim.sendWaves]
theorem Keeps.stepTrims {l ran} (hs : Keeps P s) : Keeps P (State.stepTrims l ran s) := by
  unfold State.stepTrims
  exact .updLink (.foldl (fun _ _ hs => hs.sendTrims) hs)
theorem Keeps.noteTrim {l j old} (hs : Keeps P s) : Keeps P (State.noteTrim l j old s) := .ite hs (.ite hs.updLink hs.updLink.sendTrims)
theorem Keeps.updNozzle {c n u} (hs : Keeps P s) : Keeps P (State.updNozzle c n u s) :=
  .ite hs.updCell.noteTrim.sendConfig hs.updCell.noteTrim
theorem Keeps.sendDrive {on c} (hs : Keeps P s) : Keeps P (State.sendDrive on c s) :=
  .forAll (fun _ _ hs => .ite hs.updLink.sendCtl hs.updLink) hs
theorem Keeps.loadHead {l} (hs : Keeps P s) : Keeps P (State.loadHead l s) := by
  unfold State.loadHead
  exact .updLink (.foldl (fun _ _ hs => hs.sendWave) (.foldl (fun _ _ hs => hs.sendConfig) (.foldl (fun _ _ hs => hs.sendTrims) hs)))
theorem Keeps.markDone {c m} (hs : Keeps P s) : Keeps P (State.markDone c m s) := hs.updCell
theorem Keeps.settleCarried {c} (hs : Keeps P s) : Keeps P (State.settleCarried c s) := .foldl (fun _ _ hs => .ite hs.markDone hs) hs
theorem Keeps.pruneSlots {c} (hs : Keeps P s) : Keeps P (State.pruneSlots c s) := by
  unfold State.pruneSlots
  split; exacts [hs, hs.updCell]
theorem Keeps.emptyData {c keepLines kept} (hs : Keeps P s) : Keeps P (State.emptyData c keepLines kept s) :=
  .forAll (fun _ _ hs => hs.updReq) hs.updCell
theorem Keeps.moveMask {c old new m poison k} (hs : Keeps P s) : Keeps P (State.moveMask c old new m poison s k) := .ite hs hs.cellPut.updBank
theorem Keeps.applyAreas {c new} (hs : Keeps P s) : Keeps P (State.applyAreas c new s) := by
  unfold State.applyAreas
  split; exacts [hs.emptyData, .emptyData (.foldl (fun _ _ hs => hs.moveMask) hs)]
theorem Keeps.meterCount {lane plane fires} (hs : Keeps P s) : Keeps P (State.meterCount lane plane fires s) := .ite hs hs.updMeter

/-! ### Machine/Speculate.lean -/

theorem Keeps.touchLink {since l} (hs : Keeps P s) : Keeps P (State.touchLink since l s) := hs.updLink
theorem Keeps.touching {links u} (hu : ∀ a0, Keeps P a0 → Keeps P (u a0)) (hs : Keeps P s) : Keeps P (touching links u s) :=
  .forAll (fun _ _ hs => hs.touchLink) (hu _ (.forAll (fun _ _ hs => hs.touchLink) hs))
theorem Keeps.muteLine {c p n} (hs : Keeps P s) : Keeps P (State.muteLine c p n s) := by
  unfold State.muteLine
  split; exacts [hs, .forAll (fun _ _ hs => hs.updLink) hs]
theorem Keeps.speculateLine {c p n} (hs : Keeps P s) : Keeps P (State.speculateLine c p n s) :=
  .forAll (fun _ _ hs => .ite hs.updLink.muteLine hs.updLink) hs.ensureSegment.assignLine.updCell
theorem Keeps.speculate {c n} (hs : Keeps P s) : Keeps P (State.speculate c n s) := by
  induction n generalizing s with
  | zero => exact hs
  | succ n ih =>
    unfold State.speculate
    dsimp only
    split
    · exact .ite (ih hs.speculateLine) hs
    · exact hs
theorem Keeps.speculateCell {c} (hs : Keeps P s) : Keeps P (State.speculateCell s c) := hs.speculate
theorem Keeps.startLines {first c} (hs : Keeps P s) : Keeps P (State.startLines first c s) :=
  .speculateCell (.updCell (.forAll (fun _ _ hs => hs.updLink) hs))
theorem Keeps.recompute {all from_ l} (hs : Keeps P s) : Keeps P (State.recompute all from_ l s) := by
  unfold State.recompute
  split; exacts [hs, .foldl (fun _ _ hs => hs.updLink) hs]
theorem Keeps.applyCopy {c tdly} (hs : Keeps P s) : Keeps P (State.applyCopy c tdly s) := by
  unfold State.applyCopy
  split; exacts [hs, .ite hs (.settleCarried (.forAll (fun _ _ hs => .ite hs.updLink.recompute hs.updLink) hs))]

/-! ### Machine/Rounds.lean -/

theorem Keeps.retarget {l} (hs : Keeps P s) : Keeps P (State.retarget l s) := by
  unfold State.retarget
  exact hs.updLink
theorem Keeps.retargetNow {l} (hs : Keeps P s) : Keeps P (State.retargetNow l s) := hs.retarget.updLink
theorem Keeps.flushTrims {l} (hs : Keeps P s) : Keeps P (State.flushTrims l s) := .ite hs.stepTrims hs
theorem Keeps.applyTargets {l} (hs : Keeps P s) : Keeps P (State.applyTargets l s) := hs.retarget.flushTrims
theorem Keeps.measureFlight {g l} (hs : Keeps P s) : Keeps P (State.measureFlight g l s) := .retarget (.updLink (.ite hs.updLink hs))
theorem Keeps.untest {links q} (hs : Keeps P s) : Keeps P (State.untest links q s) := .forAll (fun _ _ hs => hs.updLink) hs
theorem Keeps.settleMiss {c n} (hs : Keeps P s) : Keeps P (State.settleMiss c n s) :=
  .ite hs.updLink (.forAll (fun _ _ hs => by split; exacts [hs, hs.updGate]) hs.updLink.untest)
theorem Keeps.spitOver {h} (hs : Keeps P s) : Keeps P (State.spitOver h s) := .ite hs hs.finish
theorem Keeps.checkRound {g n} (hs : Keeps P s) : Keeps P (State.checkRound g n s) := by
  induction n generalizing s with
  | zero => exact hs
  | succ n ih =>
    unfold State.checkRound
    dsimp only
    split
    · exact hs
    · have hm : ∀ l, Keeps P ((Machine.forAll l (fun s l => s.measureFlight g l) s).updGate g (fun x => { x with rounds := x.rounds + 1 })) :=
        fun _ => .updGate (.forAll (fun _ _ hs => hs.measureFlight) hs)
      exact .ite (.ite (hm _).gateEvt.updGate.spitOver (ih (hm _).gateEvt.updGate)) hs
theorem Keeps.settleRounds {g} (hs : Keeps P s) : Keeps P (State.settleRounds g s) := by
  unfold State.settleRounds
  split; exacts [hs, hs.checkRound]

/-! ### Machine/Clocking.lean -/

theorem Keeps.settleClocks (hs : Keeps P s) : Keeps P (s.settleClocks) :=
  .foldl (fun _ _ hs => .updQuad (by split; exacts [hs, hs.updQuad])) hs
theorem Keeps.supplyReached {k} (hs : Keeps P s) : Keeps P (State.supplyReached k s) := hs.updQuad.settleClocks
theorem Keeps.requestQuad {k vset div skip} (hs : Keeps P s) : Keeps P (State.requestQuad k vset div skip s) :=
  .ite hs.updQuad.settleClocks hs.updQuad

/-! ### Machine/Spares.lean -/

theorem Keeps.settleSpares (hs : Keeps P s) : Keeps P (s.settleSpares) := hs.setCause
theorem Keeps.sparesOut {q} (hs : Keeps P s) : Keeps P (State.sparesOut q s) :=
  .ite hs.settleSpares (.raise (.settleSpares (.updTest (.forAll (fun _ _ hs => hs.updCell) hs))))
theorem Keeps.spareStays {q stays} (hs : Keeps P s) : Keeps P (State.spareStays q stays s) := .ite hs.sparesOut hs.settleSpares
theorem Keeps.beginTakeover {c k} (hs : Keeps P s) : Keeps P (State.beginTakeover c k s) := hs.updCell.updCell.settleSpares.settleClocks
theorem Keeps.beginRefill {c image test sets} (hs : Keeps P s) : Keeps P (State.beginRefill c image test sets s) := hs.updCell
theorem Keeps.beginReturn {c} (hs : Keeps P s) : Keeps P (State.beginReturn c s) := hs.updCell
theorem Keeps.eraseBank {b} (hs : Keeps P s) : Keeps P (State.eraseBank b s) :=
  .updBank hs.rest
theorem Keeps.testSpare {q k} (hs : Keeps P s) : Keeps P (State.testSpare q k s) := hs.eraseBank.updCell.updTest.settleSpares
theorem Keeps.serveWaiting {q} (hs : Keeps P s) : Keeps P (State.serveWaiting q s) := by
  dsimp only [State.serveWaiting]
  split; exacts [hs.updCell.beginTakeover, hs]
theorem Keeps.endTest {q} (hs : Keeps P s) : Keeps P (State.endTest q s) :=
  .ite (by split; exacts [hs.updTest.serveWaiting, hs.updTest.serveWaiting.testSpare]) hs.updTest.serveWaiting

/-! ### Machine/Power.lean -/

theorem Keeps.linkGoesDown {l} (hs : Keeps P s) : Keeps P (State.linkGoesDown l s) :=
  .ite hs.updLink (.ite hs.updLink.skipTests.updLink.hlEvt.fault hs.updLink.skipTests.updLink.hlEvt)
theorem Keeps.gateDown {g} (hs : Keeps P s) : Keeps P (State.gateDown g s) := hs.updGate
theorem Keeps.gateUp {g} (hs : Keeps P s) : Keeps P (State.gateUp g s) := hs.updGate
theorem Keeps.gatesCalibrated {k} (hs : Keeps P s) : Keeps P (State.gatesCalibrated k s) := .forAll (fun _ _ hs => .ite hs.updGate hs) hs
theorem Keeps.beginStop {k why} (hs : Keeps P s) : Keeps P (State.beginStop k why s) := hs.updQuad
theorem Keeps.recycleSpares {out spare} (hs : Keeps P s) : Keeps P (State.recycleSpares out spare s) := .ite hs.beginStop hs
theorem Keeps.failTakeover {c} (hs : Keeps P s) : Keeps P (State.failTakeover c s) :=
  .finishAll (.recycleSpares (.spareStays (.ite (.updTest (.fault (.cellEvt (.ite hs.updCell.updCell hs.updCell)))) (.fault (.cellEvt (.ite
    hs.updCell.updCell hs.updCell))))))
theorem Keeps.quadLosesWork {k} (hs : Keeps P s) : Keeps P (State.quadLosesWork k s) :=
  .forAll (fun _ _ hs => by split; exacts [hs, .ite hs.updCell.updTest.spareStays hs]) (.forAll (fun _ _ hs => hs.failTakeover) hs)
theorem Keeps.dropExchange {k} (hs : Keeps P s) : Keeps P (State.dropExchange k s) := .forAll (fun _ _ hs => .updCell (.ite hs hs.updCell)) hs
theorem Keeps.quadOff {k} (hs : Keeps P s) : Keeps P (State.quadOff k s) := by
  unfold State.quadOff
  exact .updQuad (.setDomain (.dropExchange (.forAll (fun _ _ hs => hs.gateDown) (.forAll (fun _ _ hs => hs.linkGoesDown) hs.quadLosesWork))))
theorem Keeps.restartWork {k u} (hs : Keeps P s) : Keeps P (State.restartWork k u s) :=
  .forAll (fun _ _ hs => hs.updateGov) (.forAll (fun _ _ hs => .forAll (fun _ _ hs => hs.updLink) hs.retrim) hs)
theorem Keeps.quadUp {k h} (hs : Keeps P s) : Keeps P (State.quadUp k h s) :=
  .settleClocks (.forAll (fun _ _ hs => hs.gateUp) (.forAll (fun _ _ hs => hs.updCell.endCond) (.ite (.endCond (.forAll (fun _ _ hs => hs.endCond)
    (.restartWork (.forAll (fun _ _ hs => hs.updLink) hs.updQuad.setDomain.updQuad)))) (.forAll (fun _ _ hs => hs.endCond) (.restartWork (.forAll
    (fun _ _ hs => hs.updLink) hs.updQuad.setDomain.updQuad))))))
theorem Keeps.settleStarts (hs : Keeps P s) : Keeps P (s.settleStarts) :=
  .forAll (fun _ _ hs => by split; exacts [.ite hs.quadUp hs, hs]) hs
theorem Keeps.quadStart {k h} (hs : Keeps P s) : Keeps P (State.quadStart k h s) := hs.updQuad.settleClocks.settleStarts
theorem Keeps.dividerChangeDone {k} (hs : Keeps P s) : Keeps P (dividerChangeDone k s) := by
  unfold Machine.dividerChangeDone
  split; exacts [hs, .ite hs.updQuad.settleClocks.settleStarts hs]
theorem Keeps.quadReset {k} (hs : Keeps P s) : Keeps P (State.quadReset k s) :=
  .settleClocks (.updQuad (.forAll (fun _ _ hs => hs.gateUp.updGate) (.restartWork (.dropExchange (.forAll (fun _ _ hs => hs.linkGoesDown)
    hs.quadLosesWork)))))
theorem Keeps.setRstCause {b} (hs : Keeps P s) : Keeps P (State.setRstCause b s) := hs.withGlb rfl
theorem Keeps.quadStopped {k why} (hs : Keeps P s) : Keeps P (State.quadStopped k why s) := by
  unfold State.quadStopped
  split; exacts [hs.quadOff.updQuad, hs.quadOff.updQuad, by split; exacts [hs.quadReset.updQuad.setRstCause, hs.quadReset.updQuad.setRstCause.finish]]
theorem Keeps.settleStop {k} (hs : Keeps P s) : Keeps P (State.settleStop k s) := by
  unfold State.settleStop
  split; exacts [hs.quadStopped, hs]
theorem Keeps.stopQuad {k why} (hs : Keeps P s) : Keeps P (State.stopQuad k why s) := .ite hs.beginStop.settleStop hs.quadStopped
theorem Keeps.boundaryStop {c} (hs : Keeps P s) : Keeps P (State.boundaryStop c s) :=
  .forAll (fun _ _ hs => by split; exacts [.settleStop (.updQuad (.forAll (fun _ _ hs => .linkGoesDown (.ite hs.updLink hs)) hs)), hs]) hs
theorem Keeps.settleCycle {k} (hs : Keeps P s) : Keeps P (State.settleCycle k s) := by
  unfold State.settleCycle
  split; exacts [.ite hs (by split; exacts [hs.updQuad.setRstCause.settleClocks, hs.updQuad.setRstCause.settleClocks.finish]), hs]

/-! ### Machine/Boundary.lean -/

theorem Keeps.giveUpLines {c} (hs : Keeps P s) : Keeps P (State.giveUpLines c s) :=
  .foldl (fun _ _ hs => hs.markDone) (.forAll (fun _ _ hs => hs.updLink) hs.updCell)
theorem Keeps.enterPrint {l} (hs : Keeps P s) : Keeps P (State.enterPrint l s) := by
  unfold State.enterPrint
  split; exacts [hs, .forAll (fun _ _ hs => .ite hs.giveUpLines hs.giveUpLines.startLines) hs.updLane.updateGov]
theorem Keeps.endSegments {p l} (hs : Keeps P s) : Keeps P (State.endSegments p l s) := .ite hs hs.updLane
theorem Keeps.leavePrint {l st printed} (hs : Keeps P s) : Keeps P (State.leavePrint l st printed s) := by
  unfold State.leavePrint
  split; exacts [hs.updLane, .updateGov (.forAll (fun _ _ hs => hs.applyTargets) (.forAll (fun _ _ hs => hs.giveUpLines) (.ite (.updPacer (.updLane
    (.ite hs.endSegments.forceWindows hs))) (.updLane (.ite hs.endSegments.forceWindows hs)))))]
theorem Keeps.applyMark {c m} (hs : Keeps P s) : Keeps P (State.applyMark c m s) := hs.skipTests.updNozzle.settleMiss
theorem Keeps.applyEntry {c e} (hs : Keeps P s) : Keeps P (State.applyEntry c e s) := hs.updNozzle.settleMiss
theorem Keeps.boundaryNozzles {c} (hs : Keeps P s) : Keeps P (State.boundaryNozzles c s) := by
  unfold State.boundaryNozzles
  extract_lets marks s1 s2 s3
  have h2 : Keeps P s2 := .updCell (.foldl (fun _ _ hs => hs.applyMark) hs)
  have h3 : Keeps P s3 := .ite h2 (by split; exacts [h2, h2.settleRounds])
  exact .updCell (.foldl (fun _ _ hs => hs.applyEntry) (.foldl (fun _ _ hs => hs.answer.serveAll) h3))
theorem Keeps.changeCell {c ch} (hs : Keeps P s) : Keeps P (State.changeCell c ch s) := by
  unfold State.changeCell
  split; exacts [hs.updCell,
    by split; exacts [.sendDrive (.forAll (fun _ _ hs => .retarget (.ite hs.loadHead hs)) hs.sendDrive.applyAreas.updCell.updBank),
    hs.updCell.admitCell]]
theorem Keeps.changeLane {ch} (hs : Keeps P s) : Keeps P (State.changeLane ch s) := by
  unfold State.changeLane
  extract_lets t u
  have hu : Keeps P u := .ite hs.updLane hs.updLane.flagLane
  clear_value u
  split
  · split; exacts [hu, .forAll (fun _ _ hs => hs.updateGov) hu.updLane]
  · split; exacts [hu, hu.updLane]
  · split; exacts [hu, hu.updLane]
  · exact .ite hu hu.enterPrint
  · exact hu.leavePrint
  · exact hu
theorem Keeps.endChanges (hs : Keeps P s) : Keeps P (s.endChanges) := .foldl (fun _ _ hs => hs.rest.changeLane.finish) hs
theorem Keeps.boundaryChanges {c} (hs : Keeps P s) : Keeps P (State.boundaryChanges c s).1 := .foldl (fun _ _ hs => hs.changeCell.rest) hs
theorem Keeps.swapLinks {c} (hs : Keeps P s) : Keeps P (State.swapLinks c s) :=
  have h1 : Keeps P _ := .spareStays (.forAll (fun _ _ hs => hs.updGate)
    (.ite (.moveReservation (.ite hs.updCell.updCell.eraseBank hs.updCell.updCell)) hs.updCell.updCell.moveReservation))
  .settleCycle (.finishAll (.cellEvt (.ite h1.serveWaiting (.ite h1.endTest h1.serveWaiting))))
theorem Keeps.boundaryTakeover {c timer} (hs : Keeps P s) : Keeps P (State.boundaryTakeover c timer s) :=
  .ite hs (.ite hs.failTakeover (.ite (.ite hs.swapLinks hs) (.ite hs.updCell hs)))
theorem Keeps.laneStopped {l upTo printed} (hs : Keeps P s) : Keeps P (State.laneStopped l upTo printed s) :=
  .leavePrint (by split; exacts [hs,
                    .ite (.discardWindows (.updWindows (.foldl (fun _ _ hs => hs.writeProduct) hs))) (.raise (.updPacer (.discardWindows (.updWindows
    (.foldl (fun _ _ hs => hs.writeProduct) hs)))))])
theorem Keeps.boundaryReset {c} (hs : Keeps P s) : Keeps P (State.boundaryReset c s) := by
  dsimp only [State.boundaryReset]
  split; exacts [hs, .ite (.ite hs.giveUpLines.updLane.laneStopped hs.giveUpLines.updLane) hs]
theorem Keeps.cellBoundary {c timer} (hs : Keeps P s) : Keeps P (State.cellBoundary c timer s) :=
  have h1 : Keeps P _ := .boundaryChanges (.updCell (.ite hs.updCell.updLane hs.updCell))
  have h2 : Keeps P _ := .boundaryNozzles (.ite h1 h1.applyCopy)
  .endChanges (.boundaryStop (.boundaryReset (.ite h2 h2.boundaryTakeover)))
theorem Keeps.cellBoundaryTimer {c} (hs : Keeps P s) : Keeps P (cellBoundaryTimer c s) := .ite hs.at_.cellBoundary.speculateCell hs

/-! ### Machine/Sched.lean -/

theorem Keeps.sendLatch {l b} (hs : Keeps P s) : Keeps P (State.sendLatch l b s) := hs.send
theorem Keeps.updStrobe {l n u} (hs : Keeps P s) : Keeps P (State.updStrobe l n u s) := hs.updLink
theorem Keeps.resendLatch {l b} (hs : Keeps P s) : Keeps P (State.resendLatch l b s) := hs.updLink.updStrobe.sendLatch
theorem Keeps.latchLoad {l} (hs : Keeps P s) : Keeps P (latchLoad l s) := .ite hs (by split; exacts [hs, .ite hs.at_.updStrobe.sendLatch hs])
theorem Keeps.badFrame {inj l} (hs : Keeps P s) : Keeps P (State.badFrame inj l s) := hs.updLink.faultBy
theorem Keeps.latchFailed {l b} (hs : Keeps P s) : Keeps P (State.latchFailed l b s) := .ite hs hs.updStrobe.resendLatch
theorem Keeps.llAck {l rx} (hs : Keeps P s) : Keeps P (llAck l rx s) := by
  dsimp only [Machine.llAck]
  exact .ite hs (.ite (by split; exacts [hs, .ite (.touching (fun _ hs => hs.updStrobe) hs) (.ite hs.latchFailed hs)]) hs.badFrame)
theorem Keeps.llAckTimeout {l} (hs : Keeps P s) : Keeps P (llAckTimeout l s) := .ite hs (by split; exacts [hs, hs.at_.latchFailed])
theorem Keeps.afterDecision {l n} (hs : Keeps P s) : Keeps P (State.afterDecision l n s) :=
  .speculateCell (.ite hs.pruneSlots.cellBoundary hs.pruneSlots)
theorem Keeps.takeOff {l n} (hs : Keeps P s) : Keeps P (State.takeOff l n s) := hs.updLink
theorem Keeps.sendStrobes {l b} (hs : Keeps P s) : Keeps P (State.sendStrobes l b s) := .foldl (fun _ _ hs => hs.send) hs
theorem Keeps.abortLatch {l n} (hs : Keeps P s) : Keeps P (State.abortLatch l n s) := by
  unfold State.abortLatch
  split; exacts [hs, hs.latchFailed]
theorem Keeps.openTest {l b t} (hs : Keeps P s) : Keeps P (State.openTest l b t s) := by
  dsimp only [State.openTest]
  split; exacts [hs, by split; exacts [hs, .ite hs.updGate hs]]
theorem Keeps.purgeOver {h} (hs : Keeps P s) : Keeps P (State.purgeOver h s) := .ite hs hs.finish
theorem Keeps.countPurge {l} (hs : Keeps P s) : Keeps P (State.countPurge l s) := by
  unfold State.countPurge
  split; exacts [hs, .ite hs hs.updCell.purgeOver]
theorem Keeps.commitStrobe {l b lam} (hs : Keeps P s) : Keeps P (State.commitStrobe l b lam s) := by
  unfold State.commitStrobe
  extract_lets c lane s1 s2 s3 conc carried starving s4 s5 s6 s7 s8 s9 s10
  have h4 : Keeps P s4 := .updCell (.govCommit (.meterCount (.ite hs hs.sendStrobes.abortLatch)))
  clear_value s4
  have h5 : Keeps P s5 := .ite h4.updLane.raise h4
  clear_value s5
  have h6 : Keeps P s6 := by
    unfold s6
    split
    · exact h5
    · extract_lets t dead u
      have ht : Keeps P t := .ite h5.updPacer h5
      have hu : Keeps P u := by unfold u; split; exacts [ht, ht.updWindow]
      exact .ite hu hu.markLine
  have h8 : Keeps P s8 := .updLink (.foldl (fun _ _ hs => by split; exacts [hs, hs.markDone]) h6)
  have h9 : Keeps P s9 := by unfold s9; split; exacts [h8, h8.openTest]
  exact .afterDecision (.stepTrims (.takeOff (.ite h9.countPurge h9)))
theorem Keeps.tryCommit {l b0 lam} (hs : Keeps P s) : Keeps P (State.tryCommit l b0 lam s) := .ite hs.updStrobe.resendLatch hs.commitStrobe
theorem Keeps.dropStrobe {l b} (hs : Keeps P s) : Keeps P (State.dropStrobe l b s) := by
  dsimp only [State.dropStrobe]
  exact .afterDecision (.foldl (fun _ _ hs => by split; exacts [hs, .ite hs.markDone hs]) (.ite hs.takeOff
    (by split; exacts [hs.takeOff.updCell, .ite hs.takeOff.updCell.updPacer hs.takeOff.updCell.updPacer.markLine])))
theorem Keeps.strobeCommit {l} (hs : Keeps P s) : Keeps P (strobeCommit l s) := by
  unfold Machine.strobeCommit
  split; exacts [hs, .ite (.ite hs.at_.dropStrobe (.ite hs.at_.at_.commitStrobe (.ite hs.at_.tryCommit hs.at_.touchLink.updStrobe))) hs]
theorem Keeps.strobeRelease {l} (hs : Keeps P s) : Keeps P (strobeRelease l s) := by
  dsimp only [Machine.strobeRelease]
  split; exacts [hs.touchLink, .ite (by split; exacts [hs.touchLink, .ite hs.touchLink.at_.tryCommit hs.touchLink]) hs.touchLink]
theorem Keeps.strobeDrop {l} (hs : Keeps P s) : Keeps P (strobeDrop l s) := by
  dsimp only [Machine.strobeDrop]
  split; exacts [.ite (.ite hs.touchLink.at_.dropStrobe (.ite hs.touchLink.at_.dropStrobe hs.touchLink)) hs.touchLink, hs.touchLink]
theorem Keeps.testLine {c} (hs : Keeps P s) : Keeps P (testLine c s) :=
  .ite (.ite (.foldl (fun _ _ hs => hs.updLink) hs.at_.updCell) hs.at_) hs

/-! ### Machine/Follow.lean -/

theorem Keeps.squash {p} (hs : Keeps P s) : Keeps P (State.squash p s) := .forAll (fun _ _ hs => hs.updLink) hs
theorem Keeps.falseStart {p} (hs : Keeps P s) : Keeps P (State.falseStart p s) := hs.squash.updPacer.pacerEvt.updWindows
theorem Keeps.reschedule {p} (hs : Keeps P s) : Keeps P (State.reschedule p s) :=
  .forAll (fun _ _ hs => hs.speculateCell) (.forAll (fun _ _ hs => hs.recompute) hs.updPacer)
theorem Keeps.reseed {p r e} (hs : Keeps P s) : Keeps P (State.reseed p r e s) :=
  .ite (.ite (.forAll (fun _ _ hs => hs.startLines) hs.updPacer.updPacer.updPacer) hs.updPacer.updPacer.reschedule) hs.updPacer.squash.updPacer
theorem Keeps.trackUpdate {p r e} (hs : Keeps P s) : Keeps P (State.trackUpdate p r e s) :=
  .ite (.forAll (fun _ _ hs => hs.recompute) hs.updPacer) hs.updPacer.squash
theorem Keeps.learn {p r e} (hs : Keeps P s) : Keeps P (State.learn p r e s) :=
  have h1 : Keeps P _ := .ite hs hs.updPacer
  have h2 : Keeps P _ := .ite h1 h1.updPacer
  .ite h2.updPacer (.ite h2.reseed (by
    split
    exacts [h2.updPacer, h2.reseed, h2.reseed, .ite h2.falseStart.reseed (.ite h2.falseStart.updPacer.reseed h2.trackUpdate), h2, h2]))
theorem Keeps.edgeLearn {p} (hs : Keeps P s) : Keeps P (edgeLearn p s) := by
  dsimp only [Machine.edgeLearn]
  exact .ite hs (by split; exacts [.touching (fun _ hs => hs.learn) hs.at_.updPacer, hs.updPacer, hs])
theorem Keeps.edgeOverdue {p} (hs : Keeps P s) : Keeps P (edgeOverdue p s) := by
  dsimp only [Machine.edgeOverdue]
  exact .ite hs (by split; exacts [hs, .ite (.touching (fun _ hs => hs.falseStart.updPacer) hs.at_) hs])
theorem Keeps.requalCount {n ok} (hs : Keeps P s) : Keeps P (State.requalCount n ok s) := .forAll (fun _ _ hs => .ite hs.updPacer hs) hs
theorem Keeps.quadError {n} (hs : Keeps P s) : Keeps P (State.quadError n s) := hs.updEnc.requalCount
theorem Keeps.confirmEdge {n t} (hs : Keeps P s) : Keeps P (State.confirmEdge n t s) :=
  .forAll (fun _ _ hs => by split; exacts [hs, hs.updPacer]) hs.updEnc.requalCount
theorem Keeps.reverseEnc {n rev} (hs : Keeps P s) : Keeps P (State.reverseEnc n rev s) :=
  .forAll (fun _ _ hs => .touching (fun _ hs => hs.squash.updPacer.flagOpen) hs) hs.updEnc.raise
theorem Keeps.countEnc {n fwd t} (hs : Keeps P s) : Keeps P (State.countEnc n fwd t s) :=
  .ite hs.updEnc.updEnc.confirmEdge (.ite hs.updEnc.reverseEnc hs.updEnc.updEnc)
theorem Keeps.encoderEdge {n a b t} (hs : Keeps P s) : Keeps P (encoderEdge n a b t s) :=
  .ite hs (.ite hs.at_.updEnc (.ite hs.at_.updEnc (.ite hs.at_.updEnc.quadError hs.at_.updEnc.countEnc)))
theorem Keeps.pairFault {n pair} (hs : Keeps P s) : Keeps P (pairFault n pair s) := .whenOn (fun _ hs => hs.updEnc.requalCount) hs
theorem Keeps.pairFaultEnd {n pair} (hs : Keeps P s) : Keeps P (pairFaultEnd n pair s) := .whenOn (fun _ hs => hs.updEnc) hs
theorem Keeps.index {n} (hs : Keeps P s) : Keeps P (index n s) := .ite hs (.ite hs hs.updEnc.raise)
theorem Keeps.speedWindow {n t} (hs : Keeps P s) : Keeps P (speedWindow n t s) := .ite hs hs.at_.updEnc
theorem Keeps.still {n} (hs : Keeps P s) : Keeps P (still n s) := .ite hs (.forAll (fun _ _ hs => hs.updPacer) hs.at_.updEnc)
theorem Keeps.edgeWindows {code p} (hs : Keeps P s) : Keeps P (State.edgeWindows code p s) :=
  .ite hs (.ite (by split; exacts [.updPacer (.ite (by split; exacts [hs.startWindow, hs.updPacer]) hs),
                      .closeAt (.updWindow (.ite (by split; exacts [hs.startWindow, hs.updPacer]) hs))]) (.ite
    (by split; exacts [hs.startWindow, hs.updPacer]) hs))
theorem Keeps.triggerEdge {tr fall t} (hs : Keeps P s) : Keeps P (triggerEdge tr fall t s) :=
  .ite hs (.ite hs.at_.updTrig (.forAll (fun _ _ hs => hs.edgeWindows) hs.at_.updTrig.updTrig.raiseIf))
theorem Keeps.referenceLoss {p r cause} (hs : Keeps P s) : Keeps P (referenceLoss p r cause s) :=
  .ite hs (.ite (.ite (.touching (fun _ hs => hs.updPacer) (.updPacer (.ite hs.at_ hs))) (.updPacer (.updPacer (.ite hs.at_ hs)))) hs)
theorem Keeps.referenceRequalified {p r} (hs : Keeps P s) : Keeps P (referenceRequalified p r s) :=
  .whenOn (fun _ hs => .ite hs.updPacer hs) hs
theorem Keeps.drlim {p} (hs : Keeps P s) : Keeps P (drlim p s) :=
  .ite hs (.ite (.flagOpen (.pacerEvt (.touching (fun _ hs => hs.updPacer) hs.at_))) hs)
theorem Keeps.switchRef {p to_ b} (hs : Keeps P s) : Keeps P (State.switchRef p to_ b s) :=
  .flagOpen (.pacerEvt (by split; exacts [hs.updPacer.updPacer, hs.updPacer.updPacer, .ite hs.updPacer.updPacer hs.updPacer.updPacer.reschedule,
                             hs.updPacer.updPacer]))
theorem Keeps.refStep {p b} (hs : Keeps P s) : Keeps P (State.refStep p b s) := by
  unfold State.refStep
  split; exacts [hs.updPacer, .touching (fun _ hs => hs.switchRef) hs]
theorem Keeps.computeFill {p} (hs : Keeps P s) : Keeps P (State.computeFill p s) := by
  unfold State.computeFill
  exact .updPacer (.foldl (fun _ _ hs => .raiseIf (.ite hs.updLane.flagLane hs.updLane)) hs)
theorem Keeps.fillTimer {p} (hs : Keeps P s) : Keeps P (fillTimer p s) := .whenOn (fun _ hs => .ite hs hs.computeFill) hs
theorem Keeps.stopWindows {p} (hs : Keeps P s) : Keeps P (State.stopWindows p s) :=
  .foldl (fun _ _ hs => .ite (.rest (by split; exacts [.ite hs (.reassign (.ite hs.discardWindows.updLane.updWindows hs.discardWindows.updLane)),
                                          hs.endSegments.forceWindows]))
    (by split; exacts [.ite hs (.reassign (.ite hs.discardWindows.updLane.updWindows hs.discardWindows.updLane)), hs.endSegments.forceWindows])) hs
theorem Keeps.pacerLineBoundary {p} (hs : Keeps P s) : Keeps P (pacerLineBoundary p s) :=
  .ite hs (.ite hs.at_.updPacer.windowsAt.stopWindows.refStep.computeFill hs)
theorem Keeps.pacerMark {p} (hs : Keeps P s) : Keeps P (pacerMark p s) := .ite hs hs.at_.updPacer.stopWindows.refStep

/-! ### Machine/HeadLink.lean -/

theorem Keeps.headChange {l} (hs : Keeps P s) : Keeps P (State.headChange l s) := by
  unfold State.headChange
  exact hs.hlEvt.skipTests.retrim.updLink
theorem Keeps.trainFails {l} (hs : Keeps P s) : Keeps P (State.trainFails l s) := hs.updLink
theorem Keeps.headFaults {l old new} (hs : Keeps P s) : Keeps P (State.headFaults l old new s) :=
  .ite (.linkGoesDown (.ite hs.hlEvt.fault hs)) (.ite hs.hlEvt.fault hs)
theorem Keeps.lostStrobes {l n} (hs : Keeps P s) : Keeps P (State.lostStrobes l n s) := .ite hs hs.updLink.skipTests.hlEvt
theorem Keeps.hearStatus {l rx} (hs : Keeps P s) : Keeps P (State.hearStatus l rx s) := .lostStrobes (.updLink (.ite hs.skipTests hs))
theorem Keeps.trainHead {l tr} (hs : Keeps P s) : Keeps P (State.trainHead l tr s) :=
  have h1 : Keeps P _ := .loadHead (.sendCtl (.updLink (.hearStatus (.ite hs.headChange hs))))
  have h2 := h1.updLink.send
  .ite hs.badFrame.trainFails (.ite h1.trainFails (.ite h2.badFrame.trainFails (.ite h2.trainFails
    h2.hearStatus.updLink.hlEvt.endCond.retargetNow.headFaults)))
theorem Keeps.train {l tr} (hs : Keeps P s) : Keeps P (State.train l tr s) := by
  dsimp only [State.train]
  split; exacts [hs.updLink.trainFails, .ite hs.updLink.updLink.hlEvt hs.updLink.updLink.trainHead]
theorem Keeps.linkTraining {l tr} (hs : Keeps P s) : Keeps P (linkTraining l tr s) := .ite hs.train hs
theorem Keeps.longRetry {l} (hs : Keeps P s) : Keeps P (longRetry l s) := .ite hs.at_.updLink hs
theorem Keeps.headLinkDown {l cause} (hs : Keeps P s) : Keeps P (headLinkDown l cause s) :=
  .ite (by split; exacts [hs.linkGoesDown, hs.linkGoesDown, hs.at_.linkGoesDown, .ite hs hs.linkGoesDown]) hs
theorem Keeps.syncDiff {l d} (hs : Keeps P s) : Keeps P (State.syncDiff l d s) := .ite hs hs.updLink.fault
theorem Keeps.status {l rx} (hs : Keeps P s) : Keeps P (status l rx s) :=
  .ite hs (.ite (.flushTrims (.headFaults (.syncDiff (.ite hs.hearStatus.endCond hs.hearStatus)))) hs.badFrame)
theorem Keeps.hlTimeSync {l} (hs : Keeps P s) : Keeps P (hlTimeSync l s) := .ite hs.at_.updLink.send.flushTrims hs
theorem Keeps.configResend {l} (hs : Keeps P s) : Keeps P (configResend l s) := .ite (.foldl (fun _ _ hs => hs.send) hs.at_.updLink) hs

/-! ### Machine/Chain.lean -/

theorem Keeps.updChn {u} (hs : Keeps P s) : Keeps P (State.updChn s u) := hs.rest
theorem Keeps.setDisc {d} (hs : Keeps P s) : Keeps P (State.setDisc d s) := .ite hs (.raise (hs.withGlb rfl))
theorem Keeps.stepTrim (hs : Keeps P s) : Keeps P (s.stepTrim) := .ite hs (hs.withGlb rfl)
theorem Keeps.trimBy {err} (hs : Keeps P s) : Keeps P (State.trimBy err s) := .stepTrim (hs.withGlb rfl)
theorem Keeps.losePaths (hs : Keeps P s) : Keeps P (s.losePaths) := .ite hs.setDisc hs
theorem Keeps.sendOn {ports m} (hs : Keeps P s) : Keeps P (State.sendOn ports m s) := hs.updChn.send
theorem Keeps.sendPrl {m} (hs : Keeps P s) : Keeps P (State.sendPrl m s) := hs.sendOn
theorem Keeps.sendContended {dst} (hs : Keeps P s) : Keeps P (State.sendContended dst s) := hs.updChn.send
theorem Keeps.setPort {x u} (hs : Keeps P s) : Keeps P (State.setPort x u s) := hs.updPort.raiseIf
theorem Keeps.dropPort {x} (hs : Keeps P s) : Keeps P (State.dropPort x s) := hs.setPort
theorem Keeps.hearHello {x h} (hs : Keeps P s) : Keeps P (State.hearHello x h s) := .ite hs.setPort.updChn hs.setPort
theorem Keeps.portTraining {x tr} (hs : Keeps P s) : Keeps P (portTraining x tr s) :=
  .ite hs (.ite hs.dropPort (by split; exacts [.foldl (fun _ _ hs => hs.sendOn) hs.setPort.sendOn.hearHello,
                                  .setPort (.foldl (fun _ _ hs => hs.sendOn) hs.setPort.sendOn.hearHello)]))
theorem Keeps.helloSend {x} (hs : Keeps P s) : Keeps P (helloSend x s) := .ite hs.sendOn hs
theorem Keeps.setOl {l} (hs : Keeps P s) : Keeps P (State.setOl l s) := hs.updChn.raiseIf
theorem Keeps.leadRule (hs : Keeps P s) : Keeps P (s.leadRule) := .ite hs.updChn.fault (.ite hs.updChn.endCond hs.updChn)
theorem Keeps.enterRelay {cause} (hs : Keeps P s) : Keeps P (State.enterRelay cause s) := .ite hs.updChn hs.updChn.leadRule.raise
theorem Keeps.leaveRelay (hs : Keeps P s) : Keeps P (s.leaveRelay) := .ite hs.updChn.raise hs
theorem Keeps.measureChain (hs : Keeps P s) : Keeps P (s.measureChain) := hs.updChn.leadRule
theorem Keeps.dropChange {ch status detail} (hs : Keeps P s) : Keeps P (State.dropChange ch status detail s) :=
  .finish (.forAll (fun _ _ hs => hs.restoreCell) hs.rest)
theorem Keeps.cancelLocal {ep cause} (hs : Keeps P s) : Keeps P (State.cancelLocal ep cause s) :=
  .ite (.forAll (fun _ _ hs => hs.updLane) (.updChn (.foldl (fun _ _ hs => hs.dropChange) hs))) (.updChn (.foldl (fun _ _ hs => hs.dropChange) hs))
theorem Keeps.sayChain {m} (hs : Keeps P s) : Keeps P (State.sayChain m s) := .ite hs hs.sendPrl
theorem Keeps.cancelAll {ep cause} (hs : Keeps P s) : Keeps P (State.cancelAll ep cause s) := hs.sayChain.updChn.cancelLocal
theorem Keeps.cancelOne {src ep cause} (hs : Keeps P s) : Keeps P (State.cancelOne src ep cause s) := .ite hs.cancelLocal hs.sayChain
theorem Keeps.commitLocal {ep} (hs : Keeps P s) : Keeps P (State.commitLocal ep s) := .ite hs hs.updChn.rest
theorem Keeps.sendCommit {ep} (hs : Keeps P s) : Keeps P (State.sendCommit ep s) := by
  unfold State.sendCommit
  split; exacts [hs, .ite hs.updChn.sayChain.commitLocal hs]
theorem Keeps.takeAck {src ep r} (hs : Keeps P s) : Keeps P (State.takeAck src ep r s) := hs.updChn.sendCommit
theorem Keeps.prepareLocal {ep level} (hs : Keeps P s) : Keeps P (State.prepareLocal ep level s) :=
  .ite hs (.ite hs.updChn.rest.takeAck hs.updChn.rest.sendPrl)
theorem Keeps.registerHere {src ep levelKind level} (hs : Keeps P s) : Keeps P (State.registerHere src ep levelKind level s) :=
  .ite hs.cancelOne (.ite hs.cancelOne hs.updChn)
theorem Keeps.registerChange {ep levelKind level} (hs : Keeps P s) : Keeps P (State.registerChange ep levelKind level s) :=
  .ite hs (.ite hs.registerHere hs.sendPrl)
theorem Keeps.refuseChange {ch status detail} (hs : Keeps P s) : Keeps P (State.refuseChange ch status detail s) := hs.updChn.dropChange
theorem Keeps.missChange {ch} (hs : Keeps P s) : Keeps P (State.missChange ch s) :=
  .dropChange (.ite hs.updChn.flagLane.raise.updLane hs.updChn.flagLane.raise)
theorem Keeps.epochLocal {ep} (hs : Keeps P s) : Keeps P (State.epochLocal ep s) := by
  unfold State.epochLocal
  exact .updChn (.foldl (fun _ _ hs => by split; exacts [hs.dropChange, hs])
    (by split; exacts [.updChn (.foldl (fun _ _ hs => hs.missChange) hs),
          .raise (.ite (.updChn (.foldl (fun _ _ hs => hs.missChange) hs)) (.setOl (.updChn (.foldl (fun _ _ hs => hs.missChange) hs))))]))
theorem Keeps.deadlines {ep} (hs : Keeps P s) : Keeps P (State.deadlines ep s) :=
  .foldl (fun _ _ hs => hs.dropChange) (.ite (.foldl (fun _ _ hs => hs.cancelAll) hs) hs)
theorem Keeps.prepareAll {ep} (hs : Keeps P s) : Keeps P (State.prepareAll ep s) := .foldl (fun _ _ hs => hs.updChn.sayChain.prepareLocal) hs
theorem Keeps.loadTime {off} (hs : Keeps P s) : Keeps P (State.loadTime off s) := hs.rest
theorem Keeps.loadDue (hs : Keeps P s) : Keeps P (s.loadDue) := by
  unfold State.loadDue
  split; exacts [hs, .ite hs.updChn hs.loadTime.updChn.fault]
theorem Keeps.prlTimeSync {x hops time corr arrival} (hs : Keeps P s) : Keeps P (prlTimeSync x hops time corr arrival s) :=
  .ite hs (.ite (.updChn (.loadTime (.ite hs.at_.updPort.updChn.stepTrim hs.at_.updPort.updChn.setDisc))) (.ite (.updChn (.ite
    hs.at_.updPort.updChn.stepTrim hs.at_.updPort.updChn.setDisc)) (.updChn (.ite hs.at_.updPort.updChn.stepTrim hs.at_.updPort.updChn.setDisc))))
theorem Keeps.grantJoin {id req level} (hs : Keeps P s) : Keeps P (State.grantJoin id req level s) :=
  .ite hs.sendPrl hs.sendPrl.updChn.measureChain
theorem Keeps.join {id req level} (hs : Keeps P s) : Keeps P (join id req level s) := .ite (.ite hs.grantJoin hs.updChn) hs
theorem Keeps.joinReply {id addr} (hs : Keeps P s) : Keeps P (joinReply id addr s) :=
  .ite (.ite hs.updChn.finishAll hs.updChn.leadRule.finishAll) hs
theorem Keeps.joinTimeout (hs : Keeps P s) : Keeps P (joinTimeout s) := .ite hs.at_.updChn.measureChain.setDisc.finishAll hs
theorem Keeps.sendProbe (hs : Keeps P s) : Keeps P (s.sendProbe) := hs.updChn.sendPrl
theorem Keeps.probeSend (hs : Keeps P s) : Keeps P (probeSend s) := .ite hs.at_.updChn.measureChain.sendProbe hs
theorem Keeps.followProbe {b arrival} (hs : Keeps P s) : Keeps P (State.followProbe b arrival s) :=
  .ite hs.updChn.setOl.sendPrl hs.updChn.setOl.enterRelay
theorem Keeps.yieldTo {id} (hs : Keeps P s) : Keeps P (State.yieldTo id s) := by
  unfold State.yieldTo
  exact .updChn (.foldl (fun _ _ hs => hs.sendContended) (.foldl (fun _ _ hs => hs.cancelAll) hs))
theorem Keeps.probe {x b arrival} (hs : Keeps P s) : Keeps P (probe x b arrival s) := by
  dsimp only [Machine.probe]
  exact .ite hs (by split; exacts [hs.at_, .ite hs.at_.updChn.sendPrl hs.at_.enterRelay, .ite hs.at_.updChn.raise.sendPrl hs.at_,
                      .ite (.ite (.ite hs.at_.updChn hs.at_) (.ite hs.at_.yieldTo hs.at_)) hs.at_.followProbe])
theorem Keeps.probeReply {src b arrival} (hs : Keeps P s) : Keeps P (probeReply src b arrival s) := .ite hs.at_.updChn.measureChain hs
theorem Keeps.batonReq {src id} (hs : Keeps P s) : Keeps P (batonReq src id s) := .ite (.ite hs.sendContended hs.updChn) hs
theorem Keeps.contended (hs : Keeps P s) : Keeps P (s.contended) := by
  unfold State.contended
  split; exacts [hs, hs.finish.raise]
theorem Keeps.batonMove {id ep} (hs : Keeps P s) : Keeps P (batonMove id ep s) := .ite (.ite hs.updChn hs.updChn.contended) hs
theorem Keeps.moveLater (hs : Keeps P s) : Keeps P (s.moveLater) := by
  unfold State.moveLater
  split; exacts [hs, .ite hs.updChn.sendPrl hs]
theorem Keeps.grantBaton {ep} (hs : Keeps P s) : Keeps P (State.grantBaton ep s) := by
  unfold State.grantBaton
  split; exacts [hs, .sendPrl (.updChn (.foldl (fun _ _ hs => hs.sendContended) hs))]
theorem Keeps.handover {ep} (hs : Keeps P s) : Keeps P (State.handover ep s) := by
  unfold State.handover
  split; exacts [hs, .ite hs (.ite hs.updChn.leadRule.raise.setDisc.updChn.sendPrl.sendProbe.finishAll hs.updChn.leadRule.raise.contended)]
theorem Keeps.timeSyncLoss (hs : Keeps P s) : Keeps P (timeSyncLoss s) := .ite hs.at_.setDisc (.ite hs.at_.setDisc.updChn.sendPrl hs)
theorem Keeps.claim {id} (hs : Keeps P s) : Keeps P (claim id s) := .whenOn (fun _ hs => .ite hs.updChn hs) hs
theorem Keeps.claimTimer (hs : Keeps P s) : Keeps P (claimTimer s) := by
  unfold Machine.claimTimer
  split; exacts [hs, .ite hs (.ite hs.at_.updChn.measureChain.setDisc.raise hs.at_.updChn.sendPrl)]
theorem Keeps.ringOpens (hs : Keeps P s) : Keeps P (s.ringOpens) :=
  .foldl (fun _ _ hs => .ite hs.sendPrl.sendPrl (.ite hs.sendPrl.sendPrl hs.sendPrl)) hs.updChn.sendProbe
theorem Keeps.alert (hs : Keeps P s) : Keeps P (alert s) := .ite hs.ringOpens hs
theorem Keeps.portDown {x} (hs : Keeps P s) : Keeps P (portDown x s) :=
  .ite hs (.ite (.ite (.ringOpens (.losePaths (.ite hs.dropPort.updChn hs.dropPort))) (.sendPrl (.losePaths (.ite hs.dropPort.updChn hs.dropPort))))
    (.losePaths (.ite hs.dropPort.updChn hs.dropPort)))
theorem Keeps.register {src ep levelKind level} (hs : Keeps P s) : Keeps P (register src ep levelKind level s) := .ite hs.registerHere hs
theorem Keeps.prepare {ep level} (hs : Keeps P s) : Keeps P (prepare ep level s) := .ite hs.prepareLocal hs
theorem Keeps.ack {src ep r} (hs : Keeps P s) : Keeps P (ack src ep r s) := .ite hs.takeAck hs
theorem Keeps.commitEpoch {ep} (hs : Keeps P s) : Keeps P (commitEpoch ep s) := .ite hs.commitLocal hs
theorem Keeps.cancelEpoch {ep cause} (hs : Keeps P s) : Keeps P (cancelEpoch ep cause s) := .ite hs.cancelLocal hs
theorem Keeps.holderStep {ep} (hs : Keeps P s) : Keeps P (State.holderStep ep s) := by
  unfold State.holderStep
  extract_lets t u w v
  have ht : Keeps P t := by unfold t; split; exacts [hs, hs.updChn.setOl]
  have hu : Keeps P u := ht.prepareAll.moveLater.grantBaton
  have hv : Keeps P v := .ite (.foldl (fun _ _ hs => hs.grantJoin) hu.updChn) hu
  exact .ite hv.sendPrl hv
theorem Keeps.epochBoundary {ep} (hs : Keeps P s) : Keeps P (epochBoundary ep s) :=
  .ite hs (.ite (.ite hs.at_.loadDue hs) (.loadDue (.ite hs.at_.epochLocal.deadlines.handover.holderStep hs.at_.epochLocal.deadlines.handover)))

/-! ### Machine/Images.lean -/

theorem Keeps.configLoad {q p} (hs : Keeps P s) : Keeps P (configLoad q p s) := .long (fun _ _ hs => hs.updLane) hs
theorem Keeps.configLoadDone {h bytes} (hs : Keeps P s) : Keeps P (configLoadDone h bytes s) := by
  unfold Machine.configLoadDone
  split; exacts [hs, by split; exacts [.ite hs (by split; exacts [hs.finish, hs.updLane.finish]), hs]]
theorem Keeps.writeCell {sec body} (hs : Keeps P s) : Keeps P (State.writeCell sec body s) := hs.retrim.writeShadow.endCond
theorem Keeps.addChange {h lane kind ep cells ready} (hs : Keeps P s) : Keeps P (State.addChange h lane kind ep cells ready s) :=
  hs.rest.registerChange
theorem Keeps.readyChange {h} (hs : Keeps P s) : Keeps P (State.readyChange h s) := hs.rest
theorem Keeps.configCommit {q p} (hs : Keeps P s) : Keeps P (configCommit q p s) := by
  dsimp only [Machine.configCommit]
  exact .long (fun _ _ hs => by split; exacts [hs.finish, .ite hs.addChange (by split; exacts [hs.addChange, hs.addChange.refuseChange])]) hs
theorem Keeps.commitRead {ch n img} (hs : Keeps P s) : Keeps P (State.commitRead ch n img s) := by
  unfold State.commitRead
  split; exacts [hs.refuseChange, by split; exacts [hs.refuseChange, .readyChange (.foldl (fun _ _ hs => by split; exacts [hs, hs.writeCell]) hs)]]
theorem Keeps.patchCell {sec copies} (hs : Keeps P s) : Keeps P (State.patchCell sec copies s) :=
  .ite (.updCell (by split; exacts [.ite hs.updCell.sendWaves hs, .writeShadow (.ite hs.updCell.sendWaves hs)]))
    (by split; exacts [.ite hs.updCell.sendWaves hs, .writeShadow (.ite hs.updCell.sendWaves hs)])
theorem Keeps.configPatch {q p} (hs : Keeps P s) : Keeps P (configPatch q p s) := by
  dsimp only [Machine.configPatch]
  exact .long (fun _ _ hs => by split; exacts [hs.finish, .ite hs.addChange (by split; exacts [hs.addChange, hs.addChange.refuseChange])]) hs
theorem Keeps.patchRead {ch n img} (hs : Keeps P s) : Keeps P (State.patchRead ch n img s) := by
  unfold State.patchRead
  split; exacts [hs.refuseChange, by split; exacts [hs.refuseChange, .readyChange (.foldl (fun _ _ hs => hs.patchCell) hs)]]
theorem Keeps.configReload {q p} (hs : Keeps P s) : Keeps P (configReload q p s) :=
  .long (fun _ _ hs => .finish (.foldl (fun _ _ hs => hs.updCell.endCond) hs)) hs
theorem Keeps.configRead {q p} (hs : Keeps P s) : Keeps P (configRead q p s) := .long (fun _ _ hs => hs.freeBuf.finish) hs
theorem Keeps.configDiscard {q p} (hs : Keeps P s) : Keeps P (configDiscard q p s) :=
  .immediate (fun _ hs => by dsimp only; exact hs.updLane) hs
theorem Keeps.alignSet {q p} (hs : Keeps P s) : Keeps P (alignSet q p s) := by
  unfold Machine.alignSet
  exact .long (fun _ _ hs => .addChange (by split; exacts [hs, hs.writeShadow])) hs
theorem Keeps.printStart {q p} (hs : Keeps P s) : Keeps P (printStart q p s) := .long (fun _ _ hs => hs.addChange) hs
theorem Keeps.printStop {q p} (hs : Keeps P s) : Keeps P (printStop q p s) := .long (fun _ _ hs => hs.addChange) hs
theorem Keeps.setSpeed {q p} (hs : Keeps P s) : Keeps P (setSpeed q p s) :=
  .immediate (fun _ hs => by dsimp only; exact hs.updLane) hs
theorem Keeps.setCeiling {q p} (hs : Keeps P s) : Keeps P (setCeiling q p s) :=
  .immediate (fun _ hs => .raise (by split; exacts [hs, hs.updPacer])) hs
theorem Keeps.windowArm {q p} (hs : Keeps P s) : Keeps P (windowArm q p s) :=
  .immediate (fun _ hs => by dsimp only; exact hs.updPacer) hs
theorem Keeps.tempsetLoad {q p} (hs : Keeps P s) : Keeps P (tempsetLoad q p s) := .long (fun _ _ hs => .ite hs.finish hs) hs
theorem Keeps.tempsetRead {o n addr len buf} (hs : Keeps P s) : Keeps P (State.tempsetRead o n addr len buf s) := by
  dsimp only [State.tempsetRead]
  split; exacts [hs.finish, .finish (.updLane (.foldl (fun _ _ hs => hs.updCell) hs))]
theorem Keeps.configCheck {c} (hs : Keeps P s) : Keeps P (configCheck c s) :=
  .ite hs (.ite (.ite (.faultBy (.ite (by split; exacts [hs, hs.updCell.raise.faultBy]) (.raise (.updCell
    (by split; exacts [hs, hs.updCell.raise.faultBy]))))) (.ite (by split; exacts [hs, hs.updCell.raise.faultBy]) (.raise (.updCell
    (by split; exacts [hs, hs.updCell.raise.faultBy]))))) (.endCond (.updCell (by split; exacts [hs, hs.updCell.raise.faultBy]))))

/-! ### Machine/Takeover.lean -/

theorem Keeps.spareTakeover {q p} (hs : Keeps P s) : Keeps P (spareTakeover q p s) := by
  unfold Machine.spareTakeover
  exact .long (fun _ _ hs => hs.beginTakeover) hs
theorem Keeps.spareReturn {q p} (hs : Keeps P s) : Keeps P (spareReturn q p s) := by
  unfold Machine.spareReturn
  exact .long (fun _ _ hs => hs.beginReturn) hs
theorem Keeps.selftestCtl {q p} (hs : Keeps P s) : Keeps P (selftestCtl q p s) :=
  .immediate (fun _ hs => .forAll (fun _ _ hs => hs.updTest) hs) hs
theorem Keeps.takeoverCopyDone {c ecc} (hs : Keeps P s) : Keeps P (takeoverCopyDone c ecc s) := by
  unfold Machine.takeoverCopyDone
  extract_lets x src dst t u v
  have ht : Keeps P t := hs.blocksRead
  exact .ite (.updCell (.updBank ht.rest)) hs
theorem Keeps.takeoverFail {c} (hs : Keeps P s) : Keeps P (takeoverFail c s) := .ite hs.failTakeover hs
theorem Keeps.testInPlace {c} (hs : Keeps P s) : Keeps P (State.testInPlace c s) := hs.retrim.eraseBank.emptyData
theorem Keeps.selftestTick {q} (hs : Keeps P s) : Keeps P (selftestTick q s) :=
  .ite hs (by split; exacts [hs, .ite hs.testInPlace.updTest (by split; exacts [hs.beginTakeover.updTest, by split; exacts [hs, hs.testSpare]])])
theorem Keeps.bistResult {c pass} (hs : Keeps P s) : Keeps P (State.bistResult c pass s) := hs.updCell.cellEvt.raise
theorem Keeps.refillSet {c n v} (hs : Keeps P s) : Keeps P (State.refillSet c n v s) := .ite hs.updCell hs.updCell.fault
theorem Keeps.refillEnds {c} (hs : Keeps P s) : Keeps P (State.refillEnds c s) := by
  unfold State.refillEnds
  split; exacts [hs, .ite hs (.ite hs.updCell.endCond (.ite hs.beginReturn hs.updCell.endTest))]
theorem Keeps.refillImages {c imgs} (hs : Keeps P s) : Keeps P (State.refillImages c imgs s) := by
  unfold State.refillImages
  split; exacts [hs, .ite hs.updCell (.updCell (.foldl (fun _ _ hs => hs.updNozzle) hs.updCell))]
theorem Keeps.refillRead {c data} (hs : Keeps P s) : Keeps P (State.refillRead c data s) := by
  unfold State.refillRead
  split; exacts [hs, .ite hs.refillImages.refillEnds (by split; exacts [hs, .refillEnds (.updCell (by split; exacts [hs, hs.refillSet]))])]
theorem Keeps.testRefill {c} (hs : Keeps P s) : Keeps P (State.testRefill c s) := hs.updCell.beginRefill.refillEnds
theorem Keeps.standInFor {c k} (hs : Keeps P s) : Keeps P (State.standInFor c k s) :=
  .ite hs.updCell.updCell.settleClocks.swapLinks hs.updCell.updCell.settleClocks
theorem Keeps.selftestDone {c pass} (hs : Keeps P s) : Keeps P (selftestDone c pass s) :=
  have h1 := hs.bistResult.updCell.updTest
  have h2 : Keeps P _ := .ite h1.settleSpares h1.settleSpares.fault
  have h3 := hs.bistResult.updCell.updTest.fault
  .ite hs (.ite (.serveWaiting (.ite h2 h2.sparesOut)) (.ite hs.bistResult.testRefill (.sparesOut (by split; exacts [.ite h3.standInFor h3, h3]))))
theorem Keeps.abandonTest {t} (hs : Keeps P s) : Keeps P (State.abandonTest t s) :=
  .ite (.ite hs.updCell.beginReturn hs.updCell) hs.updCell.updCell.updCell.updTest.settleSpares.serveWaiting
theorem Keeps.autoTakeover {c} (hs : Keeps P s) : Keeps P (State.autoTakeover c s) := by
  dsimp only [State.autoTakeover]
  split; exacts [hs.beginTakeover, .ite hs.updCell (.ite hs.sparesOut hs.updCell.abandonTest), hs.sparesOut]
theorem Keeps.rowRepair {b row} (hs : Keeps P s) : Keeps P (rowRepair b row s) :=
  .whenOn (fun _ hs => .ite hs (by split; exacts [hs.softRepair, .ite hs.updBank.fault.autoTakeover hs.updBank.fault])) hs

/-! ### Machine/Motors.lean -/

theorem Keeps.motorFault {n cause bitNo hold} (hs : Keeps P s) : Keeps P (State.motorFault n cause bitNo hold s) :=
  hs.updMotor.motorEvt.fault.finishAll
theorem Keeps.loopDuties {n} (hs : Keeps P s) : Keeps P (State.loopDuties n s) := .ite hs.updMotor hs.fresh.fresh.fresh.updMotor
theorem Keeps.beginDrive {n} (hs : Keeps P s) : Keeps P (State.beginDrive n s) := hs.loopDuties.updMotor
theorem Keeps.enterAlign {n} (hs : Keeps P s) : Keeps P (State.enterAlign n s) := hs.updMotor.beginDrive
theorem Keeps.endStop {n} (hs : Keeps P s) : Keeps P (State.endStop n s) :=
  .ite hs.updMotor.updMotor.finishAll (.ite hs.updMotor.enterAlign (.ite hs.updMotor.updMotor hs.updMotor.updMotor))
theorem Keeps.stopComplete {n} (hs : Keeps P s) : Keeps P (stopComplete n s) := .whenOn (fun _ hs => .ite hs.endStop hs) hs
theorem Keeps.brakeTimeout {n} (hs : Keeps P s) : Keeps P (brakeTimeout n s) := .whenOn (fun _ hs => .ite hs.motorFault hs) hs
theorem Keeps.motorBind {q p} (hs : Keeps P s) : Keeps P (motorBind q p s) :=
  .immediate (fun _ hs => by dsimp only; exact hs.updMotor) hs
theorem Keeps.motorEnable {q p} (hs : Keeps P s) : Keeps P (motorEnable q p s) := by
  unfold Machine.motorEnable
  exact .long (fun _ _ hs => .ite hs.finish (.ite hs.updMotor.finish hs.updMotor)) hs
theorem Keeps.motorStop {q p} (hs : Keeps P s) : Keeps P (motorStop q p s) := by
  unfold Machine.motorStop
  exact .long (fun _ _ hs => .ite hs.finishAll.finish (.ite hs.finishAll.updMotor (.ite hs.finishAll.updMotor.beginDrive (.ite (.endStop (.updMotor
    (.ite hs.finishAll.endCond hs.finishAll))) (.updMotor (.ite hs.finishAll.endCond hs.finishAll)))))) hs
theorem Keeps.motorCal {q p} (hs : Keeps P s) : Keeps P (motorCal q p s) := by
  unfold Machine.motorCal
  exact .long (fun _ _ hs => hs.updMotor) hs
theorem Keeps.motorCalDone {n a b} (hs : Keeps P s) : Keeps P (motorCalDone n a b s) := .whenOn (fun _ hs => .ite hs hs.updMotor.finishAll) hs
theorem Keeps.motorRuns {n ref} (hs : Keeps P s) : Keeps P (State.motorRuns n ref s) := hs.updMotor.finishAll
theorem Keeps.catch_ {n spd} (hs : Keeps P s) : Keeps P (State.catch_ n spd s) := hs.fresh.updMotor.beginDrive.motorRuns
theorem Keeps.motorStart {n spd handoff} (hs : Keeps P s) : Keeps P (motorStart n spd handoff s) :=
  .whenOn (fun _ hs => .ite hs (.ite (.ite hs.updMotor.enterAlign (.ite hs.updMotor.catch_ hs.updMotor.updMotor)) (.ite hs.motorRuns hs))) hs
theorem Keeps.startAttemptFail {n} (hs : Keeps P s) : Keeps P (startAttemptFail n s) :=
  .whenOn (fun _ hs => .ite (.ite hs.updMotor.motorFault hs.updMotor.updMotor) hs) hs
theorem Keeps.startRetryGap {n} (hs : Keeps P s) : Keeps P (startRetryGap n s) := .whenOn (fun _ hs => .ite hs.updMotor hs) hs
theorem Keeps.limitFlag {n i old new u} (hs : Keeps P s) : Keeps P (State.limitFlag n i old new u s) := .ite hs.updMotor.motorEvt hs.updMotor
theorem Keeps.refMoves {n} (hs : Keeps P s) : Keeps P (State.refMoves n s) :=
  .ite hs.limitFlag.updMotor (.ite hs.limitFlag.updMotor.updMotor hs.limitFlag.updMotor)
theorem Keeps.torqueMoves {n} (hs : Keeps P s) : Keeps P (State.torqueMoves n s) :=
  .ite hs.limitFlag.updMotor.fresh.updMotor hs.limitFlag.updMotor.updMotor
theorem Keeps.driveGates {n} (hs : Keeps P s) : Keeps P (State.driveGates n s) := hs.updMotor.send
theorem Keeps.integrate {n} (hs : Keeps P s) : Keeps P (State.integrate n s) := .ite hs hs.fresh.updMotor
theorem Keeps.reload {n} (hs : Keeps P s) : Keeps P (State.reload n s) :=
  .ite (.ite hs.updMotor hs) (.ite (.ite hs.updMotor.integrate.loopDuties hs.updMotor) hs)
theorem Keeps.overruns {n over_} (hs : Keeps P s) : Keeps P (State.overruns n over_ s) :=
  .ite hs (.ite hs.updMotor (.ite hs.updMotor.motorFault hs.updMotor))
theorem Keeps.periodEnds {n meas} (hs : Keeps P s) : Keeps P (State.periodEnds n meas s) :=
  .ite (.driveGates (.ite hs.overruns hs.overruns.reload)) (.ite hs.overruns hs.overruns.reload)
theorem Keeps.startMoves {n meas} (hs : Keeps P s) : Keeps P (State.startMoves n meas s) :=
  .ite hs.updMotor (.ite hs.updMotor (.ite (.ite (.motorRuns (.ite hs.updMotor.updMotor hs.updMotor)) (.ite hs.updMotor.updMotor hs.updMotor)) hs))
theorem Keeps.startStops {n} (hs : Keeps P s) : Keeps P (State.startStops n s) := .ite hs.updMotor hs
theorem Keeps.loopLimits {n meas} (hs : Keeps P s) : Keeps P (State.loopLimits n meas s) := .ite hs hs.limitFlag.limitFlag
theorem Keeps.reversalRefused {n} (hs : Keeps P s) : Keeps P (State.reversalRefused n s) := hs.limitFlag
theorem Keeps.loopPeriod {n meas} (hs : Keeps P s) : Keeps P (loopPeriod n meas s) := by
  refine .whenOn (fun s hs => ?_) hs
  extract_lets t m
  have ht : Keeps P t := hs.updMotor
  split
  · exact ht
  · exact ht
  · exact ht
  · exact ht
  · exact .ite ht ht.updMotor
  · exact ht.reload.driveGates
  · exact ht.startMoves.periodEnds
  · exact ht.startMoves.periodEnds
  · exact ht.startMoves.periodEnds
  all_goals exact .periodEnds (.startStops (.reversalRefused (.ite ht.loopLimits.torqueMoves ht.loopLimits.refMoves)))

/-! ### Machine/Quality.lean -/

theorem Keeps.selectGate {g v} (hs : Keeps P s) : Keeps P (State.selectGate g v s) :=
  .ite hs (.ite (.updGate (.ite hs.updGate hs)) (.forAll (fun _ _ hs => hs.updCell) (.updGate (.updGate (.ite hs.updGate hs)))))
theorem Keeps.recalGate {g} (hs : Keeps P s) : Keeps P (State.recalGate g s) := .ite hs.updGate (.ite hs.updGate hs)
theorem Keeps.gatePulse {g rise fall} (hs : Keeps P s) : Keeps P (gatePulse g rise fall s) := .ite hs.at_.updGate hs.updGate
theorem Keeps.gateCalEnd {g} (hs : Keeps P s) : Keeps P (gateCalEnd g s) :=
  .ite (.ite hs.at_.updGate.gateEvt (.ite hs.at_.updGate.gateEvt.updGate hs.at_.updGate.gateEvt)) hs
theorem Keeps.dropHits {cells} (hs : Keeps P s) : Keeps P (State.dropHits cells s) := .forAll (fun _ _ hs => hs.updLink) hs
theorem Keeps.startRounds {h lane plane pattern rounds} (hs : Keeps P s) : Keeps P (State.startRounds h lane plane pattern rounds s) :=
  .spitOver (.forAll (fun _ _ hs => .ite hs.dropHits.updGate hs.dropHits.updGate.updGate.settleRounds) (.forAll (fun _ _ hs => hs.updCell) hs))
theorem Keeps.startPurge {h lane plane rounds} (hs : Keeps P s) : Keeps P (State.startPurge h lane plane rounds s) :=
  .purgeOver (.forAll (fun _ _ hs => hs.updCell) hs)
theorem Keeps.spitTest {q p} (hs : Keeps P s) : Keeps P (spitTest q p s) := by
  unfold Machine.spitTest
  exact .long (fun _ _ hs => .ite hs.startPurge hs.startRounds) hs
theorem Keeps.abortPurge {h c} (hs : Keeps P s) : Keeps P (State.abortPurge h c s) := by
  unfold State.abortPurge
  exact .updCell (.forAll (fun _ _ hs => hs.updLink) hs)
theorem Keeps.abortSpit {h} (hs : Keeps P s) : Keeps P (State.abortSpit h s) := by
  unfold State.abortSpit
  exact .finish (.forAll (fun _ _ hs => hs.abortPurge) (.forAll (fun _ _ hs => by split; exacts [hs, .ite hs hs.untest.dropHits.updGate]) hs))
theorem Keeps.servoCtl {q p} (hs : Keeps P s) : Keeps P (servoCtl q p s) :=
  .immediate (fun _ hs => .forAll (fun _ _ hs => hs.retarget) (.ite hs.updLane.skipTests hs.updLane)) hs
theorem Keeps.nozzleMark {q p} (hs : Keeps P s) : Keeps P (nozzleMark q p s) := .command (fun _ hs => hs.updCell) hs
theorem Keeps.servoHit {c n v vt} (hs : Keeps P s) : Keeps P (State.servoHit c n v vt s) := .ite hs (.ite hs.updCell hs.updNozzle)
theorem Keeps.detect {g c n hit} (hs : Keeps P s) : Keeps P (State.detect g c n hit s) :=
  .ite (.ite hs.updCell (.ite hs.updCell (.ite hs.updCell.updCell.gateEvt hs.updCell))) (.ite hs.updCell (.ite hs.updCell hs.updCell.updCell.gateEvt))
theorem Keeps.outcome {g t sp vt on} (hs : Keeps P s) : Keeps P (State.outcome g t sp vt on s) := by
  unfold State.outcome
  extract_lets _ _ _ hit s1 s2
  have h2 : Keeps P s2 := hs.updGate.updCell
  clear_value s2
  split
  · exact h2.detect
  · extract_lets _ shown s3 _ _ s4 s5
    have h3 : Keeps P s3 := .updGate (by dsimp only [shown]; split; exacts [h2, h2.fresh])
    clear_value s3
    have h4 : Keeps P s4 := .ite h3.servoHit h3
    clear_value s4
    exact .detect (.ite h4.updLink h4)
theorem Keeps.testWindowClose {g} (hs : Keeps P s) : Keeps P (testWindowClose g s) := by
  dsimp only [Machine.testWindowClose]
  split; exacts [hs, .ite hs (.settleRounds (by split; exacts [hs.at_.updGate.outcome, hs.at_.updGate.updGate]))]
theorem Keeps.interpLink {l} (hs : Keeps P s) : Keeps P (State.interpLink l s) := .ite hs hs.updLink
theorem Keeps.tempInterp {c} (hs : Keeps P s) : Keeps P (tempInterp c s) :=
  .ite (.forAll (fun _ _ hs => hs.interpLink.retarget) hs.updCell) hs
theorem Keeps.tfStep {c} (hs : Keeps P s) : Keeps P (tfStep c s) := .ite (.forAll (fun _ _ hs => hs.updLink) hs) hs

/-! ### Machine/Relay.lean -/

theorem Keeps.relayError {inj x} (hs : Keeps P s) : Keeps P (State.relayError inj x s) :=
  .ite hs.updPort.updChn.raise.faultInj hs.updPort.updChn
theorem Keeps.relayed {x fr} (hs : Keeps P s) : Keeps P (State.relayed s x fr).2 := by
  unfold State.relayed
  dsimp only
  split; exacts [hs.fresh, hs]
theorem Keeps.forward {x fr} (hs : Keeps P s) : Keeps P (State.forward x fr s) := .ite hs hs.relayed.updPort.send
theorem Keeps.forwardBroken {x fr} (hs : Keeps P s) : Keeps P (State.forwardBroken x fr s) := .ite hs hs.relayed.send
theorem Keeps.fwBlock {off data} (hs : Keeps P s) : Keeps P (fwBlock off data s) := by
  unfold Machine.fwBlock
  split; exacts [hs, .ite hs.rest hs]
theorem Keeps.deliver {x fr} (hs : Keeps P s) : Keeps P (State.deliver x fr s) := by
  unfold State.deliver
  split; exacts [hs.prlTimeSync, hs.probe, hs.probeReply, hs.join, hs.joinReply, hs.register, hs.prepare, hs.ack, hs.commitEpoch, hs.cancelEpoch,
    hs.batonReq, hs.batonMove, hs.claim, .ite hs.fwBlock hs, hs.alert, hs]
theorem Keeps.hello {x h crcOk} (hs : Keeps P s) : Keeps P (hello x h crcOk s) :=
  .ite (.ite hs.relayError.injDone (.ite hs.hearHello hs.relayError)) hs
theorem Keeps.prlFrame {x frame codeOk} (hs : Keeps P s) : Keeps P (prlFrame x frame codeOk s) :=
  .ite (.ite hs.sendOn (.ite hs hs.relayError)) (.ite hs (.ite (.relayError (.ite hs.forwardBroken hs)) (.ite hs (.ite (.ite hs.deliver hs) (.ite hs
    (.ite (.deliver (.updChn (.ite hs hs.forward))) (.ite hs hs.forward)))))))
theorem Keeps.chainStatus {q p} (hs : Keeps P s) : Keeps P (chainStatus q p s) := .immediate (fun _ hs => hs.freeBuf) hs
theorem Keeps.chainJoin {q p} (hs : Keeps P s) : Keeps P (chainJoin q p s) := by
  unfold Machine.chainJoin
  exact .long (fun _ _ hs => hs.updChn) hs
theorem Keeps.batonRequest {q p} (hs : Keeps P s) : Keeps P (batonRequest q p s) :=
  .long (fun _ _ hs => .ite hs.finish (.ite hs.contended hs.sendPrl)) hs
theorem Keeps.relayOnly {q p} (hs : Keeps P s) : Keeps P (relayOnly q p s) :=
  .immediate (fun _ hs => .ite hs.enterRelay (.ite hs.leaveRelay hs)) hs
theorem Keeps.levelEnable {q p} (hs : Keeps P s) : Keeps P (levelEnable q p s) := by
  unfold Machine.levelEnable
  exact .long (fun _ _ hs => .ite (.ite hs.setOl.finish hs.finish) hs.rest.registerChange) hs

/-! ### Machine/Heat.lean -/

theorem Keeps.endTakeovers {k} (hs : Keeps P s) : Keeps P (State.endTakeovers k s) := .forAll (fun _ _ hs => hs.failTakeover) hs
theorem Keeps.shutQuad {k head} (hs : Keeps P s) : Keeps P (State.shutQuad k head s) :=
  .ite hs.updQuad (.stopQuad (.skipTests (.endTakeovers (by split; exacts [hs.updQuad, hs.updQuad.finish]))))
theorem Keeps.shed {keep} (hs : Keeps P s) : Keeps P (State.shed keep s) :=
  .forAll (fun _ _ hs => hs.setDomain) (.forAll (fun _ _ hs => hs.quadOff) hs)
theorem Keeps.deviceStop {d} (hs : Keeps P s) : Keeps P (State.deviceStop d s) := .withGlb (.shed (.ite (hs.rest.fault.withGlb rfl) hs.fault)) rfl
theorem Keeps.pinActs {n old new} (hs : Keeps P s) : Keeps P (State.pinActs n old new s) :=
  .ite hs (.ite hs.updPin.raise.fault.shutQuad (.ite hs.updPin.raise.fault (.ite hs.updPin.raise.endCond hs.updPin.raise)))
theorem Keeps.dieActs {d old new} (hs : Keeps P s) : Keeps P (State.dieActs d old new s) :=
  .ite hs (.ite (.ite (.deviceStop (.forAll (fun _ _ hs => hs.shutQuad) hs.updDie.raise.fault)) (.forAll (fun _ _ hs => hs.shutQuad)
    hs.updDie.raise.fault)) (.ite hs.updDie.raise.fault (.ite hs.updDie.raise.endCond hs.updDie.raise)))
theorem Keeps.brokenActs {inst old new} (hs : Keeps P s) : Keeps P (State.brokenActs inst old new s) := .ite hs.fault (.ite hs.endCond hs)
theorem Keeps.settleSensors (hs : Keeps P s) : Keeps P (s.settleSensors) := hs.setCause
theorem Keeps.dropPin {n} (hs : Keeps P s) : Keeps P (State.dropPin n s) := .ite hs.updPin.endCond hs.updPin.endCond.endCond
theorem Keeps.readPins {m} (hs : Keeps P s) : Keeps P (State.readPins m s) :=
  .forAll (fun _ _ hs => by split; exacts [hs, hs.updPin.brokenActs.pinActs]) (.forAll (fun _ _ hs => hs.dropPin) hs)
theorem Keeps.readDie {m} (hs : Keeps P s) : Keeps P (State.readDie m s) :=
  .forAll (fun _ _ hs => by split; exacts [hs, hs.updDie.brokenActs.dieActs]) hs
theorem Keeps.readZones (hs : Keeps P s) : Keeps P (s.readZones) := .forAll (fun _ _ hs => hs.updQuad) hs
theorem Keeps.ladderDown (hs : Keeps P s) : Keeps P (s.ladderDown) :=
  .forAll (fun _ _ hs => hs.updQuad) (.forAll (fun _ _ hs => .ite hs hs.updQuad) hs)
theorem Keeps.readGaps (hs : Keeps P s) : Keeps P (s.readGaps) :=
  .forAll (fun _ _ hs => .ite hs.updQuad.fault (.ite hs.updQuad.endCond hs.updQuad)) hs
theorem Keeps.ladderHold {k} (hs : Keeps P s) : Keeps P (ladderHold k s) := by
  dsimp only [Machine.ladderHold]
  split; exacts [hs, .ite hs.at_.updQuad.settleClocks hs]
theorem Keeps.readRequests (hs : Keeps P s) : Keeps P (s.readRequests) :=
  .forAll (fun _ _ hs => .ite (.ite hs.updTreq.raise hs) hs.updTreq) hs
theorem Keeps.graceExpiry {p} (hs : Keeps P s) : Keeps P (graceExpiry p s) := by
  dsimp only [Machine.graceExpiry]
  split; exacts [hs, .ite hs.at_.updPacer.updTreq.raise hs]
theorem Keeps.rstepExpiry {p} (hs : Keeps P s) : Keeps P (rstepExpiry p s) := .ite hs.at_.updTreq.raise hs
theorem Keeps.throttleRelease {p} (hs : Keeps P s) : Keeps P (throttleRelease p s) := by
  dsimp only [Machine.throttleRelease]
  split; exacts [hs, .ite hs.at_.updPacer.updTreq.raise hs]
theorem Keeps.readRails {m} (hs : Keeps P s) : Keeps P (State.readRails m s) :=
  have h1 : Keeps P _ := .rest (.forAll (fun _ _ hs => .ite hs.fault.raise hs.faultInj) (.forAll (fun _ _ hs => hs.rest) (.forAll (fun _ _ hs =>
    hs.endCond) hs)))
  .ite h1 (.ite h1.rest h1.rest)
theorem Keeps.hkRoundStart (hs : Keeps P s) : Keeps P (hkRoundStart s) := .ite hs.rest hs
theorem Keeps.hkRoundEnd {m} (hs : Keeps P s) : Keeps P (hkRoundEnd m s) :=
  .ite (.ite hs.at_.rest.readRails.readPins.readDie.settleSensors
    hs.at_.rest.readRails.readPins.readDie.settleSensors.readZones.ladderDown.readGaps.settleClocks.readRequests) hs

/-! ### Machine/Faults.lean -/

theorem Keeps.setCore {i u} (hs : Keeps P s) : Keeps P (State.setCore i u s) := hs.rest
/-- A failed core's operations start again, the pulses of a fuse among them (R173). -/
theorem Keeps.again {fetch changes} (hs : Keeps P s) : Keeps P { s with
    fuse := { s.fuse with prog := s.fuse.prog.map (fun p => { p with pulses := 0 }) }, thn := { s.thn with fetch := fetch }, changes := changes } :=
  Keeps.rest (s := { s with fuse := { s.fuse with prog := s.fuse.prog.map (fun p => { p with pulses := 0 }) } })
    ⟨hs.steady, hs.steady.again hs.holds⟩
theorem Keeps.restartOps (hs : Keeps P s) : Keeps P (s.restartOps) :=
  .again (.foldl (fun _ _ hs => .forAll (fun _ _ hs => hs.restoreCell) hs) hs)
theorem Keeps.coreFails {inj src i} (hs : Keeps P s) : Keeps P (State.coreFails inj src i s) :=
  .ite (.queuesGoOn (.rest (.setCore (.ite hs.faultBy.raise.setRstCause hs.faultBy)))) (.ite (.queuesGoOn (.raise (.restartOps (.setCore (.rest
    (.setCore (.ite hs.faultBy.raise.setRstCause hs.faultBy))))))) (.setCause (.fault (.rest (.setCore (.ite hs.faultBy.raise.setRstCause
    hs.faultBy))))))
theorem Keeps.watchdogExpiry {i} (hs : Keeps P s) : Keeps P (watchdogExpiry i s) := .ite hs.coreFails hs
theorem Keeps.lockstepMismatch {i} (hs : Keeps P s) : Keeps P (lockstepMismatch i s) := .ite hs.coreFails hs
theorem Keeps.standbyReloadDone (hs : Keeps P s) : Keeps P (standbyReloadDone s) := by
  unfold Machine.standbyReloadDone
  split; exacts [hs, .ite hs (.ite hs.setRstCause.finishAll.setCore.endCond.endCond.rest hs.setRstCause.finishAll.setCore)]
theorem Keeps.entryFails {c i} (hs : Keeps P s) : Keeps P (State.entryFails c i s) := .ite hs.updLink hs
theorem Keeps.rewriteTable {c off} (hs : Keeps P s) : Keeps P (State.rewriteTable c off s) :=
  .ite (.ite hs.beginRefill hs) (.ite (.ite hs.beginRefill hs) hs)
theorem Keeps.tableUe {k off} (hs : Keeps P s) : Keeps P (State.tableUe k off s) := by
  dsimp only [State.tableUe]
  split; exacts [by split; exacts [hs.updCell.cellEvt, hs.updCell.cellEvt.failTakeover],
                      .rewriteTable (.ite (.entryFails (.retrim (by split; exacts [hs.updCell.cellEvt, hs.updCell.cellEvt.failTakeover]))) (.retrim
    (by split; exacts [hs.updCell.cellEvt, hs.updCell.cellEvt.failTakeover])))]
theorem Keeps.meterLost {detail} (hs : Keeps P s) : Keeps P (State.meterLost detail s) := by
  unfold State.meterLost
  split; exacts [hs.updMeter, hs.updMeter, hs.rest]
theorem Keeps.faultReport {src cls inst detail t} (hs : Keeps P s) : Keeps P (faultReport src cls inst detail t s) :=
  .ite (by split; exacts [.ite hs.at_.faultBy.updCell hs.at_.faultBy, .ite hs.at_.faultBy.tableUe hs.at_.faultBy,
             .ite (.ite (.ite hs.at_.faultBy.lockstepMismatch hs.at_.faultBy) (.ite hs.at_.faultBy.meterLost hs.at_.faultBy)) hs.at_.faultBy,
    hs.at_.faultBy]) hs
theorem Keeps.recordWriteDone (hs : Keeps P s) : Keeps P (recordWriteDone s) := by
  dsimp only [Machine.recordWriteDone]
  exact .ite hs (by split; exacts [hs, by split; exacts [hs.rest, hs.rest.writeRec.rest]])
theorem Keeps.clearFaults (hs : Keeps P s) : Keeps P (s.clearFaults) := hs.rest
theorem Keeps.quietExpiry {src} (hs : Keeps P s) : Keeps P (quietExpiry src s) := .ite hs.at_.recover hs
theorem Keeps.clearPers {src} (hs : Keeps P s) : Keeps P (State.clearPers src s) := .ite hs.updSrc hs.updSrc.setCause
theorem Keeps.aliveToggle (hs : Keeps P s) : Keeps P (aliveToggle s) := .ite hs.at_.rest hs
theorem Keeps.armInject (hs : Keeps P s) : Keeps P (s.armInject) := by
  dsimp only [State.armInject]
  exact .ite hs.rest (by split; exacts [by split; exacts [hs.rest, hs.rest.updCell], .ite hs.rest.coreFails hs.rest, .ite hs.rest.coreFails hs.rest,
                                             hs.rest.faultBy.rest, hs.rest])
theorem Keeps.injectionEnd (hs : Keeps P s) : Keeps P (injectionEnd s) := by
  unfold Machine.injectionEnd
  split; exacts [hs, .ite hs.at_.endCond.rest hs]

/-! ### Machine/Fuses.lean -/

theorem Keeps.fuseRead {q p} (hs : Keeps P s) : Keeps P (fuseRead q p s) :=
  .immediate (fun s hs => by by_cases hl : bit s.fuse.rl (pnum p 8 1) = true <;> simp only [hl]; exacts [hs, hs.dma]) hs
theorem Keeps.meterRead {q p} (hs : Keeps P s) : Keeps P (meterRead q p s) := .immediate (fun _ hs => hs.dma) hs
theorem Keeps.closePeriod {l h wall} (hs : Keeps P s) : Keeps P (State.closePeriod l h wall s) := hs.updMeter.rest
theorem Keeps.periodClose {q p} (hs : Keeps P s) : Keeps P (periodClose q p s) := by
  unfold Machine.periodClose
  exact .long (fun _ _ hs => .ite hs.rest.raise.finish hs.closePeriod) hs
theorem Keeps.sealRecord (hs : Keeps P s) : Keeps P (sealRecord s) := by
  unfold Machine.sealRecord
  split; exacts [hs, .ite hs (.ite hs.updMeter.rest (.raise (.ite hs.updMeter.rest.raiseIf.finish hs.updMeter.rest.raiseIf.finish)))]
theorem Keeps.recordRead {q p} (hs : Keeps P s) : Keeps P (recordRead q p s) := .immediate (fun _ hs => by split; exacts [hs, hs.dma]) hs

/-! ### Machine/Firmware.lean -/

theorem Keeps.fwLoad {q p} (hs : Keeps P s) : Keeps P (fwLoad q p s) := by
  unfold Machine.fwLoad
  exact .long (fun _ _ hs => hs.rest) hs
theorem Keeps.imageArrived {i ok x} (hs : Keeps P s) : Keeps P (State.imageArrived i ok x s) :=
  .ite (.ite hs.raise.setCore.setCore hs.raise.setCore) (.ite hs.raise.setCore hs.raise.setCore)
theorem Keeps.fwLoadDone {h x} (hs : Keeps P s) : Keeps P (fwLoadDone h x s) :=
  .ite hs (by split; exacts [hs.rest.imageArrived.finish.queuesGoOn, .ite hs.rest.imageArrived.queuesGoOn hs, hs])
theorem Keeps.chainbootFetch (hs : Keeps P s) : Keeps P (chainbootFetch s) := .ite (by split; exacts [hs.at_.rest, hs.at_.rest.rest]) hs
theorem Keeps.startSwap {h} (hs : Keeps P s) : Keeps P (State.startSwap h s) := hs.rest
theorem Keeps.fwActivate {q p} (hs : Keeps P s) : Keeps P (fwActivate q p s) :=
  .long (fun _ _ hs => by split; exacts [hs, .ite hs.finish hs.startSwap]) hs
theorem Keeps.coreSwap {q p} (hs : Keeps P s) : Keeps P (coreSwap q p s) := .long (fun _ _ hs => hs.startSwap) hs
theorem Keeps.coreSwapDone (hs : Keeps P s) : Keeps P (coreSwapDone s) := by
  unfold Machine.coreSwapDone
  split; exacts [.ite hs.setCore.setCore.rest.raise.finish.queuesGoOn hs, hs]
theorem Keeps.fwInfo {q p} (hs : Keeps P s) : Keeps P (fwInfo q p s) := .immediate (fun _ hs => hs.freeBuf) hs

/-! ### Machine/Device.lean -/

theorem Keeps.bufferCmd {op lane0 rom states n q p} (hs : Keeps P s) : Keeps P (bufferCmd op lane0 rom states n q p s) :=
  .immediate (fun _ hs => hs.freeBuf) hs
theorem Keeps.getLog {q p} (hs : Keeps P s) : Keeps P (getLog q p s) := .immediate (fun _ hs => hs.dma) hs
theorem Keeps.nop {q p} (hs : Keeps P s) : Keeps P (nop q p s) := .immediate (fun _ hs => hs) hs
theorem Keeps.handleQuery {q p} (hs : Keeps P s) : Keeps P (handleQuery q p s) := .immediate (fun _ hs => hs) hs
theorem Keeps.abortOp {q h} (hs : Keeps P s) : Keeps P (State.abortOp q h s).1 := by
  unfold State.abortOp
  split
  · exact hs
  · split
    · exact hs
    · split <;> dsimp only
      · exact hs.finish
      · exact Keeps.finish (s := { s with thn := { s.thn with fetch := none } }) hs.rest
      · exact hs.abortSpit
      · exact hs
theorem Keeps.abort {q p} (hs : Keeps P s) : Keeps P (abort q p s) := .immediate (fun _ hs => hs.abortOp) hs
theorem Keeps.moveQuads {m} (hs : Keeps P s) : Keeps P (State.moveQuads m s) :=
  .answer (.forAll (fun _ _ hs => .ite hs hs.updLane) (.forAll (fun _ _ hs => hs.updQuad) hs))
theorem Keeps.settleAssign (hs : Keeps P s) : Keeps P (s.settleAssign) := by
  unfold State.settleAssign
  split; exacts [hs, .ite hs.rest.answer.serveAll (.ite hs hs.rest.moveQuads.serveAll)]
theorem Keeps.quadAssign {q p} (hs : Keeps P s) : Keeps P (quadAssign q p s) :=
  .command (fun _ hs => .settleAssign (.rest (.forAll (fun _ _ hs => .ite hs.disableRing hs) hs))) hs
theorem Keeps.feedRestart {q p} (hs : Keeps P s) : Keeps P (feedRestart q p s) := .immediate (fun _ hs => hs.restartEngine) hs
theorem Keeps.faultClear {q p} (hs : Keeps P s) : Keeps P (faultClear q p s) := .immediate (fun _ hs => hs.clearFaults) hs

/-! ### Machine/Resets.lean -/

theorem Keeps.stopOp {o} (hs : Keeps P s) : Keeps P (State.stopOp o s) := by
  unfold State.stopOp
  split; exacts [.abortSpit (.foldl (fun _ _ hs => .forAll (fun _ _ hs => hs.restoreCell) hs) hs.rest), .rest (.foldl (fun _ _ hs => .forAll (fun _ _
    hs => hs.restoreCell) hs) hs.rest), .foldl (fun _ _ hs => .forAll (fun _ _ hs => hs.restoreCell) hs) hs.rest]
theorem Keeps.startReset {l issuer flr} (hs : Keeps P s) : Keeps P (State.startReset l issuer flr s) := by
  unfold State.startReset
  split
  · exact hs.updLane.updHost
  · extract_lets mine theirs s1 s2 s3 s4 s5 s6 printed cells s7 s8 busy s9 s10
    have h1 : Keeps P s1 := hs.fewer List.filter_sublist rfl rfl rfl
    have h3 : Keeps P s3 := .ite h1.updHost.rest h1.updHost
    have h5 : Keeps P s5 := .foldl (fun _ _ hs => hs.finish.stopOp) (.foldl (fun _ _ hs => hs.stopOp) h3)
    have h6 : Keeps P s6 := .forAll (fun _ _ hs => hs.updCell) h5
    have h8 : Keeps P s8 := .forAll (fun _ _ hs => hs.limitLane) (.forAll (fun _ _ hs => hs.dropPrefetch) h6)
    have h10 : Keeps P s10 := .forAll (fun _ _ hs => hs.abandonLane) h8.updLane
    exact .ite h10.laneStopped h10
theorem Keeps.laneResetCmd {q p} (hs : Keeps P s) : Keeps P (laneResetCmd q p s) := .command (fun _ hs => hs.startReset.settleAssign) hs
theorem Keeps.resetEntry {l released i} (hs : Keeps P s) : Keeps P (State.resetEntry l released i s) :=
  .ite hs.post (.ite hs.writeEntry hs.updHost)
theorem Keeps.resetEntries {l released is_} (hs : Keeps P s) : Keeps P (State.resetEntries l released is_ s) :=
  .foldl (fun _ _ hs => hs.resetEntry) hs
theorem Keeps.clearEvents {l} (hs : Keeps P s) : Keeps P (State.clearEvents l s) := by
  unfold State.clearEvents
  exact hs.rest.updHost
theorem Keeps.laneCleared {l} (hs : Keeps P s) : Keeps P (State.laneCleared l s) := by
  unfold State.laneCleared
  exact .updLane (.forAll (fun _ _ hs => hs.emptyData.updBank) (.forAll (fun _ _ hs => hs.updRing) hs))
theorem Keeps.zeroLengthReadDone {l ok} (hs : Keeps P s) : Keeps P (zeroLengthReadDone l ok s) := by
  unfold Machine.zeroLengthReadDone
  split; exacts [hs, .ite (.setRstCause (.laneCleared (.updHost (.clearEvents (.resetEntries (.ite hs hs.aer)))))) hs]
theorem Keeps.setVfs {en num} (hs : Keeps P s) : Keeps P (State.setVfs en num s) :=
  .settle (.settleAssign (.forAll (fun _ _ hs => hs.startReset) (hs.withGlb rfl)))
theorem Keeps.numvfsWrite {en num} (hs : Keeps P s) : Keeps P (numvfsWrite en num s) := .ite hs.setVfs hs
theorem Keeps.noVfBar (hs : Keeps P s) : Keeps P { s with glb := { s.glb with vfBar := 0 } } := hs.withGlb rfl
theorem Keeps.flr {f} (hs : Keeps P s) : Keeps P (flr f s) :=
  .ite (.ite hs.updHost.startReset.setVfs.noVfBar hs.updHost.startReset.settleAssign) hs
theorem Keeps.d3hotEntry {f} (hs : Keeps P s) : Keeps P (d3hotEntry f s) := .ite hs.updHost hs
theorem Keeps.d0Return {f} (hs : Keeps P s) : Keeps P (d0Return f s) := .ite hs.updHost.settleFn hs
theorem Keeps.pendAll (hs : Keeps P s) : Keeps P (s.pendAll) := .foldl (fun _ _ hs => hs.updHost) hs
theorem Keeps.busReset (hs : Keeps P s) : Keeps P (s.busReset) := by
  unfold State.busReset
  extract_lets t u v
  have hu : Keeps P u := .feedClear hs.rest
  clear_value u
  exact .pendAll (hu.withGlb rfl)
theorem Keeps.conventionalReset {cause} (hs : Keeps P s) : Keeps P (conventionalReset cause s) :=
  .ite (.ite hs.busReset.settleAssign.setRstCause (hs.busReset.settleAssign.setRstCause.withGlb rfl)) hs
theorem Keeps.perstNDeassert {width} (hs : Keeps P s) : Keeps P (perstNDeassert width s) := .ite (hs.withGlb rfl) hs
theorem Keeps.tapInstruction {code} (hs : Keeps P s) : Keeps P (tapInstruction code s) := .ite (hs.withGlb rfl) hs

/-! ### Machine/Powerup.lean -/

theorem Keeps.upServices (hs : Keeps P s) : Keeps P (s.upServices) :=
  .forAll (fun _ _ hs => hs.updMotor) (.withGlb (.forAll (fun _ _ hs => hs.setDomain) hs) rfl)
theorem Keeps.bringUp {t0} (hs : Keeps P s) : Keeps P (State.bringUp t0 s) :=
  .forAll (fun _ _ hs => .forAll (fun _ _ hs => hs.quadUp) hs.at_) (.forAll (fun _ _ hs => hs.lsUp) hs.upServices.leaveRelay)
theorem Keeps.firstUp {t0} (hs : Keeps P s) : Keeps P (State.firstUp t0 s) := hs.bringUp.raiseIf
theorem Keeps.settleReady (hs : Keeps P s) : Keeps P (s.settleReady) := .ite (.endCond (.ite (.setRstCause (hs.withGlb rfl)) (hs.withGlb rfl))) hs
theorem Keeps.pllLockRetry {lock} (hs : Keeps P s) : Keeps P (pllLockRetry lock s) := .ite hs.firstUp hs
theorem Keeps.powerFail (hs : Keeps P s) : Keeps P (powerFail s) := .ite (hs.shed.withGlb rfl) hs
theorem Keeps.rootPllUnlock (hs : Keeps P s) : Keeps P (rootPllUnlock s) := by
  unfold Machine.rootPllUnlock
  extract_lets t u v w
  have hv : Keeps P v := .losePaths (.updChn (.forAll (fun _ _ hs => hs.dropPort) hs))
  clear_value v
  exact .ite (.fault (hv.withGlb rfl)) hs
theorem Keeps.chnOff (hs : Keeps P s) : Keeps P (s.chnOff) := hs.rest
theorem Keeps.relockState (hs : Keeps P s) : Keeps P (s.relockState) := hs.fewer (List.nil_sublist _) rfl rfl rfl
theorem Keeps.relockRestart (hs : Keeps P s) : Keeps P (relockRestart s) := .ite hs.relockState.bringUp hs
theorem Keeps.quadCalEnd {k} (hs : Keeps P s) : Keeps P (quadCalEnd k s) := by
  unfold Machine.quadCalEnd
  split; exacts [.ite hs (.ite hs.at_.updQuad.gatesCalibrated.updQuad.settleClocks.settleReady (.settleCycle (.settleClocks (.forAll (fun _ _ hs =>
    hs.beginReturn) hs.at_.updQuad.gatesCalibrated.updQuad)))), hs]
theorem Keeps.refillCell {x imgs c} (hs : Keeps P s) : Keeps P (State.refillCell x imgs c s) := hs.retrim.admitCell
theorem Keeps.refillFails {k h} (hs : Keeps P s) : Keeps P (State.refillFails k h s) := by
  unfold State.refillFails
  split; exacts [hs.updQuad, hs.updQuad.finish]
theorem Keeps.refillQuad {k data} (hs : Keeps P s) : Keeps P (State.refillQuad k data s) := by
  unfold State.refillQuad
  split; exacts [.ite (.settleCycle (.updQuad (.forAll (fun _ _ hs => hs.refillCell) hs))) hs.refillFails, .settleCycle (.updQuad (.foldl (fun _ _ hs
    => hs.refillSet) hs)), hs]
theorem Keeps.commandReadDone {r data} (hs : Keeps P s) : Keeps P (commandReadDone r data s) := by
  unfold Machine.commandReadDone
  refine .ite hs ?_
  split
  · exact hs.refillQuad
  · exact hs.refillRead
  · split
    · exact hs
    · split; exacts [.ite hs hs.commitRead, .ite hs hs.patchRead, hs.tempsetRead, hs]
theorem Keeps.aerAt {f cause} (hs : Keeps P s) : Keeps P (State.aerAt f cause s) := by
  unfold State.aerAt
  split; exacts [hs, hs.aer]
theorem Keeps.hostReadError {r cause} (hs : Keeps P s) : Keeps P (hostReadError r cause s) := by
  unfold Machine.hostReadError
  refine .ite hs ?_
  split
  · split; exacts [.ite hs.aerAt.refillQuad hs, hs]
  · split; exacts [hs, .ite hs.aerAt.refillRead hs]
  · split
    · exact hs
    · dsimp only
      split
      exacts [hs.aer.finish, hs.aer.finish, .ite hs hs.aer.finish, .ite hs hs.aerAt.refuseChange, .ite hs hs.aerAt.refuseChange, hs]
theorem Keeps.domainDone {h} (hs : Keeps P s) : Keeps P (State.domainDone h s) := hs.setRstCause.finish
theorem Keeps.resetCore {i} (hs : Keeps P s) : Keeps P (State.resetCore i s) := .setRstCause (.setCore (.ite hs.setCore.raise hs))
theorem Keeps.cycleOff {d h} (hs : Keeps P s) : Keeps P (State.cycleOff d h s) := .ite (.settleLsOff (hs.withGlb rfl)) (.setDomain (hs.withGlb rfl))
theorem Keeps.chainReset (hs : Keeps P s) : Keeps P (s.chainReset) := by
  unfold State.chainReset
  extract_lets t
  have ht : Keeps P t := .ite hs.endCond hs
  exact .raiseIf ht.chnOff.rest
theorem Keeps.domainGoes {d cycle force h} (hs : Keeps P s) : Keeps P (State.domainGoes d cycle force h s) := by
  unfold State.domainGoes
  extract_lets t
  have ht : Keeps P t := .ite hs.resetCore (.ite (.ite hs.feedClear (.ite hs.feedStop hs)) (.ite hs.rest
    (.ite (.ite hs.chainReset hs.chainReset.leaveRelay) (.ite hs (.foldl (fun _ _ hs => hs.bankLogicReset) hs)))))
  exact .ite hs.updQuad.stopQuad (.ite ht.cycleOff (.ite ht ht.domainDone))
theorem Keeps.cycleOn {d h} (hs : Keeps P s) : Keeps P (State.cycleOn d h s) := by
  have hu : Keeps P (({ s with glb := { s.glb with cycles := s.glb.cycles.filter (fun e => decide (e.1 ≠ d)) } } : State).setDomain d true) :=
    .setDomain (hs.withGlb rfl)
  exact .ite hu (.domainDone (.ite (.forAll (fun _ _ hs => hs.updMotor) hu) (.ite hu.lsUp.settleStarts (.ite hu.leaveRelay hu))))
theorem Keeps.regulatorReady {d} (hs : Keeps P s) : Keeps P (regulatorReady d s) :=
  .ite (by split; exacts [.ite hs.quadStart hs, .ite hs.supplyReached hs]) (by split; exacts [.ite hs.cycleOn hs, hs])
theorem Keeps.domainCommand {cycle q p} (hs : Keeps P s) : Keeps P (domainCommand cycle q p s) := by
  unfold Machine.domainCommand
  exact .long (fun _ _ hs => .ite hs.domainGoes hs.finish) hs
theorem Keeps.discLocked {err} (hs : Keeps P s) : Keeps P (discLocked err s) := .ite (.ite hs.trimBy hs.trimBy.setDisc) hs
theorem Keeps.discUnlocked {err} (hs : Keeps P s) : Keeps P (discUnlocked err s) := .ite hs.trimBy.setDisc hs

/-! ### Machine/RegWrite.lean -/

theorem Keeps.putClkCtl {v} (hs : Keeps P s) : Keeps P (State.putClkCtl v s) := .withGlb (.ite hs hs.setDisc) rfl
theorem Keeps.putGlb {a v} (hs : Keeps P s) : Keeps P (State.putGlb a v s) :=
  .ite hs.putClkCtl (.ite (hs.withGlb rfl) (by split; exacts [hs.updQuad.requestQuad, hs.setDbgWin, hs.selectGate, hs.updBank, hs]))
theorem Keeps.putStat {f w v} (hs : Keeps P s) : Keeps P (State.putStat f w v s) := .settle (.rest (.ite hs hs.stray))
theorem Keeps.putEn {f w v} (hs : Keeps P s) : Keeps P (State.putEn f w v s) :=
  .settle (.foldl (fun _ _ hs => .ite hs.signal hs) (.rest (.ite hs hs.stray)))
theorem Keeps.putMap {src v} (hs : Keeps P s) : Keeps P (State.putMap src v s) := hs.rest.settle
theorem Keeps.putVec {f v off x} (hs : Keeps P s) : Keeps P (State.putVec f v off x s) := hs.updHost.settleFn
theorem Keeps.putEvt {f a v} (hs : Keeps P s) : Keeps P (State.putEvt f a v s) := by
  unfold State.putEvt
  split; exacts [hs.putStat, hs.putEn, .ite hs.putMap hs.stray, hs.putVec, .ite hs.updHost.drain.serveAll hs.updHost]
theorem Keeps.queueBell {f l off v unknown} (hs : Keeps P s) : Keeps P (State.queueBell f l off v unknown s) :=
  .ite hs (.ite hs.stray (.ite hs (.ite hs.updHost.serveAll hs.updHost.drain.serveAll)))
theorem Keeps.putInj {v} (hs : Keeps P s) : Keeps P (State.putInj v s) := .ite hs.rest.armInject hs.rest
theorem Keeps.putFlt {a v} (hs : Keeps P s) : Keeps P (State.putFlt a v s) :=
  .ite hs.rest (.ite hs.rest (.ite hs.putInj (.ite hs.rest (by split; exacts [.ite hs.updSrc.clearPers hs.updSrc, hs]))))
theorem Keeps.putHk {a v} (hs : Keeps P s) : Keeps P (State.putHk a v s) :=
  .ite hs.rest (.ite hs.rest (by split; exacts [hs.rest, hs.updPin, hs.updPin, hs.updPin, by split; exacts [hs.updPin, hs.updDie, hs]]))
theorem Keeps.realign {p} (hs : Keeps P s) : Keeps P (State.realign p s) := by
  unfold State.realign
  split; exacts [hs, hs.updPacer]
theorem Keeps.putRefCfg {p v} (hs : Keeps P s) : Keeps P (State.putRefCfg p v s) :=
  .ite (.ite hs.updPacer hs) (.ite (.realign (.updPacer (.ite hs.updPacer hs))) (.updPacer (.ite hs.updPacer hs)))
theorem Keeps.putPos {a v} (hs : Keeps P s) : Keeps P (State.putPos a v s) := by
  unfold State.putPos
  split; exacts [hs.updEnc, hs.updTrig, .ite hs.putRefCfg (.ite hs.updPacer hs), hs]
theorem Keeps.putPacer {a v} (hs : Keeps P s) : Keeps P (State.putPacer a v s) := by
  unfold State.putPacer
  split; exacts [.ite hs.updPacer (.ite (.ite hs.updPacer.realign hs.updPacer) hs), hs]
theorem Keeps.putChn {a v} (hs : Keeps P s) : Keeps P (State.putChn a v s) := .ite hs.updChn.leadRule hs
theorem Keeps.putMeter {a v} (hs : Keeps P s) : Keeps P (State.putMeter a v s) := by
  unfold State.putMeter
  split; exacts [by split; exacts [.ite hs hs.updMeter, hs], hs]
theorem Keeps.putRingCfg {f r v} (hs : Keeps P s) : Keeps P (State.putRingCfg f r v s) :=
  .ite hs.updRing.enableRing (.ite hs.updRing.disableRing hs.updRing)
theorem Keeps.putFeed {f a v} (hs : Keeps P s) : Keeps P (State.putFeed f a v s) :=
  .ite hs.updHost (.ite (.ite hs.stray (.ite hs.putRingCfg hs.updRing)) hs)
theorem Keeps.snapshot {c v} (hs : Keeps P s) : Keeps P (State.snapshot c v s) := by
  unfold State.snapshot
  exact hs.updCell
theorem Keeps.putLinkCtl {l v} (hs : Keeps P s) : Keeps P (State.putLinkCtl l v s) :=
  .ite (.linkGoesDown (.ite hs.updLink.sendCtl hs.updLink)) (.ite hs.updLink.sendCtl hs.updLink)
theorem Keeps.putLink {f l off locked v} (hs : Keeps P s) : Keeps P (State.putLink f l off locked v s) :=
  .ite hs.putLinkCtl (.ite hs.updLink (.ite hs.updLink hs))
theorem Keeps.putGate {g off v} (hs : Keeps P s) : Keeps P (State.putGate g off v s) :=
  .ite (.ite hs hs.updGate) (.ite (.ite (.recalGate (.ite hs hs.updGate)) (.ite hs hs.updGate)) (.ite hs.updGate hs))
theorem Keeps.putCell {f c a v} (hs : Keeps P s) : Keeps P (State.putCell f c a v s) :=
  .ite hs.updCell (.ite hs (.ite hs.updCell (.ite hs.snapshot (.ite (.ite hs.updCell hs) (.ite hs.updCell (.ite (.ite (.forAll (fun _ _ hs =>
    hs.retarget) hs.updCell) hs) (by split; exacts [hs.putLink, by split; exacts [hs, .ite hs.putGate hs], hs])))))))
theorem Keeps.regPut {f a v} (hs : Keeps P s) : Keeps P (State.regPut f a v s) := by
  unfold State.regPut
  generalize blockOf a = b
  cases b with
  | ringBell => exact .ite hs.feedDoorbell hs
  | mot => cases slotAt (a - 0x320000) 0 0x40 8; exacts [hs, hs.updMotor]
  | glb => exact hs.putGlb
  | queueBell => exact hs.queueBell
  | evt => exact hs.putEvt
  | flt => exact hs.putFlt
  | hk => exact hs.putHk
  | pos => exact hs.putPos
  | pacer => exact hs.putPacer
  | chn => exact hs.putChn
  | meter => exact hs.putMeter
  | feed => exact hs.putFeed
  | cell c => exact hs.putCell
  | fuse => exact hs
  | gap => exact hs

/-! ### Machine/Access.lean -/

theorem Keeps.hostReadPair {f a} (hs : Keeps P s) : Keeps P (State.hostReadPair f a s) := by
  unfold State.hostReadPair
  exact hs.updHost
theorem Keeps.hostReadReg {f a} (hs : Keeps P s) : Keeps P (State.hostReadReg f a s) := by
  unfold State.hostReadReg
  exact hs.updHost
theorem Keeps.perform {f x} (hs : Keeps P s) : Keeps P (State.perform f x s) :=
  .ite (by split; exacts [hs.updHost, hs.stray, hs.updHost, hs.stray, hs.stray, hs, hs, hs])
    (by split; exacts [hs.hostReadReg, hs.regPut, hs.hostReadPair, hs.regPut.regPut, hs.queueBell, hs.aer, hs.dbgReadNow, hs.dbgWriteNow])
theorem Keeps.access {f x} (hs : Keeps P s) : Keeps P (State.access f x s) := .ite hs (.ite hs.aer (.ite hs.updHost hs.perform))
theorem Keeps.write {f a v} (hs : Keeps P s) : Keeps P (State.write f a v s) := hs.access
theorem Keeps.completeHeld {f n} (hs : Keeps P s) : Keeps P (State.completeHeld f n s) := by
  induction n generalizing s with
  | zero => exact hs
  | succ n ih =>
    unfold State.completeHeld
    split
    · exact hs
    · exact .ite hs (ih hs.updHost.perform)
theorem Keeps.coreReadNow {i a wide} (hs : Keeps P s) : Keeps P (State.coreReadNow i a wide s) := by
  unfold State.coreReadNow
  exact hs.setCore
theorem Keeps.coreRead {i a wide} (hs : Keeps P s) : Keeps P (State.coreRead i a wide s) := .ite hs (.ite hs.setCore hs.coreReadNow)
theorem Keeps.completeCore {i n} (hs : Keeps P s) : Keeps P (State.completeCore i n s) := by
  induction n generalizing s with
  | zero => exact hs
  | succ n ih =>
    unfold State.completeCore
    split
    · exact hs
    · exact .ite hs (ih hs.setCore.coreReadNow)
theorem Keeps.hungAccessComplete {rq} (hs : Keeps P s) : Keeps P (hungAccessComplete rq s) := by
  unfold Machine.hungAccessComplete
  split; exacts [.ite hs.completeHeld hs, .ite hs.completeCore hs]
theorem Keeps.readBy {rq a wide} (hs : Keeps P s) : Keeps P (State.readBy rq a wide s) := by
  unfold State.readBy
  split; exacts [hs.access, hs.coreRead]
theorem Keeps.msixConditionClear {f c} (hs : Keeps P s) : Keeps P (msixConditionClear f c s) := by
  unfold Machine.msixConditionClear
  split; exacts [.ite hs.updHost.settleFn hs, .ite hs.updHost.settleFn hs, hs.write]
theorem Keeps.registerWrite {f a v} (hs : Keeps P s) : Keeps P (registerWrite f a v s) := by
  unfold Machine.registerWrite
  split; exacts [hs.write, hs.access]
theorem Keeps.completerAbort {f a size dir} (hs : Keeps P s) : Keeps P (completerAbort f a size dir s) := by
  unfold Machine.completerAbort
  split; exacts [hs.access, hs.access]
theorem Keeps.idle (hs : Keeps P s) : Keeps P (idle s) := .ite hs.rest hs

end

/-! ### Fuses and the power flag -/

/-- A steady property that the commands which touch the fuses or the power flag keep as well. -/
structure SteadyInFuses (P : State → Prop) : Prop extends Steady P where
  fuseProgram : ∀ {s : State} (q : LaneIx) (p : Packet), P s → P (fuseProgram q p s)
  fuseLock : ∀ {s : State} (q : LaneIx) (p : Packet), P s → P (fuseLock q p s)
  fusePulseDone : ∀ {s : State} (ok : Bool), P s → P (fusePulseDone ok s)
  bootEpochProgram : ∀ {s : State} (ok : Bool), P s → P (bootEpochProgram ok s)
  coldPowerUp : ∀ {s : State} (cause : ColdCause) (lock : Bool), P s → P (coldPowerUp cause lock s)
  prstNPulse : ∀ {s : State} (ns : Nat), P s → P (prstNPulse ns s)

section
variable {P : State → Prop} {s : State}

/-- An answer of the model leaves a state with the property, where it leaves one. -/
def Leaves (P : State → Prop) (o : Host.Outcome State Fault Refusal) : Prop := ∀ t, o = .next t → P t

theorem Leaves.holds (h : P s) : Leaves P (.next s) := fun _ ht => Host.Outcome.next.inj ht ▸ h

theorem Leaves.next (hs : Keeps P s) : Leaves P (.next s) := .holds hs.holds

/-- Every command keeps such a property. -/
theorem SteadyInFuses.exec (hP : SteadyInFuses P) (h : P s) (i : Instr) : Leaves P (exec i s) := by
  have hs : Keeps P s := ⟨hP.toSteady, h⟩
  cases i with
  | identify => exact .next hs.bufferCmd
  | getLog => exact .next hs.getLog
  | deviceStatus => exact .next hs.bufferCmd
  | nop => exact .next hs.nop
  | laneReset => exact .next hs.laneResetCmd
  | quadAssign => exact .next hs.quadAssign
  | laneStatus => exact .next hs.bufferCmd
  | handleQuery => exact .next hs.handleQuery
  | abort => exact .next hs.abort
  | configLoad => exact .next hs.configLoad
  | configLoadDone => exact .next hs.configLoadDone
  | configCommit => exact .next hs.configCommit
  | configPatch => exact .next hs.configPatch
  | configReload => exact .next hs.configReload
  | configRead => exact .next hs.configRead
  | configDiscard => exact .next hs.configDiscard
  | printStart => exact .next hs.printStart
  | printStop => exact .next hs.printStop
  | setSpeed => exact .next hs.setSpeed
  | setCeiling => exact .next hs.setCeiling
  | windowArm => exact .next hs.windowArm
  | alignSet => exact .next hs.alignSet
  | spitTest => exact .next hs.spitTest
  | tempsetLoad => exact .next hs.tempsetLoad
  | nozzleMark => exact .next hs.nozzleMark
  | servoCtl => exact .next hs.servoCtl
  | motorBind => exact .next hs.motorBind
  | motorEnable => exact .next hs.motorEnable
  | motorStop => exact .next hs.motorStop
  | motorCal => exact .next hs.motorCal
  | chainStatus => exact .next hs.chainStatus
  | chainJoin => exact .next hs.chainJoin
  | batonRequest => exact .next hs.batonRequest
  | relayOnly => exact .next hs.relayOnly
  | levelEnable => exact .next hs.levelEnable
  | meterRead => exact .next hs.meterRead
  | periodClose => exact .next hs.periodClose
  | recordRead => exact .next hs.recordRead
  | fuseRead => exact .next hs.fuseRead
  | fuseProgram => exact .holds (hP.fuseProgram _ _ h)
  | fuseLock => exact .holds (hP.fuseLock _ _ h)
  | domainReset => exact .next hs.domainCommand
  | domainCycle => exact .next hs.domainCommand
  | spareTakeover => exact .next hs.spareTakeover
  | spareReturn => exact .next hs.spareReturn
  | selftestCtl => exact .next hs.selftestCtl
  | feedRestart => exact .next hs.feedRestart
  | faultClear => exact .next hs.faultClear
  | fwLoad => exact .next hs.fwLoad
  | fwLoadDone => exact .next hs.fwLoadDone
  | fwActivate => exact .next hs.fwActivate
  | coreSwap => exact .next hs.coreSwap
  | fwInfo => exact .next hs.fwInfo
  | sqTail => exact .next hs.access
  | cqHead => exact .next hs.write
  | feedDoorbell => exact .next hs.write
  | qpEnable => exact .next hs.write
  | ringEnable => exact .next hs.write
  | ringDisable => exact .next hs.write
  | vsetWrite => exact .next hs.write
  | divreqWrite => exact .next hs.write
  | skipWrite => exact .next hs.write
  | pcieClkmodeWrite => exact .next hs.write
  | discEnWrite => exact .next hs.write
  | debugWindowRead => exact .next hs.access
  | debugWindowWrite => exact .next hs.access
  | evtStatWrite => exact .next hs.write
  | evtEnWrite => exact .next hs.write
  | evtMapWrite => exact .next hs.write
  | msixConditionClear => exact .next hs.msixConditionClear
  | lowWordRead => exact .next hs.readBy
  | highWordRead => exact .next hs.readBy
  | idxarm => exact .next hs.write
  | forceback => exact .next hs.write
  | pvselSnapshot => exact .next hs.write
  | linkEnWrite => exact .next hs.write
  | retrain => exact .next hs.write
  | gateselWrite => exact .next hs.write
  | recal => exact .next hs.write
  | dutyCommit => exact .next hs.write
  | fltInjArm => exact .next hs.write
  | persClear => exact .next hs.write
  | precEnable => exact .next hs.write
  | precDisable => exact .next hs.write
  | registerWrite => exact .next hs.registerWrite
  | completerAbort => exact .next hs.completerAbort
  | hungAccessComplete => exact .next hs.hungAccessComplete
  | conventionalReset => exact .next hs.conventionalReset
  | flr => exact .next hs.flr
  | numvfsWrite => exact .next hs.numvfsWrite
  | d3hotEntry => exact .next hs.d3hotEntry
  | d0Return => exact .next hs.d0Return
  | hostReadError => exact .next hs.hostReadError
  | descriptorArrival => exact .next hs.descriptorArrival
  | channelStart => exact .next hs.channelStart
  | readCompletion => exact .next hs.readCompletion
  | burstAck => exact .next hs.burstAck.settleAssign
  | channelComplete => exact .next hs.channelComplete
  | busErrorStop => exact .next hs.busErrorStop.settleAssign
  | creditWindow => exact .next hs.creditWindow
  | scrubRead => exact .next hs.scrubRead
  | rowRepair => exact .next hs.rowRepair
  | configCheck => exact .next hs.configCheck
  | dataLineStart => exact .next hs.dataLineStart
  | dataLineProcessed => exact .next hs.dataLineProcessed
  | exchangeArrival => exact .next hs.exchangeArrival
  | takeoverFail => exact .next hs.takeoverFail
  | selftestTick => exact .next hs.selftestTick
  | selftestDone => exact .next hs.selftestDone
  | cellBoundaryTimer => exact .next hs.cellBoundaryTimer
  | encoderEdge => exact .next hs.encoderEdge
  | pairFault => exact .next hs.pairFault
  | index => exact .next hs.index
  | speedWindow => exact .next hs.speedWindow
  | still => exact .next hs.still
  | edgeLearn => exact .next hs.edgeLearn
  | edgeOverdue => exact .next hs.edgeOverdue
  | pacerLineBoundary => exact .next hs.pacerLineBoundary
  | pacerMark => exact .next hs.pacerMark
  | fillTimer => exact .next hs.fillTimer
  | strobeCommit => exact .next hs.strobeCommit
  | strobeRelease => exact .next hs.strobeRelease
  | strobeDrop => exact .next hs.strobeDrop
  | latchLoad => exact .next hs.latchLoad
  | llAck => exact .next hs.llAck
  | llAckTimeout => exact .next hs.llAckTimeout
  | referenceLoss => exact .next hs.referenceLoss
  | referenceRequalified => exact .next hs.referenceRequalified
  | drlim => exact .next hs.drlim
  | triggerEdge => exact .next hs.triggerEdge
  | productRecord => exact .next hs.productRecord
  | linkTraining => exact .next hs.linkTraining
  | longRetry => exact .next hs.longRetry
  | headLinkDown => exact .next hs.headLinkDown
  | status => exact .next hs.status
  | hlTimeSync => exact .next hs.hlTimeSync
  | configResend => exact .next hs.configResend
  | governorRelease => exact .next hs.governorRelease
  | gatePulse => exact .next hs.gatePulse
  | gateCalEnd => exact .next hs.gateCalEnd
  | testLine => exact .next hs.testLine
  | testWindowClose => exact .next hs.testWindowClose
  | tempInterp => exact .next hs.tempInterp
  | tfStep => exact .next hs.tfStep
  | quadCalEnd => exact .next hs.quadCalEnd
  | loopPeriod => exact .next hs.loopPeriod
  | motorStart => exact .next hs.motorStart
  | startAttemptFail => exact .next hs.startAttemptFail
  | startRetryGap => exact .next hs.startRetryGap
  | stopComplete => exact .next hs.stopComplete
  | brakeTimeout => exact .next hs.brakeTimeout
  | portTraining => exact .next hs.portTraining
  | portDown => exact .next hs.portDown
  | helloSend => exact .next hs.helloSend
  | hello => exact .next hs.hello
  | prlFrame => exact .next hs.prlFrame
  | prlTimeSync => exact .next hs.prlTimeSync
  | probeSend => exact .next hs.probeSend
  | probe => exact .next hs.probe
  | probeReply => exact .next hs.probeReply
  | join => exact .next hs.join
  | joinReply => exact .next hs.joinReply
  | joinTimeout => exact .next hs.joinTimeout
  | register => exact .next hs.register
  | prepare => exact .next hs.prepare
  | ack => exact .next hs.ack
  | commit => exact .next hs.commitEpoch
  | cancel => exact .next hs.cancelEpoch
  | epochBoundary => exact .next hs.epochBoundary
  | batonReq => exact .next hs.batonReq
  | batonMove => exact .next hs.batonMove
  | timeSyncLoss => exact .next hs.timeSyncLoss
  | claim => exact .next hs.claim
  | claimTimer => exact .next hs.claimTimer
  | fwBlock => exact .next hs.fwBlock
  | alert => exact .next hs.alert
  | discLocked => exact .next hs.discLocked
  | discUnlocked => exact .next hs.discUnlocked
  | hkRoundStart => exact .next hs.hkRoundStart
  | hkRoundEnd => exact .next hs.hkRoundEnd
  | graceExpiry => exact .next hs.graceExpiry
  | rstepExpiry => exact .next hs.rstepExpiry
  | throttleRelease => exact .next hs.throttleRelease
  | ladderHold => exact .next hs.ladderHold
  | coldPowerUp => exact .holds (hP.coldPowerUp _ _ h)
  | pllLockRetry => exact .next hs.pllLockRetry
  | powerFail => exact .next hs.powerFail
  | prstNPulse => exact .holds (hP.prstNPulse _ h)
  | rootPllUnlock => exact .next hs.rootPllUnlock
  | relockRestart => exact .next hs.relockRestart
  | tapInstruction => exact .next hs.tapInstruction
  | faultReport => exact .next hs.faultReport
  | recordWriteDone => exact .next hs.recordWriteDone
  | quietExpiry => exact .next hs.quietExpiry
  | watchdogExpiry => exact .next hs.watchdogExpiry
  | lockstepMismatch => exact .next hs.lockstepMismatch
  | standbyReloadDone => exact .next hs.standbyReloadDone
  | aliveToggle => exact .next hs.aliveToggle
  | bootEpochProgram => exact .holds (hP.bootEpochProgram _ h)
  | sealStep => exact .next hs.sealRecord
  | chainbootFetch => exact .next hs.chainbootFetch
  | regulatorReady => exact .next hs.regulatorReady
  | dividerChangeDone => exact .next hs.dividerChangeDone
  | pairFaultEnd => exact .next hs.pairFaultEnd
  | zeroLengthReadDone => exact .next hs.zeroLengthReadDone
  | commandReadDone => exact .next hs.commandReadDone
  | takeoverCopyDone => exact .next hs.takeoverCopyDone
  | coreSwapDone => exact .next hs.coreSwapDone
  | fusePulseDone => exact .holds (hP.fusePulseDone _ h)
  | motorCalDone => exact .next hs.motorCalDone
  | perstNDeassert => exact .next hs.perstNDeassert
  | injectionEnd => exact .next hs.injectionEnd

end

end Sys2Proof.Machine
end

section
/-! Every step takes the front command, and handles keep naming their queue (R164 to R166): neither rests on fuses or on the power flag. -/

namespace Sys2Proof.Machine

/-- The queue of commands is l, and where b holds, every handle names the queue that gave it. -/
structure Owned (l : List Instr) (b : Prop) (t : State) : Prop where
  pending : t.pending = l
  handles : b → HandlesOwned t

section
variable {l : List Instr} {b : Prop} {s t : State}

theorem Owned.fewer (h : Owned l b s) (ho : t.ops.Sublist s.ops) (hp : t.pending = s.pending) : Owned l b t :=
  ⟨hp.trans h.pending, fun hb o hm => h.handles hb o (ho.subset hm)⟩

theorem Owned.steady : Steady (Owned l b) where
  rest h ho hp _ _ := h.fewer ho hp
  begun h hq hh := ⟨h.pending, fun hb o hm => (List.mem_append.mp hm).elim (h.handles hb o) fun hm => List.mem_singleton.mp hm ▸ ⟨hq, hh⟩⟩
  again h := h.fewer (.refl _) rfl

/-- The fuses and the global registers may change as they will. -/
theorem Keeps.fuses {fuse glb} (hs : Keeps (Owned l b) s) : Keeps (Owned l b) { s with fuse := fuse, glb := glb } :=
  ⟨hs.steady, hs.holds.fewer (.refl _) rfl⟩

theorem Keeps.endProg {status} (hs : Keeps (Owned l b) s) : Keeps (Owned l b) (State.endProg status s) := by
  unfold State.endProg
  split; exacts [hs, hs.fuses.finish]
theorem Keeps.nextBit (hs : Keeps (Owned l b) s) : Keeps (Owned l b) (s.nextBit) := by
  unfold State.nextBit
  split; exacts [hs, .ite hs.endProg (.ite hs hs.endProg)]
theorem Keeps.startProg {p} (hs : Keeps (Owned l b) s) : Keeps (Owned l b) (State.startProg p s) := .ite hs.fuses.nextBit hs.fuses.endProg
theorem Keeps.fuseProgram {q p} (hs : Keeps (Owned l b) s) : Keeps (Owned l b) (fuseProgram q p s) := by
  unfold Machine.fuseProgram
  exact .long (fun _ _ hs => .ite hs.finish hs.startProg) hs
theorem Keeps.fuseLock {q p} (hs : Keeps (Owned l b) s) : Keeps (Owned l b) (fuseLock q p s) := by
  unfold Machine.fuseLock
  exact .long (fun _ _ hs => hs.startProg) hs
theorem Keeps.setProgBit {p i v} (hs : Keeps (Owned l b) s) : Keeps (Owned l b) (State.setProgBit p i v s) := .ite hs.fuses hs.fuses
theorem Keeps.fusePulseDone {ok} (hs : Keeps (Owned l b) s) : Keeps (Owned l b) (fusePulseDone ok s) := by
  unfold Machine.fusePulseDone
  split; exacts [hs, .ite hs (by split; exacts [hs.nextBit, .ite hs.setProgBit.fuses.nextBit (.ite hs.fuses hs.fresh.setProgBit.endProg)])]
theorem Keeps.exhaust (hs : Keeps (Owned l b) s) : Keeps (Owned l b) (s.exhaust) := hs.fuses.raise.setCause
theorem Keeps.bootEpochProgram {ok} (hs : Keeps (Owned l b) s) : Keeps (Owned l b) (bootEpochProgram ok s) :=
  .ite hs (.ite hs.fuses (.ite hs.fuses (.ite hs.fresh.fuses.exhaust hs.fresh.fuses)))
theorem Keeps.coldState (hs : Keeps (Owned l b) s) : Keeps (Owned l b) (s.coldState) := ⟨hs.steady, hs.holds.fewer (List.nil_sublist _) rfl⟩
theorem Keeps.coldPowerUp {cause lock} (hs : Keeps (Owned l b) s) : Keeps (Owned l b) (coldPowerUp cause lock s) :=
  .ite hs (.ite (.firstUp (.ite hs.coldState.fuses.exhaust hs.coldState.fuses)) (.fault (.ite hs.coldState.fuses.exhaust hs.coldState.fuses)))
theorem Keeps.prstNPulse {ns} (hs : Keeps (Owned l b) s) : Keeps (Owned l b) (prstNPulse ns s) :=
  .ite hs (.ite hs.coldState (.ite hs.rest.coldState hs.rest))

theorem Owned.steadyInFuses : SteadyInFuses (Owned l b) where
  toSteady := Owned.steady
  fuseProgram _ _ h := (Keeps.fuseProgram ⟨Owned.steady, h⟩).holds
  fuseLock _ _ h := (Keeps.fuseLock ⟨Owned.steady, h⟩).holds
  fusePulseDone _ h := (Keeps.fusePulseDone ⟨Owned.steady, h⟩).holds
  bootEpochProgram _ h := (Keeps.bootEpochProgram ⟨Owned.steady, h⟩).holds
  coldPowerUp _ _ h := (Keeps.coldPowerUp ⟨Owned.steady, h⟩).holds
  prstNPulse _ h := (Keeps.prstNPulse ⟨Owned.steady, h⟩).holds

theorem step_owned (s : State) : Leaves (Owned s.pending.tail (HandlesOwned s)) (step s) := by
  unfold step
  split
  · next hnil => exact .next (Keeps.idle ⟨Owned.steady, by rw [hnil]; rfl, id⟩)
  · next c rest hcons =>
    have hrest : Owned s.pending.tail (HandlesOwned s) { s with pending := rest } := ⟨by rw [hcons]; rfl, id⟩
    exact Owned.steadyInFuses.exec hrest c

end

/-- Settles O59: of the operations that a command is built of one alone adds a handle, which names its queue, and none touches the queue of
commands. -/
theorem everyStepTakesOneCommandAndKeepsHandles : Obligations.EveryStepTakesOneCommandAndKeepsHandles := fun s t ht =>
  ⟨(step_owned s t ht).pending, (step_owned s t ht).handles⟩

end Sys2Proof.Machine
end

section
/-! QP_CTL.EN written as 1 (R150): the write enables the queue pair, lets the waiting entries go and answers a packet of no row whose wait under
FENCE is over. -/

namespace Sys2Proof.Machine

/-- What a write of QP_CTL.EN does, whatever the queue pair was. -/
theorem qpEnable_serves {f : Nat} {s : State} (ha : Arrives f s) :
    qpEnable f s =
      (State.drain f ((s.updHost f (fun h => h.putQp 0x4014 1)).getHost f).waiting.length (s.updHost f (fun h => h.putQp 0x4014 1))).serveAll f := by
  have hslot : ∀ base size n : Nat, 0x4014 < base ∨ base + size * n ≤ 0x4014 → slotAt 0x4014 base size n = none := fun _ _ _ => slotAt_outside
  rw [qpEnable, State.write, show (0x204014 : Nat) = 0x200000 + 0x4014 from rfl, State.access_evt ha (by omega) (by omega) (.inr (by decide)),
    State.putEvt, hslot _ _ _ (by omega), hslot _ _ _ (by omega), hslot _ _ _ (by omega), hslot _ _ _ (by omega)]
  rfl

/-- The part with its host up and a core running. -/
def coreRuns : State :=
  { State.reset with
    glb := { State.reset.glb with powered := true, clk := setBit State.reset.glb.clk dHOST true, linkUp := true }
    thn := { State.reset.thn with a := { State.reset.thn.a with role := .active } } }

/-- That part, where queue 0, not enabled and with nothing waiting to be posted, holds a packet of no row
under a FENCE whose handles have all ended. -/
def fenceOverNotEnabled : State := coreRuns.updHost 0 (HostFn.setFence (some { cmd := none, tag := 0, handles := [] }))

theorem arrives_fenceOverNotEnabled : Arrives 0 fenceOverNotEnabled where
  reaches := by decide
  d0      := rfl
  free    := rfl

/-- The write lets the packet be answered, and none waits under FENCE any more. -/
theorem qpEnable_fenceOverNotEnabled : ((qpEnable 0 fenceOverNotEnabled).getHost 0).fence = none := by
  rw [qpEnable_serves arrives_fenceOverNotEnabled]
  decide +kernel

/-- Refutes O15: a write of QP_CTL.EN also answers a packet of no row whose wait under FENCE is over, so more than the entries that waited moves. -/
theorem not_queuePairsEnableEmpty : ¬ Obligations.QueuePairsEnableEmpty := by
  intro h
  obtain ⟨hvalid, -⟩ := h 0 fenceOverNotEnabled arrives_fenceOverNotEnabled rfl
  have hfence := congrArg (fun t : State => (t.getHost 0).fence) (Host.Outcome.next.inj (hvalid (by decide)))
  exact absurd (qpEnable_fenceOverNotEnabled.symm.trans hfence) (by decide)

end Sys2Proof.Machine
end

section
/-! Immediate commands that read out (R159, R161, R167, R168, R491, R509, R516): a buffer or nothing is written, one entry answers, and the plant
and the handles are left as they were. -/

namespace Sys2Proof.Machine

theorem SamePlant.thn {s t : State} (h : SamePlant s t) : t.thn = s.thn := (congrArg State.thn h :)

theorem SamePlant.corePosts {s t : State} (h : SamePlant s t) : t.corePosts = s.corePosts := by
  simp [State.corePosts, State.imageRuns, State.romServes, h.thn]

/-- Taking a packet moves a queue pair and nothing of the plant. -/
theorem samePlant_takeHead (s : State) (q : Nat) : SamePlant s (s.takeHead q) := rfl

/-- What a read-out does: its one entry over the memory m, with plant, handles and free values as they were. -/
structure ReadsOut (q : Nat) (p : Packet) (st : BitVec 16) (d : Nat) (m : Memory) (s t : State) : Prop where
  plant    : SamePlant s t
  ops      : t.ops = s.ops
  free     : t.free = s.free
  answered : Answered q p st d m s t

section
variable {c : Cmd} {q : LaneIx} {p : Packet} {body : State → State × BitVec 16 × Nat} {s b : State} {st : BitVec 16} {d : Nat} {fs : List Field}

/-- An immediate command that passes its checks and whose effect touches neither plant nor queues nor handles. -/
theorem immediate_leavesPlant (h : Served c.lane0 c.rom c.early fs q p s c.target0) (hc : c.check q.val p (s.takeHead q.val) = none)
    (hb : body (s.takeHead q.val) = (b, st, d)) (hp : SamePlant s b) (ho : b.ops = s.ops)
    (ha : (b.getHost q.val).Agrees ((s.takeHead q.val).getHost q.val)) :
    SamePlant s (immediate c q p body s) ∧ (immediate c q p body s).ops = s.ops ∧ (immediate c q p body s).free = b.free ∧
      Answered q.val p st d b.hostMem s (immediate c q p body s) := by
  obtain ⟨hplant, hops, hfree, hans⟩ := immediate_does h hc hb ha (hp.corePosts.trans (State.takes_posts h.takes))
  exact ⟨hp.trans hplant, hops.trans ho, hfree, hans⟩

/-- One that also writes m. -/
theorem immediate_readsOut {m : Memory} (h : Served c.lane0 c.rom c.early fs q p s c.target0) (hc : c.check q.val p (s.takeHead q.val) = none)
    (hb : body (s.takeHead q.val) = ({ s.takeHead q.val with hostMem := m }, st, d)) : ReadsOut q.val p st d m s (immediate c q p body s) := by
  obtain ⟨hplant, hops, hfree, hans⟩ := immediate_leavesPlant h hc hb rfl rfl (agrees_of_host rfl q.val)
  exact ⟨hplant, hops, hfree, hans⟩

/-- An immediate command that writes a buffer of n free bytes (log entry 3). -/
theorem immediate_writesBuffer {n : Nat} (h : Served c.lane0 c.rom c.early fs q p s c.target0) (hc : c.check q.val p (s.takeHead q.val) = none) :
    let t := immediate c q p (fun s => (s.freeBuf q.val (pnum p 8 8) n, stOk, 0)) s
    SamePlant s t ∧ t.ops = s.ops ∧ Answered q.val p stOk 0 (s.freeBuf q.val (pnum p 8 8) n).hostMem s t := by
  obtain ⟨hplant, hops, -, hans⟩ := immediate_leavesPlant (body := fun s => (s.freeBuf q.val (pnum p 8 8) n, stOk, 0)) h hc rfl rfl rfl
    (agrees_of_host rfl q.val)
  exact ⟨hplant, hops, hans⟩

end

/-- Settles O2: each of the five passes its checks and writes its buffer of free bytes. -/
theorem bufferCommandsAnswer : Obligations.BufferCommandsAnswer := fun _ _ _ =>
  ⟨fun h hs => ⟨⟨_, rfl, immediate_writesBuffer h (served_check h (.inr hs) rfl rfl rfl rfl)⟩,
      ⟨_, rfl, immediate_writesBuffer h (served_check h (.inr hs) rfl rfl rfl rfl)⟩⟩,
    fun h hs => ⟨⟨_, rfl, immediate_writesBuffer h (served_check h (.inr hs) rfl rfl rfl rfl)⟩,
      ⟨_, rfl, immediate_writesBuffer h (served_check h (.inr hs) rfl rfl rfl rfl)⟩⟩,
    fun h hs => ⟨_, rfl, immediate_writesBuffer h (served_check h (.inr hs.any) rfl rfl rfl rfl)⟩⟩

end Sys2Proof.Machine
end

section
/-! A command that waits under FENCE (R161) has its packet checked when its wait is over (R156; log entry 68), so a NOP with a byte that is not
valid answers BAD-PARAM and not SUCCESS. -/

namespace Sys2Proof.Machine

/-- A NOP whose FLAGS has a reserved bit (R155). -/
def reservedFlag : Packet := { lane := 0, flags := 4, tag := 0, param := 0 }

/-- The part with its host up and a core running, where queue 0 holds that NOP under a FENCE whose handles have all ended. -/
def reservedFlagWaits : State :=
  coreRuns.updHost 0 (HostFn.setFence (some { cmd := some (0x0100, reservedFlag), tag := 0, handles := [] }))

/-- The entry of the NOP has the status BAD-PARAM. -/
theorem nop_reservedFlag_badParam :
    ((nop 0 reservedFlag reservedFlagWaits).getHost 0).waiting.map (fun e => (e.status, e.detail)) = [(stBadParam, 3)] := by decide +kernel

/-- Refutes O3: the last clause does not ask that the bytes of the waiting NOP be valid, and one with a reserved bit in FLAGS answers
BAD-PARAM. -/
theorem not_readOutCommandsAnswer : ¬ Obligations.ReadOutCommandsAnswer := by
  intro h
  obtain ⟨-, -, -, -, -, -, hfence⟩ := h 0 reservedFlag reservedFlagWaits
  obtain ⟨-, hresumes⟩ := hfence (by decide +kernel)
  have hnop := hresumes { cmd := some (0x0100, reservedFlag), tag := 0, handles := [] } (by decide +kernel) rfl (by decide +kernel)
    (by decide +kernel) (by decide +kernel) (by decide +kernel) (by decide +kernel) (by decide +kernel) (by decide +kernel)
  have hentry := congrArg (fun t : State => (t.getHost 0).waiting.map (fun e => (e.status, e.detail))) (Host.Outcome.next.inj hnop)
  exact absurd (nop_reservedFlag_badParam.symm.trans hentry) (by decide +kernel)

end Sys2Proof.Machine
end

section
/-! Two entries of one command where CQ_LOG is above the largest size (R152, R153): CQ_TAIL has 16 bits, so with 2^20 entries it goes from 65,535
to 0 before the queue is at its end, and the room for two entries is gone after the first. -/

namespace Sys2Proof.Machine

/-- A packet of zeros: region 0, word 0, value 0. -/
def zeroPacket : Packet := { lane := 0, flags := 0, tag := 0, param := 0 }

/-- The part with its host up and a core running, the baton at hand and region 0 locked, and a completion queue of 2^20 entries whose CQ_TAIL is at
65,535: one packet can be taken, and 2^20 less 65,534 entries are free. -/
def oversizedQueue : State :=
  { coreRuns with chn := { coreRuns.chn with baton := true }, fuse := { coreRuns.fuse with wl := 1 } : State }.updHost 0
    (fun h => { h with en := true, cqLog := 20, cqTail := 0xFFFF, cqHead := 1, sqTail := 1 })

theorem room_oversizedQueue : RoomForTwo 0 oversizedQueue := by
  unfold RoomForTwo
  decide +kernel

/-- What every command with no field asks of the packet of zeros. -/
theorem served_oversizedQueue {fs : List Field} (hf : firstBad zeroPacket fs = none) : Served true false true fs 0 zeroPacket oversizedQueue where
  takes  := by decide +kernel
  free   := by decide +kernel
  fence  := .inl (by decide +kernel)
  rows   := by decide +kernel
  image  := .inr (by decide +kernel)
  ready  := .inl rfl
  class0 := fun _ => rfl
  lane   := by decide +kernel
  bytes  := hf

theorem inState_oversizedQueue : InState none zeroPacket oversizedQueue := ⟨by decide +kernel, nofun⟩

/-- The final entry of the holder's BATON-REQUEST waits, and host memory holds ACCEPTED alone. -/
theorem not_ended_batonRequest : ¬ Ended 0 zeroPacket stOk 0 id oversizedQueue (batonRequest 0 zeroPacket oversizedQueue) := by
  unfold Ended
  decide +kernel

/-- Refutes O8: the holder's BATON-REQUEST does not write its final entry where CQ_LOG is 20 and CQ_TAIL 65,535. -/
theorem not_commandsThatEndAtOnce : ¬ Obligations.CommandsThatEndAtOnce := by
  intro h
  obtain ⟨-, -, hbaton, -⟩ := h 0 zeroPacket oversizedQueue (by decide +kernel) room_oversizedQueue nofun
  obtain ⟨t, ht, hended, -⟩ := hbaton (served_oversizedQueue (by decide +kernel)) inState_oversizedQueue (by decide +kernel) (by decide +kernel)
    (by decide +kernel)
  obtain rfl := Host.Outcome.next.inj ht
  exact not_ended_batonRequest hended

/-- Nor is that of FUSE-PROGRAM of a locked region written. -/
theorem not_ended_fuseProgram : ¬ Ended 0 zeroPacket stFuseLocked 0 id oversizedQueue (fuseProgram 0 zeroPacket oversizedQueue) := by
  unfold Ended
  decide +kernel

/-- Refutes O9: FUSE-PROGRAM of a locked region does not write its final entry where CQ_LOG is 20 and CQ_TAIL 65,535. -/
theorem not_fuseCommandsBegin : ¬ Obligations.FuseCommandsBegin := by
  intro h
  obtain ⟨-, hlocked, -⟩ := h 0 zeroPacket oversizedQueue (by decide +kernel) inState_oversizedQueue (by decide +kernel)
  obtain ⟨t, ht, hended, -⟩ := hlocked (served_oversizedQueue (by decide +kernel)) (by decide +kernel) room_oversizedQueue nofun
  obtain rfl := Host.Outcome.next.inj ht
  exact not_ended_fuseProgram hended

end Sys2Proof.Machine
end

section
/-! Long commands that begin (R159, R164, R166, R168): what ACCEPTED leaves has the plant of before, and what each command starts is read off that. -/

namespace Sys2Proof.Machine

/-! ### What a start does -/

/-- A state with the same plant is the state with other fields through which the part answers and signals. -/
theorem SamePlant.eq_with {s t : State} (h : SamePlant s t) :
    t = { s with host := t.host, evt := t.evt, hostMem := t.hostMem, out := t.out, ops := t.ops, free := t.free } := by
  have hw := congrArg (fun x : State =>
    ({ x with host := t.host, evt := t.evt, hostMem := t.hostMem, out := t.out, ops := t.ops, free := t.free } : State)) h
  exact hw

/-- A start that leaves queue q, host memory and handles alone, and the plant as r has it. -/
structure Starts (q : Nat) (r a t : State) : Prop where
  plant : SamePlant r t
  queue : (t.getHost q).Agrees (a.getHost q)
  mem   : t.hostMem = a.hostMem
  ops   : t.ops = a.ops

theorem Starts.of_eq {q : Nat} {r a t u : State} (he : t = u) (h : Starts q r a u) : Starts q r a t := he ▸ h

section
variable {c : Cmd} {q : LaneIx} {p : Packet} {kind : State → OpKind} {start : W32 → State → State} {s r : State} {fs : List Field} {k : OpKind}

/-- A long command that passes its checks and finds a handle begins, with the plant that its start makes of s. -/
theorem long_begun (h : Served c.lane0 c.rom c.early fs q p s c.target0) (hc : c.check q.val p (s.takeHead q.val) = none)
    (hn : s.noHandle q.val = none) (hk : kind (s.takeHead q.val) = k)
    (hs : ∀ host evt hostMem out ops free,
      let a : State := { s with host := host, evt := evt, hostMem := hostMem, out := out, ops := ops, free := free }
      Starts q.val r a (start (s.nextHandle q.val) a)) :
    Begun q.val p k s (long c q p kind start s) ∧ SamePlant r (long c q p kind start s) := by
  obtain ⟨-, hplant, -⟩ := State.accept_begun (p := p) h.takes k
  generalize hA : (s.takeHead q.val).accept q.val p k = a at hplant
  obtain ⟨hr, hq, hm, ho⟩ : Starts q.val r a (start (s.nextHandle q.val) a) := by
    rw [hplant.eq_with]
    exact hs _ _ _ _ _ _
  obtain ⟨heq, hb⟩ := long_begins h hc hn hk hA rfl hq hm ho
  rw [heq]
  exact ⟨hb, hr⟩

end

/-! ### The commands -/

section
variable {q : LaneIx} {p : Packet} {s : State}

/-- CONFIG-LOAD (R257). -/
theorem configLoad_begun (hn : s.noHandle q.val = none) (h : Served false false false [fAny 8 8, fMax p 16 4 33554432, fMax p 20 1 1] q p s)
    (hs : InState none p s) (hh : s.held (.slot p.lane.toNat (pnum p 20 1)) = false) (hl : s.slotLocked p.lane.toNat (pnum p 20 1) = false) :
    Begun q.val p (.configLoad (pnum p 20 1) (BitVec.ofNat 64 (pnum p 8 8)) (pnum p 16 4)) s (configLoad q p s) ∧
      SamePlant (s.updLane p.lane.toNat (fun x => x.setSlot (pnum p 20 1) none)) (configLoad q p s) :=
  long_begun h (served_check h (.inr hs.any) rfl rfl (Bool.or_eq_false_iff.mpr ⟨hh, hl⟩) rfl) hn rfl
    fun _ _ _ _ _ _ => ⟨rfl, agrees_of_host rfl q.val, rfl, rfl⟩

/-- TEMPSET-LOAD of the right length (R393). -/
theorem tempsetLoad_begun (hn : s.noHandle q.val = none) (h : Served false false false [fMax p 8 1 4, fAny 16 8, fAny 24 4] q p s)
    (hs : InState stCP p s) (hh : s.held (.tset p.lane.toNat (pnum p 8 1)) = false)
    (hlen : pnum p 24 4 = 1024 * (s.cellsOf p.lane.toNat).length) :
    Begun q.val p (.tempsetLoad (pnum p 8 1) (BitVec.ofNat 64 (pnum p 16 8)) (pnum p 24 4)) s (tempsetLoad q p s) ∧
      SamePlant s (tempsetLoad q p s) :=
  long_begun h (served_check h (.inr hs) rfl rfl hh rfl) hn rfl
    fun _ _ _ _ _ _ => .of_eq (if_neg (not_not_intro hlen)) ⟨rfl, .refl _, rfl, rfl⟩

/-- FW-LOAD (R512, R528). -/
theorem fwLoad_begun {i : Nat} (hn : s.noHandle q.val = none)
    (h : Served true true true [fAny 8 8, if pnum p 20 1 = 1 then fAny 16 4 else fMax p 16 4 1048576, fMax p 20 1 1] q p s)
    (hs : InState none p s) (hh : s.held .core = false) (ht : s.loadTarget = some i) :
    Begun q.val p (.fwLoad (decide (pnum p 20 1 = 1)) (BitVec.ofNat 64 (pnum p 8 8)) (pnum p 16 4)) s (fwLoad q p s) ∧
      SamePlant { s with thn := { s.thn with fwSeen := true, fetch := if pnum p 20 1 = 1 then some (s.chn.syncPort, 0) else none } }
        (fwLoad q p s) := by
  have hbusy : (s.held .core || s.loadTarget.isNone) = false := by rw [hh, ht]; rfl
  unfold fwLoad
  dsimp only
  simp only [decide_eq_true_eq]
  exact long_begun h (served_check h (.inr hs) rfl rfl hbusy rfl) hn rfl fun _ _ _ _ _ _ => ⟨rfl, agrees_of_host rfl q.val, rfl, rfl⟩

/-- FW-ACTIVATE of an image that may run at this level (R172, R462). -/
theorem fwActivate_begun {x : FwInfo} (hn : s.noHandle q.val = none) (h : Served true false true [] q p s) (hs : InState none p s)
    (hh : s.held .core = false) (hx : s.standbyImage = some x) (hspan : s.chn.st = .member → spanOk s.minLevel s.maxLevel x.level.toNat = true) :
    Begun q.val p .fwActivate s (fwActivate q p s) ∧
      SamePlant { s with thn := { s.thn with paused := true, swap := some (s.nextHandle q.val) } } (fwActivate q p s) := by
  have hbad : s.standbyImage.isNone = false := by rw [hx]; rfl
  have hlevel : ¬ (s.chn.st = .member ∧ ¬ spanOk s.minLevel s.maxLevel x.level.toNat) := fun hm => hm.2 (hspan hm.1)
  refine long_begun h (served_check h (.inr hs) rfl rfl hh hbad) hn rfl fun host evt hostMem out ops free => ?_
  have himage : ({ s with host := host, evt := evt, hostMem := hostMem, out := out, ops := ops, free := free } : State).standbyImage = some x := hx
  dsimp only
  rw [himage]
  exact .of_eq (if_neg hlevel) ⟨rfl, agrees_of_host rfl q.val, rfl, rfl⟩

/-- CORE-SWAP between cores with one image (R172, R529). -/
theorem coreSwap_begun {j : Nat} (hn : s.noHandle q.val = none) (h : Served true false true [] q p s) (hs : InState none p s)
    (hh : s.held .core = false) (hj : s.standbyCore = some j) (hx : s.standbyImage = s.activeImage) :
    Begun q.val p .coreSwap s (coreSwap q p s) ∧
      SamePlant { s with thn := { s.thn with paused := true, swap := some (s.nextHandle q.val) } } (coreSwap q p s) := by
  have hbad : (s.standbyCore.isNone || decide (s.standbyImage ≠ s.activeImage)) = false := by rw [hj, decide_eq_false (not_not_intro hx)]; rfl
  exact long_begun h (served_check h (.inr hs) rfl rfl hh hbad) hn rfl fun _ _ _ _ _ _ => ⟨rfl, agrees_of_host rfl q.val, rfl, rfl⟩

/-- MOTOR-CAL of a stopped channel (R398). -/
theorem motorCal_begun (hn : s.noHandle q.val = none) (h : Served false false false [fMax p 8 1 7] q p s) (hs : InState none p s)
    (ho : channelOwn q p s = true) (hst : (s.getMotor (pnum p 8 1)).stopped = true) (hh : s.held (.channel (pnum p 8 1)) = false) :
    Begun q.val p (.motorCal (pnum p 8 1)) s (motorCal q p s) ∧
      SamePlant (s.updMotor (pnum p 8 1) (fun m => { m with st := .cal, brakeHeld := false })) (motorCal q p s) := by
  unfold motorCal
  exact long_begun h (served_check h (.inr hs) rfl ho (Bool.or_eq_false_iff.mpr ⟨congrArg (!·) hst, hh⟩) rfl) hn rfl
    fun _ _ _ _ _ _ => ⟨rfl, agrees_of_host rfl q.val, rfl, rfl⟩

/-- CHAIN-JOIN (R447). -/
theorem chainJoin_begun (hn : s.noHandle q.val = none) (h : Served true false true [fMax p 8 2 65534] q p s) (hs : InState none p s)
    (hr : s.chn.st ≠ .relayOnly) (hh : s.held .chain = false) (hp : s.anyPrint = false) :
    Begun q.val p (.chainJoin (BitVec.ofNat 16 (pnum p 8 2))) s (chainJoin q p s) ∧
      SamePlant { s with chn := { s.chn with
          st := .joining, baton := false, probeBack := false, joinAddr := BitVec.ofNat 16 (pnum p 8 2), probeAt := s.now } }
        (chainJoin q p s) := by
  unfold chainJoin
  exact long_begun h (served_check h (.inr hs) rfl rfl (Bool.or_eq_false_iff.mpr ⟨hh, hp⟩) (decide_eq_false hr)) hn rfl
    fun _ _ _ _ _ _ => ⟨rfl, agrees_of_host rfl q.val, rfl, rfl⟩

/-- A channel that MOTOR-ENABLE starts (R408, R422). -/
def Motor.enabled (full : Bool) (m : Motor) : Motor :=
  { m with
    st := if m.mode = 2 then .direct else .ready, profile := full, brakeHeld := false, ref := 0, rem := 0, trqRef := 0, tries := 0, ending := false
    rampStop := false, starting := false, gap := false, revRef := false, ovrRun := 0, spent := 0, loopCnt := 0, idRef := 0 }.gatesIdle

/-- MOTOR-ENABLE of a channel whose target asks for a start (R408, R420, R422). -/
theorem motorEnable_begun (hn : s.noHandle q.val = none) (h : Served false false false
      [fMax p 8 1 7, ⟨9, 1, decide (pnum p 9 1 ≤ 1) && !(decide (pnum p 9 1 ≠ 1) && decide ((s.getMotor (pnum p 8 1)).mode = 1))⟩] q p s)
    (hs : InState stCP p s) (ho : channelOwn q p s = true) (hst : (s.getMotor (pnum p 8 1)).stopped = true)
    (hh : s.held (.channel (pnum p 8 1)) = false)
    (hcal : pnum p 9 1 = 1 → (s.getMotor (pnum p 8 1)).failA = false ∧ (s.getMotor (pnum p 8 1)).failB = false ∧
      (s.getMotor (pnum p 8 1)).calValid = true)
    (hm : (s.getMotor (pnum p 8 1)).mode ≠ 2) (hw : s.wanted { s.getMotor (pnum p 8 1) with ending := false } ≠ 0) :
    Begun q.val p (.motorEnable (pnum p 8 1)) s (motorEnable q p s) ∧
      SamePlant (s.updMotor (pnum p 8 1) (Motor.enabled (decide (pnum p 9 1 = 1)))) (motorEnable q p s) := by
  have hfields : (!decide (pnum p 9 1 = 1) && decide ((s.getMotor (pnum p 8 1)).mode = 1)) =
      (decide (pnum p 9 1 ≠ 1) && decide ((s.getMotor (pnum p 8 1)).mode = 1)) := by simp
  have hpass : ¬ (decide (pnum p 9 1 = 1) && ((s.getMotor (pnum p 8 1)).failA || (s.getMotor (pnum p 8 1)).failB ||
      !(s.getMotor (pnum p 8 1)).calValid)) = true := by
    simp only [Bool.and_eq_true, decide_eq_true_eq, not_and]
    intro hfull
    obtain ⟨ha, hb, hv⟩ := hcal hfull
    simp [ha, hb, hv]
  have hmotor : (s.updMotor (pnum p 8 1) (Motor.enabled (decide (pnum p 9 1 = 1)))).getMotor (pnum p 8 1) =
      Motor.enabled (decide (pnum p 9 1 = 1)) (s.getMotor (pnum p 8 1)) := State.getMotor_updMotor ..
  have hstart : ¬ ((s.getMotor (pnum p 8 1)).mode = 2 ∨ (s.updMotor (pnum p 8 1) (Motor.enabled (decide (pnum p 9 1 = 1)))).wanted
      ((s.updMotor (pnum p 8 1) (Motor.enabled (decide (pnum p 9 1 = 1)))).getMotor (pnum p 8 1)) = 0) := by
    rw [hmotor]
    exact not_or.mpr ⟨hm, hw⟩
  have hbusy : (!(s.getMotor (pnum p 8 1)).stopped || s.held (.channel (pnum p 8 1))) = false := Bool.or_eq_false_iff.mpr ⟨congrArg (!·) hst, hh⟩
  unfold motorEnable
  exact long_begun h (served_check h (.inr hs) (by dsimp only; rw [← hfields]; rfl) ho hbusy rfl) hn rfl
    fun _ _ _ _ _ _ => .of_eq ((if_neg hpass).trans (if_neg hstart)) ⟨rfl, agrees_of_host rfl q.val, rfl, rfl⟩

/-- BATON-REQUEST of a unit without the baton (R449). -/
theorem batonRequest_begun (hn : s.noHandle q.val = none) (h : Served true false true [] q p s) (hs : InState none p s)
    (hr : s.chn.st ≠ .relayOnly) (hh : s.held .chain = false) (hb : s.holder = false) (hmove : s.chn.move = none) :
    Begun q.val p .batonRequest s (batonRequest q p s) ∧
      ∃ f : PrlFrame, ∃ o, (batonRequest q p s).out = .prl s.originPorts f.bytes :: o ∧ f.says (.batonReq s.unitId) = true := by
  obtain ⟨-, hplant, -⟩ := State.accept_begun (p := p) h.takes .batonRequest
  generalize hA : (s.takeHead q.val).accept q.val p .batonRequest = a at hplant
  have hb' : a.holder = false := by rw [hplant.eq_with]; exact hb
  have hmove' : a.chn.move = none := by rw [hplant.eq_with]; exact hmove
  have hports : a.originPorts = s.originPorts := by rw [hplant.eq_with]; rfl
  have hid : a.unitId = s.unitId := by rw [hplant.eq_with]; rfl
  have hsends : batonRequest q p s = a.sendPrl (.batonReq s.unitId) ∧ Begun q.val p .batonRequest s (a.sendPrl (.batonReq s.unitId)) := by
    refine long_begins h (served_check h (.inr hs) rfl rfl hh (decide_eq_false hr)) hn rfl hA ?_ (agrees_of_host rfl q.val) rfl rfl
    rw [hb', hmove', hid]
    rfl
  rw [hsends.1]
  refine ⟨hsends.2, a.frameOf (.batonReq s.unitId), a.out, ?_, ?_⟩
  · rw [← hports]
    rfl
  · simp [PrlFrame.says, State.frameOf]

/-- PERIOD-CLOSE (R517). -/
theorem periodClose_begun (hn : s.noHandle q.val = none) (h : Served false false true [fAny 8 8] q p s) (hs : InState stCP p s)
    (hh : s.held (.period p.lane.toNat) = false)
    (hseal : s.fuse.epochExh = true ∨ (s.meter.seqLost = false ∧ s.meter.seqNo + s.meter.closed.length < 2 ^ 48)) :
    Begun q.val p .periodClose s (periodClose q p s) ∧
      SamePlant (s.closePeriod p.lane.toNat (s.nextHandle q.val) (BitVec.ofNat 64 (pnum p 8 8))) (periodClose q p s) := by
  have hopen : ¬ (!s.fuse.epochExh && (s.meter.seqLost || decide (2 ^ 48 ≤ s.meter.seqNo + s.meter.closed.length))) = true := by
    rcases hseal with he | ⟨hl, hlt⟩
    · rw [he]
      exact nofun
    · rw [hl, decide_eq_false (Nat.not_le.mpr hlt), Bool.or_false, Bool.and_false]
      exact nofun
  unfold periodClose
  exact long_begun h (served_check h (.inr hs) rfl rfl hh rfl) hn rfl
    fun _ _ _ _ _ _ => .of_eq (if_neg hopen) ⟨rfl, agrees_of_host rfl q.val, rfl, rfl⟩

end

/-- Settles O6: each of the commands passes its checks, and what it starts is read off the plant that ACCEPTED leaves. -/
theorem loadCommandsBegin : Obligations.LoadCommandsBegin := by
  intro q p s hn
  dsimp only
  refine ⟨fun h hs hh hl => ⟨_, rfl, configLoad_begun hn h hs hh hl⟩, fun h hs hh hlen => ⟨_, rfl, tempsetLoad_begun hn h hs hh hlen⟩,
    fun i h hs hh ht => ⟨_, rfl, fwLoad_begun hn h hs hh ht⟩, fun x h hs hh hx hspan => ⟨_, rfl, fwActivate_begun hn h hs hh hx hspan⟩,
    fun j h hs hh hj hx => ⟨_, rfl, coreSwap_begun hn h hs hh hj hx⟩, fun h hs ho hst hh => ⟨_, rfl, motorCal_begun hn h hs ho hst hh⟩,
    fun h hs hr hh hp => ⟨_, rfl, chainJoin_begun hn h hs hr hh hp⟩, fun h hs ho hst hh hcal hm hw => ⟨_, rfl, ?_⟩,
    fun h hs hr hh hb hmove => ⟨_, rfl, batonRequest_begun hn h hs hr hh hb hmove⟩,
    fun h hs hh hseal => ⟨_, rfl, periodClose_begun hn h hs hh hseal⟩⟩
  obtain ⟨hbegun, hplant⟩ := motorEnable_begun hn h hs ho hst hh hcal hm hw
  refine ⟨hbegun, ?_⟩
  rw [hplant.getMotor, State.getMotor_updMotor]
  exact if_neg hm

end Sys2Proof.Machine
end

section
/-! Changes that begin (R210, R258 to R260, R294, R452, R455, R461, R535): CONFIG-COMMIT, CONFIG-PATCH, ALIGN-SET, PRINT-START, PRINT-STOP and
LEVEL-ENABLE for an epoch of which this unit has sent no PREPARE. -/

namespace Sys2Proof.Machine

/-- The change for handle h that a command adds: no PREPARE for it has come yet (R452). -/
def newChange (h : W32) (lane : Nat) (kind : ChangeKind) (ep : Nat) (cells : List Nat) (ready : Bool) : Change :=
  { lane := lane, kind := kind, ep := ep, cells := cells, handle := h, ready := ready, prepared := false, committed := false, windows := false }

/-- t is s with one more change behind its others, registered with the holder: chain state and frames sent may differ. -/
def Adds (ch : Change) (s t : State) : Prop :=
  ∃ chn out, t = { s with changes := s.changes ++ [ch], chn := chn, out := out }

theorem Adds.widthOk {ch : Change} {s t : State} (h : Adds ch s t) (l : Nat) (copies : List Copy) : t.widthOk l copies = s.widthOk l copies := by
  obtain ⟨_, _, rfl⟩ := h
  rfl

theorem Adds.getLane {ch : Change} {s t : State} (h : Adds ch s t) (l : Nat) : t.getLane l = s.getLane l := by
  obtain ⟨_, _, rfl⟩ := h
  rfl

/-- No PREPARE for epoch ep has gone out from this unit. -/
def State.epochOpen (s : State) (ep : Nat) : Prop := ∀ x ∈ s.chn.preps, x.ep ≠ ep

section
variable {s : State} {ep : Nat}

/-- A registration that the holder here does not refuse touches the chain and the frames alone (R452, R458, R461). -/
theorem State.registerChange_does {levelKind : Bool} {level : Byte} (ho : s.epochOpen ep)
    (hl : levelKind = true → s.holder = true →
      level.toNat ≤ (s.chn.known.map (fun m => m.level.toNat)).foldl min s.ownLevel ∧ level.toNat ≤ s.opLevel + 1) :
    ∃ chn out, s.registerChange ep levelKind level = { s with chn := chn, out := out } := by
  have hnone : s.chn.preps.any (fun x => decide (x.ep = ep)) = false := List.any_eq_false.mpr fun x hx => by simp [ho x hx]
  unfold State.registerChange
  split
  · exact ⟨s.chn, s.out, rfl⟩
  · split
    · next hh =>
      have hfits : ¬ (levelKind && (decide ((s.chn.known.map (fun m => m.level.toNat)).foldl min s.ownLevel < level.toNat) ||
          decide (s.opLevel + 1 < level.toNat))) = true := by
        cases hk : levelKind with
        | false => exact nofun
        | true =>
          obtain ⟨hlow, hop⟩ := hl hk hh
          simp [Nat.not_lt.mpr hlow, Nat.not_lt.mpr hop]
      unfold State.registerHere
      rw [hnone]
      dsimp only
      rw [if_neg Bool.false_ne_true, if_neg hfits]
      exact ⟨_, _, rfl⟩
    · exact ⟨_, _, rfl⟩

/-- Adding a change for an open epoch (R452). -/
theorem State.addChange_does {h : W32} {lane : Nat} {kind : ChangeKind} {cells : List Nat} {ready : Bool} (ho : s.epochOpen ep) :
    Adds (newChange h lane kind ep cells ready) s (s.addChange h lane kind ep cells ready) := by
  unfold State.addChange
  obtain ⟨chn, out, hreg⟩ := State.registerChange_does (levelKind := false) (level := 0) (s := { s with changes := s.changes ++ [_] }) ho nofun
  exact ⟨chn, out, hreg⟩

end

section
variable {c : Cmd} {q : LaneIx} {p : Packet} {kind : State → OpKind} {start : W32 → State → State} {s r : State} {fs : List Field} {k : OpKind}

/-- A long command that passes its checks, finds a handle and adds a change to the plant r. -/
theorem long_adds {ch : Change} (h : Served c.lane0 c.rom c.early fs q p s c.target0) (hc : c.check q.val p (s.takeHead q.val) = none)
    (hn : s.noHandle q.val = none) (hk : kind (s.takeHead q.val) = k)
    (hs : ∀ host evt hostMem out ops free,
      Adds ch { r with host := host, evt := evt, hostMem := hostMem, out := out, ops := ops, free := free }
        (start (s.nextHandle q.val) { s with host := host, evt := evt, hostMem := hostMem, out := out, ops := ops, free := free })) :
    Begun q.val p k s (long c q p kind start s) ∧ (long c q p kind start s).changes = r.changes ++ [ch] ∧
      (long c q p kind start s).cells = r.cells := by
  obtain ⟨-, hplant, -⟩ := State.accept_begun (p := p) h.takes k
  generalize hA : (s.takeHead q.val).accept q.val p k = a at hplant
  obtain ⟨chn, out, hadds⟩ := hs a.host a.evt a.hostMem a.out a.ops a.free
  rw [← hplant.eq_with] at hadds
  obtain ⟨heq, hb⟩ := long_begins h hc hn hk hA hadds (agrees_of_host rfl q.val) rfl rfl
  rw [heq]
  exact ⟨hb, rfl, rfl⟩

end

/-! ### The commands -/

section
variable {q : LaneIx} {p : Packet} {s : State}

/-- CONFIG-COMMIT (R258). -/
theorem configCommit_begun {v : Slot} (hn : s.noHandle q.val = none) (h : Served false false false [slotHolds false p s, fEpoch p 16 s] q p s)
    (hs : InState stIC p s) (hr : relayBad 16 p s = false) (hslot : s.held (.slot p.lane.toNat (pnum p 8 1)) = false)
    (hcfg : s.held (.config p.lane.toNat) = false) (hprint : s.held (.print p.lane.toNat) = false)
    (hspit : ∀ o ∈ s.ops, o.target = p.lane.toNat → ∀ a b c, o.kind ≠ .spitTest a b c)
    (hv : (s.getLane p.lane.toNat).slot (pnum p 8 1) = some v) (hw : s.widthOk p.lane.toNat v.copies = true) (ho : s.epochOpen (pnum p 16 8)) :
    Begun q.val p (.configCommit (pnum p 8 1) (pnum p 16 8)) s (configCommit q p s) ∧ (configCommit q p s).changes = s.changes ++
      [newChange (s.nextHandle q.val) p.lane.toNat (.commit (pnum p 8 1)) (pnum p 16 8) v.cells false] ∧ (configCommit q p s).cells = s.cells := by
  have hbusy : (s.held (.slot p.lane.toNat (pnum p 8 1)) || s.held (.config p.lane.toNat) || s.held (.print p.lane.toNat) ||
      s.ops.any (fun o => decide (o.target = p.lane.toNat) && (match o.kind with | .spitTest .. => true | _ => false))) = false := by
    rw [hslot, hcfg, hprint]
    refine List.any_eq_false.mpr fun o hm => ?_
    rw [Bool.and_eq_true]
    rintro ⟨ht, hk⟩
    split at hk
    · next heq => exact hspit o hm (of_decide_eq_true ht) _ _ _ heq
    · cases hk
  refine long_adds h (served_check h (.inr hs) rfl rfl hbusy hr) hn rfl fun host evt hostMem out ops free => ?_
  generalize ha : ({ s with host := host, evt := evt, hostMem := hostMem, out := out, ops := ops, free := free } : State) = a
  have hv' : (a.getLane p.lane.toNat).slot (pnum p 8 1) = some v := ha ▸ hv
  have ho' : a.epochOpen (pnum p 16 8) := ha ▸ ho
  have hw' : a.widthOk p.lane.toNat v.copies = true := ha ▸ hw
  have hadds := State.addChange_does (h := s.nextHandle q.val) (lane := p.lane.toNat) (kind := .commit (pnum p 8 1)) (cells := v.cells)
    (ready := false) ho'
  dsimp only
  rw [hv']
  dsimp only
  rw [if_pos ((hadds.widthOk ..).trans hw')]
  exact hadds

/-- CONFIG-PATCH (R259). -/
theorem configPatch_begun {v : Slot} (hn : s.noHandle q.val = none) (h : Served false false false [slotHolds true p s, fEpoch p 16 s] q p s)
    (hs : InState stCP p s) (hr : relayBad 16 p s = false) (hslot : s.held (.slot p.lane.toNat (pnum p 8 1)) = false)
    (hcfg : s.held (.config p.lane.toNat) = false) (hv : (s.getLane p.lane.toNat).slot (pnum p 8 1) = some v)
    (hw : s.widthOk p.lane.toNat (mergeCopies (s.getLane p.lane.toNat).inForce v.copies) = true) (ho : s.epochOpen (pnum p 16 8)) :
    Begun q.val p (.configPatch (pnum p 8 1) (pnum p 16 8)) s (configPatch q p s) ∧ (configPatch q p s).changes = s.changes ++
      [newChange (s.nextHandle q.val) p.lane.toNat (.patch (pnum p 8 1)) (pnum p 16 8) (s.cellsOf p.lane.toNat) false] ∧
      (configPatch q p s).cells = s.cells := by
  refine long_adds h (served_check h (.inr hs) rfl rfl (Bool.or_eq_false_iff.mpr ⟨hslot, hcfg⟩) hr) hn rfl fun host evt hostMem out ops free => ?_
  have hcells : ({ s with host := host, evt := evt, hostMem := hostMem, out := out, ops := ops, free := free } : State).cellsOf p.lane.toNat =
    s.cellsOf p.lane.toNat := rfl
  generalize ha : ({ s with host := host, evt := evt, hostMem := hostMem, out := out, ops := ops, free := free } : State) = a at hcells
  have hv' : (a.getLane p.lane.toNat).slot (pnum p 8 1) = some v := ha ▸ hv
  have ho' : a.epochOpen (pnum p 16 8) := ha ▸ ho
  have hw' : a.widthOk p.lane.toNat (mergeCopies (a.getLane p.lane.toNat).inForce v.copies) = true := ha ▸ hw
  have hadds := State.addChange_does (h := s.nextHandle q.val) (lane := p.lane.toNat) (kind := .patch (pnum p 8 1))
    (cells := s.cellsOf p.lane.toNat) (ready := false) ho'
  dsimp only
  rw [hv', hcells]
  dsimp only
  rw [hadds.getLane, if_pos ((hadds.widthOk ..).trans hw')]
  exact hadds

/-- ALIGN-SET (R260). -/
theorem alignSet_begun {y : Copy} (hn : s.noHandle q.val = none) (hy : s.forceOf (pnum p 10 2) = some y)
    (h : Served false false false [⟨8, 1, decide (pnum p 8 1 ≤ 15) && decide (y.plane = pnum p 8 1)⟩, fMax p 10 2 511,
      ⟨12, 2, decide (-64 ≤ signed 16 (pnum p 12 2) ∧ signed 16 (pnum p 12 2) ≤ 64)⟩, fMax p 16 4 9599,
      ⟨20, 2, decide (pnum p 20 2 ≤ 15) && decide (pnum p 20 2 + (linkCfg y (pnum p 10 2 % 2)).redofs ≤ 15)⟩, fEpoch p 24 s] q p s)
    (hs : InState stCP p s) (hl : s.laneOf (pnum p 10 2 / 2) = p.lane.toNat) (hr : relayBad 24 p s = false)
    (hcfg : s.held (.config p.lane.toNat) = false) (ho : s.epochOpen (pnum p 24 8)) :
    Begun q.val p (.alignSet (pnum p 10 2) (signed 16 (pnum p 12 2)) (pnum p 20 2) (pnum p 16 4) (pnum p 24 8)) s (alignSet q p s) ∧
      (alignSet q p s).changes = s.changes ++ [newChange (s.nextHandle q.val) p.lane.toNat .align (pnum p 24 8) [pnum p 10 2 / 2] true] ∧
      (alignSet q p s).cells = (s.writeShadow (pnum p 10 2 / 2)
        (alignCopy (pnum p 10 2) (signed 16 (pnum p 12 2)) (pnum p 20 2) (pnum p 16 4) y)).cells := by
  have hown : (decide (511 < pnum p 10 2) || decide (s.laneOf (pnum p 10 2 / 2) = p.lane.toNat)) = true := by rw [decide_eq_true hl, Bool.or_true]
  have hy' : (s.takeHead q.val).forceOf (pnum p 10 2) = some y := hy
  unfold alignSet
  refine long_adds (r := s.writeShadow (pnum p 10 2 / 2) (alignCopy (pnum p 10 2) (signed 16 (pnum p 12 2)) (pnum p 20 2) (pnum p 16 4) y)) h
    (served_check h (.inr hs) (by dsimp only; rw [hy']; rfl) hown hcfg hr) hn rfl fun host evt hostMem out ops free => ?_
  have hy'' : ({ s with host := host, evt := evt, hostMem := hostMem, out := out, ops := ops, free := free } : State).forceOf (pnum p 10 2) = some y :=
    hy
  dsimp only
  rw [hy'']
  exact State.addChange_does ho

/-- PRINT-START (R535). -/
theorem printStart_begun (hn : s.noHandle q.val = none) (h : Served false false false [fEpoch p 16 s] q p s) (hs : InState stC p s)
    (hr : relayBad 16 p s = false) (hf : (s.getLane p.lane.toNat).fmax ≠ 0) (hprint : s.held (.print p.lane.toNat) = false)
    (ho : s.epochOpen (pnum p 16 8)) :
    Begun q.val p (.printStart (pnum p 16 8)) s (printStart q p s) ∧ (printStart q p s).changes = s.changes ++
      [newChange (s.nextHandle q.val) p.lane.toNat .printStart (pnum p 16 8) (s.cellsOf p.lane.toNat) true] ∧
      (printStart q p s).cells = s.cells :=
  long_adds h (served_check h (.inr hs) rfl rfl hprint (Bool.or_eq_false_iff.mpr ⟨hr, decide_eq_false hf⟩)) hn rfl
    fun _ _ _ _ _ _ => State.addChange_does ho

/-- PRINT-STOP (R294). -/
theorem printStop_begun (hn : s.noHandle q.val = none) (h : Served false false false [fMax p 8 1 1, fEpoch p 16 s] q p s) (hs : InState stP p s)
    (hr : relayBad 16 p s = false) (hprint : s.held (.print p.lane.toNat) = false) (ho : s.epochOpen (pnum p 16 8)) :
    Begun q.val p (.printStop (pnum p 8 1) (pnum p 16 8)) s (printStop q p s) ∧ (printStop q p s).changes = s.changes ++
      [newChange (s.nextHandle q.val) p.lane.toNat (.printStop (pnum p 8 1)) (pnum p 16 8) (s.cellsOf p.lane.toNat) true] ∧
      (printStop q p s).cells = s.cells :=
  long_adds h (served_check h (.inr hs) rfl rfl hprint hr) hn rfl fun _ _ _ _ _ _ => State.addChange_does ho

/-- LEVEL-ENABLE for an epoch (R461). -/
theorem levelEnable_begun (hn : s.noHandle q.val = none) (h : Served true false true [⟨8, 1, decide (pnum p 8 1 ≠ 0)⟩, fEpoch p 16 s] q p s)
    (hs : InState none p s) (hr : relayBad 16 p s = false) (hh : s.held .chain = false) (hep : pnum p 16 8 ≠ 0) (ho : s.epochOpen (pnum p 16 8))
    (hl : s.holder = true → pnum p 8 1 ≤ (s.chn.known.map (fun m => m.level.toNat)).foldl min s.ownLevel ∧ pnum p 8 1 ≤ s.opLevel + 1) :
    Begun q.val p (.levelEnable (BitVec.ofNat 8 (pnum p 8 1)) (pnum p 16 8)) s (levelEnable q p s) ∧ (levelEnable q p s).changes = s.changes ++
      [newChange (s.nextHandle q.val) 0 (.level (BitVec.ofNat 8 (pnum p 8 1))) (pnum p 16 8) [] true] ∧ (levelEnable q p s).cells = s.cells := by
  have hbyte : (BitVec.ofNat 8 (pnum p 8 1)).toNat = pnum p 8 1 :=
    (BitVec.toNat_ofNat ..).trans (Nat.mod_eq_of_lt (Nat.mod_lt _ (by decide)))
  unfold levelEnable
  refine long_adds h (served_check h (.inr hs) rfl rfl hh hr) hn rfl fun host evt hostMem out ops free => ?_
  obtain ⟨chn, out', hreg⟩ := State.registerChange_does (levelKind := true) (level := BitVec.ofNat 8 (pnum p 8 1)) (ep := pnum p 16 8)
    (s := { s with
      host := host, evt := evt, hostMem := hostMem, out := out, ops := ops, free := free
      changes := s.changes ++ [newChange (s.nextHandle q.val) 0 (.level (BitVec.ofNat 8 (pnum p 8 1))) (pnum p 16 8) [] true] }) ho
    fun _ hh => by rw [hbyte]; exact hl hh
  refine ⟨chn, out', ?_⟩
  dsimp only
  rw [if_neg hep]
  exact hreg

end

/-- Settles O7: each of the commands passes its checks, and the change it adds is registered for an epoch that is open. -/
theorem changeCommandsBegin : Obligations.ChangeCommandsBegin := by
  intro q p s hn
  dsimp only
  refine ⟨fun v h hs hr hslot hcfg hprint hspit hv hw ho => ⟨_, rfl, ?_⟩, fun v h hs hr hslot hcfg hv hw ho => ⟨_, rfl, ?_⟩,
    fun y hy h hs hl hr hcfg ho => ⟨_, rfl, ?_⟩, fun h hs hr hf hprint ho => ⟨_, rfl, ?_⟩, fun h hs hr hprint ho => ⟨_, rfl, ?_⟩,
    fun h hs hr hh hep ho hl => ⟨_, rfl, ?_⟩⟩
  · obtain ⟨hbegun, hchanges, -⟩ := configCommit_begun hn h hs hr hslot hcfg hprint hspit hv hw ho
    exact ⟨hbegun, hchanges⟩
  · obtain ⟨hbegun, hchanges, -⟩ := configPatch_begun hn h hs hr hslot hcfg hv hw ho
    exact ⟨hbegun, hchanges⟩
  · obtain ⟨hbegun, hchanges, hcells⟩ := alignSet_begun hn hy h hs hl hr hcfg ho
    refine ⟨hbegun, hchanges, ?_⟩
    rw [State.getCell, hcells]
    exact congrArg Cell.shadow (State.getCell_updCell ..)
  · obtain ⟨hbegun, hchanges, -⟩ := printStart_begun hn h hs hr hf hprint ho
    exact ⟨hbegun, hchanges⟩
  · obtain ⟨hbegun, hchanges, -⟩ := printStop_begun hn h hs hr hprint ho
    exact ⟨hbegun, hchanges⟩
  · obtain ⟨hbegun, hchanges, -⟩ := levelEnable_begun hn h hs hr hh hep ho hl
    exact ⟨hbegun, hchanges⟩

end Sys2Proof.Machine
end

section
/-! Thinis cores that fail and stand by again (R172, R173, R499). -/

namespace Sys2Proof.Machine

/-! ### Roles of the cores -/

section
variable (s : State) (i : CoreIx) (u : ThnCore → ThnCore)

theorem State.core_setCore_other : (s.setCore i.val u).core (otherCore i.val) = s.core (otherCore i.val) := by
  fin_cases i <;> rfl

theorem State.otherCore_setCore : (s.setCore (otherCore i.val) u).core (otherCore i.val) = u (s.core (otherCore i.val)) := by
  fin_cases i <;> rfl

theorem State.core_setOtherCore : (s.setCore (otherCore i.val) u).core i.val = s.core i.val := by
  fin_cases i <;> rfl

end

theorem SamePlant.core {s t : State} (h : SamePlant s t) (k : Nat) : t.core k = s.core k := by rw [State.core, h.thn, State.core]
theorem SamePlant.getSrc {s t : State} (h : SamePlant s t) (k : Nat) : t.getSrc k = s.getSrc k :=
  congrArg (tabGet srcReset · k) (congrArg (·.flt.srcs) h :)

/-- The queues that go on post entries and answer packets, and touch no register of the plant (R172). -/
theorem samePlant_queuesGoOn (s : State) : SamePlant s s.queuesGoOn :=
  foldl_inv (SamePlant s) _ (fun t k ht => ht.trans ((samePlant_drain t k _).trans (samePlant_serveAll _ k))) _ s (.refl s)

/-! ### What starts again after a swap (R173) -/

/-- t has the time, the cores and the fault collector of s. -/
structure SameService (s t : State) : Prop where
  time : t.time = s.time
  thn  : t.thn = s.thn
  flt  : t.flt = s.flt

namespace SameService

variable {s t : State}

theorem refl (s : State) : SameService s s := ⟨rfl, rfl, rfl⟩

theorem ite {c : Prop} [Decidable c] {a b : State} (ha : SameService s a) (hb : SameService s b) : SameService s (if c then a else b) := by
  split; exacts [ha, hb]

theorem foldl {α : Type} {l : List α} {u : State → α → State} (hu : ∀ t a, SameService s t → SameService s (u t a)) (h : SameService s t) :
    SameService s (l.foldl u t) := foldl_inv (SameService s) u hu l t h

theorem forAll {l : List Nat} {u : State → Nat → State} (hu : ∀ t a, SameService s t → SameService s (u t a)) (h : SameService s t) :
    SameService s (forAll l u t) := h.foldl hu

theorem updCell {c : Nat} {u : Cell → Cell} (h : SameService s t) : SameService s (t.updCell c u) := ⟨h.time, h.thn, h.flt⟩
theorem sendWave {l w : Nat} (h : SameService s t) : SameService s (t.sendWave l w) := ⟨h.time, h.thn, h.flt⟩
theorem updLink {l : Nat} {u : Link → Link} (h : SameService s t) : SameService s (t.updLink l u) := ⟨h.time, h.thn, h.flt⟩
theorem retrim {c : Nat} {u : Cell → Cell} (h : SameService s t) : SameService s (t.retrim c u) := .foldl (fun _ _ h => h.updLink) h.updCell
theorem sendWaves {c : Nat} {ws : List Nat} (h : SameService s t) : SameService s (t.sendWaves c ws) :=
  .forAll (fun _ _ h => .forAll (fun _ _ h => .ite h.sendWave h) h) h

theorem restoreCell {c : Nat} (h : SameService s t) : SameService s (t.restoreCell c) := by
  dsimp only [State.restoreCell]
  split
  · exact h.updCell
  · exact .ite h.updCell.retrim h.updCell.retrim.sendWaves

end SameService

/-- Operations start again (R173): the cores keep what they hold, the collector and the time stay, and so do the cells where no change waits. -/
theorem State.restartOps_keeps (s : State) : s.restartOps.time = s.time ∧ s.restartOps.flt = s.flt ∧ s.restartOps.thn.a = s.thn.a ∧
    s.restartOps.thn.b = s.thn.b ∧ s.restartOps.thn.paused = s.thn.paused ∧ (s.changes = [] → s.restartOps.cells = s.cells) := by
  have hback : ∀ l : List Change, SameService s (l.foldl (fun s ch => Machine.forAll ch.cells (fun s c => s.restoreCell c) s) s) := fun l =>
    .foldl (fun _ _ h => .forAll (fun _ _ h => h.restoreCell) h) (.refl s)
  unfold State.restartOps
  dsimp only
  obtain ⟨htime, hthn, hflt⟩ := hback (s.changes.filter _)
  refine ⟨htime, hflt, congrArg Thn.a hthn, congrArg Thn.b hthn, congrArg Thn.paused hthn, fun hc => ?_⟩
  rw [hc]
  rfl

/-! ### A core that fails (R499) -/

/-- What the failure of core i leaves in t, whichever core runs next: the core is reset without an image, the failure is outstanding at its source,
the queues are not paused, and time and cells stay. -/
structure CoreDown (src : Nat) (i : CoreIx) (s t : State) : Prop where
  role   : (t.core i.val).role = .reloading
  image  : (t.core i.val).image = none
  out    : bit (t.getSrc src).outCls 1 = true
  cond   : i.val ∈ (t.getSrc src).conds
  paused : t.thn.paused = false
  time   : t.time = s.time
  cells  : s.changes = [] → t.cells = s.cells

section
variable {src : Nat} {i : CoreIx} {s t u : State}

theorem CoreDown.of_plant (h : CoreDown src i s t) (hp : SamePlant t u) : CoreDown src i s u where
  role   := (congrArg ThnCore.role (hp.core _)).trans h.role
  image  := (congrArg ThnCore.image (hp.core _)).trans h.image
  out    := by rw [hp.getSrc]; exact h.out
  cond   := by rw [hp.getSrc]; exact h.cond
  paused := (congrArg Thn.paused hp.thn).trans h.paused
  time   := (congrArg State.time hp :).trans h.time
  cells  := fun hc => hp.cells.trans (h.cells hc)

/-- The other core takes over (R173). -/
theorem CoreDown.takeover (h : CoreDown src i s t) (hc : t.changes = s.changes) :
    CoreDown src i s (t.setCore (otherCore i.val) (fun x => { x with role := .active })).restartOps ∧
      (t.setCore (otherCore i.val) (fun x => { x with role := .active })).restartOps.core (otherCore i.val) =
        { t.core (otherCore i.val) with role := .active } := by
  have hmine := State.core_setOtherCore t i (fun x => { x with role := .active })
  have hother := State.otherCore_setCore t i (fun x => { x with role := .active })
  have hpaused : (t.setCore (otherCore i.val) (fun x => { x with role := .active })).thn.paused = t.thn.paused := by
    unfold State.setCore
    split <;> rfl
  obtain ⟨htime, hflt, ha, hb, hp, hcells⟩ :=
    State.restartOps_keeps (t.setCore (otherCore i.val) (fun x => { x with role := .active }))
  have hcore : ∀ k, (t.setCore (otherCore i.val) (fun x => { x with role := .active })).restartOps.core k =
      (t.setCore (otherCore i.val) (fun x => { x with role := .active })).core k := fun k => by rw [State.core, ha, hb, State.core]
  have hsrc : ∀ k, (t.setCore (otherCore i.val) (fun x => { x with role := .active })).restartOps.getSrc k = t.getSrc k := fun k =>
    congrArg (fun x : Flt => tabGet srcReset x.srcs k) hflt
  refine ⟨⟨?_, ?_, ?_, ?_, hp.trans (hpaused.trans h.paused), htime.trans h.time, fun hn => (hcells (hc.trans hn)).trans (h.cells hn)⟩,
    (hcore _).trans hother⟩
  · rw [hcore, hmine]
    exact h.role
  · rw [hcore, hmine]
    exact h.image
  · rw [hsrc]
    exact h.out
  · rw [hsrc]
    exact h.cond

/-- A state in which the failure of core i is outstanding at its source, and nothing of the plant but the collector and the reset cause has moved. -/
structure CoreFault (src : Nat) (i : CoreIx) (s g : State) : Prop where
  out     : bit (g.getSrc src).outCls 1 = true
  cond    : i.val ∈ (g.getSrc src).conds
  thn     : g.thn = s.thn
  time    : g.time = s.time
  cells   : g.cells = s.cells
  changes : g.changes = s.changes

/-- The failure of a core is reported; that of a watchdog has its event and its reset cause too. -/
def State.reportCore (src i : Nat) (s : State) : State :=
  let f := s.faultBy false src 1 i 0 true
  if src = 9 then (f.raise 349).setRstCause 7 else f

theorem State.reportCore_does (s : State) (src : Nat) (i : CoreIx) : CoreFault src i s (s.reportCore src i.val) := by
  obtain ⟨hout, hcond⟩ := State.fault_marks s src 1 i.val 0
  unfold State.reportCore
  rw [show s.faultBy false src 1 i.val 0 true = s.fault src 1 i.val 0 true from rfl]
  dsimp only
  split
  · have hflt : (((s.fault src 1 i.val 0 true).raise 349).setRstCause 7).getSrc src = (s.fault src 1 i.val 0 true).getSrc src :=
      State.getSrc_raise ..
    exact ⟨by rw [hflt]; exact hout, by rw [hflt]; exact hcond, by simp [State.setRstCause], by simp [State.setRstCause],
      by simp [State.setRstCause], by simp [State.setRstCause]⟩
  · exact ⟨hout, hcond, by simp, by simp, by simp, by simp⟩

/-- The core i in reset, with the queues not paused. -/
def State.downCore (i : Nat) (fetch : Option (Nat × Nat)) (s : State) : State :=
  { s.setCore i ThnCore.warmReset with thn := { (s.setCore i ThnCore.warmReset).thn with paused := false, fetch := fetch } }

/-- The core is down; the other core and the changes are as they were. -/
theorem CoreFault.down {g : State} (h : CoreFault src i s g) (fetch : Option (Nat × Nat)) : CoreDown src i s (g.downCore i.val fetch) ∧
    (g.downCore i.val fetch).core (otherCore i.val) = s.core (otherCore i.val) ∧ (g.downCore i.val fetch).changes = s.changes := by
  have hmine : (g.downCore i.val fetch).core i.val = ThnCore.warmReset (g.core i.val) := State.core_setCore g i ThnCore.warmReset
  have hother : (g.downCore i.val fetch).core (otherCore i.val) = g.core (otherCore i.val) := State.core_setCore_other g i ThnCore.warmReset
  refine ⟨⟨congrArg ThnCore.role hmine, congrArg ThnCore.image hmine, h.out, h.cond, rfl, h.time, fun _ => h.cells⟩,
    hother.trans ?_, h.changes⟩
  rw [State.core, h.thn, State.core]

/-- The three ways in which a failure goes on. -/
theorem State.coreFails_eq (s : State) (src i : Nat) : ∃ fetch, s.coreFails false src i =
    (let t := (s.reportCore src i).downCore i fetch
     if (s.core i).role = .standby then t.queuesGoOn
     else if (t.core (otherCore i)).role = .standby then
       (((t.setCore (otherCore i) (fun x => { x with role := .active })).restartOps).raise 348).queuesGoOn
     else (t.fault 18 1 0 0 true).setCause 4 true) := ⟨_, rfl⟩

theorem State.getSrc_updSrc_ne {k j : Nat} (s : State) (u : Src → Src) (h : j ≠ k) : (s.updSrc k u).getSrc j = s.getSrc j :=
  tabGet_tabPut_ne _ _ _ _ _ h

/-- A fault leaves the other sources. -/
theorem State.getSrc_fault_ne {k : Nat} (hk : k ≠ src) (cls : BitVec 2) (inst : Nat) (detail : W64) (stands : Bool) (s : State) :
    (s.fault src cls inst detail stands).getSrc k = s.getSrc k := by
  have hupd : ∀ f, (s.updSrc src f).getSrc k = s.getSrc k := fun f => State.getSrc_updSrc_ne s f hk
  unfold State.fault State.faultInj
  dsimp only
  split <;> split <;> simp only [State.getSrc_writeRec, State.getSrc_aer, State.getSrc_raise, hupd]

theorem State.getSrc_setCause (s : State) (b : Nat) (on : Bool) (k : Nat) : (s.setCause b on).getSrc k = s.getSrc k := by
  simp [State.setCause, State.getSrc]

theorem State.bit_setCause (s : State) {b : Nat} (hb : b < 5) : bit (s.setCause b true).flt.cause b = true := by
  simp [State.setCause, bit_setBit_self _ hb]

/-- With no core that stands by, source 18 is outstanding, and the cause of SVCREQ is there. -/
theorem CoreDown.no_standby (h : CoreDown src i s t) (hs : src ≠ 18) : CoreDown src i s ((t.fault 18 1 0 0 true).setCause 4 true) ∧
    ((t.fault 18 1 0 0 true).setCause 4 true).core (otherCore i.val) = t.core (otherCore i.val) ∧
    bit (((t.fault 18 1 0 0 true).setCause 4 true).getSrc 18).outCls 1 = true ∧
    bit ((t.fault 18 1 0 0 true).setCause 4 true).flt.cause 4 = true := by
  have hthn : ((t.fault 18 1 0 0 true).setCause 4 true).thn = t.thn := by simp
  have hcore : ∀ k, ((t.fault 18 1 0 0 true).setCause 4 true).core k = t.core k := fun k => by rw [State.core, hthn, State.core]
  have hsrc : ((t.fault 18 1 0 0 true).setCause 4 true).getSrc src = t.getSrc src := by
    rw [State.getSrc_setCause, State.getSrc_fault_ne hs]
  refine ⟨⟨?_, ?_, by rw [hsrc]; exact h.out, by rw [hsrc]; exact h.cond, by rw [hthn]; exact h.paused, ?_, fun hc => ?_⟩, hcore _, ?_,
    State.bit_setCause _ (by decide)⟩
  · rw [hcore]
    exact h.role
  · rw [hcore]
    exact h.image
  · rw [← h.time]
    simp
  · rw [← h.cells hc]
    simp
  · rw [State.getSrc_setCause]
    exact (State.fault_marks t 18 1 0 0).1

/-- The failure of a live core. -/
theorem State.coreFails_does (s : State) (src : Nat) (i : CoreIx) (hsrc : src ≠ 18) : CoreDown src i s (s.coreFails false src i.val) ∧
    ((s.core i.val).role = .standby → (s.coreFails false src i.val).core (otherCore i.val) = s.core (otherCore i.val)) ∧
    ((s.core i.val).role ≠ .standby → (s.core (otherCore i.val)).role = .standby →
      (s.coreFails false src i.val).core (otherCore i.val) = { s.core (otherCore i.val) with role := .active }) ∧
    ((s.core i.val).role ≠ .standby → (s.core (otherCore i.val)).role ≠ .standby →
      (s.coreFails false src i.val).core (otherCore i.val) = s.core (otherCore i.val) ∧
      bit ((s.coreFails false src i.val).getSrc 18).outCls 1 = true ∧ bit (s.coreFails false src i.val).flt.cause 4 = true) := by
  obtain ⟨fetch, heq⟩ := State.coreFails_eq s src i.val
  obtain ⟨hdown, hother, hchanges⟩ := (State.reportCore_does s src i).down fetch
  rw [heq]
  dsimp only
  rw [hother]
  split
  · next hst =>
    have hgo := samePlant_queuesGoOn ((s.reportCore src i.val).downCore i.val fetch)
    exact ⟨hdown.of_plant hgo, fun _ => (hgo.core _).trans hother, fun hn => absurd hst hn, fun hn => absurd hst hn⟩
  · next hst =>
    split
    · next hj =>
      obtain ⟨htaken, hactive⟩ := hdown.takeover hchanges
      have hgo := (samePlant_raise (((s.reportCore src i.val).downCore i.val fetch).setCore (otherCore i.val)
        (fun x => { x with role := .active })).restartOps 348).trans (samePlant_queuesGoOn _)
      refine ⟨htaken.of_plant hgo, fun h => absurd h hst, fun _ _ => ?_, fun _ h => absurd hj h⟩
      rw [hgo.core, hactive, hother]
    · next hj =>
      obtain ⟨hnone, hkept, hsource, hcause⟩ := hdown.no_standby hsrc
      exact ⟨hnone, fun h => absurd h hst, fun _ h => absurd h hj, fun _ _ => ⟨hkept.trans hother, hsource, hcause⟩⟩

/-- A core that does not run does not fail. -/
theorem coreLive_false (hl : s.coreLive i.val = false) : watchdogExpiry i.val s = s ∧ lockstepMismatch i.val s = s := by
  unfold watchdogExpiry lockstepMismatch
  rw [hl]
  exact ⟨rfl, rfl⟩

/-! ### The reload of a core (R499) -/

/-- The end of a condition takes it from its source, and touches no other source. -/
theorem State.endCond_removes (s : State) (src inst : Nat) : inst ∉ ((s.endCond src inst).getSrc src).conds ∧
    ∀ k, k ≠ src → (s.endCond src inst).getSrc k = s.getSrc k := by
  unfold State.endCond
  split
  · rw [State.getSrc_updSrc]
    exact ⟨by simp, fun k hk => State.getSrc_updSrc_ne s _ hk⟩
  · next h => exact ⟨by simpa using h, fun _ _ => rfl⟩

/-- The operations that waited for the reload have their final entries. -/
def State.reloadEnds (i : Nat) (s : State) : State :=
  (s.setRstCause 5).finishAll (fun o => match o.kind with
    | .domainReset d _ => decide (d = dTHNA + i) | .domainCycle d _ => decide (d = dTHNA + i) | _ => false) stOk 0

theorem State.reloadEnds_keeps (s : State) (i : Nat) : (s.reloadEnds i).time = s.time ∧ (s.reloadEnds i).thn = s.thn := by
  unfold State.reloadEnds
  simp [State.setRstCause]

/-- The reload, where the core has its clock. -/
theorem standbyReloadDone_eq (hr : s.reloading = some i.val) (hon : s.on (dTHNA + i.val) = true) : standbyReloadDone s =
    if (s.core (otherCore i.val)).role = .active then
      let u := (s.reloadEnds i.val).setCore i.val (fun x => { x with role := .standby, image := (s.core (otherCore i.val)).image })
      let r := (u.endCond 8 i.val).endCond 9 i.val
      { r with thn := { r.thn with paused := r.thn.paused || r.thn.swap.isSome } }
    else (s.reloadEnds i.val).setCore i.val (fun x => { x with role := .empty }) := by
  unfold standbyReloadDone
  rw [hr]
  dsimp only
  rw [hon, if_neg (by simp)]
  rfl

/-- With an active core the reset one has its image and stands by, and its failure is over. -/
theorem standbyReloadDone_active (hr : s.reloading = some i.val) (hon : s.on (dTHNA + i.val) = true)
    (ha : (s.core (otherCore i.val)).role = .active) : (standbyReloadDone s).core (otherCore i.val) = s.core (otherCore i.val) ∧
      (standbyReloadDone s).time = s.time ∧ ((standbyReloadDone s).core i.val).role = .standby ∧
      ((standbyReloadDone s).core i.val).image = (s.core (otherCore i.val)).image ∧
      i.val ∉ ((standbyReloadDone s).getSrc 8).conds ∧ i.val ∉ ((standbyReloadDone s).getSrc 9).conds := by
  obtain ⟨htime, hthn⟩ := s.reloadEnds_keeps i.val
  rw [standbyReloadDone_eq hr hon, if_pos ha]
  generalize hu : (s.reloadEnds i.val).setCore i.val _ = u
  obtain ⟨height, -⟩ := u.endCond_removes 8 i.val
  obtain ⟨hnine, hkept⟩ := (u.endCond 8 i.val).endCond_removes 9 i.val
  have hthn' : ((u.endCond 8 i.val).endCond 9 i.val).thn = u.thn := by simp
  have hcore : ∀ (k : Nat) (b : Bool), ({ (u.endCond 8 i.val).endCond 9 i.val with
      thn := { ((u.endCond 8 i.val).endCond 9 i.val).thn with paused := b } } : State).core k = u.core k := fun k b => by
    unfold State.core
    dsimp only
    rw [hthn']
  have hmine : u.core i.val = { (s.reloadEnds i.val).core i.val with role := .standby, image := (s.core (otherCore i.val)).image } :=
    hu ▸ State.core_setCore ..
  have hother : u.core (otherCore i.val) = s.core (otherCore i.val) := by
    rw [← hu, State.core_setCore_other, State.core, hthn, State.core]
  have htime' : ((u.endCond 8 i.val).endCond 9 i.val).time = s.time := by
    rw [← htime, ← (by rw [← hu]; rfl : u.time = (s.reloadEnds i.val).time)]
    simp
  dsimp only
  refine ⟨(hcore _ _).trans hother, htime', ?_, ?_, ?_, hnine⟩
  · rw [hcore, hmine]
  · rw [hcore, hmine]
  · exact (hkept 8 (by decide)) ▸ height

/-- With none it loads none. -/
theorem standbyReloadDone_empty (hr : s.reloading = some i.val) (hon : s.on (dTHNA + i.val) = true)
    (ha : (s.core (otherCore i.val)).role ≠ .active) : (standbyReloadDone s).core (otherCore i.val) = s.core (otherCore i.val) ∧
      (standbyReloadDone s).time = s.time ∧ ((standbyReloadDone s).core i.val).role = .empty := by
  obtain ⟨htime, hthn⟩ := s.reloadEnds_keeps i.val
  rw [standbyReloadDone_eq hr hon, if_neg ha, State.core_setCore_other, State.core_setCore]
  refine ⟨?_, htime, rfl⟩
  rw [State.core, hthn, State.core]

end

/-- Settles O40: a failure is split by whether the failed core stood by and whether the other one does, a reload by whether the other core is
active. -/
theorem thinisCoresFailOver : Obligations.ThinisCoresFailOver := by
  intro i s
  dsimp only
  refine ⟨fun hl => ⟨⟨_, rfl, ?_⟩, ⟨_, rfl, ?_⟩⟩, fun hl => ?_, fun hr hon => ⟨_, rfl, ?_⟩⟩
  · rw [watchdogExpiry, if_pos hl]
    obtain ⟨h, hstandby, htakes, hnone⟩ := State.coreFails_does s 9 i (by decide)
    exact ⟨h.role, h.image, h.out, h.cond, h.paused, h.time, h.cells, hstandby, htakes, hnone⟩
  · rw [lockstepMismatch, if_pos hl]
    obtain ⟨h, hstandby, htakes, hnone⟩ := State.coreFails_does s 8 i (by decide)
    exact ⟨h.role, h.image, h.out, h.cond, h.paused, h.time, h.cells, hstandby, htakes, hnone⟩
  · obtain ⟨hwatchdog, hlockstep⟩ := coreLive_false hl
    exact ⟨congrArg Host.Outcome.next hwatchdog, congrArg Host.Outcome.next hlockstep⟩
  · by_cases ha : (s.core (otherCore i.val)).role = .active
    · obtain ⟨hother, htime, hrole, himage, height, hnine⟩ := standbyReloadDone_active hr hon ha
      exact ⟨hother, htime, fun _ => ⟨hrole, himage, height, hnine⟩, fun hn => absurd ha hn⟩
    · obtain ⟨hother, htime, hrole⟩ := standbyReloadDone_empty hr hon ha
      exact ⟨hother, htime, fun h => absurd h ha, fun _ => hrole⟩

end Sys2Proof.Machine
end

section
/-! The end of an FW-LOAD where FIRECLK does not run (R54, R116): nothing of the image arrives. -/

namespace Sys2Proof.Machine

/-- The boot ROM fetches an image by the chain, and a boundary-scan instruction has taken the pins. -/
def pinsTakenInFetch : State :=
  { State.reset with
    glb := { State.reset.glb with powered := true, rootLock := true, pins := true }
    thn := { State.reset.thn with a := { State.reset.thn.a with role := .rom }, fetch := some (0, 0) } }

/-- While the part does not run, the end of an FW-LOAD does nothing. -/
theorem fwLoadDone_stopped {s : State} (h : s.fire = false) (handle : W32) (x : List Byte) : fwLoadDone handle x s = s := by
  unfold fwLoadDone
  rw [h]
  rfl

/-- Refutes O55: its first clause does not ask that the part runs, and with the pins taken the fetch under way stays as it is. -/
theorem not_firmwareArrivesAndSwaps : ¬ Obligations.FirmwareArrivesAndSwaps := by
  intro h
  obtain ⟨harrives, -⟩ := h pinsTakenInFetch
  obtain ⟨-, hrom⟩ := harrives 0 [] 0 (by decide)
  obtain ⟨t, ht, ⟨-, hfetch, -⟩, -⟩ := hrom (by decide) (by decide) (by decide) nofun
  obtain rfl := Host.Outcome.next.inj ht
  rw [fwLoadDone_stopped (by decide)] at hfetch
  exact Option.some_ne_none _ hfetch

end Sys2Proof.Machine
end

section
/-! What the operations of the feed engines change (R184 to R203): the standing of rings, the registers of engines and the write pointers while
channels end, descriptors settle and reads go out. -/

namespace Sys2Proof.Machine

/-! ### Operations that leave FEED alone -/

section
variable (s : State)

/-- A power-off that waits for the feed touches no ring, engine or request line (R201). -/
@[simp] theorem State.settleLsOff_feed :
    s.settleLsOff.rings = s.rings ∧ s.settleLsOff.engines = s.engines ∧ s.settleLsOff.reqs = s.reqs := by
  unfold State.settleLsOff forAll
  and_intros <;>
    exact foldl_keeps _ _ (fun t q => by dsimp only; split <;> rfl) _ s

@[simp] theorem State.writeBackAt_feed (f a r i status done : Nat) :
    (s.writeBackAt f a r i status done).engines = s.engines ∧ (s.writeBackAt f a r i status done).reqs = s.reqs := by
  simp [State.writeBackAt]

@[simp] theorem State.writeBack_feed (r i status done : Nat) :
    (s.writeBack r i status done).engines = s.engines ∧ (s.writeBack r i status done).reqs = s.reqs := by
  simp [State.writeBack]

@[simp] theorem State.feedCredit_feed (b n : Nat) :
    (s.feedCredit b n).rings = s.rings ∧ (s.feedCredit b n).engines = s.engines ∧ (s.feedCredit b n).reqs = s.reqs := by
  unfold State.feedCredit
  split <;> exact ⟨rfl, rfl, rfl⟩

/-- A QUAD-ASSIGN that goes on moves quads and lanes alone (R123, R200). -/
@[simp] theorem State.settleAssign_feed :
    s.settleAssign.rings = s.rings ∧ s.settleAssign.engines = s.engines ∧ s.settleAssign.reqs = s.reqs := by
  unfold State.settleAssign
  split
  · exact ⟨rfl, rfl, rfl⟩
  · next m _ =>
    dsimp only
    split
    · simp
    · split
      · exact ⟨rfl, rfl, rfl⟩
      · obtain ⟨t, u, h⟩ := State.assignQuads_eq m.lane m.quads { s with assign := none }
        rw [State.moveQuads_answers, h]
        simp [State.withQuads, State.withLanes]

@[simp] theorem State.bankPut_feed (b off : Nat) (bs : List Byte) :
    (s.bankPut b off bs).rings = s.rings ∧ (s.bankPut b off bs).engines = s.engines := by
  unfold State.bankPut
  dsimp only
  split <;> exact ⟨rfl, rfl⟩

@[simp] theorem State.cellPut_feed (c off : Nat) (bs : List Byte) :
    (s.cellPut c off bs).rings = s.rings ∧ (s.cellPut c off bs).engines = s.engines := by
  unfold State.cellPut
  dsimp only
  split <;> simp

@[simp] theorem State.putBlocks_feed (c l n w : Nat) (bs : List Byte) :
    (State.putBlocks c l n w bs s).rings = s.rings ∧ (State.putBlocks c l n w bs s).engines = s.engines := by
  induction n generalizing s w bs with
  | zero => exact ⟨rfl, rfl⟩
  | succ n ih => simp [State.putBlocks, ih]

end

section
variable {s t : State}

theorem State.getRing_of_rings (h : t.rings = s.rings) (r : Nat) : t.getRing r = s.getRing r := by rw [State.getRing, h, State.getRing]

theorem State.getEngine_of_engines (h : t.engines = s.engines) (e : Nat) : t.getEngine e = s.getEngine e := by
  rw [State.getEngine, h, State.getEngine]

theorem State.getReq_of_reqs (h : t.reqs = s.reqs) (k : Nat) : t.getReq k = s.getReq k := by rw [State.getReq, h, State.getReq]

end

/-! ### The end of channels (R136, R195, R197) -/

/-- The registers of an engine: all but its channels and its outstanding reads. -/
def Engine.registers (x : Engine) : Engine := { x with chans := [], reads := [] }

/-- From s to t channels and requests may have gone: no register of an engine has changed, no engine without a channel has got one, and no
write pointer has moved. -/
structure ChannelsEnd (s t : State) : Prop where
  registers : ∀ e, (t.getEngine e).registers = (s.getEngine e).registers
  empty : ∀ e, (s.getEngine e).chans = [] → (t.getEngine e).chans = []
  wptr : ∀ k, (t.getReq k).wptr = (s.getReq k).wptr

namespace ChannelsEnd

variable {s t u : State}

theorem refl (s : State) : ChannelsEnd s s := ⟨fun _ => rfl, fun _ => id, fun _ => rfl⟩

theorem trans (h : ChannelsEnd s t) (k : ChannelsEnd t u) : ChannelsEnd s u where
  registers e := (k.registers e).trans (h.registers e)
  empty e he := k.empty e (h.empty e he)
  wptr i := (k.wptr i).trans (h.wptr i)

/-- A step that touches neither engines nor request lines. -/
theorem same (h : ChannelsEnd s t) (he : u.engines = t.engines) (hr : u.reqs = t.reqs) : ChannelsEnd s u :=
  h.trans ⟨fun e => congrArg Engine.registers (State.getEngine_of_engines he e), fun e => (State.getEngine_of_engines he e ▸ id),
    fun k => congrArg ReqLine.wptr (State.getReq_of_reqs hr k)⟩

theorem ite {c : Prop} [Decidable c] {a b : State} (ha : ChannelsEnd s a) (hb : ChannelsEnd s b) : ChannelsEnd s (if c then a else b) := by
  split
  · exact ha
  · exact hb

theorem foldl {α : Type} {f : State → α → State} {l : List α} (hf : ∀ t a, ChannelsEnd s t → ChannelsEnd s (f t a)) (h : ChannelsEnd s t) :
    ChannelsEnd s (l.foldl f t) := foldl_inv (ChannelsEnd s) f hf l t h

theorem forAll {f : State → Nat → State} {l : List Nat} (hf : ∀ t a, ChannelsEnd s t → ChannelsEnd s (f t a)) (h : ChannelsEnd s t) :
    ChannelsEnd s (forAll l f t) := foldl hf h

variable (h : ChannelsEnd s t)
include h

theorem updRing {r : Nat} {f : Ring → Ring} : ChannelsEnd s (t.updRing r f) := h.same rfl rfl
theorem updLane {l : Nat} {f : Lane → Lane} : ChannelsEnd s (t.updLane l f) := h.same rfl rfl
theorem writeBackAt {f a r i status done : Nat} : ChannelsEnd s (t.writeBackAt f a r i status done) := h.same (by simp) (by simp)
theorem writeBack {r i status done : Nat} : ChannelsEnd s (t.writeBack r i status done) := h.same (by simp) (by simp)
theorem settleLsOff : ChannelsEnd s t.settleLsOff := h.same (by simp) (by simp)
theorem feedCredit {b n : Nat} : ChannelsEnd s (t.feedCredit b n) := h.same (by simp) (by simp)
theorem settleAssign : ChannelsEnd s t.settleAssign := h.same (by simp) (by simp)
theorem dropPrefetch {r : Nat} : ChannelsEnd s (t.dropPrefetch r) := h.same rfl rfl

theorem updEngine {k : Nat} {f : Engine → Engine} (hr : ∀ x, (f x).registers = x.registers) (hc : ∀ x : Engine, x.chans = [] → (f x).chans = []) :
    ChannelsEnd s (t.updEngine k f) := by
  have hget : ∀ e, (t.updEngine k f).getEngine e = if e = k then f (t.getEngine e) else t.getEngine e := fun e => by
    split
    · next hk => rw [hk, State.getEngine_updEngine]
    · next hk => exact State.getEngine_updEngine_ne _ _ _ _ hk
  refine h.trans ⟨fun e => ?_, fun e he => ?_, fun _ => rfl⟩
  · rw [hget]
    split
    · exact hr _
    · rfl
  · rw [hget]
    split
    · exact hc _ he
    · exact he

theorem updReq {k : Nat} {f : ReqLine → ReqLine} (hf : ∀ x, (f x).wptr = x.wptr) : ChannelsEnd s (t.updReq k f) := by
  refine h.trans ⟨fun _ => rfl, fun _ => id, fun j => ?_⟩
  by_cases hj : j = k
  · subst hj
    rw [State.getReq_updReq, hf]
  · rw [State.getReq_updReq_ne _ _ _ _ hj]

theorem untake {ch : Chan} : ChannelsEnd s (t.untake ch) := h.updReq fun _ => rfl

theorem settleRing {r n : Nat} : ChannelsEnd s (State.settleRing r n t) := by
  induction n generalizing t with
  | zero => exact h
  | succ n ih =>
    unfold State.settleRing
    dsimp only
    split
    · exact h
    · exact .ite h (.ite h.updRing (.ite (ih h.updRing.writeBack) h))

theorem dropChans {e : Nat} {p : Chan → Bool} : ChannelsEnd s (t.dropChans e p) :=
  settleLsOff (h.updEngine (fun _ => rfl) fun x hx => by simp [hx])

theorem limitChans {e : Nat} {p : Chan → Bool} : ChannelsEnd s (t.limitChans e p) :=
  h.updEngine (fun _ => rfl) fun x hx => by simp [hx]

theorem endChan {status : Nat} {run : Option Nat} {ch : Chan} : ChannelsEnd s (t.endChan status run ch) :=
  .ite h.untake.writeBackAt (.ite h.untake.writeBackAt h.untake)

theorem endChans {e : Nat} {p : Chan → Bool} {status : Nat} : ChannelsEnd s (t.endChans e p status) :=
  .forAll (fun _ _ h => h.settleRing) (.foldl (fun _ _ h => h.endChan) h.dropChans)

theorem resetEngine {e : Nat} : ChannelsEnd s (t.resetEngine e) :=
  .forAll (fun t l h => by
    split
    · exact h
    · exact .ite h.endChans.updLane h) h

theorem finishDisable {r : Nat} : ChannelsEnd s (t.finishDisable r) := by
  unfold State.finishDisable
  exact h.endChans.updRing

end ChannelsEnd

/-! ### The standing of rings -/

/-- Ring y stands as x does: neither its state nor ERR, EN and BUSY have changed, and prefetched descriptors have at most gone. -/
structure Ring.SameStanding (x y : Ring) : Prop where
  st : y.st = x.st
  err : y.err = x.err
  en : y.en = x.en
  busy : y.busy = x.busy
  pre : x.pre = [] → y.pre = []

theorem Ring.SameStanding.refl (x : Ring) : x.SameStanding x := ⟨rfl, rfl, rfl, rfl, id⟩

theorem Ring.SameStanding.trans {x y z : Ring} (h : x.SameStanding y) (k : y.SameStanding z) : x.SameStanding z :=
  ⟨k.st.trans h.st, k.err.trans h.err, k.en.trans h.en, k.busy.trans h.busy, k.pre ∘ h.pre⟩

/-- Every ring stands in t as it did in s. -/
def RingsStand (s t : State) : Prop := ∀ r, (s.getRing r).SameStanding (t.getRing r)

namespace RingsStand

variable {s t u : State}

theorem refl (s : State) : RingsStand s s := fun _ => .refl _

theorem same (h : RingsStand s t) (hr : u.rings = t.rings) : RingsStand s u := fun r => State.getRing_of_rings hr r ▸ h r

theorem foldl {α : Type} {f : State → α → State} {l : List α} (hf : ∀ t a, RingsStand s t → RingsStand s (f t a)) (h : RingsStand s t) :
    RingsStand s (l.foldl f t) := foldl_inv (RingsStand s) f hf l t h

variable (h : RingsStand s t)
include h

theorem trans (k : RingsStand t u) : RingsStand s u := fun r => (h r).trans (k r)

theorem updRing {k : Nat} {f : Ring → Ring} (hf : ∀ x : Ring, x.SameStanding (f x)) : RingsStand s (t.updRing k f) := fun r => by
  refine (h r).trans ?_
  by_cases hk : r = k
  · subst hk
    rw [State.getRing_updRing]
    exact hf _
  · rw [State.getRing_updRing_ne _ _ _ _ hk]
    exact .refl _

theorem writeBackAt {f a r i status done : Nat} : RingsStand s (t.writeBackAt f a r i status done) :=
  updRing (t := (t.dma ..).dma ..) (h.same rfl) fun _ => ⟨rfl, rfl, rfl, rfl, id⟩

theorem dropPrefetch {r : Nat} : RingsStand s (t.dropPrefetch r) := h.updRing fun _ => ⟨rfl, rfl, rfl, rfl, fun _ => rfl⟩

theorem dropChans {e : Nat} {p : Chan → Bool} : RingsStand s (t.dropChans e p) := h.same (by simp [State.dropChans])

theorem endChan {status : Nat} {run : Option Nat} {ch : Chan} : RingsStand s (t.endChan status run ch) := by
  have hu : RingsStand s (t.untake ch) := h.same rfl
  unfold State.endChan
  dsimp only
  split
  · exact hu.writeBackAt
  · split
    · exact hu.writeBackAt
    · exact hu

/-- Where every channel of the engine ends, no ring has a descriptor that comes to be its next. -/
theorem endChans {e : Nat} {p : Chan → Bool} {status : Nat} (hp : ∀ c ∈ (t.getEngine e).chans, p c = true) :
    RingsStand s (t.endChans e p status) := by
  unfold State.endChans
  dsimp only
  rw [List.filter_filter, List.filter_eq_nil_iff.mpr fun c hc => by simp [hp c hc]]
  rw [List.map_nil, forAll, List.foldl_nil]
  exact foldl (fun _ _ h => h.endChan) h.dropChans

end RingsStand

end Sys2Proof.Machine
end

section
/-! Writes of PREC_CTL and FEED_WCFG (R180, R197, R198, R204, R307). -/

namespace Sys2Proof.Machine

/-! ### The word of an enable and of a disable -/

theorem bit_or_top (v : W32) : bit (v ||| 0x80000000) 31 = true := by simp [bit]

theorem bit_and_below_top (v : W32) : bit (v &&& 0x7FFFFFFF) 31 = false := by simp [bit]

/-- Setting bit 31 leaves the fields below it. -/
theorem fld_or_top (v : W32) {lo n : Nat} (h : lo + n ≤ 31) : fld (v ||| 0x80000000) lo n = fld v lo n := by
  refine BitVec.eq_of_getLsbD_eq fun i hi => ?_
  have htop : (0x80000000 : W32).getLsbD (lo + i) = false := by
    refine (BitVec.getLsbD_twoPow (w := 32) 31 (lo + i)).trans ?_
    simp
    omega
  rw [fld, fld, BitVec.getLsbD_extractLsb', BitVec.getLsbD_extractLsb', BitVec.getLsbD_or, htop, Bool.or_false]

section
variable {s : State} {f : Nat}

/-! ### PREC_CTL (R307) -/

theorem State.putEvt_prec (v : W32) : s.putEvt f 0x4048 v = s.updHost f (fun h => h.putPrecCtl v) := by
  unfold State.putEvt
  rw [slotAt_outside (by omega), slotAt_outside (by omega), slotAt_outside (by omega), slotAt_outside (by omega)]
  rfl

theorem State.write_precCtl (ha : Arrives f s) (v : W32) : s.write f 0x204048 v = s.updHost f (fun h => h.putPrecCtl v) := by
  rw [State.write, show 0x204048 = 0x200000 + 0x4048 from rfl, State.access_evt ha (by omega) (by omega) (.inr (by decide)), State.putEvt_prec]

/-- A function whose record ring starts, empty, with this size. -/
def HostFn.startRecords (log2 : BitVec 4) (h : HostFn) : HostFn := { h with prEn := true, prLog := log2, prTail := 0, prPhase := true }

/-- Bit 31 with a size of R307 starts a record ring that was disabled. -/
theorem HostFn.putPrecCtl_enable {h : HostFn} {v : W32} (he : h.prEn = false) (hv : bit v 31 = true) (hlo : 4 ≤ (fld v 0 4).toNat)
    (hhi : (fld v 0 4).toNat ≤ 12) : h.putPrecCtl v = h.startRecords (fld v 0 4) := by
  have hlog : inRange h.prLog v 0 4 12 = fld v 0 4 := if_pos ⟨hlo, hhi⟩
  simp [HostFn.putPrecCtl, HostFn.startRecords, he, hv, hlog]

/-- A word with bit 31 clear stops the record ring. -/
theorem HostFn.putPrecCtl_disable (h : HostFn) {v : W32} (hv : bit v 31 = false) : (h.putPrecCtl v).prEn = false := by
  unfold HostFn.putPrecCtl
  rw [hv]
  rfl

/-! ### FEED_WCFG (R204) -/

theorem blockOf_feed {o : Nat} (h : o < 0x80000) : blockOf (0x380000 + o) = .feed := by
  unfold blockOf
  rw [if_neg (by omega), if_neg (by omega), if_neg (by omega), if_neg (by omega), if_neg (by omega), if_neg (by omega), if_neg (by omega),
    if_neg (by omega), if_neg (by omega), if_neg (by omega), if_neg (by omega), if_neg (by omega), if_neg (by omega), if_pos (by omega)]

/-- The window registers of FEED are every function's to write (R128, R204). -/
theorem State.mayWrite_feedWindow {o : Nat} (hlo : 0x40000 ≤ o) (hhi : o < 0x50000) : s.mayWrite f (0x380000 + o) = true := by
  have hblock : blockOf (0x380000 + o) = .feed := blockOf_feed (by omega)
  have hslot : slotAt (0x380000 + o - 0x380000) 0 4 65536 = none := slotAt_outside (by omega)
  have hsees : s.sees f (0x380000 + o) = true := by
    rw [State.sees, hslot, hblock]
    exact decide_eq_true (by omega)
  rw [State.mayWrite, hsees, hblock, Bool.true_and]
  exact decide_eq_true (by omega)

/-- A write of FEED_WCFG reaches the ring of the window where it is the function's own. -/
theorem State.write_feedWcfg (ha : Arrives f s) (hon : s.on dFEED = true) (hown : s.ringLane (s.getHost f).wsel.toNat = f) (v : W32) :
    s.write f 0x3C0010 v = s.putRingCfg f (s.getHost f).wsel.toNat v := by
  have hrun : s.stoppedAt (0x380000 + 0x40010) = false := State.stoppedAt_of_runs fun d hd => by
    rw [State.target, blockOf_feed (by omega)] at hd
    exact Option.some.inj hd ▸ hon
  rw [State.write, show 0x3C0010 = 0x380000 + 0x40010 from rfl, regAcc_aligned (by omega),
    State.access_write ha (.inr (State.mayWrite_feedWindow (by omega) (by omega))) hrun, State.regPut, blockOf_feed (by omega)]
  exact if_neg (not_not_intro hown)

end

section
variable {s : State} {r : Nat}

/-- A ring as its enable leaves it: it runs with both indexes 0 (R198). -/
def Ring.started (x : Ring) : Ring := { x with en := true, st := .run, err := 0, pidx := 0, cidx := 0, pre := [] }

/-- Enabled, a ring runs where its size is legal, no other enabled ring can clash with it, its lane is not RESETTING and its engine runs
(R180, R198). -/
theorem State.enableRing_runs (hlo : 4 ≤ (s.getRing r).log2.toNat) (hhi : (s.getRing r).log2.toNat ≤ 12)
    (hother : ∀ e ∈ s.rings, e.1 ≠ r → e.2.en = false) (hlane : (s.getLane (s.ringLane r)).st ≠ .resetting)
    (hrun : (s.getEngine (engineOf r)).stopped = false) (hbusy : (s.getRing r).busy = false) : s.enableRing r = s.updRing r Ring.started := by
  have hclash : s.rings.any (fun e => decide (e.1 ≠ r) && e.2.en && decide (e.2.cell = (s.getRing r).cell) &&
      decide (e.2.line = (s.getRing r).line)) = false := List.any_eq_false.mpr fun e he => by
    by_cases hr : e.1 = r
    · simp [hr]
    · simp [hother e he hr]
  unfold State.enableRing
  dsimp only
  rw [hclash, hrun, hbusy, if_neg, if_neg Bool.false_ne_true]
  · rfl
  · simp [Nat.not_lt.mpr hlo, Nat.not_lt.mpr hhi, hlane]

/-- A ring of an engine without channels is DISABLED at once, whatever it has prefetched (R197). -/
theorem State.disableRing_idle (hst : (s.getRing r).st ≠ .disabled) (hc : (s.getEngine (engineOf r)).chans = []) :
    ((s.disableRing r).getRing r).en = false ∧ ((s.disableRing r).getRing r).st = .disabled ∧ ((s.disableRing r).getRing r).pre = [] := by
  unfold State.disableRing
  dsimp only
  rw [if_neg hst]
  generalize Option.map _ _ = run
  generalize ha : s.updRing r _ = a
  have hen : (a.getRing r).en = false := by rw [← ha, State.getRing_updRing]
  have hca : (a.getEngine (engineOf r)).chans = [] := ha ▸ hc
  generalize hb : State.limitChans (engineOf r) _ _ = b
  have hends : ChannelsEnd a b := hb ▸ (ChannelsEnd.refl a).dropPrefetch.endChans.limitChans
  have hcb := hends.empty _ hca
  have hstands : RingsStand a b := by
    rw [← hb]
    exact ((RingsStand.refl a).dropPrefetch.endChans fun c hmem => absurd hmem (hca ▸ List.not_mem_nil)).same rfl
  have hmid : b.midBurst r = false := by simp [State.midBurst, hcb]
  rw [hmid, if_neg Bool.false_ne_true]
  unfold State.finishDisable
  dsimp only
  generalize hd : State.endChans (engineOf r) _ _ b = d
  have hend : (d.getRing r).en = false := by
    have hbd : RingsStand b d := hd ▸ (RingsStand.refl b).endChans fun c hmem => absurd hmem (hcb ▸ List.not_mem_nil)
    rw [((hstands.trans hbd) r).en, hen]
  rw [State.getRing_updRing, hend, if_neg Bool.false_ne_true]
  exact ⟨rfl, rfl, rfl⟩

end

/-! ### The rows -/

section
variable {f : LaneIx} {s : State}

theorem exec_precEnable (ha : Arrives f.val s) (v : W32) :
    exec (.precEnable f v) s = .next (s.updHost f.val (fun h => h.putPrecCtl (v ||| 0x80000000))) :=
  congrArg Host.Outcome.next (State.write_precCtl ha _)

theorem exec_precDisable (ha : Arrives f.val s) :
    exec (.precDisable f) s = .next (s.updHost f.val (fun h => h.putPrecCtl (put 0 (s.getHost f.val).prLog))) :=
  congrArg Host.Outcome.next (State.write_precCtl ha _)

variable (ha : Arrives f.val s) (hon : s.on dFEED = true) (hown : s.ringLane (s.getHost f.val).wsel.toNat = f.val)
include ha hon hown

theorem exec_ringEnable (v : W32) :
    exec (.ringEnable f v) s = .next (s.putRingCfg f.val (s.getHost f.val).wsel.toNat (v ||| 0x80000000)) :=
  congrArg Host.Outcome.next (State.write_feedWcfg ha hon hown _)

theorem exec_ringDisable (v : W32) :
    exec (.ringDisable f v) s = .next (s.putRingCfg f.val (s.getHost f.val).wsel.toNat (v &&& 0x7FFFFFFF)) :=
  congrArg Host.Outcome.next (State.write_feedWcfg ha hon hown _)

end

/-- A ring as the fields of FEED_WCFG written by function f leave it while EN is 0 (R204). -/
def Ring.configured (f : Nat) (v : W32) (x : Ring) : Ring :=
  let x := { x with refused := w1cBit x.refused v 29, burst := fld v 27 2, log2 := fld v 20 4 }
  if f = 0 then { x with line := fld v 16 4, cell := fld v 0 8 } else x

section
variable {s : State} {f r : Nat} {v : W32}

/-- FEED_WCFG with EN = 1 of a disabled ring: its fields, then the enable (R198). -/
theorem State.putRingCfg_enable (hv : bit v 31 = true) (hen : (s.getRing r).en = false) :
    s.putRingCfg f r v = (s.updRing r (Ring.configured f v)).enableRing r := by
  unfold State.putRingCfg
  dsimp only
  rw [hv, hen]
  rfl

/-- FEED_WCFG with EN = 0 of an enabled ring (R197). -/
theorem State.putRingCfg_disable (hv : bit v 31 = false) (hen : (s.getRing r).en = true) :
    s.putRingCfg f r v = (s.updRing r (fun x => { x with refused := w1cBit x.refused v 29 })).disableRing r := by
  unfold State.putRingCfg
  dsimp only
  rw [hv, hen]
  rfl

/-- A write that is of another function, or gives the ring the cell it has, leaves its owner. -/
theorem Ring.configured_keeps {x : Ring} (h : f ≠ 0 ∨ fld v 0 8 = x.cell) :
    (x.configured f v).cell = x.cell ∧ (x.configured f v).log2 = fld v 20 4 ∧ (x.configured f v).busy = x.busy := by
  unfold Ring.configured
  dsimp only
  split
  · next h0 => exact ⟨h.resolve_left (not_not_intro h0), rfl, rfl⟩
  · exact ⟨rfl, rfl, rfl⟩

/-- After an update of one ring, an entry of another is as it was. -/
theorem State.mem_rings_updRing {u : Ring → Ring} {e : Nat × Ring} (he : e ∈ (s.updRing r u).rings) (hr : e.1 ≠ r) : e ∈ s.rings := by
  have hput : e ∈ tabPut ringReset s.rings r (u (s.getRing r)) := he
  unfold tabPut at hput
  dsimp only at hput
  split at hput
  · exact (List.mem_filter.mp hput).1
  · rcases tabIns_mem _ _ _ _ hput with rfl | h
    · exact absurd rfl hr
    · exact (List.mem_filter.mp h).1

/-- FEED_WCFG with EN = 1 starts the ring with the fields it brings, where no other ring is enabled (R180, R198, R204). -/
theorem State.putRingCfg_starts (hv : bit v 31 = true) (hen : (s.getRing r).en = false) (hbusy : (s.getRing r).busy = false)
    (hbind : f ≠ 0 ∨ fld v 0 8 = (s.getRing r).cell) (hlo : 4 ≤ (fld v 20 4).toNat) (hhi : (fld v 20 4).toNat ≤ 12)
    (hother : ∀ e ∈ s.rings, e.2.en = false) (hlane : (s.getLane (s.ringLane r)).st ≠ .resetting)
    (hrun : (s.getEngine (engineOf r)).stopped = false) :
    s.putRingCfg f r v = (s.updRing r (Ring.configured f v)).updRing r Ring.started := by
  obtain ⟨hcell, hlog, hbusy'⟩ := Ring.configured_keeps hbind
  have hget := State.getRing_updRing s r (Ring.configured f v)
  have howner : (s.updRing r (Ring.configured f v)).ringLane r = s.ringLane r := by
    rw [State.ringLane, hget, hcell]
    rfl
  rw [State.putRingCfg_enable hv hen]
  exact State.enableRing_runs (by rwa [hget, hlog]) (by rwa [hget, hlog]) (fun e he hr => hother e (State.mem_rings_updRing he hr))
    (by rw [howner]; exact hlane) hrun (by rw [hget, hbusy', hbusy])

end

/-- Settles O16: each write reaches its ring, and the lemma of its ring says what it does there. -/
theorem enablesTakeEffect : Obligations.EnablesTakeEffect := by
  unfold Obligations.EnablesTakeEffect
  intro f v s ha
  dsimp only
  refine ⟨fun he hlo hhi => ?_, ⟨_, exec_precDisable ha, samePlant_updHost .., ?_⟩,
    fun hon hown hen hbusy hbind hlo hhi hrun hlane hother => ⟨_, exec_ringEnable ha hon hown v, ?_⟩,
    fun hon hown hen hst hc => ⟨_, exec_ringDisable ha hon hown v, ?_⟩⟩
  · have hfld := fld_or_top v (lo := 0) (n := 4) (by omega)
    rw [exec_precEnable ha, State.updHost_congr (HostFn.putPrecCtl_enable he (bit_or_top v) (hfld ▸ hlo) (hfld ▸ hhi)), hfld]
    rfl
  · rw [State.getHost_updHost, HostFn.putPrecCtl_disable]
    simp [bit, put]
  · have hlog := fld_or_top v (lo := 20) (n := 4) (by omega)
    have hbind' := hbind.imp_right fun h => (fld_or_top v (lo := 0) (n := 8) (by omega)).trans h.1
    generalize (s.getHost f.val).wsel.toNat = r at *
    rw [State.putRingCfg_starts (bit_or_top v) hen hbusy hbind' (by rwa [hlog]) (by rwa [hlog]) hother (hown ▸ hlane) hrun, State.getRing_updRing,
      State.getRing_updRing]
    obtain ⟨-, hlog', -⟩ := Ring.configured_keeps hbind'
    exact ⟨rfl, rfl, rfl, rfl, rfl, hlog'.trans hlog⟩
  · generalize (s.getHost f.val).wsel.toNat = r at *
    rw [State.putRingCfg_disable (bit_and_below_top v) hen]
    refine State.disableRing_idle ?_ hc
    rwa [State.getRing_updRing]

end Sys2Proof.Machine
end

section
/-! Feed engines at work (R184 to R195): descriptors that arrive, channels that start, read, are acknowledged and complete, and the bus-error stop. -/

namespace Sys2Proof.Machine

/-! ### Reads go out (R188, R189) -/

/-- A channel without the count of the bytes for which reads have been issued. -/
def Chan.unissued (c : Chan) : Chan := { c with issued := 0 }

/-- From s to t engine e has issued reads: they lie behind those that were outstanding, and nothing of a channel but its count has changed. -/
structure ReadsGoOut (e : Nat) (s t : State) : Prop where
  rest : ∃ engines out, t = { s with engines := engines, out := out }
  chans : (t.getEngine e).chans.map Chan.unissued = (s.getEngine e).chans.map Chan.unissued
  reads : (s.getEngine e).reads <+: (t.getEngine e).reads
  last : (t.getEngine e).last = (s.getEngine e).last

namespace ReadsGoOut

variable {e : Nat} {s t u : State}

theorem refl (s : State) : ReadsGoOut e s s := ⟨⟨_, _, rfl⟩, rfl, List.prefix_rfl, rfl⟩

theorem trans (h : ReadsGoOut e s t) (k : ReadsGoOut e t u) : ReadsGoOut e s u where
  rest := by
    obtain ⟨_, _, rfl⟩ := h.rest
    obtain ⟨_, _, rfl⟩ := k.rest
    exact ⟨_, _, rfl⟩
  chans := k.chans.trans h.chans
  reads := h.reads.trans k.reads
  last := k.last.trans h.last

theorem rings (h : ReadsGoOut e s t) : t.rings = s.rings := by
  obtain ⟨_, _, rfl⟩ := h.rest
  rfl

theorem reqs (h : ReadsGoOut e s t) : t.reqs = s.reqs := by
  obtain ⟨_, _, rfl⟩ := h.rest
  rfl

theorem store (h : ReadsGoOut e s t) : t.store = s.store := by
  obtain ⟨_, _, rfl⟩ := h.rest
  rfl

end ReadsGoOut

/-- The next read of channel c (R188). -/
def State.nextRead (s : State) (c : Chan) : FeedRead :=
  { chan := c.id, ring := c.ring, addr := (c.desc.readAt (mrrsBytes (s.getHost c.fn).mrrs) c.issued).1
    left := (c.desc.readAt (mrrsBytes (s.getHost c.fn).mrrs) c.issued).2, dead := false }

/-- An engine that has issued read y of channel c. -/
def Engine.issue (c : Chan) (y : FeedRead) (x : Engine) : Engine :=
  { x with reads := x.reads ++ [y], chans := x.chans.map (fun z => if z.id = c.id then { z with issued := z.issued + y.left } else z) }

/-- Engine e issues the next read of channel c. -/
def State.issue (e : Nat) (c : Chan) (s : State) : State :=
  (s.updEngine e (Engine.issue c (s.nextRead c))).send (.feedRead e (s.nextRead c).addr (s.nextRead c).left (s.getHost c.fn).relaxed)

section
variable {e : Nat} {s : State}

theorem State.getEngine_issue (c : Chan) : (s.issue e c).getEngine e = (s.getEngine e).issue c (s.nextRead c) := State.getEngine_updEngine ..

/-- With room among the 48 reads the engine issues the next read of its first channel that has one (R189, R192). -/
theorem State.issueReads_issues {c : Chan} (n : Nat) (hstop : (s.getEngine e).stopped = false) (hroom : s.readsOut e + s.fetchesBefore e 65536 < 48)
    (hc : (s.getEngine e).chans.find? (fun c => decide (c.issued < c.limit)) = some c) :
    State.issueReads e (n + 1) s = State.issueReads e n (s.issue e c) := by
  have hgo : ¬ ((s.getEngine e).stopped = true ∨ 48 ≤ s.readsOut e + s.fetchesBefore e 65536) := by
    rw [hstop]
    simpa using hroom
  rw [State.issueReads]
  dsimp only
  rw [if_neg hgo, hc]
  rfl

theorem ReadsGoOut.issue (c : Chan) : ReadsGoOut e s (s.issue e c) where
  rest := ⟨_, _, rfl⟩
  chans := by
    rw [State.getEngine_issue, Engine.issue, List.map_map]
    refine List.map_congr_left fun z _ => ?_
    dsimp only [Function.comp]
    split <;> rfl
  reads := by
    rw [State.getEngine_issue]
    exact List.prefix_append ..
  last := by
    rw [State.getEngine_issue]
    rfl

theorem State.issueReads_goOut (e n : Nat) (s : State) : ReadsGoOut e s (State.issueReads e n s) := by
  induction n generalizing s with
  | zero => exact .refl s
  | succ n ih =>
    unfold State.issueReads
    dsimp only
    split
    · exact .refl s
    · split
      · exact .refl s
      · next c _ => exact (ReadsGoOut.issue c).trans (ih (s.issue e c))

end

/-! ### Descriptors (R184, R185, R187) -/

section
variable {s : State} {r : Nat}

theorem State.getRing_writeBackAt (f a i status done : Nat) : (s.writeBackAt f a r i status done).getRing r =
    { s.getRing r with cidx := BitVec.ofNat 12 ((i + 1) % (s.getRing r).size) } := by
  unfold State.writeBackAt
  dsimp only
  rw [State.getRing_updRing, State.getRing_of_rings (s := s) (by simp)]

/-- A ring whose next descriptor, if it has one, is owned and good stays as it is. -/
theorem State.settleRing_ready (h : ∀ d ds, (s.getRing r).pre = d :: ds → d.own = true ∧ d.bad = false) (n : Nat) : State.settleRing r n s = s := by
  cases n with
  | zero => rfl
  | succ n =>
    unfold State.settleRing
    dsimp only
    split
    · rfl
    · next d ds hpre =>
      obtain ⟨ho, hb⟩ := h d ds hpre
      simp [ho, hb]

variable {d : Desc} {ds : List Desc} (hpre : (s.getRing r).pre = d :: ds) (hidle : s.inService r = 0)
include hpre hidle

theorem State.settleRing_unowned (ho : d.own = false) (n : Nat) :
    State.settleRing r (n + 1) s = s.updRing r (fun x => { x with st := .error, err := errNotOwned, pre := [] }) := by
  rw [State.settleRing, hpre]
  simp [hidle, ho]

theorem State.settleRing_bad (ho : d.own = true) (hb : d.bad = true) (n : Nat) :
    State.settleRing r (n + 1) s = State.settleRing r n ((s.updRing r (fun x => { x with pre := ds })).writeBack r d.idx wbBadDesc 0) := by
  rw [State.settleRing, hpre]
  simp [hidle, ho, hb]

end

theorem whenOn_on {s : State} {d : Nat} (h : s.on d = true) (u : State → State) : whenOn d u s = u s := if_pos h

/-- A ring with descriptor d behind those prefetched. -/
def Ring.prefetch (d : Desc) (x : Ring) : Ring := { x with pre := x.pre ++ [d] }

section
variable {s : State} {r : Nat}

/-- The data of a fetch that no stop left behind join the prefetched descriptors, which settle; then reads go out. -/
theorem descriptorArrival_joins (hon : s.on dFEED = true) (hstale : (s.getRing r).stale = 0) (hf : s.fetches r = true) (raw : BitVec 512) :
    descriptorArrival r raw s =
      State.issueReads (engineOf r) 48 (State.settleRing r 5 (s.updRing r (Ring.prefetch (readDesc s r (s.fetchIdx r) raw)))) := by
  unfold descriptorArrival
  rw [whenOn_on hon]
  dsimp only
  rw [if_neg (not_not_intro hstale), if_pos hf]
  rfl

/-- Where reads go out after a change of rings, only rings and engines have changed. -/
theorem ReadsGoOut.samePlant {e : Nat} {rings : Tab Ring} {t : State} (h : ReadsGoOut e { s with rings := rings } t) :
    SamePlant { s with rings := t.rings, engines := t.engines } t := by
  obtain ⟨_, _, rfl⟩ := h.rest
  rfl

theorem State.settleRing_arrived_good {d : Desc} (ho : d.own = true) (hb : d.bad = false)
    (hpre : ∀ x ∈ (s.getRing r).pre, x.own = true ∧ x.bad = false) :
    State.settleRing r 5 (s.updRing r (Ring.prefetch d)) = s.updRing r (Ring.prefetch d) := by
  refine State.settleRing_ready (fun x xs hx => ?_) 5
  rw [State.getRing_updRing, Ring.prefetch] at hx
  have hmem : x ∈ (s.getRing r).pre ++ [d] := (show (s.getRing r).pre ++ [d] = x :: xs from hx) ▸ List.mem_cons_self
  rcases List.mem_append.mp hmem with h | h
  · exact hpre x h
  · rw [List.mem_singleton.mp h]
    exact ⟨ho, hb⟩

variable {d : Desc} (hpre : (s.getRing r).pre = []) (hidle : s.inService r = 0)
include hpre hidle

theorem State.settleRing_arrived_unowned (ho : d.own = false) :
    State.settleRing r 5 (s.updRing r (Ring.prefetch d)) =
      (s.updRing r (Ring.prefetch d)).updRing r (fun x => { x with st := .error, err := errNotOwned, pre := [] }) :=
  State.settleRing_unowned (s := s.updRing r (Ring.prefetch d)) (ds := []) (by rw [State.getRing_updRing, Ring.prefetch, hpre]; rfl) hidle ho 4

theorem State.getRing_settleRing_arrived_bad (ho : d.own = true) (hb : d.bad = true) :
    (State.settleRing r 5 (s.updRing r (Ring.prefetch d))).getRing r =
      { s.getRing r with pre := [], cidx := BitVec.ofNat 12 ((d.idx + 1) % (s.getRing r).size) } := by
  have hp : ((s.updRing r (Ring.prefetch d)).getRing r).pre = [d] := by
    rw [State.getRing_updRing, Ring.prefetch, hpre]
    rfl
  rw [State.settleRing_bad hp hidle ho hb 4]
  generalize ht : State.writeBack r d.idx wbBadDesc 0 _ = t
  have hring : t.getRing r = { s.getRing r with pre := [], cidx := BitVec.ofNat 12 ((d.idx + 1) % (s.getRing r).size) } := by
    rw [← ht, State.writeBack, State.getRing_writeBackAt, State.getRing_updRing, State.getRing_updRing]
    rfl
  rw [State.settleRing_ready (fun x xs hx => by rw [hring] at hx; cases hx) 4, hring]

end

/-! ### CHANNEL-START (R191, R192) -/

/-- The channel that descriptor d of ring r starts under number i (R191). -/
def State.newChan (s : State) (i r : Nat) (d : Desc) : Chan :=
  { id := i, ring := r, fn := s.ringLane r, at_ := (s.getRing r).base.toNat + 64 * d.idx, cell := (s.getRing r).cell.toNat
    line := (s.getRing r).line.toNat, burst := burstSize (s.getRing r).burst, desc := d, total := d.total, limit := d.total, issued := 0, buf := []
    got := 0, wrote := 0, acked := 0 }

/-- The requests of descriptor d are taken, and ring r goes on to the descriptors ds. -/
def State.claim (r : Nat) (d : Desc) (ds : List Desc) (s : State) : State :=
  (s.updReq (reqKey (s.getRing r).cell.toNat (s.getRing r).line.toNat) (fun q => { q with taken := q.taken + d.total })).updRing r
    (fun x => { x with pre := ds })

/-- Engine e starts the channel of ring r whose descriptor is d. -/
def State.startChan (e r : Nat) (d : Desc) (ds : List Desc) (s : State) : State :=
  (s.claim r d ds).updEngine e (fun x => { x with
    last := r, nextId := x.nextId + 1, chans := x.chans ++ [s.newChan (s.getEngine e).nextId r d] })

section
variable {s : State} {e r : Nat} {d : Desc} {ds : List Desc}

theorem State.getRing_claim : (s.claim r d ds).getRing r = { s.getRing r with pre := ds } := by
  rw [State.claim, State.getRing_updRing]
  rfl

theorem State.ringLane_claim : (s.claim r d ds).ringLane r = s.ringLane r := by
  rw [State.ringLane, State.getRing_claim]
  rfl

theorem channelStart_starts (hon : s.on dFEED = true) (hstop : (s.getEngine e).stopped = false)
    (hlast : ∀ c ∈ (s.getEngine e).chans, c.total ≤ c.issued) (hnext : s.nextRing e = some r) (hpre : (s.getRing r).pre = d :: ds) :
    channelStart e s = State.issueReads e 48 (s.startChan e r d ds) := by
  have hnone : (s.getEngine e).chans.any (fun c => decide (c.issued < c.total)) = false :=
    List.any_eq_false.mpr fun c hc => by simpa using hlast c hc
  unfold channelStart
  rw [whenOn_on hon]
  dsimp only
  rw [hstop, hnone, hnext]
  dsimp only
  rw [hpre, State.startChan, State.newChan, ← State.ringLane_claim (d := d) (ds := ds)]
  rfl

theorem State.getEngine_startChan : (s.startChan e r d ds).getEngine e = { s.getEngine e with
    last := r, nextId := (s.getEngine e).nextId + 1, chans := (s.getEngine e).chans ++ [s.newChan (s.getEngine e).nextId r d] } :=
  State.getEngine_updEngine ..

theorem State.getRing_startChan : (s.startChan e r d ds).getRing r = { s.getRing r with pre := ds } :=
  (State.getRing_of_rings (s := s.claim r d ds) rfl r).trans State.getRing_claim

theorem State.getReq_startChan : ((s.startChan e r d ds).getReq (reqKey (s.getRing r).cell.toNat (s.getRing r).line.toNat)).taken =
    (s.getReq (reqKey (s.getRing r).cell.toNat (s.getRing r).line.toNat)).taken + d.total :=
  (congrArg ReqLine.taken (State.getReq_updReq s _ (fun q => { q with taken := q.taken + d.total })) :)

/-! ### The first read of a channel (R186, R188) -/

/-- The stream of a descriptor begins at its base address. -/
theorem Desc.readAt_zero (d : Desc) (mrrs : Nat) : d.readAt mrrs 0 = (d.base.toNat, readLen mrrs d.base.toNat d.span) := by
  simp [Desc.readAt, Desc.spanAt, spanAddr, Nat.mod_eq_of_lt d.base.isLt]

theorem State.fetchesDue_le (s : State) (r : Nat) : s.fetchesDue r ≤ 4 := by
  unfold State.fetchesDue
  dsimp only
  split
  · omega
  · omega

/-- A table of one entry, written there, lists that entry at most. -/
theorem tabPut_single {α : Type} [DecidableEq α] (d : Nat → α) (k : Nat) (x v : α) : tabPut d [(k, x)] k v = if v = d k then [] else [(k, v)] := by
  simp [tabPut, tabIns]

/-- An engine without reads and with one ring, which has no data to discard, has at most its four descriptor fetches outstanding. -/
theorem State.startChan_room (hreads : (s.getEngine e).reads = []) (hrings : s.rings = [(r, s.getRing r)]) (hstale : (s.getRing r).stale = 0) :
    (s.startChan e r d ds).readsOut e + (s.startChan e r d ds).fetchesBefore e 65536 < 48 := by
  generalize ht : s.startChan e r d ds = t
  have hr : t.rings = [] ∨ t.rings = [(r, { s.getRing r with pre := ds })] := by
    have hput : t.rings = tabPut ringReset s.rings r { s.getRing r with pre := ds } := ht ▸ rfl
    rw [hput, hrings, tabPut_single]
    split
    · exact .inl rfl
    · exact .inr rfl
  have he : (t.getEngine e).reads = [] := by rw [← ht, State.getEngine_startChan, ← hreads]
  have hdue := t.fetchesDue_le r
  rcases hr with hr | hr
  · simp [State.readsOut, State.fetchesBefore, he, hr]
  · have hout : t.readsOut e = 0 := by
      simp only [State.readsOut, he, hr]
      by_cases h : engineOf r = e <;> simp [h, hstale]
    have hbefore : t.fetchesBefore e 65536 ≤ 4 := by
      simp only [State.fetchesBefore, hr]
      by_cases h : engineOf r = e ∧ r < 65536 <;> simp [h, hdue]
    omega

/-- The first read of the only channel of an engine without reads is the one at the start of span (0, 0, 0). -/
theorem State.startChan_first_read (hstop : (s.getEngine e).stopped = false) (hchans : (s.getEngine e).chans = []) (hreads : (s.getEngine e).reads = [])
    (htotal : 0 < d.total) (hrings : s.rings = [(r, s.getRing r)]) (hstale : (s.getRing r).stale = 0) :
    (((State.issueReads e 48 (s.startChan e r d ds)).getEngine e).reads.head?).map (fun y => (y.addr, y.left)) =
      some (d.base.toNat, readLen (mrrsBytes (s.getHost (s.ringLane r)).mrrs) d.base.toNat d.span) := by
  have heng := State.getEngine_startChan (s := s) (e := e) (r := r) (d := d) (ds := ds)
  have hroom := State.startChan_room (d := d) (ds := ds) hreads hrings hstale
  have hhost : (s.startChan e r d ds).getHost (s.ringLane r) = s.getHost (s.ringLane r) := rfl
  generalize s.startChan e r d ds = t at heng hroom hhost
  generalize hc : s.newChan (s.getEngine e).nextId r d = c at heng
  have hfind : (t.getEngine e).chans.find? (fun c => decide (c.issued < c.limit)) = some c := by
    rw [heng, hchans, ← hc]
    exact List.find?_cons_of_pos (decide_eq_true htotal)
  have hpre := (State.issueReads_goOut e 47 (t.issue e c)).reads
  rw [← State.issueReads_issues 47 (by rw [heng]; exact hstop) hroom hfind, State.getEngine_issue, Engine.issue, heng, hreads] at hpre
  obtain ⟨rest, hrest⟩ := hpre
  have hread : ((t.nextRead c).addr, (t.nextRead c).left) =
      (d.base.toNat, readLen (mrrsBytes (s.getHost (s.ringLane r)).mrrs) d.base.toNat d.span) := by
    rw [← hhost, ← Desc.readAt_zero, ← hc]
    rfl
  rw [← hrest, ← hread]
  rfl

end

/-! ### READ-COMPLETION (R189, R192) -/

/-- What R189 counts of a channel: its number and the bytes that it has got. -/
def Chan.receipt (c : Chan) : Nat × Nat := (c.id, c.got)

/-- Channel c with the first of k bytes, up to its limit. -/
def Chan.receive (k : Nat) (bs : List Byte) (c : Chan) : Chan :=
  { c with buf := c.buf ++ bs.take (min k (c.limit - c.got)), got := c.got + min k (c.limit - c.got) }

/-- The channel of number i receives. -/
def receiveAt (i k : Nat) (bs : List Byte) (l : List Chan) : List Chan := l.map (fun y => if y.id = i then y.receive k bs else y)

/-- The bytes got by the channel of number i depend on the receipts alone. -/
theorem got_of_receipts {l m : List Chan} (h : l.map Chan.receipt = m.map Chan.receipt) (i : Nat) :
    (l.find? (fun y => decide (y.id = i))).map Chan.got = (m.find? (fun y => decide (y.id = i))).map Chan.got := by
  have hrec : ∀ l : List Chan, (l.find? (fun y => decide (y.id = i))).map Chan.got =
      ((l.map Chan.receipt).find? (fun p => decide (p.1 = i))).map Prod.snd := fun l => by
    rw [List.find?_map, Option.map_map]
    rfl
  rw [hrec, hrec, h]

theorem find_receiveAt {l : List Chan} {i k : Nat} {bs : List Byte} :
    (receiveAt i k bs l).find? (fun y => decide (y.id = i)) = (l.find? (fun y => decide (y.id = i))).map (Chan.receive k bs) := by
  induction l with
  | nil => rfl
  | cons c l ih =>
    have hcons : receiveAt i k bs (c :: l) = (if c.id = i then c.receive k bs else c) :: receiveAt i k bs l := rfl
    by_cases hc : c.id = i
    · have hid : (c.receive k bs).id = i := hc
      rw [hcons, if_pos hc, List.find?_cons_of_pos (by simpa using hid), List.find?_cons_of_pos (by simpa using hc)]
      rfl
    · rw [hcons, if_neg hc, List.find?_cons_of_neg (by simpa using hc), List.find?_cons_of_neg (by simpa using hc), ih]

section
variable {s : State} {e : Nat}

theorem ReadsGoOut.receipts {t : State} (h : ReadsGoOut e s t) : (t.getEngine e).chans.map Chan.receipt = (s.getEngine e).chans.map Chan.receipt := by
  have hrec : ∀ l : List Chan, l.map Chan.receipt = (l.map Chan.unissued).map Chan.receipt := fun l => by
    rw [List.map_map]
    rfl
  rw [hrec, h.chans, ← hrec]

/-- Bursts that go to the bank leave the rings and the receipts of the channels. -/
theorem State.pump_keeps (e i n : Nat) (s : State) : (State.pump e i n s).rings = s.rings ∧
    ((State.pump e i n s).getEngine e).chans.map Chan.receipt = (s.getEngine e).chans.map Chan.receipt := by
  induction n generalizing s with
  | zero => exact ⟨rfl, rfl⟩
  | succ n ih =>
    unfold State.pump
    split
    · exact ⟨rfl, rfl⟩
    · next c _ =>
      dsimp only
      split
      · exact ⟨rfl, rfl⟩
      · generalize hp : State.putBlocks c.cell c.line _ _ _ s = p
        have hfeed : p.rings = s.rings ∧ p.engines = s.engines := hp ▸ s.putBlocks_feed ..
        obtain ⟨hrings, hchans⟩ := ih (p.updEngine e (fun x => { x with
          chans := x.chans.map (fun y => if y.id = i then { y with buf := y.buf.drop y.burst, wrote := y.wrote + 1 } else y) }))
        refine ⟨hrings.trans hfeed.1, hchans.trans ?_⟩
        rw [State.getEngine_updEngine, State.getEngine_of_engines hfeed.2, List.map_map]
        refine List.map_congr_left fun y _ => ?_
        dsimp only [Function.comp]
        split <;> rfl

theorem State.takeData_nil (n : Nat) : State.takeData e n [] s = s := by
  cases n with
  | zero => rfl
  | succ n =>
    unfold State.takeData
    split
    · rfl
    · rfl
    · next h => exact absurd rfl h

/-- The oldest outstanding read after k bytes of it have come: what is left of it, if anything is, and those behind it. -/
def FeedRead.after (d : FeedRead) (k : Nat) (ds : List FeedRead) : List FeedRead := if k = d.left then ds else { d with left := d.left - k } :: ds

/-- Data that end no later than the oldest read go to its channel, or nowhere where a stop left the read behind. -/
theorem State.takeData_oldest {d : FeedRead} {ds : List FeedRead} {data : List Byte} (hreads : (s.getEngine e).reads = d :: ds) (hne : data ≠ [])
    (hlen : data.length ≤ d.left) (n : Nat) :
    State.takeData e (n + 1) data s = if d.dead then s.updEngine e (fun x => { x with reads := d.after data.length ds })
      else State.pump e d.chan (data.length / 64 + 1) ((s.updEngine e (fun x => { x with reads := d.after data.length ds })).updEngine e
        (fun x => { x with chans := receiveAt d.chan data.length data x.chans })) := by
  obtain ⟨b, bs, rfl⟩ := List.exists_cons_of_ne_nil hne
  have hmin : min d.left (b :: bs).length = (b :: bs).length := Nat.min_eq_right hlen
  unfold State.takeData
  rw [hreads]
  dsimp only
  rw [hmin, List.drop_length, State.takeData_nil]
  rfl

theorem readCompletion_takes (hon : s.on dFEED = true) (data : List Byte) :
    readCompletion e data s = State.issueReads e 48 (State.takeData e 48 data s) := whenOn_on hon _

section
variable {d : FeedRead} {ds : List FeedRead} {data : List Byte} (hon : s.on dFEED = true) (hreads : (s.getEngine e).reads = d :: ds)
  (hne : data ≠ []) (hlen : data.length ≤ d.left)
include hon hreads hne hlen

theorem readCompletion_live (hd : d.dead = false) : (readCompletion e data s).rings = s.rings ∧
    ((readCompletion e data s).getEngine e).chans.map Chan.receipt =
      (receiveAt d.chan data.length data (s.getEngine e).chans).map Chan.receipt := by
  rw [readCompletion_takes hon, State.takeData_oldest hreads hne hlen, hd, if_neg Bool.false_ne_true]
  generalize hu : State.updEngine (State.updEngine s e _) e _ = u
  have heng : (u.getEngine e).chans = receiveAt d.chan data.length data (s.getEngine e).chans := by
    rw [← hu, State.getEngine_updEngine, State.getEngine_updEngine]
  have hrings : u.rings = s.rings := hu ▸ rfl
  obtain ⟨hprings, hpchans⟩ := State.pump_keeps e d.chan (data.length / 64 + 1) u
  have hout := State.issueReads_goOut e 48 (State.pump e d.chan (data.length / 64 + 1) u)
  exact ⟨hout.rings.trans (hprings.trans hrings), hout.receipts.trans (hpchans.trans (congrArg _ heng))⟩

/-- Data of a read that a stop left behind go nowhere (R195). -/
theorem readCompletion_dead (hd : d.dead = true) : (readCompletion e data s).rings = s.rings ∧ (readCompletion e data s).store = s.store ∧
    ((readCompletion e data s).getEngine e).chans.map Chan.receipt = (s.getEngine e).chans.map Chan.receipt := by
  rw [readCompletion_takes hon, State.takeData_oldest hreads hne hlen, hd, if_pos rfl]
  generalize hu : State.updEngine s e _ = u
  have heng : (u.getEngine e).chans = (s.getEngine e).chans := by rw [← hu, State.getEngine_updEngine]
  have hout := State.issueReads_goOut e 48 u
  exact ⟨hout.rings.trans (hu ▸ rfl), hout.store.trans (hu ▸ rfl), hout.receipts.trans (congrArg _ heng)⟩

end

/-! ### BURST-ACK and CHANNEL-COMPLETE (R190, R193) -/

/-- An engine with one burst more, of channel c. -/
def Engine.acknowledge (c : Chan) (x : Engine) : Engine :=
  { x with bursts := x.bursts + 1, chans := x.chans.map (fun y => if y.id = c.id then { y with acked := y.acked + 1 } else y) }

/-- A request line whose write pointer has advanced by one burst of b bytes. -/
def ReqLine.advance (b : Nat) (q : ReqLine) : ReqLine := { wptr := q.wptr + b, taken := q.taken - b }

/-- What follows the count of a burst and the advance of its write pointer only ends channels (R136, R197). -/
theorem burstAck_counts {c : Chan} (hon : s.on dFEED = true) (hc : (s.getEngine e).chans.find? (fun c => decide (c.acked < c.wrote)) = some c) :
    ChannelsEnd ((s.updEngine e (Engine.acknowledge c)).updReq (reqKey c.cell c.line) (ReqLine.advance c.burst)) (burstAck e s) := by
  unfold burstAck
  rw [whenOn_on hon]
  dsimp only
  rw [hc]
  have hreset : ChannelsEnd ((s.updEngine e (Engine.acknowledge c)).updReq (reqKey c.cell c.line) (ReqLine.advance c.burst)) _ :=
    ((ChannelsEnd.refl _).feedCredit (b := s.serverOf c.cell) (n := c.burst / 64)).resetEngine (e := e)
  exact .ite hreset.finishDisable hreset

theorem State.getRing_settleLsOff (s : State) (r : Nat) : s.settleLsOff.getRing r = s.getRing r := State.getRing_of_rings (by simp) r

/-- The oldest channel, with every burst acknowledged, ends and is written back; a ring without a descriptor has none to settle. -/
theorem channelComplete_ends {ch : Chan} {rest : List Chan} (hon : s.on dFEED = true) (hc : (s.getEngine e).chans = ch :: rest)
    (hall : ch.total ≤ ch.acked * ch.burst) (hpre : (s.getRing ch.ring).pre = []) : channelComplete e s =
      (s.updEngine e (fun x => { x with chans := rest })).settleLsOff.writeBackAt ch.fn ch.at_ ch.ring ch.desc.idx wbOk ch.acked := by
  have hcomplete : ch.complete = true := decide_eq_true hall
  unfold channelComplete
  rw [whenOn_on hon]
  dsimp only
  rw [hc]
  dsimp only
  rw [if_pos hcomplete]
  refine State.settleRing_ready (fun x xs hx => ?_) 5
  rw [State.getRing_writeBackAt, State.getRing_settleLsOff] at hx
  exact absurd (hpre.symm.trans hx) (List.cons_ne_nil _ _).symm

end

/-! ### The stop of an engine (R195) -/

theorem tabMap_cons {α : Type} [DecidableEq α] (d : Nat → α) (u : Nat → α → α) (j : Nat) (v : α) (t : Tab α) :
    tabMap d u ((j, v) :: t) = if u j v = d j then tabMap d u t else (j, u j v) :: tabMap d u t := by
  by_cases h : u j v = d j <;> simp [tabMap, h]

/-- A table mapped entry by entry reads, at an index that is listed and stays so, as the map of what it read. -/
theorem tabGet_tabMap_listed {α : Type} [DecidableEq α] {d : Nat → α} {u : Nat → α → α} {t : Tab α} {k : Nat} (hk : tabGet d t k ≠ d k)
    (hu : u k (tabGet d t k) ≠ d k) : tabGet d (tabMap d u t) k = u k (tabGet d t k) := by
  induction t with
  | nil => exact absurd rfl hk
  | cons x t ih =>
    obtain ⟨j, v⟩ := x
    rw [tabMap_cons]
    by_cases hj : j = k
    · subst hj
      rw [tabGet, if_pos rfl] at hu ⊢
      rw [if_neg hu, tabGet, if_pos rfl]
    · rw [tabGet, if_neg hj] at hk hu ⊢
      split
      · exact ih hk hu
      · rw [tabGet, if_neg hj, ih hk hu]

/-- The rings that engine e has, listed ones alone. -/
def State.ringsOn (s : State) (e : Nat) : List Nat := (s.rings.filter (fun x => decide (engineOf x.1 = e))).map (fun x => x.1)

/-- Engine e stops: its prefetched descriptors go and its channels end, the running one with this status. -/
def State.haltEngine (e status : Nat) (s : State) : State :=
  ((forAll (s.ringsOn e).reverse (fun s r => s.dropPrefetch r) s).updEngine e (fun x => { x with stopped := true })).endChans e (fun _ => true) status

/-- A ring without its prefetched descriptors. -/
def Ring.emptied (x : Ring) : Ring := { x with pre := [] }

/-- A ring of engine e after its stop, where `bad` is the one whose read failed. -/
def Ring.afterStop (e : Nat) (bad : Option Nat) (r : Nat) (y : Ring) : Ring :=
  if engineOf r ≠ e then y
  else if y.busy then { y with st := .disabled, busy := false, en := false }
  else if bad = some r then { y with st := .error, err := errBus }
  else if y.st = .run then { y with st := .stopped } else y

section
variable {s : State} {e : Nat}

theorem State.stopRings_halts (e : Nat) (bad : Option Nat) (s : State) : ∃ status, s.stopRings e bad =
    State.resetEngine e { s.haltEngine e status with rings := tabMap ringReset (Ring.afterStop e bad) (s.haltEngine e status).rings } := ⟨_, rfl⟩

/-- A lane reset that waited for an engine without channels moves no ring. -/
theorem State.resetEngine_stands (h : (s.getEngine e).chans = []) : RingsStand s (s.resetEngine e) := by
  refine (foldl_inv (fun t => RingsStand s t ∧ ChannelsEnd s t) _ (fun t l ht => ?_) _ s ⟨.refl s, .refl s⟩).1
  obtain ⟨hrings, hends⟩ := ht
  split
  · exact ⟨hrings, hends⟩
  · split
    · have hstands : RingsStand s (t.abandonLane l e) := hrings.endChans fun c hc => absurd hc (hends.empty e h ▸ List.not_mem_nil)
      exact ⟨hstands.same rfl, hends.endChans.updLane⟩
    · exact ⟨hrings, hends⟩

theorem State.endChans_all (e status : Nat) (s : State) : ((s.endChans e (fun _ => true) status).getEngine e).chans = [] := by
  have hdrop : ∀ p : Chan → Bool, (∀ c, p c = true) → ((s.dropChans e p).getEngine e).chans = [] := fun p hp => by
    obtain ⟨-, hengines, -⟩ := (s.updEngine e _).settleLsOff_feed
    rw [State.dropChans, State.getEngine_of_engines hengines, State.getEngine_updEngine]
    exact List.filter_eq_nil_iff.mpr fun c _ => by simp [hp c]
  unfold State.endChans
  dsimp only
  exact (ChannelsEnd.forAll (fun _ _ h => h.settleRing) (.foldl (fun _ _ h => h.endChan) (.refl _))).empty e (hdrop _ fun _ => rfl)

/-- Stopping the engine empties it and changes no register but the flag of the stop. -/
theorem State.haltEngine_engine (e status : Nat) (s : State) : ((s.haltEngine e status).getEngine e).chans = [] ∧
    ((s.haltEngine e status).getEngine e).registers = { (s.getEngine e).registers with stopped := true } := by
  refine ⟨State.endChans_all .., ?_⟩
  unfold State.haltEngine
  generalize hd : forAll (s.ringsOn e).reverse _ s = t
  have hdrop : ChannelsEnd s t := hd ▸ (ChannelsEnd.refl s).forAll fun _ _ h => h.dropPrefetch
  rw [((ChannelsEnd.refl (t.updEngine e (fun x => { x with stopped := true }))).endChans).registers e, State.getEngine_updEngine]
  exact congrArg (fun x : Engine => { x with stopped := true }) (hdrop.registers e)

/-- Dropping the prefetched descriptors of some rings leaves none to a ring among them. -/
theorem State.dropPrefetches_ring {r : Nat} {l : List Nat} (hr : r ∈ l) (s : State) :
    (s.getRing r).emptied.SameStanding ((forAll l (fun s r => s.dropPrefetch r) s).getRing r) := by
  have hstep : ∀ (t : State) b, (t.getRing r).SameStanding ((t.dropPrefetch b).getRing r) := fun t b => (RingsStand.refl t).dropPrefetch r
  refine foldl_reaches (I := fun t : State => (s.getRing r).SameStanding (t.getRing r))
    (P := fun t : State => (s.getRing r).emptied.SameStanding (t.getRing r)) hr (fun t b ht => ht.trans (hstep t b)) (fun t ht => ?_)
    (fun t b ht => ht.trans (hstep t b)) (.refl _)
  have hgone : ((t.dropPrefetch r).getRing r).pre = [] := by rw [State.dropPrefetch, State.getRing_updRing]
  exact ⟨(hstep t r).st.trans ht.st, (hstep t r).err.trans ht.err, (hstep t r).en.trans ht.en, (hstep t r).busy.trans ht.busy, fun _ => hgone⟩

/-- A ring of the engine that is not at reset loses its prefetched descriptors, and stands as before otherwise. -/
theorem State.haltEngine_ring {r : Nat} (status : Nat) (he : engineOf r = e) (hr : s.getRing r ≠ ringReset r) :
    (s.getRing r).emptied.SameStanding ((s.haltEngine e status).getRing r) := by
  have hlisted := (tabGet_listed ringReset r s.rings).resolve_left hr
  have hmem : r ∈ (s.ringsOn e).reverse :=
    List.mem_reverse.mpr (List.mem_map.mpr ⟨_, List.mem_filter.mpr ⟨hlisted, decide_eq_true he⟩, rfl⟩)
  have hdrop := State.dropPrefetches_ring hmem s
  unfold State.haltEngine
  generalize forAll (s.ringsOn e).reverse _ s = t at hdrop ⊢
  have hflag : RingsStand t (t.updEngine e (fun x => { x with stopped := true })) := (RingsStand.refl t).same rfl
  exact hdrop.trans (hflag.endChans (fun _ _ => rfl) r)

/-- A stop changes no register of its engine but the flag, and leaves it no channel. -/
theorem State.stopRings_engine (e : Nat) (bad : Option Nat) (s : State) : ((s.stopRings e bad).getEngine e).chans = [] ∧
    ((s.stopRings e bad).getEngine e).registers = { (s.getEngine e).registers with stopped := true } := by
  obtain ⟨status, hstop⟩ := State.stopRings_halts e bad s
  obtain ⟨hchans, hregs⟩ := State.haltEngine_engine e status s
  have hends := (ChannelsEnd.refl (s.haltEngine e status)).same (u := { s.haltEngine e status with
    rings := tabMap ringReset (Ring.afterStop e bad) (s.haltEngine e status).rings }) rfl rfl |>.resetEngine (e := e)
  rw [hstop]
  exact ⟨hends.empty e hchans, (hends.registers e).trans hregs⟩

/-- A RUN ring that is not BUSY goes to ERROR where its read failed, else to STOPPED. -/
theorem Ring.afterStop_run {r : Nat} {y : Ring} (bad : Option Nat) (he : engineOf r = e) (hrun : y.st = .run) (hbusy : y.busy = false) :
    (Ring.afterStop e bad r y).st = (if bad = some r then .error else .stopped) ∧
    (bad = some r → (Ring.afterStop e bad r y).err = errBus) ∧ (Ring.afterStop e bad r y).pre = y.pre := by
  unfold Ring.afterStop
  rw [if_neg (not_not_intro he), hbusy, if_neg Bool.false_ne_true, if_pos hrun]
  split
  · exact ⟨rfl, fun _ => rfl, rfl⟩
  · next h => exact ⟨rfl, fun h' => absurd h' h, rfl⟩

/-- After the stop a ring of the engine that was RUN and not BUSY is in ERROR or STOPPED, without prefetched descriptors. -/
theorem State.stopRings_ring {r : Nat} (bad : Option Nat) (he : engineOf r = e) (hrun : (s.getRing r).st = .run) (hbusy : (s.getRing r).busy = false) :
    ((s.stopRings e bad).getRing r).st = (if bad = some r then .error else .stopped) ∧
    (bad = some r → ((s.stopRings e bad).getRing r).err = errBus) ∧ ((s.stopRings e bad).getRing r).pre = [] := by
  have hlisted : ∀ y : Ring, y.st ≠ .disabled → y ≠ ringReset r := fun y hy h => hy (h ▸ rfl)
  obtain ⟨status, hstop⟩ := State.stopRings_halts e bad s
  have hhalt := State.haltEngine_ring status he (hlisted _ (by rw [hrun]; decide))
  obtain ⟨hchans, -⟩ := State.haltEngine_engine e status s
  rw [hstop]
  generalize s.haltEngine e status = t at hhalt hchans
  have hst : (t.getRing r).st = .run := hhalt.st.trans hrun
  obtain ⟨hst', herr', hpre'⟩ := Ring.afterStop_run bad he hst (hhalt.busy.trans hbusy)
  have hmap : ({ t with rings := tabMap ringReset (Ring.afterStop e bad) t.rings } : State).getRing r = Ring.afterStop e bad r (t.getRing r) := by
    refine tabGet_tabMap_listed (hlisted (t.getRing r) ?_) (hlisted (Ring.afterStop e bad r (t.getRing r)) ?_)
    · rw [hst]
      decide
    · rw [hst']
      split <;> decide
  have hstands := State.resetEngine_stands (s := { t with rings := tabMap ringReset (Ring.afterStop e bad) t.rings }) (e := e) hchans r
  rw [hmap] at hstands
  exact ⟨hstands.st.trans hst', fun h => hstands.err.trans (herr' h), hstands.pre (hpre'.trans (hhalt.pre rfl))⟩

end

/-- An engine that has recorded the cause of its stop, and lost the read that ended in the error. -/
def Engine.recordError (cause : BusError) (r : Nat) (addr : W64) (x : Engine) : Engine :=
  { x with
    cause := causeCode cause, errRing := BitVec.ofNat 16 r, errAddr := addr, stops := satInc x.stops
    reads := x.reads.eraseP (fun d => decide (d.ring = r) && decide (d.addr = addr.toNat)) }

/-- A ring with one fetch less whose data are to be discarded. -/
def Ring.unfetched (x : Ring) : Ring := { x with stale := x.stale - 1 }

/-- Engine e records a read of ring r that ended in an error, and the function of the ring reports it. -/
def State.recordError (e : Nat) (cause : BusError) (r : Nat) (addr : W64) (s : State) : State :=
  let s := s.updEngine e (Engine.recordError cause r addr)
  s.aer (s.ringLane r) (aerOf cause)

/-- Engine e stops for that read. -/
def State.failRead (e : Nat) (cause : BusError) (r : Nat) (addr : W64) (s : State) : State :=
  (s.recordError e cause r addr).stopRings e (some r)

section
variable {s : State} {e r : Nat} {addr : W64} {cause : BusError}

/-- An error of a read that no stop left behind stops the engine: after that rings stand, and engines are left alone. -/
theorem busErrorStop_stops (hon : s.on dFEED = true) (he : engineOf r = e) (hrun : (s.getEngine e).stopped = false) (hstale : (s.getRing r).stale = 0)
    (hlive : ∀ d ∈ (s.getEngine e).reads, d.ring = r → d.addr = addr.toNat → d.dead = false) :
    RingsStand (s.failRead e cause r addr) (busErrorStop e cause r addr s) ∧
      ChannelsEnd (s.failRead e cause r addr) (busErrorStop e cause r addr s) := by
  have hdead : (s.getEngine e).reads.any (fun d => decide (d.ring = r) && decide (d.addr = addr.toNat) && d.dead) = false :=
    List.any_eq_false.mpr fun d hd => by
      simp only [Bool.and_eq_true, decide_eq_true_eq, not_and, Bool.not_eq_true]
      exact fun h => hlive d hd h.1 h.2
  unfold busErrorStop
  rw [whenOn_on hon]
  dsimp only
  rw [if_neg (not_not_intro he), hdead, if_neg Bool.false_ne_true, hrun, if_neg Bool.false_ne_true, if_neg (by simp [hstale])]
  have hfetch : ∀ t : State, RingsStand t (t.updRing r Ring.unfetched) := fun t => (RingsStand.refl t).updRing fun _ => ⟨rfl, rfl, rfl, rfl, id⟩
  have hraise : ∀ (fetch : Bool) (t : State), RingsStand t (State.raise (68 + e) (if fetch then t.updRing r Ring.unfetched else t)) ∧
      ChannelsEnd t (State.raise (68 + e) (if fetch then t.updRing r Ring.unfetched else t)) := fun fetch t => by
    cases fetch with
    | false => exact ⟨(RingsStand.refl t).same (by simp), (ChannelsEnd.refl t).same (by simp) (by simp)⟩
    | true => exact ⟨(hfetch t).same (by simp), (ChannelsEnd.refl t).same (by simp) (by simp)⟩
  exact hraise _ (s.failRead e cause r addr)

theorem State.recordError_rings : (s.recordError e cause r addr).rings = s.rings := by simp [State.recordError]

theorem State.getEngine_recordError : (s.recordError e cause r addr).getEngine e = (s.getEngine e).recordError cause r addr := by
  rw [State.recordError, State.getEngine_of_engines (s := s.updEngine e (Engine.recordError cause r addr)) (by simp), State.getEngine_updEngine]

/-- After a bus error the engine has stopped, with its cause, its ring and its address recorded, and has no channel. -/
theorem State.failRead_engine : ((s.failRead e cause r addr).getEngine e).chans = [] ∧ ((s.failRead e cause r addr).getEngine e).registers =
    { ((s.getEngine e).recordError cause r addr).registers with stopped := true } := by
  rw [← State.getEngine_recordError]
  exact State.stopRings_engine e (some r) (s.recordError e cause r addr)

/-- The rings of the engine after a bus error of ring r: those that were RUN and not BUSY are STOPPED, and r is in ERROR. -/
theorem State.failRead_ring {k : Nat} (he : engineOf k = e) (hrun : (s.getRing k).st = .run) (hbusy : (s.getRing k).busy = false) :
    ((s.failRead e cause r addr).getRing k).st = (if r = k then .error else .stopped) ∧
    (r = k → ((s.failRead e cause r addr).getRing k).err = errBus) ∧ ((s.failRead e cause r addr).getRing k).pre = [] := by
  rw [← State.getRing_of_rings (State.recordError_rings (e := e) (cause := cause) (r := r) (addr := addr))] at hrun hbusy
  obtain ⟨hst, herr, hpre⟩ := State.stopRings_ring (some r) he hrun hbusy
  exact ⟨hst.trans (if_congr Option.some_inj rfl rfl), fun h => herr (congrArg some h), hpre⟩

end

/-! ### The rows -/

section
variable (e : LaneIx) (s : State)

theorem exec_descriptorArrival (r : RingIx) (raw : BitVec 512) : exec (.descriptorArrival r raw) s = .next (descriptorArrival r.val raw s) := rfl

theorem exec_channelStart : exec (.channelStart e) s = .next (channelStart e.val s) := rfl

theorem exec_readCompletion (data : List Byte) : exec (.readCompletion e data) s = .next (readCompletion e.val data s) := rfl

theorem exec_burstAck : exec (.burstAck e) s = .next (burstAck e.val s).settleAssign := rfl

theorem exec_channelComplete : exec (.channelComplete e) s = .next (channelComplete e.val s) := rfl

theorem exec_busErrorStop (cause : BusError) (r : RingIx) (a : W64) :
    exec (.busErrorStop e cause r a) s = .next (busErrorStop e.val cause r.val a s).settleAssign := rfl

end

/-- Settles O21: each row by the lemmas of its operation. What reads that go out, channels that end and rings that stand leave as it was carries
each effect to the end of the row. -/
theorem feedEnginesMoveDescriptors : Obligations.FeedEnginesMoveDescriptors := by
  unfold Obligations.FeedEnginesMoveDescriptors
  intro s hon
  dsimp only
  refine ⟨fun r raw hstale hf => ⟨fun ho hb hpre => ⟨_, exec_descriptorArrival .., ?_⟩, fun ho hpre hidle => ⟨_, exec_descriptorArrival .., ?_⟩,
      fun ho hb hpre hidle => ⟨_, exec_descriptorArrival .., ?_⟩⟩,
    fun e r d ds hstop hlast hnext hpre => ⟨_, exec_channelStart .., ?_⟩, fun e data d ds hreads hne hlen => ⟨_, exec_readCompletion .., ?_⟩,
    fun e c hc => ⟨_, exec_burstAck .., ?_⟩, fun e ch rest hc hall hpre => ?_, fun e cause r a hrun he hstale hlive => ⟨_, exec_busErrorStop .., ?_⟩⟩
  · have hout := State.issueReads_goOut (engineOf r.val) 48 (s.updRing r.val (Ring.prefetch (readDesc s r.val (s.fetchIdx r.val) raw)))
    rw [descriptorArrival_joins hon hstale hf, State.settleRing_arrived_good ho hb hpre]
    exact ⟨hout.samePlant, (State.getRing_of_rings hout.rings _).trans (State.getRing_updRing ..)⟩
  · rw [descriptorArrival_joins hon hstale hf, State.settleRing_arrived_unowned hpre hidle ho]
    have hout := State.issueReads_goOut (engineOf r.val) 48 ((s.updRing r.val (Ring.prefetch (readDesc s r.val (s.fetchIdx r.val) raw))).updRing
      r.val (fun x => { x with st := .error, err := errNotOwned, pre := [] }))
    refine ⟨hout.samePlant, (State.getRing_of_rings hout.rings _).trans ?_⟩
    rw [State.getRing_updRing, State.getRing_updRing]
    rfl
  · rw [descriptorArrival_joins hon hstale hf, State.getRing_of_rings (State.issueReads_goOut ..).rings,
      State.getRing_settleRing_arrived_bad hpre hidle ho hb]
  · have hout := State.issueReads_goOut e.val 48 (s.startChan e.val r d ds)
    have heng := State.getEngine_startChan (s := s) (e := e.val) (r := r) (d := d) (ds := ds)
    rw [channelStart_starts hon hstop hlast hnext hpre]
    refine ⟨?_, ?_, ?_, ?_, fun hchans hreads htotal hrings hstale =>
      State.startChan_first_read hstop hchans hreads htotal hrings hstale⟩
    · rw [State.getRing_of_rings hout.rings, State.getRing_startChan]
    · rw [hout.last, heng]
    · refine hout.chans.trans ?_
      rw [heng, List.map_append]
      rfl
    · rw [State.getReq_of_reqs hout.reqs, State.getReq_startChan]
  · cases hd : d.dead with
    | false =>
      obtain ⟨hrings, hrec⟩ := readCompletion_live hon hreads hne hlen hd
      refine ⟨hrings, fun _ c hc => ?_, nofun⟩
      refine (got_of_receipts hrec d.chan).trans ?_
      rw [find_receiveAt, hc]
      rfl
    | true =>
      obtain ⟨hrings, hstore, hrec⟩ := readCompletion_dead hon hreads hne hlen hd
      refine ⟨hrings, nofun, fun _ => ⟨hstore, ?_⟩⟩
      simpa [Chan.receipt, Function.comp_def] using congrArg (List.map Prod.snd) hrec
  · have hends := (burstAck_counts hon hc).settleAssign
    refine ⟨(congrArg Engine.bursts (hends.registers e.val)).trans ?_, (hends.wptr _).trans ?_⟩
    · exact congrArg Engine.bursts (State.getEngine_updEngine s e.val (Engine.acknowledge c))
    · exact congrArg ReqLine.wptr (State.getReq_updReq ..)
  · rw [exec_channelComplete, channelComplete_ends hon hc hall hpre]
  · obtain ⟨hrings, hends⟩ := busErrorStop_stops (cause := cause) hon he hrun hstale hlive
    have hrings' := hrings.same (u := (busErrorStop e.val cause r.val a s).settleAssign) (by simp)
    have hends' := hends.settleAssign
    obtain ⟨hchans, hregs⟩ := State.failRead_engine (s := s) (e := e.val) (r := r.val) (addr := a) (cause := cause)
    have hregs' := (hends'.registers e.val).trans hregs
    refine ⟨congrArg Engine.stopped hregs', congrArg Engine.cause hregs', congrArg Engine.errRing hregs', congrArg Engine.errAddr hregs',
      hends'.empty _ hchans, fun hst hbusy => ?_, fun k hk hek hst hbusy => ?_⟩
    · obtain ⟨hst', herr, hpre⟩ := State.failRead_ring (r := r.val) (addr := a) (cause := cause) he hst hbusy
      rw [if_pos rfl] at hst'
      exact ⟨(hrings' _).st.trans hst', (hrings' _).err.trans (herr rfl), (hrings' _).pre hpre⟩
    · obtain ⟨hst', -, -⟩ := State.failRead_ring (r := r.val) (addr := a) (cause := cause) hek hst hbusy
      rw [if_neg (Ne.symm hk)] at hst'
      exact (hrings' k).st.trans hst'

end Sys2Proof.Machine
end

section
/-! What runs in a line-store bank by itself (R208, R212, R216 to R219, R232): the credit window and the half row that contone intake reads in it,
scrub, and the soft repair of a row. -/

namespace Sys2Proof.Machine

section
variable {s : State} {b c r h : Nat} {ecc : List (BlockIx × Ecc)}

/-! ### CREDIT_WINDOW (R208, R212, R232) -/

/-- A refill of the credits leaves the admission of every bank, and its bad blocks. -/
theorem State.refillCredits_keeps (s : State) (b k : Nat) : ((s.refillCredits b).getBank k).adm = (s.getBank k).adm ∧
    ((s.refillCredits b).getBank k).poison = (s.getBank k).poison := by
  by_cases hk : k = b
  · subst hk
    rw [State.refillCredits, State.getBank_updBank]
    dsimp only
    split <;> exact ⟨rfl, rfl⟩
  · rw [State.refillCredits, State.getBank_updBank_ne _ _ _ _ hk]
    exact ⟨rfl, rfl⟩

/-- Where no takeover copies the bank, the window copies nothing (R212). -/
theorem State.copyWindow_idle (ht : (s.getCell (s.workOf b)).tkoActive = false) : s.copyWindow b = s :=
  if_neg fun hc => by simp [ht] at hc

/-- The window of a bank that no takeover copies: the credits are refilled, and the cell that it serves goes on with its intake. -/
theorem creditWindow_refills (hon : s.on (dLS (quadrantOf b)) = true) (ht : (s.getCell (s.workOf b)).tkoActive = false) :
    creditWindow b ecc s =
      if s.workOf b < 256 ∧ s.serverOf (s.workOf b) = b ∧ (s.getBank b).adm = true then (s.refillCredits b).intakeHalf (s.workOf b) ecc
      else s.refillCredits b := by
  rw [creditWindow, whenOn_on hon]
  dsimp only
  rw [State.copyWindow_idle (s := s.refillCredits b) ht, (s.refillCredits_keeps b b).1]
  rfl

/-- A cell that prints no contone reads no half rows. -/
theorem State.intakeHalf_binary (hmode : (s.cfg c).mode ≠ 1) : s.intakeHalf c ecc = s := by
  unfold State.intakeHalf
  dsimp only
  split
  · rfl
  · simp [hmode]

/-- Intake takes the next half of a row that is complete, from a bank without bad blocks (R228, R230, R232). -/
theorem State.intakeHalf_takes (hmode : (s.cfg c).mode = 1) (hon : s.cellOn c = true) (hproc : s.proc c = true)
    (hrow : (s.getCell c).intakeRow = some (r, h)) (hm : 2 * r + 1 < s.complete c) (hp : (s.getBank (s.serverOf c)).poison = [])
    (hi : s.flt.pend = false) :
    s.intakeHalf c [] =
      (s.updCell c (Cell.takeHalf r h (s.cellRead c (lineOff (s.cfg c) (2 * r) + 1024 * h) 1024) [])).updBank (s.serverOf c)
        (fun y => { y with crData := useCredit y.crData 16 }) := by
  have hgo : (decide ((s.cfg c).mode = 1) && s.cellOn c && s.proc c && decide (2 * r + 1 < s.complete c)) = true := by
    simp [hmode, hon, hproc, hm]
  unfold State.intakeHalf
  dsimp only
  rw [hrow]
  dsimp only
  rw [if_pos hgo, State.ueAmong_clean hp hi, List.map_nil]
  apply State.blocksRead_clean
  · rw [State.getBank_updBank]
    exact hp
  · exact hi

/-! ### SCRUB_READ (R216 to R218) -/

/-- Scrub moves on to the next block of a bank, and to the next pass after the last. -/
def Bank.scrubNext (x : Bank) : Bank :=
  { x with scrub := (x.scrub + 1) % 8192, pass := if x.scrub = 8191 then x.pass + 1 else x.pass, crScrub := useCredit x.crScrub 1 }

/-- Block i is known to be uncorrectable, and its row to be due for repair. -/
def Bank.markBad (i : Nat) (x : Bank) : Bank :=
  { x.logError true i with
    poison := if x.poison.contains i then x.poison else i :: x.poison
    due := if x.due.contains (i / 8) then x.due else i / 8 :: x.due }

theorem Bank.mem_markBad (i : Nat) (x : Bank) : i ∈ (x.markBad i).poison ∧ i / 8 ∈ (x.markBad i).due := by
  have hmem : ∀ (k : Nat) (l : List Nat), k ∈ if l.contains k then l else k :: l := fun k l => by
    split
    · next hc => exact List.contains_iff_mem.mp hc
    · exact List.mem_cons_self
  exact ⟨hmem .., hmem ..⟩

theorem State.getBank_faultBy (s : State) (j : Bool) (src : Nat) (cls : BitVec 2) (inst : Nat) (detail : W64) (stands : Bool) (b : Nat) :
    (s.faultBy j src cls inst detail stands).getBank b = s.getBank b := by
  simp [State.getBank]

theorem State.getBank_fault (s : State) (src : Nat) (cls : BitVec 2) (inst : Nat) (detail : W64) (stands : Bool) (b : Nat) :
    (s.fault src cls inst detail stands).getBank b = s.getBank b := State.getBank_faultBy s false src cls inst detail stands b

/-- An uncorrectable block moves no byte of the line store, and marks its bank (R217, R219). -/
theorem State.blockUe_does (s : State) (b i : Nat) : (s.blockUe b i).store = s.store ∧ (s.blockUe b i).getBank b = (s.getBank b).markBad i := by
  refine ⟨by simp [State.blockUe], ?_⟩
  rw [State.blockUe, State.getBank_faultBy, State.getBank_updBank]
  rfl

/-- A corrected error moves no byte of the line store, and is recorded in its bank (R216, R218). -/
theorem State.blockCe_does (s : State) (b i : Nat) :
    (s.blockCe b i).store = s.store ∧ (s.blockCe b i).getBank b = (s.getBank b).logError false i := by
  refine ⟨by simp [State.blockCe], ?_⟩
  rw [State.blockCe, State.getBank_faultBy, State.getBank_updBank]

/-- What scrub makes of block i, where it finds e in it. -/
def State.scrubEnds (b i : Nat) (e : Ecc) (s : State) : State :=
  match e with
  | .clean => s
  | .corrected => (s.updBank b (Bank.hitRow (i / 8))).blockCe b i
  | .uncorrectable => s.blockUe b i

/-- Where no injection waits, scrub finds a block bad that is known to be, and else what ECC finds in it. -/
theorem scrubRead_ends (hon : s.on (dLS (quadrantOf b)) = true) (hi : s.flt.pend = false) (e : Ecc) :
    scrubRead b e s = (s.updBank b Bank.scrubNext).scrubEnds b (s.getBank b).scrub
      (if (s.getBank b).poison.contains (s.getBank b).scrub = true then .uncorrectable else e) := by
  have hinj : ∀ src i, s.injBlock src b i = false := fun src i => by simp [State.injBlock, State.injHits, hi]
  rw [scrubRead, whenOn_on hon]
  dsimp only
  rw [hinj, hinj, Bool.or_false]
  rfl

theorem State.scrubEnds_store (s : State) (b i : Nat) (e : Ecc) : (s.scrubEnds b i e).store = s.store := by
  cases e with
  | clean => rfl
  | corrected => exact (State.blockCe_does ..).1
  | uncorrectable => exact (State.blockUe_does ..).1

/-- A bank in whose block i scrub finds e. -/
def Bank.found (i : Nat) (e : Ecc) (x : Bank) : Bank :=
  match e with
  | .clean => x
  | .corrected => (x.hitRow (i / 8)).logError false i
  | .uncorrectable => x.markBad i

theorem State.getBank_scrubEnds (s : State) (b i : Nat) (e : Ecc) : (s.scrubEnds b i e).getBank b = (s.getBank b).found i e := by
  cases e with
  | clean => rfl
  | corrected =>
    rw [State.scrubEnds, (State.blockCe_does ..).2, State.getBank_updBank]
    rfl
  | uncorrectable => exact (State.blockUe_does ..).2

/-- What is found in a block leaves where scrub has come to. -/
theorem Bank.scrub_found (i : Nat) (e : Ecc) (x : Bank) : (x.found i e).scrub = x.scrub := by cases e <;> rfl

/-! ### ROW_REPAIR (R219, R221) -/

theorem Bank.freeSpare_lt {x : Bank} {i : Nat} (h : x.freeSpare = some i) : i < 8 := List.mem_range.mp (List.mem_of_find?_eq_some h)

/-- A row that is due goes to the spare row that is free. -/
theorem rowRepair_repairs {row i : Nat} (hon : s.on (dLS (quadrantOf b)) = true) (hd : (s.getBank b).due.contains row = true)
    (hf : (s.getBank b).freeSpare = some i) : rowRepair b row s = s.softRepair b row i := by
  rw [rowRepair, whenOn_on hon, hd, hf]
  rfl

/-- A bank in which row `row` has gone to spare row i. -/
def Bank.repaired (row i : Nat) (x : Bank) : Bank :=
  { x with
    soft := setBit x.soft i true, lastRow := BitVec.ofNat 10 row, remap := (i, row) :: x.remap.filter (fun e => decide (e.2 ≠ row))
    due := x.due.filter (fun r => decide (r ≠ row)), hits := tabPut (fun _ => (0, 0)) x.hits row (0, 0) }

theorem State.getBank_softRepair (s : State) (b row i : Nat) : (s.softRepair b row i).getBank b = (s.getBank b).repaired row i := by
  rw [State.softRepair, State.getBank_fault, State.getBank_updBank]
  rfl

end

/-- Settles O22: a window's refill and intake by their equations, scrub by what it finds in its block, and the repair by the bank it leaves. -/
theorem lineStoreMaintenance : Obligations.LineStoreMaintenance := by
  intro b s hon
  dsimp only
  refine ⟨fun ht hmode ecc => congrArg Host.Outcome.next ?_,
    fun row h hc hserve hadm ht hmode hcell hproc hrow hm hp hi => ⟨_, rfl, ?_⟩, fun e hi => ⟨_, rfl, ?_⟩,
    fun row i hd hf => ⟨_, congrArg Host.Outcome.next (rowRepair_repairs hon hd hf), ?_⟩⟩
  · rw [creditWindow_refills hon ht, State.intakeHalf_binary (s := s.refillCredits b.val) hmode, ite_self]
    rfl
  · have hclean : ((s.refillCredits b.val).getBank (s.serverOf (s.workOf b.val))).poison = [] := by rw [(s.refillCredits_keeps ..).2, hserve, hp]
    rw [creditWindow_refills hon ht, if_pos ⟨hc, hserve, hadm⟩,
      State.intakeHalf_takes (s := s.refillCredits b.val) hmode hcell hproc hrow hm hclean hi]
    exact ⟨rfl, State.getCell_updCell ..⟩
  · rw [scrubRead_ends hon hi, State.scrubEnds_store, State.getBank_scrubEnds, State.getBank_updBank, Bank.scrub_found]
    refine ⟨rfl, rfl, fun hg he => ?_, fun hg he => ?_, fun hbad => ?_⟩
    · rw [hg, he]
      exact ⟨rfl, rfl⟩
    · rw [hg, he]
      exact ⟨rfl, rfl, rfl⟩
    · have hfound : (if (s.getBank b.val).poison.contains (s.getBank b.val).scrub = true then Ecc.uncorrectable else e) = .uncorrectable :=
        ite_eq_left_iff.mpr fun hg => hbad.resolve_left hg
      rw [hfound]
      exact ⟨rfl, Bank.mem_markBad ..⟩
  · rw [State.getBank_softRepair]
    exact ⟨bit_setBit_self _ (Bank.freeSpare_lt hf), List.mem_cons_self, by simp [Bank.repaired], rfl⟩

end Sys2Proof.Machine
end

section
/-! The configuration checker (R224): a set with one intact copy is a DEGRADED fault only where source 4 does not already hold a condition of the
cell. -/

namespace Sys2Proof.Machine

theorem resolveSet_lone (a y z : Copy) : resolveSet [⟨a, true⟩, ⟨y, false⟩, ⟨z, false⟩] =
    { use := some 0, rewrite := none, diverges := true, degraded := true } := rfl

/-- A check that leaves one intact copy reports no fault where a condition of the cell stands at source 4 (R224, R488). -/
theorem configCheck_standing {c : Nat} {s : State} {a y z : Copy} (ha : (s.getCell c).active = [⟨a, true⟩, ⟨y, false⟩, ⟨z, false⟩])
    (hc : (s.getSrc 4).conds.contains c = true) : (configCheck c s).flt = s.flt := by
  unfold configCheck
  dsimp only
  rw [ha, resolveSet_lone]
  dsimp only
  split
  · rfl
  · rw [if_pos rfl]
    generalize hm : (if (s.getCell c).divergent then s else _) = m
    have hflt : m.flt = s.flt := by
      rw [← hm]
      split <;> simp
    have hstands : (m.getSrc 4).conds.contains c = true := by rwa [State.getSrc, hflt]
    rw [hstands]
    exact hflt

/-- A part whose cell 0 has one intact copy, where source 4 holds a condition of that cell and has no fault outstanding. -/
def loneCopyNoted : State :=
  let g := State.reset.glb
  { State.reset with
    glb := { g with powered := true, clk := setBit g.clk 0 true }
    cells := [(0, { cellReset 0 with active := [⟨noCopy, true⟩, ⟨noCopy, false⟩, ⟨noCopy, false⟩] })]
    flt := { resetFlt with srcs := [(4, { srcReset 4 with conds := [0] })] } }

/-- Refutes O45: where source 4 holds a condition of the cell already, CONFIG-CHECK of a set with one intact copy reports no DEGRADED fault. The
statement asks nothing of the conditions, so a state that holds one without an outstanding fault fails it. -/
theorem not_configurationsAreLoadedAndChecked : ¬ Obligations.ConfigurationsAreLoadedAndChecked := by
  intro h
  obtain ⟨-, -, hlone⟩ := (h loneCopyNoted).2 0 (by decide)
  obtain ⟨t, ht, -, -, hdegraded⟩ := hlone noCopy noCopy noCopy rfl rfl
  have hflt : t.flt = loneCopyNoted.flt := by
    rw [← Host.Outcome.next.inj ht]
    exact configCheck_standing rfl rfl
  rw [State.getSrc, hflt] at hdegraded
  exact absurd hdegraded (by decide)

end Sys2Proof.Machine
end

section
/-! Reads that come back to a command or to a refill, or fail (R224, R258, R261, R393, R534). -/

namespace Sys2Proof.Machine

/-! ### Final entries and error reports (R120, R159) -/

theorem samePlant_finish (s : State) (g : W32) (status : BitVec 16) (detail : Nat) : SamePlant s (s.finish g status detail) := by
  unfold State.finish
  split
  · exact .refl s
  · exact (samePlant_post ..).trans (samePlant_serveAll ..)

theorem State.steady_finish (s : State) (g : W32) (status : BitVec 16) (detail : Nat) : (s.finish g status detail).steady = s.steady := by
  unfold State.finish
  split
  · rfl
  · rw [State.steady_serveAll, State.steady_post]

/-- The errors of a function are among its steady registers. -/
theorem State.aer_of_steady {s t : State} (h : t.steady = s.steady) (f : Nat) : (t.getHost f).aer = (s.getHost f).aer :=
  (congrArg HostFn.aer (congrFun h f) :)

/-- An error is logged on its function, and what keeps the steady registers leaves it there (R120). -/
theorem State.aer_logs {s : State} {f : Nat} {e : Aer} {t : State} (h : t.steady = (s.aer f e).steady) :
    (t.getHost f).aer = e :: (s.getHost f).aer := by
  rw [State.aer_of_steady h, State.aer, State.getHost_updHost]

/-! ### What the writing of cells leaves (R223, R258, R261) -/

theorem State.getCell_of_cells {s t : State} (h : t.cells = s.cells) (c : Nat) : t.getCell c = s.getCell c := by rw [State.getCell, h, State.getCell]

/-- The state but for what the writing of a cell's tables changes: cells, links, banks, the fault collector and what is sent. -/
def State.besidesCells (s : State) : State := { s with cells := [], links := [], banks := [], flt := resetFlt, out := [] }

section
variable (s : State)

theorem State.besidesCells_forAll {u : State → Nat → State} (l : List Nat) (h : ∀ t a, (u t a).besidesCells = t.besidesCells) :
    (forAll l u s).besidesCells = s.besidesCells := foldl_keeps State.besidesCells u h l s

theorem State.besidesCells_endCond (src inst : Nat) : (s.endCond src inst).besidesCells = s.besidesCells := by
  unfold State.endCond
  split <;> rfl

theorem State.besidesCells_retrim (c : Nat) (u : Cell → Cell) : (s.retrim c u).besidesCells = s.besidesCells :=
  foldl_keeps State.besidesCells (fun t n => t.updLink (2 * c + linkIx n) _) (fun _ _ => rfl) _ (s.updCell c u)

theorem State.besidesCells_sendWaves (c : Nat) (ws : List Nat) : (s.sendWaves c ws).besidesCells = s.besidesCells :=
  s.besidesCells_forAll _ fun t w => t.besidesCells_forAll _ fun t l => by split <;> rfl

theorem State.besidesCells_restoreCell (c : Nat) : (s.restoreCell c).besidesCells = s.besidesCells := by
  unfold State.restoreCell
  dsimp only
  split
  · rfl
  · split
    · exact State.besidesCells_retrim ..
    · exact (State.besidesCells_sendWaves ..).trans (State.besidesCells_retrim ..)

theorem State.besidesCells_writeCell (sec : CellSection) (body : Copy) : (s.writeCell sec body).besidesCells = s.besidesCells :=
  (State.besidesCells_endCond ..).trans (State.besidesCells_retrim s sec.cell _)

/-- The trims that are noted for the heads change no cell. -/
theorem State.cells_retrim (c : Nat) (u : Cell → Cell) : (s.retrim c u).cells = (s.updCell c u).cells :=
  foldl_keeps State.cells (fun t n => t.updLink (2 * c + linkIx n) _) (fun _ _ => rfl) _ (s.updCell c u)

end

/-! ### TEMPSET-LOAD (R393) -/

/-- A cell with another temperature set n. -/
def Cell.putSet (n : Nat) (v : TempSet) (x : Cell) : Cell := { x with tsets := tabPut tsetReset x.tsets n v }

/-- A lane whose temperature set n was read from r. -/
def Lane.putSetRef (n : Nat) (r : ImgRef) (x : Lane) : Lane := { x with tsRefs := (n, r) :: x.tsRefs.filter (fun e => decide (e.1 ≠ n)) }

/-- Each cell of a list is given its temperature set n. -/
def State.putSets (n : Nat) (sets : List (Nat × TempSet × Bool)) (s : State) : State :=
  sets.foldl (fun s e => s.updCell e.1 (Cell.putSet n e.2.1)) s

/-- Sets that are all good are written, and noted in the lane (R393). -/
theorem State.tempsetRead_writes {s : State} {o : Op} {n len : Nat} {addr : W64} {buf : List Byte}
    (h : ∀ e ∈ s.setsFrom o.target buf, e.2.2 = true ∧ tsetOk e.2.1 = true) :
    s.tempsetRead o n addr len buf =
      ((s.putSets n (s.setsFrom o.target buf)).updLane o.target (Lane.putSetRef n ⟨o.queue, addr, len, 0⟩)).finish o.handle stOk 0 := by
  have hnone : (s.setsFrom o.target buf).filter (fun e => !e.2.2 || !tsetOk e.2.1) = [] :=
    List.filter_eq_nil_iff.mpr fun e he => by simp [h e he]
  unfold State.tempsetRead
  dsimp only
  rw [hnone]
  rfl

theorem State.putSets_cells (n : Nat) : ∀ (sets : List (Nat × TempSet × Bool)) (s : State),
    s.putSets n sets = { s with cells := (s.putSets n sets).cells }
  | [], _ => rfl
  | e :: l, s => State.putSets_cells n l (s.updCell e.1 (Cell.putSet n e.2.1))

/-- A cell that is in no entry of the list keeps its sets. -/
theorem State.getCell_putSets_ne {n c : Nat} {sets : List (Nat × TempSet × Bool)} (h : c ∉ sets.map (·.1)) (s : State) :
    (s.putSets n sets).getCell c = s.getCell c :=
  List.foldlRecOn sets _ (motive := fun t : State => t.getCell c = s.getCell c) rfl fun t ht e he =>
    (State.getCell_updCell_ne t e.1 c _ fun hc => h (hc ▸ List.mem_map_of_mem he)).trans ht

/-- A cell that is in one entry has its set. -/
theorem State.tset_putSets {n : Nat} {sets : List (Nat × TempSet × Bool)} (hd : (sets.map (·.1)).Nodup) (s : State) :
    ∀ e ∈ sets, tabGet tsetReset ((s.putSets n sets).getCell e.1).tsets n = e.2.1 := by
  induction sets generalizing s with
  | nil => nofun
  | cons a l ih =>
    obtain ⟨ha, hl⟩ := List.nodup_cons.mp hd
    have hstep : s.putSets n (a :: l) = (s.updCell a.1 (Cell.putSet n a.2.1)).putSets n l := rfl
    rw [hstep]
    refine List.forall_mem_cons.mpr ⟨?_, ih hl _⟩
    rw [State.getCell_putSets_ne ha, State.getCell_updCell]
    exact tabGet_tabPut_self ..

/-- What a TEMPSET-LOAD of good sets leaves: they are in their cells and noted in the lane, and nothing else of the plant moves (R393). -/
theorem State.tempsetRead_does {s t : State} {o : Op} {n len : Nat} {addr : W64} {buf : List Byte} (ht : s.tempsetRead o n addr len buf = t)
    (h : ∀ e ∈ s.setsFrom o.target buf, e.2.2 = true ∧ tsetOk e.2.1 = true) (hd : ((s.setsFrom o.target buf).map (·.1)).Nodup) :
    SamePlant { s with cells := t.cells, lanes := t.lanes } t ∧
      (∀ e ∈ s.setsFrom o.target buf, tabGet tsetReset (t.getCell e.1).tsets n = e.2.1) ∧
      t.getLane o.target = (s.getLane o.target).putSetRef n ⟨o.queue, addr, len, 0⟩ := by
  rw [State.tempsetRead_writes h] at ht
  have hput := State.putSets_cells n (s.setsFrom o.target buf) s
  generalize hu : (s.putSets n (s.setsFrom o.target buf)).updLane o.target _ = u at ht
  have hwritten : u = { s with cells := u.cells, lanes := u.lanes } := by
    rw [← hu, hput]
    rfl
  have hplant : SamePlant u t := ht ▸ samePlant_finish ..
  refine ⟨?_, fun e he => ?_, ?_⟩
  · rwa [hplant.cells, hplant.lanes, ← hwritten]
  · rw [State.getCell_of_cells hplant.cells, ← hu]
    exact State.tset_putSets hd s e he
  · rw [State.getLane, hplant.lanes, ← hu, hput]
    exact State.getLane_updLane ..

/-! ### CONFIG-COMMIT and CONFIG-PATCH (R49, R258, R455, R534) -/

section
variable {s : State} {ch : Change} {g : W32} {n c : Nat} {v : Slot} {img : Image}

theorem State.handle_of_changeOf (h : s.changeOf g = some ch) : ch.handle = g := by
  simpa using List.find?_some h

/-- A cell of which no change has kept anything is left as it is when a change is refused (R49). -/
theorem State.getCell_restoreCell (hs : (s.getCell c).saved = none) (hn : (s.getCell c).nozNext = []) (j : Nat) :
    (s.restoreCell c).getCell j = s.getCell j := by
  have hsame : ({ s.getCell c with nozNext := [] } : Cell) = s.getCell c := by rw [← hn]
  unfold State.restoreCell
  dsimp only
  rw [State.getCell_updCell, hsame, hs]
  dsimp only
  by_cases hj : j = c
  · rw [hj, State.getCell_updCell, hsame]
  · rw [State.getCell_updCell_ne _ _ _ _ hj]

/-- The cells of a change that is dropped have again what they held before. -/
def State.restoreCells (cells : List Nat) (s : State) : State := forAll cells (fun s c => s.restoreCell c) s

/-- A change is struck off, and its epoch noted as refused (R455). -/
def State.strikeChange (ch : Change) (s : State) : State :=
  { s.updChn (fun c => { c with refused := if ch.ep = 0 then c.refused else ch.ep :: c.refused }) with
    changes := s.changes.filter (fun x => decide (x.handle ≠ ch.handle)) }

theorem State.refuseChange_eq (s : State) (ch : Change) (status : BitVec 16) (detail : Nat) :
    s.refuseChange ch status detail = ((s.strikeChange ch).restoreCells ch.cells).finish ch.handle status detail := rfl

theorem State.besidesCells_restoreCells (s : State) (cells : List Nat) : (s.restoreCells cells).besidesCells = s.besidesCells :=
  s.besidesCells_forAll cells State.besidesCells_restoreCell

/-- A change that is refused is gone, and neither a lane nor a steady register of a function is touched (R49, R455). -/
theorem State.refuseChange_drops (s : State) (ch : Change) (status : BitVec 16) (detail : Nat) :
    (s.refuseChange ch status detail).changeOf ch.handle = none ∧ (s.refuseChange ch status detail).lanes = s.lanes ∧
      (s.refuseChange ch status detail).steady = s.steady := by
  have hkept := (s.strikeChange ch).besidesCells_restoreCells ch.cells
  have hfinish := samePlant_finish ((s.strikeChange ch).restoreCells ch.cells) ch.handle status detail
  have hchanges : (s.refuseChange ch status detail).changes = s.changes.filter (fun x => decide (x.handle ≠ ch.handle)) :=
    (congrArg State.changes hfinish :).trans (congrArg State.changes hkept :)
  refine ⟨?_, hfinish.lanes.trans (congrArg State.lanes hkept :), ?_⟩
  · rw [State.changeOf, hchanges]
    simp
  · rw [State.refuseChange_eq, State.steady_finish]
    exact State.steady_of_host (congrArg State.host hkept :)

/-- Where a change has written nothing, every cell is left as it is when it is refused. -/
theorem State.refuseChange_cells (h : ∀ c ∈ ch.cells, (s.getCell c).saved = none ∧ (s.getCell c).nozNext = []) (status : BitVec 16)
    (detail j : Nat) : (s.refuseChange ch status detail).getCell j = s.getCell j := by
  have hsame : ∀ j, ((s.strikeChange ch).restoreCells ch.cells).getCell j = s.getCell j :=
    List.foldlRecOn ch.cells _ (motive := fun t : State => ∀ j, t.getCell j = s.getCell j) (fun _ => rfl) fun t ht c hc j => by
      obtain ⟨hsaved, hnoz⟩ := h c hc
      rw [State.getCell_restoreCell (by rw [ht, hsaved]) (by rw [ht, hnoz]), ht]
  rw [State.refuseChange_eq, State.getCell_of_cells (samePlant_finish ..).cells, hsame]

theorem State.changeOf_readyChange (s : State) (g : W32) :
    (s.readyChange g).changeOf g = (s.changeOf g).map (fun ch => { ch with ready := true }) := by
  have hhandle : ∀ ch : Change, (if ch.handle = g then { ch with ready := true } else ch).handle = ch.handle := fun ch => by split <;> rfl
  simp only [State.changeOf, State.readyChange, List.find?_map, Function.comp_def, hhandle]
  cases hf : s.changes.find? (fun ch => decide (ch.handle = g)) with
  | none => rfl
  | some ch => exact congrArg some (if_pos (State.handle_of_changeOf hf))

/-- A commit whose image fails a check is refused. -/
theorem State.commitRead_refuses {st : BitVec 16} {d : Nat} (hv : (s.getLane ch.lane).slot n = some v)
    (hf : s.commitFails ch.lane v img = some (st, d)) : s.commitRead ch n img = s.refuseChange ch st d := by
  rw [State.commitRead, hv]
  dsimp only
  rw [hf]

/-- A commit whose image passes is ready (R258, R455). -/
theorem State.commitRead_ready (hv : (s.getLane ch.lane).slot n = some v) (hf : s.commitFails ch.lane v img = none)
    (hc : s.changeOf ch.handle = some ch) :
    (s.commitRead ch n img).changeOf ch.handle = some { ch with ready := true } ∧ (s.commitRead ch n img).lanes = s.lanes ∧
      (s.commitRead ch n img).ops = s.ops := by
  unfold State.commitRead
  rw [hv]
  dsimp only
  rw [hf]
  dsimp only
  generalize hu : List.foldl _ s img.sections = u
  have hkept : u.besidesCells = s.besidesCells := by
    rw [← hu]
    refine foldl_keeps State.besidesCells _ (fun t sec => ?_) _ s
    split
    · rfl
    · exact State.besidesCells_writeCell ..
  refine ⟨?_, (congrArg State.lanes hkept :), (congrArg State.ops hkept :)⟩
  have hchange : u.changeOf ch.handle = s.changeOf ch.handle := (congrArg (fun t : State => t.changeOf ch.handle) hkept :)
  rw [State.changeOf_readyChange, hchange, hc]
  rfl

end

/-! ### Refills of a quad (R86, R261, R534) -/

/-- What a refill brings back to a cell: its tables, and that it has lost none. -/
def Cell.tables (x : Cell) : Bool × Tab W32 × Tab Wave := (x.erased, x.noz, x.waves)

theorem Cell.tables_adopt (x : Cell) : x.adopt.tables = x.tables := by
  unfold Cell.adopt
  split <;> rfl

section
variable {s : State} {k : Nat} {g : Option W32} {sets : List Nat} {data : List (List Byte)}

theorem State.tables_refillCell (s : State) (x : Lane) (imgs : List Image) (c : Nat) :
    ((s.refillCell x imgs c).getCell c).tables = (false, refillTables c imgs) := by
  have hcells : (s.refillCell x imgs c).cells = (s.updCell c _).cells := State.cells_retrim s c _
  rw [State.getCell_of_cells hcells, State.getCell_updCell, Cell.tables_adopt]
  rfl

theorem State.getCell_refillCell_ne {c j : Nat} (hj : j ≠ c) (s : State) (x : Lane) (imgs : List Image) :
    (s.refillCell x imgs c).getCell j = s.getCell j := by
  have hcells : (s.refillCell x imgs c).cells = (s.updCell c _).cells := State.cells_retrim s c _
  rw [State.getCell_of_cells hcells, State.getCell_updCell_ne _ _ _ _ hj]

/-- The cells of a list have their tables from the images. -/
theorem State.tables_refillCells {cells : List Nat} {c : Nat} (hc : c ∈ cells) (s : State) (x : Lane) (imgs : List Image) :
    ((forAll cells (fun s c => s.refillCell x imgs c) s).getCell c).tables = (false, refillTables c imgs) := by
  refine (forAll_get (I := fun _ => True) (get := fun s c => (s.getCell c).tables) (u := fun c _ => (false, refillTables c imgs))
    (fun _ _ _ => trivial) (fun s c _ => s.tables_refillCell x imgs c)
    (fun s c j hj => congrArg Cell.tables (State.getCell_refillCell_ne hj s x imgs)) (fun _ _ => rfl) cells c s trivial).trans (if_pos hc)

/-- The end of a cycle changes no cell (R86 step 8). -/
theorem State.settleCycle_cells (k : Nat) (s : State) : (s.settleCycle k).cells = s.cells := by
  unfold State.settleCycle
  split
  · next g _ =>
    split
    · rfl
    · have hmoves := ((s.updQuad k (fun x => { x with job := .none, forced := false })).setRstCause 5).settleClocks_moves
      have hcells := (congrArg State.cells hmoves.rest :)
      cases g with
      | none => exact hcells
      | some g => exact (samePlant_finish ..).cells.trans hcells
  · rfl

/-- Images that check are written to every cell that has lost its tables (R261). -/
theorem State.refillQuad_tables (hj : (s.getQuad k).job = .restoring g true sets)
    (hr : refillOk (s.getLane (s.getQuad k).owner.toNat) (data.map imageFrom) = true) {c : Nat} (hc : c ∈ s.lostCells k) :
    ((s.refillQuad k data).getCell c).tables = (false, refillTables c (data.map imageFrom)) := by
  unfold State.refillQuad
  dsimp only
  rw [hj]
  dsimp only
  rw [if_pos hr, State.getCell_of_cells (State.settleCycle_cells ..)]
  exact State.tables_refillCells hc ..

/-- A refill that fails ends its cycle, and touches neither a cell nor a steady register of a function (R261, R534). -/
theorem State.refillFails_ends (k : Nat) (g : Option W32) (s : State) : ((s.refillFails k g).getQuad k).job = .none ∧
    (s.refillFails k g).cells = s.cells ∧ (s.refillFails k g).steady = s.steady := by
  unfold State.refillFails
  cases g with
  | none => exact ⟨congrArg Quad.job (State.getQuad_updQuad ..), rfl, rfl⟩
  | some g =>
    refine ⟨?_, (samePlant_finish ..).cells, State.steady_finish ..⟩
    dsimp only
    rw [State.getQuad_finish, State.getQuad_updQuad]

/-- Images that do not check fail their refill. -/
theorem State.refillQuad_fails (hj : (s.getQuad k).job = .restoring g true sets)
    (hr : refillOk (s.getLane (s.getQuad k).owner.toNat) (data.map imageFrom) = false) : s.refillQuad k data = s.refillFails k g := by
  unfold State.refillQuad
  dsimp only
  rw [hj]
  dsimp only
  rw [hr]
  rfl

/-- A lane with a committed image cannot be refilled from none. -/
theorem refillOk_nil {x : Lane} {i : ImgRef} (h : x.image = some i) : refillOk x [] = false := by
  simp [refillOk, h]

end

/-! ### COMMAND_READ_DONE and HOST_READ_ERROR (R258, R261, R393, R534) -/

section
variable {s : State} (hon : s.on dHOST = true) (hruns : s.imageRuns = true) (hp : s.thn.paused = false)
variable {h : W32} {o : Op} (ho : s.running h = some o) {n len ep : Nat} {addr : W64} {ch : Change} {data : List (List Byte)}
  {k : QuadIx} {cause : BusError}
include hon hruns hp

theorem State.thinisGoes_of : s.thinisGoes = true := by simp [State.thinisGoes, hon, hruns, hp]

theorem commandReadDone_quad : commandReadDone (.quad k) data s = s.refillQuad k data := by
  rw [commandReadDone, State.thinisGoes_of hon hruns hp]
  rfl

theorem hostReadError_quad {g : Option W32} {sets : List Nat} (hj : (s.getQuad k).job = .restoring g true sets) :
    hostReadError (.quad k) cause s = (s.aerAt (s.refillFn (s.getQuad k).owner.toNat true sets) cause).refillQuad k [] := by
  rw [hostReadError, hon, hruns, hp, hj]
  rfl

include ho

theorem commandReadDone_tempset (hk : o.kind = .tempsetLoad n addr len) :
    commandReadDone (.handle h) data s = s.tempsetRead o n addr len data.flatten := by
  rw [commandReadDone, State.thinisGoes_of hon hruns hp, ho]
  dsimp only
  rw [hk]
  rfl

theorem commandReadDone_commit (hk : o.kind = .configCommit n ep) (hc : s.changeOf h = some ch) (hr : ch.ready = false) :
    commandReadDone (.handle h) data s = s.commitRead ch n (imageFrom data.flatten) := by
  rw [commandReadDone, State.thinisGoes_of hon hruns hp, ho]
  dsimp only
  rw [hk, hc]
  dsimp only
  rw [hr]
  rfl

/-- A load whose read fails ends (R534). -/
theorem hostReadError_load (hk : (∃ n addr len, o.kind = .configLoad n addr len) ∨ (∃ n addr len, o.kind = .tempsetLoad n addr len) ∨
      ∃ addr len, o.kind = .fwLoad false addr len) :
    hostReadError (.handle h) cause s = (s.aer o.queue (aerOf cause)).finish h stBadParam 0xFFFF := by
  rw [hostReadError, hon, hruns, hp, ho]
  dsimp only
  obtain ⟨_, _, _, hk⟩ | ⟨_, _, _, hk⟩ | ⟨_, _, hk⟩ := hk <;> rw [hk] <;> rfl

/-- A change whose read fails is refused (R534). -/
theorem hostReadError_change (hk : (∃ ep, o.kind = .configCommit n ep) ∨ ∃ ep, o.kind = .configPatch n ep) (hc : s.changeOf h = some ch)
    (hr : ch.ready = false) :
    hostReadError (.handle h) cause s =
      (s.aerAt (((s.getLane o.target).slot n).map (fun v => v.ref.fn)) cause).refuseChange ch stBadParam 0xFFFF := by
  rw [hostReadError, hon, hruns, hp, ho]
  dsimp only
  obtain ⟨_, hk⟩ | ⟨_, hk⟩ := hk
  all_goals
    rw [hk, hc]
    dsimp only
    rw [hr]
    rfl

end

/-- Settles O50: each row by the equation of its case, a refused change by what refuseChange drops, and the function's errors by the registers
that final entries leave. -/
theorem readsReturnToTheirCommand : Obligations.ReadsReturnToTheirCommand := by
  intro s hon hruns hp
  refine ⟨fun h o n addr len data ho hk hgood hd => ?_, fun h o n ep ch v data ho hk hc hr hv => ?_, fun k g sets data hj => ?_,
    fun h cause o ho => ⟨fun hk => ?_, fun ch n v hk hc hr hv => ?_⟩, fun cause k g sets i hj hi => ?_⟩
  · obtain ⟨hplant, hsets, hlane⟩ := State.tempsetRead_does rfl hgood hd
    exact ⟨_, congrArg Host.Outcome.next (commandReadDone_tempset hon hruns hp ho hk), hplant, hsets, congrArg Lane.tsRefs hlane⟩
  · obtain rfl := State.handle_of_changeOf hc
    refine ⟨_, congrArg Host.Outcome.next (commandReadDone_commit hon hruns hp ho hk hc hr),
      fun hf => State.commitRead_ready hv hf hc, fun hf => ?_⟩
    obtain ⟨⟨st, d⟩, hf⟩ := Option.isSome_iff_exists.mp hf
    obtain ⟨hgone, hlanes, -⟩ := s.refuseChange_drops ch st d
    rw [State.commitRead_refuses hv hf]
    exact ⟨hgone, hlanes, fun hw => State.refuseChange_cells hw st d⟩
  · refine ⟨_, congrArg Host.Outcome.next (commandReadDone_quad hon hruns hp), fun hr c hc => ?_, fun hr => ?_⟩
    · exact Prod.mk.inj (State.refillQuad_tables hj hr hc)
    · obtain ⟨hjob, hcells, -⟩ := s.refillFails_ends k.val g
      rw [State.refillQuad_fails hj hr]
      exact ⟨hcells, hjob⟩
  · exact ⟨_, congrArg Host.Outcome.next (hostReadError_load hon hruns hp ho hk), (samePlant_updHost ..).trans (samePlant_finish ..),
      State.aer_logs (State.steady_finish ..)⟩
  · obtain rfl := State.handle_of_changeOf hc
    obtain ⟨hgone, hlanes, hsteady⟩ := (s.aer v.ref.fn (aerOf cause)).refuseChange_drops ch stBadParam 0xFFFF
    have heq := hostReadError_change (cause := cause) hon hruns hp ho hk hc hr
    rw [hv] at heq
    exact ⟨_, congrArg Host.Outcome.next heq, hgone, hlanes,
      fun hw => State.refuseChange_cells (s := s.aer v.ref.fn (aerOf cause)) hw stBadParam 0xFFFF, State.aer_logs hsteady⟩
  · obtain ⟨hjob, hcells, hsteady⟩ := (s.aer i.fn (aerOf cause)).refillFails_ends k.val g
    have hfn : s.refillFn (s.getQuad k.val).owner.toNat true sets = some i.fn := congrArg (Option.map ImgRef.fn) hi
    have heq := hostReadError_quad (cause := cause) hon hruns hp hj
    rw [hfn, State.aerAt, State.refillQuad_fails (s := s.aer i.fn (aerOf cause)) (data := []) hj (refillOk_nil hi)] at heq
    exact ⟨_, congrArg Host.Outcome.next heq, hjob, hcells, State.aer_logs hsteady⟩

end Sys2Proof.Machine
end

section
/-! The start of a self-test in place (R266): the trims that the erased tables change are noted on the link of each listed nozzle, which is another
cell's where the table lists a nozzle that the cell does not have. -/

namespace Sys2Proof.Machine

/-- SELFTEST-TICK moves the links that the test in place of the next cell moves, where its lane is IDLE (R266). -/
theorem links_selftestTick_inPlace {q c : Nat} {s : State} (hr : s.imageRuns = true) (hls : s.on (dLS q) = true) (ht : (s.getTest q).on = true)
    (hu : s.sparesUsed q = false) (hc : (s.getTest q).cell = none) (hn : s.nextTested q = some c) (hi : (s.getLane (s.laneOf c)).st = .idle) :
    (selftestTick q s).links = (s.testInPlace c).links := by
  simp [selftestTick, hr, hls, ht, hu, hc, hn, hi]

/-- Emptying a cell's data moves no link. -/
theorem State.links_emptyData (s : State) (c : Nat) (keepLines kept : List Nat) : (s.emptyData c keepLines kept).links = s.links :=
  foldl_keeps State.links (fun t j => t.updReq (reqKey c j) _) (fun _ _ => rfl) _ (s.updCell c _)

/-- A cell with no entry and no servo byte has trim 0 at every nozzle (R249). -/
theorem Cell.trimOf_empty {x : Cell} (hn : x.noz = []) (hs : x.servo = []) (n : Nat) : x.trimOf n = 0 := by
  simp only [Cell.trimOf, Cell.entry, hn, hs, tabGet]
  decide

section
variable {s : State} {c n : Nat} {v : W32}

/-- Where a table's one entry goes, the trim of its nozzle is noted on link 2c + n / 2048 (R361, R363): nothing asks that the link be c's. -/
theorem State.trims_retrim_lone {u : Cell → Cell} (hn : (s.getCell c).noz = [(n, v)]) (hs : (s.getCell c).servo = [])
    (hn' : (u (s.getCell c)).noz = []) (hs' : (u (s.getCell c)).servo = []) (ht : (s.getCell c).trimOf n ≠ 0) :
    tabGet (fun _ => (64, 64)) ((s.retrim c u).getLink (2 * c + linkIx n)).trims (posOf n) =
      tabGet (fun _ => ((s.getCell c).trimOf n, (s.getCell c).trimOf n)) (s.getLink (2 * c + linkIx n)).trims (posOf n) := by
  have hlink : (s.updCell c u).getLink (2 * c + linkIx n) = s.getLink (2 * c + linkIx n) := rfl
  simp [State.retrim, hn, hs, hn', hs', Cell.trimOf_empty hn' hs', ht, hlink]

/-- So does the test in place, which erases the tables and moves no link otherwise. -/
theorem State.trims_testInPlace_lone (hn : (s.getCell c).noz = [(n, v)]) (hs : (s.getCell c).servo = []) (ht : (s.getCell c).trimOf n ≠ 0) :
    tabGet (fun _ => (64, 64)) ((s.testInPlace c).getLink (2 * c + linkIx n)).trims (posOf n) =
      tabGet (fun _ => ((s.getCell c).trimOf n, (s.getCell c).trimOf n)) (s.getLink (2 * c + linkIx n)).trims (posOf n) := by
  have hlinks : (s.testInPlace c).links = (s.retrim c _).links := State.links_emptyData (State.eraseBank c (s.retrim c _)) c [] []
  rw [State.getLink, hlinks]
  exact State.trims_retrim_lone hn hs rfl rfl ht

end

/-- A part whose rolling self-test of quadrant 0 is due at cell 0, with its lane IDLE, where the table of cell 0 lists nozzle 4096 with trim 1: one
past the last nozzle of the cell. -/
def nozzlePastCell : State :=
  { coreRuns with
    glb := { coreRuns.glb with clk := BitVec.allOnes 80 }
    tests := [(0, { testReset 0 with on := true })]
    cells := [(0, { cellReset 0 with noz := [(4096, 1#32 <<< 26)] })] }

/-- Nozzle 4096 of cell 0 leads to link 2, which is cell 1's, and its trim is noted there. -/
theorem trims_nozzlePastCell : tabGet (fun _ => (64, 64)) ((nozzlePastCell.testInPlace 0).getLink 2).trims 0 = (1, 1) :=
  (State.trims_testInPlace_lone (s := nozzlePastCell) (c := 0) (n := 4096) rfl rfl (by decide)).trans (by decide)

/-- The self-test of cell 0 begins there. -/
theorem links_nozzlePastCell : (selftestTick 0 nozzlePastCell).links = (nozzlePastCell.testInPlace 0).links :=
  links_selftestTick_inPlace (by decide) (by decide) rfl (by decide) rfl (by decide) rfl

/-- Refutes O46: the test in place of cell 0 notes a trim at link 2, which is not the cell's, where the cell's table lists a nozzle past its last.
The statement asks nothing of the numbers of the nozzles in that table. -/
theorem not_sparesTakeOverAndAreTested : ¬ Obligations.SparesTakeOverAndAreTested := by
  intro h
  obtain ⟨-, -, htick, -⟩ := h nozzlePastCell
  obtain ⟨hidle, -⟩ := htick 0 0 (by decide) (by decide) rfl (by decide) rfl (by decide)
  obtain ⟨t, ht, -, hkept, -⟩ := hidle rfl
  have hlinks : t.links = (nozzlePastCell.testInPlace 0).links := by
    rw [← Host.Outcome.next.inj ht]
    exact links_nozzlePastCell
  have hnoted := trims_nozzlePastCell
  rw [State.getLink, ← hlinks, ← State.getLink, hkept 2 (by decide)] at hnoted
  exact absurd hnoted (by decide)

end Sys2Proof.Machine
end

section
/-! What the rows of encoders and Pacers leave alone: counting, touching links and moving windows change no cell and no other encoder. -/

namespace Sys2Proof.Machine

/-! ### The bench of a state -/

/-- Chain time, the cells and the encoders, which the operations on Pacers and links leave as they were. -/
structure Bench where
  time  : W64
  cells : Tab Cell
  encs  : Tab Encoder

def State.bench (s : State) : Bench := ⟨s.time, s.cells, s.encs⟩

section
variable {s t : State}

theorem State.bench_congr (ht : t.time = s.time) (hc : t.cells = s.cells) (he : t.encs = s.encs) : t.bench = s.bench := by
  simp only [State.bench, ht, hc, he]

theorem State.time_of_bench (h : t.bench = s.bench) : t.time = s.time := congrArg Bench.time h

theorem State.cells_of_bench (h : t.bench = s.bench) : t.cells = s.cells := congrArg Bench.cells h

theorem State.getEnc_of_bench (h : t.bench = s.bench) (k : Nat) : t.getEnc k = s.getEnc k :=
  congrArg (fun b : Bench => tabGet encReset b.encs k) h

end

/-- A loop keeps the bench when each of its steps does. -/
theorem State.bench_forAll {u : State → Nat → State} (l : List Nat) (h : ∀ s a, (u s a).bench = s.bench) (s : State) :
    (forAll l u s).bench = s.bench := foldl_keeps State.bench u h l s

section
variable (s : State)

@[simp] theorem State.bench_updPacer (p : Nat) (u : Pacer → Pacer) : (s.updPacer p u).bench = s.bench := rfl
@[simp] theorem State.bench_updLink (l : Nat) (u : Link → Link) : (s.updLink l u).bench = s.bench := rfl
@[simp] theorem State.bench_updWindows (p : Nat) (q : Window → Bool) (u : Window → Window) : (s.updWindows p q u).bench = s.bench := rfl
@[simp] theorem State.bench_flagOpen (p b : Nat) : (s.flagOpen p b).bench = s.bench := rfl
@[simp] theorem State.bench_touchLink (since : Int) (l : Nat) : (s.touchLink since l).bench = s.bench := rfl
@[simp] theorem State.bench_raise (src : Nat) : (s.raise src).bench = s.bench := by apply State.bench_congr <;> simp
@[simp] theorem State.bench_pacerEvt (p i : Nat) : (s.pacerEvt p i).bench = s.bench := by apply State.bench_congr <;> simp

@[simp] theorem State.bench_squash (p : Nat) : (s.squash p).bench = s.bench :=
  State.bench_forAll _ (fun t l => State.bench_updLink t l _) s

@[simp] theorem State.bench_falseStart (p : Nat) : (s.falseStart p).bench = s.bench := by
  simp [State.falseStart]

theorem State.bench_touching {u : State → State} (links : List Nat) (h : ∀ t, (u t).bench = t.bench) : (touching links u s).bench = s.bench :=
  ((State.bench_forAll links (fun t l => State.bench_touchLink t _ l) _).trans (h _)).trans
    (State.bench_forAll links (fun t l => State.bench_touchLink t 0 l) s)

end

/-! ### Loops over Pacers and links alone -/

/-- A loop over updates of Pacers changes Pacers alone. -/
theorem State.forAll_pacers {u : State → Nat → State} (h : ∀ t a, ∃ ps, u t a = { t with pacers := ps }) (l : List Nat) (s : State) :
    ∃ ps, forAll l u s = { s with pacers := ps } := by
  refine foldl_inv (fun t => ∃ ps, t = { s with pacers := ps }) u ?_ l s ⟨_, rfl⟩
  rintro _ a ⟨ps, rfl⟩
  obtain ⟨qs, hq⟩ := h { s with pacers := ps } a
  exact ⟨qs, hq⟩

/-- A loop over updates of links changes links alone. -/
theorem State.forAll_links {u : State → Nat → State} (h : ∀ t a, ∃ ls, u t a = { t with links := ls }) (l : List Nat) (s : State) :
    ∃ ls, forAll l u s = { s with links := ls } := by
  refine foldl_inv (fun t => ∃ ls, t = { s with links := ls }) u ?_ l s ⟨_, rfl⟩
  rintro _ a ⟨ls, rfl⟩
  obtain ⟨ks, hk⟩ := h { s with links := ls } a
  exact ⟨ks, hk⟩

theorem State.squash_links (p : Nat) (s : State) : ∃ ls, s.squash p = { s with links := ls } :=
  State.forAll_links (fun _ _ => ⟨_, rfl⟩) _ s

/-- Touching links around a change leaves all but links to the change. -/
theorem touching_links (links : List Nat) (u : State → State) (s : State) :
    ∃ before after, touching links u s = { u { s with links := before } with links := after } := by
  obtain ⟨before, hb⟩ := State.forAll_links (u := fun s l => s.touchLink 0 l) (fun _ _ => ⟨_, rfl⟩) links s
  obtain ⟨after, ha⟩ := State.forAll_links (u := fun s l => s.touchLink s.now l) (fun _ _ => ⟨_, rfl⟩) links (u { s with links := before })
  refine ⟨before, after, ?_⟩
  unfold touching
  dsimp only
  rw [hb, ha]

/-- The requalification counts are the Pacers' (R302). -/
theorem State.requalCount_pacers (n : Nat) (ok : Bool) (s : State) : ∃ ps, s.requalCount n ok = { s with pacers := ps } := by
  refine State.forAll_pacers (fun t p => ?_) _ s
  dsimp only
  split
  · exact ⟨_, rfl⟩
  · exact ⟨_, rfl⟩

@[simp] theorem State.bench_requalCount (s : State) (n : Nat) (ok : Bool) : (s.requalCount n ok).bench = s.bench := by
  obtain ⟨ps, h⟩ := s.requalCount_pacers n ok
  rw [h]
  rfl

end Sys2Proof.Machine
end

section
/-! Encoders (R275 to R282): what an edge, a pair fault, an index, a speed window and a standstill make of one encoder. -/

namespace Sys2Proof.Machine

/-! ### One count of an encoder (R277) -/

/-- The raw count moves by one. -/
def Encoder.stepRaw (fwd : Bool) (e : Encoder) : Encoder := { e with raw := if fwd then e.raw + 1 else e.raw - 1 }

/-- How far the raw count lies beyond the confirmed position in the direction of travel. -/
def Encoder.ahead (e : Encoder) : Int := if e.rev then e.pos.toInt - e.raw.toInt else e.raw.toInt - e.pos.toInt

/-- A confirmed edge with stamp t: the position takes the raw count, and FWDMAX and the speed window take the edge (R277, R279, R282). -/
def Encoder.confirm (t : Tick) (e : Encoder) : Encoder :=
  let e := { e with pos := e.raw }
  { e with
    fwdMax := if e.rev ∨ e.pos.toInt ≤ e.fwdMax.toInt then e.fwdMax else e.pos
    winN := e.winN + 1, winFirst := if e.winN = 0 then t else e.winFirst, winLast := t, lastEdge := t, isStill := false }

/-- A reversal: the direction turns, and the position takes the raw count (R278). -/
def Encoder.turn (e : Encoder) : Encoder := { e with rev := !e.rev, pos := e.raw, revSeen := true }

/-- A count within the deadband is jitter where it leads away from the position (R277). -/
def Encoder.jitter (away : Bool) (e : Encoder) : Encoder := { e with jit := if away then satInc e.jit else e.jit }

/-- The deadband rule for a raw count that has moved forward (fwd) or back at stamp t (R277). -/
def Encoder.settleCount (fwd : Bool) (t : Tick) (e : Encoder) : Encoder :=
  if 0 < e.ahead then e.confirm t
  else if e.ahead < -(e.db.toNat : Int) then e.turn
  else e.jitter (if e.rev then fwd else !fwd)

/-- A change of both channels: a quadrature error and no count (R276). -/
def Encoder.slip (e : Encoder) : Encoder := { e with qerr := satInc e.qerr, qerrSeen := true, qerrWin := e.qerrWin + 1 }

/-- The level that a channel takes: one whose pair is faulted keeps its own (R276, log entry 83). -/
def Encoder.levelA (e : Encoder) (a : Bool) : Bool := if e.fltA then e.lvA else a
def Encoder.levelB (e : Encoder) (b : Bool) : Bool := if e.fltB then e.lvB else b

/-- The steps from the present levels to the new ones in the forward cycle (R275). -/
def Encoder.stepsTo (e : Encoder) (a b : Bool) : Nat := (grey (e.levelA a) (e.levelB b) + 4 - grey e.lvA e.lvB) % 4

/-- An encoder after an accepted change of its levels at stamp t (R275 to R277). -/
def Encoder.edge (a b : Bool) (t : Tick) (e : Encoder) : Encoder :=
  let x := { e with lvA := e.levelA a, lvB := e.levelB b }
  if e.stepsTo a b = 0 then x
  else if e.stepsTo a b = 2 then x.slip
  else (x.stepRaw (decide (e.stepsTo a b = 1) != e.dirInv)).settleCount (decide (e.stepsTo a b = 1) != e.dirInv) t

/-- From s to u encoder n has become e, and neither another encoder nor a cell has changed. -/
structure EncoderBecomes (n : Nat) (e : Encoder) (s u : State) : Prop where
  self  : u.getEnc n = e
  other : ∀ k, k ≠ n → u.getEnc k = s.getEnc k
  cells : u.cells = s.cells

namespace EncoderBecomes

variable {n : Nat} {e : Encoder} {s t u : State}

theorem refl (s : State) (n : Nat) : EncoderBecomes n (s.getEnc n) s s := ⟨rfl, fun _ _ => rfl, rfl⟩

theorem updEnc (h : EncoderBecomes n e s t) (f : Encoder → Encoder) : EncoderBecomes n (f e) s (t.updEnc n f) where
  self := by rw [State.getEnc_updEnc, h.self]
  other k hk := by rw [State.getEnc_updEnc_ne _ _ _ _ hk, h.other k hk]
  cells := h.cells

/-- What moves no bench moves no encoder. -/
theorem of_bench (h : EncoderBecomes n e s t) (hb : u.bench = t.bench) : EncoderBecomes n e s u where
  self := (State.getEnc_of_bench hb n).trans h.self
  other k hk := (State.getEnc_of_bench hb k).trans (h.other k hk)
  cells := (State.cells_of_bench hb).trans h.cells

theorem slip (h : EncoderBecomes n e s t) : EncoderBecomes n e.slip s (t.quadError n) :=
  (h.updEnc Encoder.slip).of_bench (State.bench_requalCount ..)

/-- The Pacers that follow the encoder take a confirmed edge, and nothing but Pacers changes with it. -/
theorem confirm (h : EncoderBecomes n e s t) (k : Tick) :
    EncoderBecomes n (e.confirm k) s ((t.updEnc n (fun e => { e with pos := e.raw })).confirmEdge n k) := by
  have hpos := h.updEnc (fun e => { e with pos := e.raw })
  refine (hpos.updEnc (fun e => { e with
    fwdMax := if e.rev ∨ e.pos.toInt ≤ e.fwdMax.toInt then e.fwdMax else e.pos
    winN := e.winN + 1, winFirst := if e.winN = 0 then k else e.winFirst, winLast := k, lastEdge := k, isStill := false })).of_bench ?_
  unfold State.confirmEdge
  dsimp only
  rw [State.bench_forAll, State.bench_requalCount]
  intro v p
  split <;> rfl

theorem turn (h : EncoderBecomes n e s t) : EncoderBecomes n e.turn s (t.reverseEnc n (!(t.getEnc n).rev)) := by
  rw [h.self]
  refine (h.updEnc (fun x => { x with rev := !e.rev, pos := x.raw, revSeen := true })).of_bench ?_
  unfold State.reverseEnc
  dsimp only
  rw [State.bench_forAll, State.bench_raise]
  exact fun v p => State.bench_touching v _ (fun w => by simp)

end EncoderBecomes

/-- The raw count has passed the confirmed position in the direction of travel, or has fallen back by more than the deadband (R277). -/
def Encoder.passed (e : Encoder) : Bool :=
  (!e.rev && decide (e.pos.toInt < e.raw.toInt)) || (e.rev && decide (e.raw.toInt < e.pos.toInt))
def Encoder.fellBack (e : Encoder) : Bool :=
  (!e.rev && decide (e.raw.toInt < e.pos.toInt - e.db.toNat)) || (e.rev && decide (e.pos.toInt + e.db.toNat < e.raw.toInt))

theorem Encoder.passed_iff (e : Encoder) : e.passed = true ↔ 0 < e.ahead := by
  cases hr : e.rev <;> simp [Encoder.passed, Encoder.ahead, hr]

theorem Encoder.fellBack_iff (e : Encoder) : e.fellBack = true ↔ e.ahead < -(e.db.toNat : Int) := by
  cases hr : e.rev <;> simp [Encoder.fellBack, Encoder.ahead, hr] <;> omega

/-- The deadband rule on the state, where the raw count of encoder n has moved. -/
def State.settleCount (n : Nat) (fwd : Bool) (t : Tick) (s : State) : State :=
  if (s.getEnc n).passed then (s.updEnc n (fun e => { e with pos := e.raw })).confirmEdge n t
  else if (s.getEnc n).fellBack then s.reverseEnc n (!(s.getEnc n).rev)
  else s.updEnc n (Encoder.jitter (if (s.getEnc n).rev then fwd else !fwd))

theorem State.countEnc_eq (n : Nat) (fwd : Bool) (t : Tick) (s : State) :
    s.countEnc n fwd t = (s.updEnc n (Encoder.stepRaw fwd)).settleCount n fwd t := rfl

/-- The count settles by the deadband rule (R277). -/
theorem EncoderBecomes.settleCount {n : Nat} {e : Encoder} {s t : State} (h : EncoderBecomes n e s t) (fwd : Bool) (k : Tick) :
    EncoderBecomes n (e.settleCount fwd k) s (t.settleCount n fwd k) := by
  unfold State.settleCount Encoder.settleCount
  rw [h.self]
  by_cases hp : 0 < e.ahead
  · rw [if_pos hp, if_pos (e.passed_iff.mpr hp)]
    exact h.confirm k
  · rw [if_neg hp, if_neg (mt e.passed_iff.mp hp)]
    by_cases hb : e.ahead < -(e.db.toNat : Int)
    · rw [if_pos hb, if_pos (e.fellBack_iff.mpr hb)]
      have hturn := h.turn
      rwa [h.self] at hturn
    · rw [if_neg hb, if_neg (mt e.fellBack_iff.mp hb)]
      exact h.updEnc _

theorem EncoderBecomes.count {n : Nat} {e : Encoder} {s t : State} (h : EncoderBecomes n e s t) (fwd : Bool) (k : Tick) :
    EncoderBecomes n ((e.stepRaw fwd).settleCount fwd k) s (t.countEnc n fwd k) := by
  rw [State.countEnc_eq]
  exact (h.updEnc (Encoder.stepRaw fwd)).settleCount fwd k

/-! ### ENCODER-EDGE (R275 to R277) -/

section
variable {n : Nat} {s : State}

theorem encoderEdge_becomes (hon : s.on dCHN = true) (hf : s.fire = true) (he : (s.getEnc n).en = true) (a b : Bool) (t : Tick) :
    EncoderBecomes n ((s.getEnc n).edge a b t) s (encoderEdge n a b t s) := by
  obtain ⟨time, hat⟩ := s.at_time t
  have hget : (s.at_ t).getEnc n = s.getEnc n := by rw [hat]; rfl
  have hbase : EncoderBecomes n (s.getEnc n) s (s.at_ t) := by rw [hat]; exact ⟨rfl, fun _ _ => rfl, rfl⟩
  have hlev := hbase.updEnc (fun e => { e with lvA := (s.getEnc n).levelA a, lvB := (s.getEnc n).levelB b })
  have hrow : encoderEdge n a b t s =
      (let v := (s.at_ t).updEnc n (fun e => { e with lvA := (s.getEnc n).levelA a, lvB := (s.getEnc n).levelB b })
       if (s.getEnc n).stepsTo a b = 0 then v
       else if (s.getEnc n).stepsTo a b = 2 then v.quadError n
       else v.countEnc n (decide ((s.getEnc n).stepsTo a b = 1) != (s.getEnc n).dirInv) t) := by
    unfold encoderEdge
    rw [hon, hf]
    dsimp only
    rw [hget, he]
    rfl
  rw [hrow]
  unfold Encoder.edge
  dsimp only
  split
  · exact hlev
  · split
    · exact hlev.slip
    · exact hlev.count _ t

end

/-- The levels that an edge leaves are the accepted ones. -/
theorem Encoder.edge_levels (e : Encoder) (a b : Bool) (t : Tick) : (e.edge a b t).lvA = e.levelA a ∧ (e.edge a b t).lvB = e.levelB b := by
  unfold Encoder.edge Encoder.settleCount
  dsimp only
  split
  · exact ⟨rfl, rfl⟩
  · split
    · exact ⟨rfl, rfl⟩
    · split
      · exact ⟨rfl, rfl⟩
      · split <;> exact ⟨rfl, rfl⟩

theorem Encoder.edge_none {e : Encoder} {a b : Bool} (h : e.stepsTo a b = 0) (t : Tick) :
    e.edge a b t = { e with lvA := e.levelA a, lvB := e.levelB b } := if_pos h

theorem Encoder.edge_slip {e : Encoder} {a b : Bool} (h : e.stepsTo a b = 2) (t : Tick) :
    e.edge a b t = ({ e with lvA := e.levelA a, lvB := e.levelB b } : Encoder).slip := by
  unfold Encoder.edge
  dsimp only
  rw [if_neg (by omega), if_pos h]

theorem Encoder.edge_count {e : Encoder} {a b : Bool} (h : e.stepsTo a b = 1 ∨ e.stepsTo a b = 3) (t : Tick) :
    e.edge a b t = (({ e with lvA := e.levelA a, lvB := e.levelB b } : Encoder).stepRaw (decide (e.stepsTo a b = 1) != e.dirInv)).settleCount
      (decide (e.stepsTo a b = 1) != e.dirInv) t := by
  unfold Encoder.edge
  dsimp only
  rw [if_neg (by omega), if_neg (by omega)]

/-- Where the deadband rule leads, by how far ahead the raw count lies (R277). -/
theorem Encoder.settleCount_cases (e : Encoder) (fwd : Bool) (t : Tick) :
    (e.settleCount fwd t).raw = e.raw ∧ (e.settleCount fwd t).qerr = e.qerr ∧
      (0 < e.ahead → (e.settleCount fwd t).pos = e.raw ∧ (e.settleCount fwd t).rev = e.rev ∧ (e.settleCount fwd t).lastEdge = t) ∧
      (e.ahead ≤ 0 → -(e.db.toNat : Int) ≤ e.ahead → (e.settleCount fwd t).pos = e.pos ∧ (e.settleCount fwd t).rev = e.rev) ∧
      (e.ahead < -(e.db.toNat : Int) →
        (e.settleCount fwd t).pos = e.raw ∧ (e.settleCount fwd t).rev = !e.rev ∧ (e.settleCount fwd t).revSeen = true) := by
  unfold Encoder.settleCount
  by_cases hp : 0 < e.ahead
  · rw [if_pos hp]
    exact ⟨rfl, rfl, fun _ => ⟨rfl, rfl, rfl⟩, by omega, by omega⟩
  · rw [if_neg hp]
    by_cases hb : e.ahead < -(e.db.toNat : Int)
    · rw [if_pos hb]
      exact ⟨rfl, rfl, by omega, by omega, fun _ => ⟨rfl, rfl, rfl⟩⟩
    · rw [if_neg hb]
      exact ⟨rfl, rfl, by omega, fun _ _ => ⟨rfl, rfl⟩, by omega⟩

/-! ### Pair faults (R276) -/

/-- The pair is faulted, or is so no more. -/
def Encoder.faultPair (pair : EncPair) (e : Encoder) : Encoder :=
  let e := { e with fltSeen := true }
  match pair with | .a => { e with fltA := true } | .b => { e with fltB := true } | .z => { e with fltZ := true }
def Encoder.endPairFault (pair : EncPair) (e : Encoder) : Encoder :=
  match pair with | .a => { e with fltA := false } | .b => { e with fltB := false } | .z => { e with fltZ := false }

theorem Encoder.faultPair_flags (pair : EncPair) (e : Encoder) : (e.faultPair pair).fltSeen = true ∧
    (e.faultPair pair).fltA = (e.fltA || decide (pair = .a)) ∧ (e.faultPair pair).fltB = (e.fltB || decide (pair = .b)) ∧
    (e.faultPair pair).fltZ = (e.fltZ || decide (pair = .z)) := by
  cases pair <;> simp [Encoder.faultPair]

theorem Encoder.endPairFault_flags (pair : EncPair) (e : Encoder) : (e.endPairFault pair).fltSeen = e.fltSeen ∧
    (e.endPairFault pair).fltA = (e.fltA && decide (pair ≠ .a)) ∧ (e.endPairFault pair).fltB = (e.fltB && decide (pair ≠ .b)) ∧
    (e.endPairFault pair).fltZ = (e.fltZ && decide (pair ≠ .z)) := by
  cases pair <;> simp [Encoder.endPairFault]

section
variable {n : Nat} {s : State}

theorem pairFault_eq (hon : s.on dCHN = true) (pair : EncPair) :
    pairFault n pair s = (s.updEnc n (Encoder.faultPair pair)).requalCount n false := if_pos hon

theorem pairFaultEnd_eq (hon : s.on dCHN = true) (pair : EncPair) : pairFaultEnd n pair s = s.updEnc n (Encoder.endPairFault pair) := if_pos hon

/-- PAIR-FAULT marks the pair, and requalifying references on the encoder count anew. -/
theorem pairFault_does (hon : s.on dCHN = true) (pair : EncPair) :
    (∃ es ps, pairFault n pair s = { s with encs := es, pacers := ps }) ∧ (pairFault n pair s).getEnc n = (s.getEnc n).faultPair pair := by
  rw [pairFault_eq hon]
  obtain ⟨ps, hps⟩ := (s.updEnc n (Encoder.faultPair pair)).requalCount_pacers n false
  exact ⟨⟨_, ps, hps⟩, (State.getEnc_of_bench (State.bench_requalCount ..) n).trans (State.getEnc_updEnc ..)⟩

/-! ### Index and speed (R280 to R282) -/

/-- The encoder after a recognised index (R280, R281). -/
def Encoder.indexed (e : Encoder) : Encoder :=
  let e := { e with laps := if e.rev then e.laps - 1 else e.laps + 1, idxSeen := true, lastIdx := some e.pos }
  if e.idxMode = 1 then e.rebase
  else if e.idxMode = 2 ∧ e.armed then { e.rebase with armed := false } else e

/-- An index counts a lap and re-bases the reported position as IDXMODE says (R281). -/
theorem Encoder.indexed_does (e : Encoder) : e.indexed.laps = (if e.rev then e.laps - 1 else e.laps + 1) ∧ e.indexed.idxSeen = true ∧
    e.indexed.pos = e.pos ∧
    ((e.idxMode = 1 ∨ (e.idxMode = 2 ∧ e.armed = true)) → e.indexed.base = e.pos - e.idxVal.setWidth 64) ∧
    (e.idxMode ≠ 1 → ¬ (e.idxMode = 2 ∧ e.armed = true) → e.indexed.base = e.base) ∧
    (e.idxMode = 2 → e.indexed.armed = false) := by
  unfold Encoder.indexed
  dsimp only
  by_cases h1 : e.idxMode = 1
  · rw [if_pos h1]
    exact ⟨rfl, rfl, rfl, fun _ => rfl, fun hn => absurd h1 hn, fun h2 => absurd (h1.symm.trans h2) (by decide)⟩
  · rw [if_neg h1]
    by_cases h2 : e.idxMode = 2 ∧ e.armed = true
    · rw [if_pos h2]
      exact ⟨rfl, rfl, rfl, fun _ => rfl, fun _ hn => absurd h2 hn, fun _ => rfl⟩
    · rw [if_neg h2]
      exact ⟨rfl, rfl, rfl, fun h => absurd h (not_or.mpr ⟨h1, h2⟩), fun _ _ => rfl,
        fun hm => Bool.eq_false_iff.mpr fun ha => h2 ⟨hm, ha⟩⟩

/-- The position is within the deadband of the last index (R280). -/
def Encoder.atLastIndex (e : Encoder) : Bool :=
  match e.lastIdx with
  | none => false
  | some p => decide ((e.pos.toInt - p.toInt).natAbs ≤ e.db.toNat)

theorem Encoder.atLastIndex_eq_false {e : Encoder} (hp : ∀ p, e.lastIdx = some p → e.db.toNat < (e.pos.toInt - p.toInt).natAbs) :
    e.atLastIndex = false := by
  unfold Encoder.atLastIndex
  split
  · rfl
  · exact decide_eq_false (Nat.not_le.mpr (hp _ ‹_›))

theorem index_cases (n : Nat) (s : State) : index n s = if !s.on dCHN then s
    else if !(s.getEnc n).en || (s.getEnc n).fltZ || (s.getEnc n).atLastIndex then s
    else (s.updEnc n Encoder.indexed).raise (277 + 2 * n) := rfl

/-- INDEX of an enabled encoder away from the place of its last index (R280). -/
theorem index_eq (hon : s.on dCHN = true) (he : (s.getEnc n).en = true) (hz : (s.getEnc n).fltZ = false)
    (hp : ∀ p, (s.getEnc n).lastIdx = some p → (s.getEnc n).db.toNat < ((s.getEnc n).pos.toInt - p.toInt).natAbs) :
    index n s = (s.updEnc n Encoder.indexed).raise (277 + 2 * n) := by
  rw [index_cases, hon, he, hz, Encoder.atLastIndex_eq_false hp]
  rfl

/-- The encoder at the end of a speed window that ends now (R282, log entry 73). -/
def Encoder.closeWindow (now : Nat) (e : Encoder) : Encoder :=
  let slow := if now = e.lastEdge then Config.divByZero 19200000000 else 19200000000 / (now - e.lastEdge)
  let fast := if e.winLast = e.winFirst then Config.divByZero ((e.winN - 1) * 19200000000)
    else (e.winN - 1) * 19200000000 / (e.winLast - e.winFirst)
  let v := if 2 ≤ e.winN then fast else min e.spd.toNat slow
  { e with spd := BitVec.ofNat 32 (min v 0xFFFFFFFF), winN := 0, winFirst := 0, winLast := 0, winStart := now, qerrWin := 0, winNow := e.win }

theorem toNat_limited (v : Nat) : (BitVec.ofNat 32 (min v 0xFFFFFFFF)).toNat = min v 0xFFFFFFFF := by
  rw [BitVec.toNat_ofNat]
  omega

/-- SPD over the edges of the window, or, with fewer than two, at most one count since the last edge (R282). -/
theorem Encoder.closeWindow_spd (now : Nat) (e : Encoder) :
    (2 ≤ e.winN → e.winFirst ≠ e.winLast →
      (e.closeWindow now).spd.toNat = min ((e.winN - 1) * 19200000000 / (e.winLast - e.winFirst)) 0xFFFFFFFF) ∧
    (e.winN < 2 → now ≠ e.lastEdge → (e.closeWindow now).spd.toNat = min e.spd.toNat (19200000000 / (now - e.lastEdge))) := by
  refine ⟨fun h2 hne => ?_, fun h2 hne => ?_⟩
  · have hspd := toNat_limited ((e.winN - 1) * 19200000000 / (e.winLast - e.winFirst))
    simpa only [Encoder.closeWindow, if_pos h2, if_neg hne.symm] using hspd
  · have hspd := toNat_limited (min e.spd.toNat (19200000000 / (now - e.lastEdge)))
    rw [Encoder.closeWindow, if_neg (Nat.not_le.mpr h2), if_neg hne, hspd]
    have := e.spd.isLt
    omega

theorem speedWindow_other {t : Tick} (ht : t ≠ (s.getEnc n).winEnd s.now) : speedWindow n t s = s := by
  simp [speedWindow, ht]

/-- SPEED-WINDOW at the end of the window (R282). -/
theorem speedWindow_eq (hon : s.on dCHN = true) (hf : s.fire = true) : speedWindow n ((s.getEnc n).winEnd s.now) s =
    (s.at_ ((s.getEnc n).winEnd s.now)).updEnc n (Encoder.closeWindow (s.at_ ((s.getEnc n).winEnd s.now)).now) := by
  unfold speedWindow
  rw [if_neg (by simp [hon, hf])]
  rfl

/-- A Pacer whose encoder stands still stops (R311). -/
def Pacer.standStill (x : Pacer) : Pacer :=
  if x.st = .track ∨ x.st = .wait then { x with st := .stopped, schedule := false, afterStop := true } else x

theorem Pacer.standStill_twice (x : Pacer) : x.standStill.standStill = x.standStill := by
  unfold Pacer.standStill
  by_cases h : x.st = .track ∨ x.st = .wait
  · rw [if_pos h]
    exact if_neg (by simp)
  · rw [if_neg h, if_neg h]

theorem Pacer.standStill_stops {x : Pacer} (h : x.st = .track ∨ x.st = .wait) : x.standStill.st = .stopped ∧ x.standStill.schedule = false := by
  rw [Pacer.standStill, if_pos h]
  exact ⟨rfl, rfl⟩

/-- The state at 100 ms after the last edge of encoder n, which stands still then (R282). -/
def State.atRest (n : Nat) (s : State) : State :=
  (s.at_ ((s.getEnc n).lastEdge + 100 * msTicks)).updEnc n (fun e => { e with spd := 0, isStill := true })

theorem State.getEnc_atRest (n : Nat) (s : State) : (s.atRest n).getEnc n =
    { (s.at_ ((s.getEnc n).lastEdge + 100 * msTicks)).getEnc n with spd := 0, isStill := true } := State.getEnc_updEnc ..

theorem still_eq (hon : s.on dCHN = true) (hf : s.fire = true) :
    still n s = forAll ((s.atRest n).followers n) (fun s p => s.updPacer p Pacer.standStill) (s.atRest n) := by
  unfold still
  rw [if_neg (by simp [hon, hf])]
  rfl

/-- STILL (R282, R311): the encoder stands still, and the Pacers that follow it in TRACK or WAIT stop. -/
theorem still_does (hon : s.on dCHN = true) (hf : s.fire = true) :
    ((still n s).getEnc n).spd = 0 ∧ ((still n s).getEnc n).isStill = true ∧
      (still n s).time = (s.at_ ((s.getEnc n).lastEdge + 100 * msTicks)).time ∧ (still n s).links = s.links ∧
      ∀ p < 8, (s.getPacer p).follows n ≠ none → (still n s).getPacer p = (s.getPacer p).standStill := by
  obtain ⟨time, hat⟩ := s.at_time ((s.getEnc n).lastEdge + 100 * msTicks)
  have hrest : (s.atRest n).pacers = s.pacers := by rw [State.atRest, hat]; rfl
  have hpacer (p : Nat) : (s.atRest n).getPacer p = s.getPacer p := by rw [State.getPacer, hrest]; rfl
  obtain ⟨ps, hps⟩ := State.forAll_pacers (u := fun s p => s.updPacer p Pacer.standStill) (fun _ _ => ⟨_, rfl⟩)
    ((s.atRest n).followers n) (s.atRest n)
  have henc : (still n s).getEnc n = { (s.at_ ((s.getEnc n).lastEdge + 100 * msTicks)).getEnc n with spd := 0, isStill := true } := by
    rw [still_eq hon hf, hps]
    exact State.getEnc_atRest n s
  refine ⟨by rw [henc], by rw [henc], ?_, ?_, fun p hp hfol => ?_⟩
  · rw [still_eq hon hf, hps]
    rfl
  · rw [still_eq hon hf, hps, State.atRest, hat]
    rfl
  · have hmem : p ∈ (s.atRest n).followers n := by
      rw [State.followers, List.mem_filter, hpacer]
      exact ⟨List.mem_range.mpr hp, Option.isSome_iff_ne_none.mpr hfol⟩
    have hloop := forAll_get (get := State.getPacer) (I := fun _ => True) (step := fun s p => s.updPacer p Pacer.standStill)
      (u := fun _ => Pacer.standStill) (fun _ _ _ => trivial) (fun s k _ => State.getPacer_updPacer ..)
      (fun s k j hj => State.getPacer_updPacer_ne _ _ _ _ hj) (fun _ x => x.standStill_twice) ((s.atRest n).followers n) p (s.atRest n) trivial
    rw [still_eq hon hf, hloop, if_pos hmem, hpacer]

end

/-- Settles O24: each row by what it makes of its encoder. A speed window ends at its own tick alone (log entries 69 and 73). -/
theorem encodersFollowTheirPairs : Obligations.EncodersFollowTheirPairs := by
  intro n s hon
  refine ⟨fun lvA lvB t hf he => ?_, fun pair => ?_, fun pair => ?_, fun he hz hp => ?_, fun t ht => congrArg Host.Outcome.next (speedWindow_other ht),
    fun hf => ?_, fun hf => ?_⟩
  · have hrow := encoderEdge_becomes hon hf he lvA lvB t
    obtain ⟨hA, hB⟩ := (s.getEnc n.val).edge_levels lvA lvB t
    refine ⟨_, rfl, ?_⟩
    rw [hrow.self]
    refine ⟨hA, hB, hrow.cells, hrow.other, fun h0 => ?_, fun h2 => ?_, fun h13 => ?_⟩
    · rw [Encoder.edge_none h0]
      exact ⟨rfl, rfl, rfl⟩
    · rw [Encoder.edge_slip h2]
      exact ⟨rfl, rfl, rfl⟩
    · rw [Encoder.edge_count h13]
      exact Encoder.settleCount_cases _ _ t
  · obtain ⟨⟨es, ps, hrow⟩, henc⟩ := pairFault_does (n := n.val) hon pair
    refine ⟨_, rfl, ?_⟩
    rw [henc]
    exact ⟨by rw [hrow]; rfl, Encoder.faultPair_flags ..⟩
  · refine ⟨_, congrArg Host.Outcome.next (pairFaultEnd_eq hon pair), rfl, ?_⟩
    rw [State.getEnc_updEnc]
    exact Encoder.endPairFault_flags ..
  · refine ⟨_, congrArg Host.Outcome.next (index_eq hon he hz hp), ?_⟩
    have hraise := samePlant_raise (s.updEnc n.val Encoder.indexed) (277 + 2 * n.val)
    have hencs : ((s.updEnc n.val Encoder.indexed).raise (277 + 2 * n.val)).encs = (s.updEnc n.val Encoder.indexed).encs := by simp
    have henc : ((s.updEnc n.val Encoder.indexed).raise (277 + 2 * n.val)).getEnc n.val = (s.getEnc n.val).indexed :=
      (congrArg (fun es => tabGet encReset es n.val) hencs).trans (State.getEnc_updEnc ..)
    obtain ⟨hlaps, hseen, hpos, hbase, hstay, harmed⟩ := (s.getEnc n.val).indexed_does
    rw [henc, hencs]
    exact ⟨hraise, hlaps, hseen, hpos, hbase, hstay, harmed, fun hh => State.raise_stat_self (s := s.updEnc n.val Encoder.indexed) hh (by omega)⟩
  · obtain ⟨time, hat⟩ := s.at_time ((s.getEnc n.val).winEnd s.now)
    have hget : (s.at_ ((s.getEnc n.val).winEnd s.now)).getEnc n.val = s.getEnc n.val := by rw [hat]; rfl
    obtain ⟨hfast, hslow⟩ := Encoder.closeWindow_spd (s.at_ ((s.getEnc n.val).winEnd s.now)).now (s.getEnc n.val)
    refine ⟨_, congrArg Host.Outcome.next (speedWindow_eq hon hf), ?_, rfl, ?_⟩
    · rw [hat]
      rfl
    · rw [State.getEnc_updEnc, hget]
      exact ⟨rfl, rfl, rfl, hfast, hslow⟩
  · obtain ⟨hspd, hstill, htime, hlinks, hpacers⟩ := still_does (n := n.val) hon hf
    refine ⟨_, rfl, hspd, hstill, htime, hlinks, fun p hp hfol hst => ?_⟩
    rw [hpacers p hp hfol]
    exact Pacer.standStill_stops hst

end Sys2Proof.Machine
end

section
/-! The references of a Pacer (R300 to R303, R333): what a loss, a requalification and the dead-reckoning limit make of one Pacer. -/

namespace Sys2Proof.Machine

/-! ### The Pacer after its event bit and its windows change -/

theorem State.getPacer_pacerEvt (s : State) (p i : Nat) :
    (s.pacerEvt p i).getPacer p = { s.getPacer p with evt := setBit (s.getPacer p).evt i true } := by
  unfold State.pacerEvt State.raiseIf
  dsimp only
  split
  · rw [State.getPacer_raise, State.getPacer_updPacer]
  · rw [State.getPacer_updPacer]

theorem State.getPacer_updWindows (s : State) (p : Nat) (sel : Window → Bool) (u : Window → Window) :
    (s.updWindows p sel u).getPacer p =
      { s.getPacer p with windows := (s.getPacer p).windows.map (fun w => if sel w then u w else w) } := State.getPacer_updPacer ..

/-! ### The state of a reference -/

@[simp] theorem Pacer.refSt_setRefSt (x : Pacer) (r : EncRef) (v : RefSt) : (x.setRefSt r v).refSt r = v := by
  cases r <;> rfl

@[simp] theorem Pacer.setRefSt_keeps (x : Pacer) (r : EncRef) (v : RefSt) :
    (x.setRefSt r v).cur = x.cur ∧ (x.setRefSt r v).lossCause = x.lossCause := by
  cases r <;> exact ⟨rfl, rfl⟩

@[simp] theorem Pacer.reqOf_setReq (x : Pacer) (r : EncRef) (v : BitVec 11) : (x.setReq r v).reqOf r = v := by
  cases r <;> rfl

@[simp] theorem Pacer.setReq_keeps (x : Pacer) (r : EncRef) (v : BitVec 11) :
    (x.setReq r v).cur = x.cur ∧ (x.setReq r v).lossCause = x.lossCause ∧ (x.setReq r v).refSt r = x.refSt r := by
  cases r <;> exact ⟨rfl, rfl, rfl⟩

/-- A Pacer whose current reference r is lost switches at its next boundary (R301). -/
def Pacer.loseCurrent (r : EncRef) (x : Pacer) : Pacer := { x.setRefSt r .lost with switching := true, switchDue := true }

/-- A reference that is not current starts to requalify (R302). -/
def Pacer.restart (r : EncRef) (x : Pacer) : Pacer := (x.setRefSt r .requal).setReq r 0

/-! ### REFERENCE-LOSS (R300, R301) -/

section
variable {p : Nat} {r : EncRef} {cause : LossCause} {s : State}

theorem referenceLoss_other (h : (s.getPacer p).refSt r ≠ .qualified ∨ s.lossHolds p r cause = false) : referenceLoss p r cause s = s := by
  unfold referenceLoss
  split
  · rfl
  · exact if_neg (by rintro ⟨hq, hc⟩; rcases h with h | h; exacts [h hq, by simp [h] at hc])

/-- The state in which a loss is taken: the cause is noted, at the tick of the loss where it is a missing edge. -/
def State.lossNoted (p : Nat) (r : EncRef) (cause : LossCause) (s : State) : State :=
  (if cause = .noEdge then s.at_ (s.silentAt p r) else s).updPacer p (fun x => { x with lossCause := lossCode cause })

theorem State.lossNoted_pacers (p : Nat) (r : EncRef) (cause : LossCause) (s : State) :
    (∃ time ps, s.lossNoted p r cause = { s with time := time, pacers := ps }) ∧
      (s.lossNoted p r cause).getPacer p = { s.getPacer p with lossCause := lossCode cause } := by
  unfold State.lossNoted
  split
  · obtain ⟨time, hat⟩ := s.at_time (s.silentAt p r)
    rw [hat]
    exact ⟨⟨time, _, rfl⟩, State.getPacer_updPacer ..⟩
  · exact ⟨⟨s.time, _, rfl⟩, State.getPacer_updPacer ..⟩

theorem referenceLoss_eq (hon : s.on dCHN = true) (hf : s.fire = true) (hq : (s.getPacer p).refSt r = .qualified)
    (hc : s.lossHolds p r cause = true) : referenceLoss p r cause s =
      if (s.getPacer p).curRef = some r then
        touching ((s.lossNoted p r cause).pacerLinks p) (fun s => s.updPacer p (Pacer.loseCurrent r)) (s.lossNoted p r cause)
      else (s.lossNoted p r cause).updPacer p (Pacer.restart r) := by
  unfold referenceLoss
  rw [if_neg (by simp [hon, hf])]
  exact if_pos ⟨hq, hc⟩

/-- The loss of the current reference. -/
theorem referenceLoss_current (hon : s.on dCHN = true) (hf : s.fire = true) (hq : (s.getPacer p).refSt r = .qualified)
    (hc : s.lossHolds p r cause = true) (hcur : (s.getPacer p).curRef = some r) :
    (referenceLoss p r cause s).cells = s.cells ∧
      (referenceLoss p r cause s).getPacer p = Pacer.loseCurrent r { s.getPacer p with lossCause := lossCode cause } := by
  obtain ⟨⟨time, ps, hnoted⟩, hpacer⟩ := s.lossNoted_pacers p r cause
  obtain ⟨before, after, htouch⟩ := touching_links ((s.lossNoted p r cause).pacerLinks p) (fun s => s.updPacer p (Pacer.loseCurrent r))
    (s.lossNoted p r cause)
  rw [referenceLoss_eq hon hf hq hc, if_pos hcur, htouch]
  refine ⟨?_, (State.getPacer_updPacer { s.lossNoted p r cause with links := before } p (Pacer.loseCurrent r)).trans
    (congrArg (Pacer.loseCurrent r) hpacer)⟩
  rw [hnoted]
  rfl

/-- The loss of another reference. -/
theorem referenceLoss_spare (hon : s.on dCHN = true) (hf : s.fire = true) (hq : (s.getPacer p).refSt r = .qualified)
    (hc : s.lossHolds p r cause = true) (hcur : (s.getPacer p).curRef ≠ some r) :
    (referenceLoss p r cause s).cells = s.cells ∧ (referenceLoss p r cause s).links = s.links ∧
      (referenceLoss p r cause s).getPacer p = Pacer.restart r { s.getPacer p with lossCause := lossCode cause } := by
  obtain ⟨⟨time, ps, hnoted⟩, hpacer⟩ := s.lossNoted_pacers p r cause
  rw [referenceLoss_eq hon hf hq hc, if_neg hcur]
  refine ⟨?_, ?_, (State.getPacer_updPacer ..).trans (congrArg (Pacer.restart r) hpacer)⟩
  · rw [hnoted]
    rfl
  · rw [hnoted]
    rfl

/-! ### REFERENCE-REQUALIFIED (R302) and DRLIM (R333) -/

theorem referenceRequalified_eq (hon : s.on dCHN = true) (hq : (s.getPacer p).refSt r = .requal) (hn : 1024 ≤ ((s.getPacer p).reqOf r).toNat) :
    referenceRequalified p r s = s.updPacer p (fun x => x.setRefSt r .qualified) :=
  (if_pos hon).trans (if_pos ⟨hq, hn⟩)

/-- A Pacer at its dead-reckoning limit at tick now has no reference and no schedule (R333). -/
def Pacer.giveUp (now : Nat) (x : Pacer) : Pacer := { x with cur := .none, st := .none, schedule := false, x := x.posAt now }

theorem drlim_eq (hon : s.on dCHN = true) (hf : s.fire = true) (hd : (s.getPacer p).st = .dead) (hl : (s.getPacer p).drlim ≠ 0) :
    drlim p s = ((touching ((s.at_ ((s.getPacer p).drFrom + (s.getPacer p).drlim.toNat * msTicks)).pacerLinks p)
      (fun s => s.updPacer p (Pacer.giveUp s.now)) (s.at_ ((s.getPacer p).drFrom + (s.getPacer p).drlim.toNat * msTicks))).pacerEvt p 3).flagOpen
        p flRefSwitch := by
  unfold drlim
  rw [if_neg (by simp [hon, hf])]
  exact if_pos ⟨hd, hl⟩

/-- The dead-reckoning limit ends the prediction and sets its event bit (R333). -/
theorem drlim_does (hon : s.on dCHN = true) (hf : s.fire = true) (hd : (s.getPacer p).st = .dead) (hl : (s.getPacer p).drlim ≠ 0) :
    (drlim p s).time = (s.at_ ((s.getPacer p).drFrom + (s.getPacer p).drlim.toNat * msTicks)).time ∧ (drlim p s).cells = s.cells ∧
      ((drlim p s).getPacer p).st = .none ∧ ((drlim p s).getPacer p).cur = .none ∧ ((drlim p s).getPacer p).schedule = false ∧
      bit ((drlim p s).getPacer p).evt 3 = true := by
  have hrow := drlim_eq hon hf hd hl
  generalize hbase : s.at_ ((s.getPacer p).drFrom + (s.getPacer p).drlim.toNat * msTicks) = v at hrow ⊢
  have hcells : v.cells = s.cells := by simp [← hbase]
  have hbench : (drlim p s).bench = v.bench := by
    rw [hrow, State.bench_flagOpen, State.bench_pacerEvt]
    exact State.bench_touching v _ (fun t => State.bench_updPacer ..)
  obtain ⟨before, after, htouch⟩ := touching_links (v.pacerLinks p) (fun s => s.updPacer p (Pacer.giveUp s.now)) v
  have hgone : (touching (v.pacerLinks p) (fun s => s.updPacer p (Pacer.giveUp s.now)) v).getPacer p = (v.getPacer p).giveUp v.now := by
    rw [htouch]
    exact State.getPacer_updPacer { v with links := before } p _
  refine ⟨State.time_of_bench hbench, (State.cells_of_bench hbench).trans hcells, ?_⟩
  rw [hrow, State.flagOpen, State.getPacer_updWindows, State.getPacer_pacerEvt, hgone]
  exact ⟨rfl, rfl, rfl, bit_setBit_self _ (by decide)⟩

end

/-- Settles O26: each row by what it makes of its Pacer. -/
theorem referencesAreLostAndRegained : Obligations.ReferencesAreLostAndRegained := by
  intro p r cause s hon
  refine ⟨fun hf hq hc => ?_, fun _ h => congrArg Host.Outcome.next (referenceLoss_other h), fun hq hn => ?_, fun hf hd hl => ?_⟩
  · refine ⟨_, rfl, ?_⟩
    by_cases hcur : (s.getPacer p.val).curRef = some r
    · obtain ⟨hcells, hpacer⟩ := referenceLoss_current hon hf hq hc hcur
      rw [hpacer]
      obtain ⟨hsame, hcause⟩ := Pacer.setRefSt_keeps { s.getPacer p.val with lossCause := lossCode cause } r .lost
      exact ⟨hcause, hsame, hcells, fun _ => ⟨Pacer.refSt_setRefSt .., rfl, rfl⟩, fun hn => absurd hcur hn⟩
    · obtain ⟨hcells, hlinks, hpacer⟩ := referenceLoss_spare hon hf hq hc hcur
      rw [hpacer]
      refine ⟨?_, ?_, hcells, fun hn => absurd hn hcur, fun _ => ⟨?_, ?_, hlinks⟩⟩ <;> simp [Pacer.restart]
  · refine ⟨_, congrArg Host.Outcome.next (referenceRequalified_eq hon hq hn), rfl, ?_⟩
    rw [State.getPacer_updPacer]
    exact ⟨Pacer.refSt_setRefSt .., (Pacer.setRefSt_keeps ..).1⟩
  · obtain ⟨htime, hcells, hst, hcur, hsch, hevt⟩ := drlim_does hon hf hd hl
    exact ⟨_, rfl, hst, hcur, hsch, hevt, htime, hcells⟩

end Sys2Proof.Machine
end

section
/-! The course of a Pacer: what speculation and the windows of trigger edges leave alone (R288 to R298, R314 to R318). -/

namespace Sys2Proof.Machine

/-! ### The course of a Pacer -/

/-- A Pacer apart from its windows and the counters that windows move. -/
def Pacer.course (x : Pacer) : Pacer := { x with windows := [], nextWin := 0, empty := 0, stray := 0, noArm := 0 }

/-- The triggers, and the course of every Pacer. -/
def State.courses (s : State) : Tab Trig × (Nat → Pacer) := (s.trigs, fun p => (s.getPacer p).course)

section
variable {s t : State}

theorem State.courses_congr (hg : t.trigs = s.trigs) (hp : t.pacers = s.pacers) : t.courses = s.courses := by
  simp only [State.courses, State.getPacer, hg, hp]

theorem State.trigs_of_courses (h : t.courses = s.courses) : t.trigs = s.trigs := congrArg Prod.fst h

theorem State.course_of_courses (h : t.courses = s.courses) (p : Nat) : (t.getPacer p).course = (s.getPacer p).course :=
  congrFun (congrArg Prod.snd h) p

/-- The prediction of a Pacer, its edges, its false starts and its event bits are read off its course. -/
theorem Pacer.prediction_of_course {x y : Pacer} (h : x.course = y.course) : x.st = y.st ∧ x.q = y.q ∧ x.seedT = y.seedT ∧ x.seedX = y.seedX ∧
    x.schedule = y.schedule ∧ x.inbound = y.inbound ∧ x.fstart = y.fstart ∧ x.evt = y.evt := by
  simp only [Pacer.course, Pacer.mk.injEq] at h
  simp only [h, and_self]

theorem State.courses_updPacer {k : Nat} {u : Pacer → Pacer} (h : (u (s.getPacer k)).course = (s.getPacer k).course) :
    (s.updPacer k u).courses = s.courses := by
  refine Prod.ext rfl (funext fun j => ?_)
  by_cases hj : j = k
  · subst hj
    exact (congrArg Pacer.course (State.getPacer_updPacer ..)).trans h
  · exact congrArg Pacer.course (State.getPacer_updPacer_ne _ _ _ _ hj)

end

theorem State.courses_ite {c : Prop} [Decidable c] {a b s : State} (ha : a.courses = s.courses) (hb : b.courses = s.courses) :
    (if c then a else b).courses = s.courses := by
  split
  · exact ha
  · exact hb

/-- Loops of steps that keep the courses keep them. -/
theorem State.courses_foldl {α : Type} {u : State → α → State} (l : List α) (h : ∀ s a, (u s a).courses = s.courses) (s : State) :
    (l.foldl u s).courses = s.courses := foldl_keeps State.courses u h l s

theorem State.courses_forAll {u : State → Nat → State} (l : List Nat) (h : ∀ s a, (u s a).courses = s.courses) (s : State) :
    (forAll l u s).courses = s.courses := State.courses_foldl l h s

section
variable (s : State)

@[simp] theorem State.courses_updLink (l : Nat) (u : Link → Link) : (s.updLink l u).courses = s.courses := rfl
@[simp] theorem State.courses_updCell (c : Nat) (u : Cell → Cell) : (s.updCell c u).courses = s.courses := rfl
@[simp] theorem State.courses_raise (src : Nat) : (s.raise src).courses = s.courses := by apply State.courses_congr <;> simp
@[simp] theorem State.courses_raiseIf (b : Bool) (src : Nat) : (s.raiseIf b src).courses = s.courses := by apply State.courses_congr <;> simp
@[simp] theorem State.courses_cellEvt (c i : Nat) : (s.cellEvt c i).courses = s.courses := by simp [State.cellEvt]

/-! ### Speculation (R314 to R318) -/

@[simp] theorem State.courses_missEdge (c m : Nat) (mapped : Bool) (side : Side) : (s.missEdge c m mapped side).courses = s.courses := by
  unfold State.missEdge
  split
  · rfl
  · dsimp only
    split
    · exact State.courses_cellEvt ..
    · rfl

@[simp] theorem State.courses_settleEdges (c v : Nat) (mapped : Bool) : (s.settleEdges c v mapped).courses = s.courses := by
  unfold State.settleEdges
  split <;> simp

@[simp] theorem State.courses_ensureSegment (p l : Nat) (n : Int) : (s.ensureSegment p l n).courses = s.courses := by
  unfold State.ensureSegment
  dsimp only
  split
  · exact State.courses_updPacer rfl
  · rfl

@[simp] theorem State.courses_assignLine (c p : Nat) (old : List Assign) (n : Int) : (s.assignLine c p old n).courses = s.courses := by
  unfold State.assignLine
  split
  · rfl
  · exact State.courses_settleEdges ..

@[simp] theorem State.courses_muteLine (c p : Nat) (n : Int) : (s.muteLine c p n).courses = s.courses := by
  unfold State.muteLine
  split
  · rfl
  · exact State.courses_forAll _ (fun s l => State.courses_updLink ..) s

@[simp] theorem State.courses_speculateLine (c p : Nat) (n : Int) : (s.speculateLine c p n).courses = s.courses := by
  unfold State.speculateLine
  dsimp only
  rw [State.courses_forAll, State.courses_updCell, State.courses_assignLine, State.courses_ensureSegment]
  intro s l
  exact State.courses_ite ((State.courses_muteLine ..).trans (State.courses_updLink ..)) (State.courses_updLink ..)

theorem State.courses_speculate (c n : Nat) : (State.speculate c n s).courses = s.courses := by
  induction n generalizing s with
  | zero => rfl
  | succ n ih =>
    unfold State.speculate
    dsimp only
    split
    · split
      · rw [ih, State.courses_speculateLine]
      · rfl
    · rfl

@[simp] theorem State.courses_speculateCell (c : Nat) : (s.speculateCell c).courses = s.courses := State.courses_speculate ..

@[simp] theorem State.courses_startLines (n : Int) (c : Nat) : (State.startLines n c s).courses = s.courses := by
  unfold State.startLines
  rw [State.courses_speculateCell, State.courses_updCell, State.courses_forAll _ (fun _ _ => State.courses_updLink ..)]

@[simp] theorem State.courses_recompute (all : Bool) (t l : Nat) : (s.recompute all t l).courses = s.courses := by
  unfold State.recompute
  split
  · rfl
  · exact State.courses_foldl _ (fun s b => State.courses_updLink ..) s

/-! ### The windows of trigger edges (R288 to R293) -/

@[simp] theorem State.courses_reassignCell (p c : Nat) : (s.reassignCell p c).courses = s.courses := by
  have hlines (old l : List Assign) (s : State) :
      (l.foldl (fun s a => (s.ensureSegment p (s.laneOf c) a.n).assignLine c p old a.n) s).courses = s.courses :=
    State.courses_foldl l (fun s a => by simp) s
  unfold State.reassignCell
  dsimp only
  rw [State.courses_forAll _ (fun _ _ => State.courses_updLink ..), hlines, State.courses_updCell]

@[simp] theorem State.courses_reassign (p : Nat) : (s.reassign p).courses = s.courses :=
  State.courses_forAll _ (fun s c => State.courses_reassignCell s p c) s

@[simp] theorem State.courses_updWindow (p i : Nat) (u : Window → Window) : (s.updWindow p i u).courses = s.courses :=
  State.courses_updPacer rfl

@[simp] theorem State.courses_dropEmpty (p : Nat) : (s.dropEmpty p).courses = s.courses := by
  unfold State.dropEmpty
  refine State.courses_forAll _ (fun s i => ?_) s
  unfold State.countEmpty State.discardWindows
  rw [State.courses_updPacer rfl, State.courses_updPacer rfl]

@[simp] theorem State.courses_putClose (p i : Nat) (pc : Int) (u : Window → Window) : (s.putClose p i pc u).courses = s.courses :=
  State.courses_updWindow ..

@[simp] theorem State.courses_closeAt (p i : Nat) (pc : Int) (u : Window → Window) : (s.closeAt p i pc u).courses = s.courses := by
  simp [State.closeAt]

@[simp] theorem State.courses_startWindow (p i : Nat) (pt : Int) : (s.startWindow p i pt).courses = s.courses := by
  unfold State.startWindow
  split
  · rfl
  · dsimp only
    rw [State.courses_reassign, State.courses_dropEmpty]
    split <;> simp

/-- A trigger edge moves windows and their counters alone (R288 to R290). -/
@[simp] theorem State.courses_edgeWindows (code : Byte) (p : Nat) : (s.edgeWindows code p).courses = s.courses := by
  have hstart (x : Pacer) (pt : Int) (l : List Byte) : (if l.contains code then
      match x.windows.find? (fun w => decide (w.st = .armed) && decide (w.start = code)) with
      | some w => s.startWindow p w.id pt
      | none => s.updPacer p (fun x => { x with noArm := satInc x.noArm })
      else s).courses = s.courses := by
    split
    · split
      · exact State.courses_startWindow ..
      · exact State.courses_updPacer rfl
    · rfl
  unfold State.edgeWindows
  dsimp only
  split
  · rfl
  · split
    · split
      · exact (State.courses_updPacer rfl).trans (hstart ..)
      · rw [State.courses_closeAt, State.courses_updWindow]
        exact hstart ..
    · exact hstart ..

end

end Sys2Proof.Machine
end

section
/-! What a Pacer makes of an edge it learns (R279, R313 to R315, R323, R330, R531). -/

namespace Sys2Proof.Machine

/-! ### Touching links (R321) -/

/-- The undecided lines of every link, apart from the ticks at which R321 allows them. -/
def State.plans (s : State) (l : Nat) : Option Int × List Strobe :=
  ((s.getLink l).decided, (s.getLink l).strobes.map (fun b => { b with ok := none }))

theorem State.plans_touchLink (s : State) (since : Int) (l : Nat) : (s.touchLink since l).plans = s.plans := by
  funext j
  by_cases hj : j = l
  · subst hj
    unfold State.plans State.touchLink
    rw [State.getLink_updLink, List.map_map]
    refine Prod.ext rfl (List.map_congr_left fun b _ => ?_)
    dsimp only [Function.comp_apply]
    split <;> rfl
  · unfold State.plans State.touchLink
    rw [State.getLink_updLink_ne _ _ _ _ hj]

theorem State.plans_touchLinks (links : List Nat) (since : State → Int) (s : State) :
    (forAll links (fun s l => s.touchLink (since s) l) s).plans = s.plans :=
  foldl_keeps State.plans _ (fun s l => State.plans_touchLink s _ l) links s

/-- A change on touched links is the change of a state with the same plans, whose outcome differs from it in links alone. -/
theorem touching_plans (links : List Nat) (u : State → State) (s : State) : ∃ before after,
    touching links u s = { u { s with links := before } with links := after } ∧
      State.plans { s with links := before } = s.plans ∧ (touching links u s).plans = (u { s with links := before }).plans := by
  obtain ⟨before, hb⟩ := State.forAll_links (u := fun s l => s.touchLink 0 l) (fun _ _ => ⟨_, rfl⟩) links s
  obtain ⟨after, ha⟩ := State.forAll_links (u := fun s l => s.touchLink s.now l) (fun _ _ => ⟨_, rfl⟩) links (u { s with links := before })
  have htouch : touching links u s = forAll links (fun s l => s.touchLink s.now l) (u { s with links := before }) := by
    unfold touching
    dsimp only
    rw [hb]
  refine ⟨before, after, htouch.trans ha, ?_, ?_⟩
  · rw [← hb]
    exact State.plans_touchLinks links (fun _ => 0) s
  · rw [htouch]
    exact State.plans_touchLinks links (fun s => s.now) _

/-! ### The parts of learning -/

/-- A completed switchover moves the states and counts of the references alone (R301, R302). -/
theorem Pacer.switchDone_refs (x : Pacer) : ∃ sw pri cnt sec cnt2,
    x.switchDone = { x with switching := sw, priSt := pri, reqCnt := cnt, secSt := sec, reqCnt2 := cnt2 } := by
  unfold Pacer.switchDone
  split
  · exact ⟨_, _, _, _, _, rfl⟩
  · dsimp only
    split <;> split <;> exact ⟨_, _, _, _, _, rfl⟩

/-- A Pacer that has taken note of the edge e: ε, and the position unless it regains it (R279, R313). -/
def Pacer.noteEdge (e : PEdge) (x : Pacer) : Pacer :=
  let y := if x.q = 0 then x else { x with edgeErr := sat16 ((e.t : Int) - x.tickAt e.x) }
  if e.regain then y else { y with lastX := e.x }

theorem Pacer.noteEdge_regain {e : PEdge} (h : e.regain = true) (x : Pacer) : ∃ err, x.noteEdge e = { x with edgeErr := err } := by
  unfold Pacer.noteEdge
  dsimp only
  rw [if_pos h]
  split <;> exact ⟨_, rfl⟩

theorem Pacer.noteEdge_eq (e : PEdge) (x : Pacer) : ∃ err last, x.noteEdge e = { x with edgeErr := err, lastX := last } := by
  unfold Pacer.noteEdge
  dsimp only
  split <;> split <;> exact ⟨_, _, rfl⟩

/-- The first step of learning: Pacer p takes note of the edge e. -/
def State.noteEdge (p : Nat) (e : PEdge) (s : State) : State :=
  let t := if (s.getPacer p).q = 0 then s
    else s.updPacer p (fun x => { x with edgeErr := sat16 ((e.t : Int) - (s.getPacer p).tickAt e.x) })
  if e.regain then t else t.updPacer p (fun x => { x with lastX := e.x })

theorem State.noteEdge_does (p : Nat) (e : PEdge) (s : State) :
    (∃ ps, s.noteEdge p e = { s with pacers := ps }) ∧ (s.noteEdge p e).getPacer p = (s.getPacer p).noteEdge e := by
  unfold State.noteEdge Pacer.noteEdge
  dsimp only
  split <;> split
  · exact ⟨⟨_, rfl⟩, rfl⟩
  · exact ⟨⟨_, rfl⟩, State.getPacer_updPacer ..⟩
  · exact ⟨⟨_, rfl⟩, State.getPacer_updPacer ..⟩
  · exact ⟨⟨_, rfl⟩, by rw [State.getPacer_updPacer, State.getPacer_updPacer]⟩

/-- What an edge that regains a position makes of a Pacer (R279, R301, R311, R332). -/
def Pacer.regainEdge (e : PEdge) (x : Pacer) : Pacer :=
  let x := x.switchDone
  match x.st with
  | .stopped => { x with st := .wait, afterStop := true, run := [e.t] }
  | .wait | .track | .reversed => { x with run := (e.t :: x.run).take 5 }
  | .dead | .none => x

/-- A Pacer at its first edge after a stop (R311). -/
def Pacer.startWait (e : PEdge) (x : Pacer) : Pacer := { x with st := .wait, afterStop := true, run := [e.t] }

/-- How far an edge lies from its prediction (R313). -/
def Pacer.edgeOff (e : PEdge) (x : Pacer) : Int := (e.t : Int) - x.tickAt e.x

section
variable {p : Nat} {r : EncRef} {e : PEdge} {s : State}

theorem State.learn_regain (h : e.regain = true) : s.learn p r e = (s.noteEdge p e).updPacer p (Pacer.regainEdge e) := by
  unfold State.learn
  exact if_pos h

theorem State.learn_stopped (h : e.regain = false) (hn : (s.getPacer p).newRef = false) (hst : (s.getPacer p).st = .stopped) :
    s.learn p r e = (s.noteEdge p e).updPacer p (Pacer.startWait e) := by
  unfold State.learn
  dsimp only
  rw [if_neg (by simp [h]), if_neg (by simp [hn]), hst]
  rfl

theorem State.learn_wait (h : e.regain = false) (hst : (s.getPacer p).st = .wait) : s.learn p r e = (s.noteEdge p e).reseed p r e := by
  unfold State.learn
  dsimp only
  rw [if_neg (by simp [h]), hst]
  exact ite_self _

theorem State.learn_track (h : e.regain = false) (hn : (s.getPacer p).newRef = false) (hst : (s.getPacer p).st = .track) :
    s.learn p r e = if (s.getPacer p).edgeOff e < -((s.getPacer p).w.toNat : Int) then ((s.noteEdge p e).falseStart p).reseed p r e
      else if ((s.getPacer p).w.toNat : Int) < (s.getPacer p).edgeOff e then
        (((s.noteEdge p e).falseStart p).updPacer p (fun x => { x with st := .wait })).reseed p r e
      else (s.noteEdge p e).trackUpdate p r e := by
  unfold State.learn
  dsimp only
  rw [if_neg (by simp [h]), if_neg (by simp [hn]), hst]
  rfl

end

/-! ### False starts (R323) -/

theorem State.getPacer_squash (s : State) (p k : Nat) : (s.squash p).getPacer k = s.getPacer k := by
  obtain ⟨ls, h⟩ := s.squash_links p
  rw [h]
  rfl

/-- A false start counts, ends the schedule and sets its event bit. -/
theorem State.getPacer_falseStart (s : State) (p : Nat) : ∃ ws, (s.falseStart p).getPacer p =
    { s.getPacer p with fstart := satInc (s.getPacer p).fstart, schedule := false, evt := setBit (s.getPacer p).evt 1 true, windows := ws } := by
  unfold State.falseStart
  dsimp only
  rw [State.getPacer_updWindows, State.getPacer_pacerEvt, State.getPacer_updPacer, State.getPacer_squash]
  exact ⟨_, rfl⟩

/-! ### Seeding (R315, R531) and tracking (R314) -/

/-- A Pacer whose run begins at the edge e, and its prediction with quotient q seeded there. -/
def Pacer.beginRun (e : PEdge) (x : Pacer) : Pacer := { x.switchDone with run := [e.t, e.prev], newRef := false }
def Pacer.seedAt (q : Int) (e : PEdge) (x : Pacer) : Pacer := { x with
  q := BitVec.ofInt 32 q, seeded := true, seedT := e.t, seedX := e.x, st := .track, revPend := false, afterStop := false }

/-- The quotient of the interval before the edge (R315). -/
def Pacer.seedQ (r : EncRef) (e : PEdge) (x : Pacer) : Int := qOf ((e.t : Int) - e.prev) 1 (x.kOf r)

/-- The run of stamps with the edge e, and the quotient over up to 2^QSPAN of its intervals (R314). -/
def Pacer.runWith (e : PEdge) (x : Pacer) : List Tick := (e.t :: x.run).take 5
def Pacer.trackQ (r : EncRef) (e : PEdge) (x : Pacer) : Int :=
  let j := min (2 ^ x.qspan.toNat) ((x.runWith e).length - 1)
  qOf ((e.t : Int) - ((x.runWith e).getD j 0 : Nat)) (max 1 j) (x.kOf r)

/-- The prediction moves to the edge e. -/
def Pacer.trackTo (q : Int) (run : List Tick) (e : PEdge) (x : Pacer) : Pacer :=
  { x with q := BitVec.ofInt 32 q, seedT := e.t, seedX := e.x, run := run }

theorem State.courses_reschedule (s : State) (p : Nat) :
    (s.reschedule p).courses = (s.updPacer p (fun x => { x with schedule := true, schedAt := s.now + 1200 })).courses := by
  unfold State.reschedule
  dsimp only
  rw [State.courses_forAll _ (fun _ _ => State.courses_speculateCell ..), State.courses_forAll _ (fun _ _ => State.courses_recompute ..)]

section
variable {p : Nat} {r : EncRef} {e : PEdge} {s : State}

theorem State.reseed_eq (p : Nat) (r : EncRef) (e : PEdge) (s : State) : s.reseed p r e =
    let v := s.updPacer p (Pacer.beginRun e)
    if qFits ((s.getPacer p).seedQ r e) then
      let v := v.updPacer p (Pacer.seedAt ((s.getPacer p).seedQ r e) e)
      if (s.getPacer p).q = 0 then
        let first := (v.getPacer p).lineAfter e.x
        let v := v.updPacer p (fun x => { x with lineN := first - 1, schedule := true, schedAt := v.now + 1200 })
        forAll ((v.printLanes p).flatMap (fun l => v.cellsOf l)) (fun v c => v.startLines first c) v
      else v.reschedule p
    else (v.squash p).updPacer p (fun x => { x with st := .wait, schedule := false, afterStop := false }) := rfl

/-- A reseed whose quotient fits gives the Pacer its prediction and a schedule, apart from windows and their counters. -/
theorem State.reseed_fits (h : qFits ((s.getPacer p).seedQ r e) = true) : ∃ lineN at_, ((s.reseed p r e).getPacer p).course =
    ({ ((s.getPacer p).beginRun e).seedAt ((s.getPacer p).seedQ r e) e with lineN := lineN, schedule := true, schedAt := at_ } : Pacer).course := by
  rw [State.reseed_eq]
  dsimp only
  rw [if_pos h]
  split
  · refine ⟨(((s.getPacer p).beginRun e).seedAt ((s.getPacer p).seedQ r e) e).lineAfter e.x - 1, s.now + 1200,
      (State.course_of_courses (State.courses_forAll _ (fun _ _ => State.courses_startLines ..) _) p).trans ?_⟩
    rw [State.getPacer_updPacer, State.getPacer_updPacer, State.getPacer_updPacer]
    rfl
  · refine ⟨(((s.getPacer p).beginRun e).seedAt ((s.getPacer p).seedQ r e) e).lineN, s.now + 1200,
      (State.course_of_courses (State.courses_reschedule ..) p).trans ?_⟩
    rw [State.getPacer_updPacer, State.getPacer_updPacer, State.getPacer_updPacer]
    rfl

/-- A quotient that does not fit leaves the Pacer in WAIT with no schedule (R312). -/
theorem State.reseed_unfit (h : qFits ((s.getPacer p).seedQ r e) = false) : (s.reseed p r e).getPacer p =
    { (s.getPacer p).beginRun e with st := .wait, schedule := false, afterStop := false } := by
  rw [State.reseed_eq]
  dsimp only
  rw [if_neg (by simp [h]), State.getPacer_updPacer, State.getPacer_squash, State.getPacer_updPacer]

/-- What a reseed makes of its Pacer, by whether the quotient fits. -/
theorem State.reseed_does (p : Nat) (r : EncRef) (e : PEdge) (s : State) :
    ((s.reseed p r e).getPacer p).inbound = (s.getPacer p).inbound ∧ ((s.reseed p r e).getPacer p).fstart = (s.getPacer p).fstart ∧
      ((s.reseed p r e).getPacer p).evt = (s.getPacer p).evt ∧
      (qFits ((s.getPacer p).seedQ r e) = true → ((s.reseed p r e).getPacer p).st = .track ∧
        ((s.reseed p r e).getPacer p).q = BitVec.ofInt 32 ((s.getPacer p).seedQ r e) ∧ ((s.reseed p r e).getPacer p).seedT = e.t ∧
        ((s.reseed p r e).getPacer p).seedX = e.x ∧ ((s.reseed p r e).getPacer p).schedule = true) ∧
      (qFits ((s.getPacer p).seedQ r e) = false → ((s.reseed p r e).getPacer p).st = .wait ∧
        ((s.reseed p r e).getPacer p).schedule = false ∧ ((s.reseed p r e).getPacer p).q = (s.getPacer p).q) := by
  obtain ⟨sw, pri, cnt, sec, cnt2, hdone⟩ := (s.getPacer p).switchDone_refs
  cases hfit : qFits ((s.getPacer p).seedQ r e) with
  | true =>
    obtain ⟨lineN, at_, hcourse⟩ := State.reseed_fits hfit
    obtain ⟨hst, hq, hT, hX, hsch, hin, hfs, hevt⟩ := Pacer.prediction_of_course hcourse
    rw [hst, hq, hT, hX, hsch, hin, hfs, hevt, Pacer.beginRun, hdone]
    exact ⟨rfl, rfl, rfl, fun _ => ⟨rfl, rfl, rfl, rfl, rfl⟩, fun h => absurd h (by decide)⟩
  | false =>
    rw [State.reseed_unfit hfit, Pacer.beginRun, hdone]
    exact ⟨rfl, rfl, rfl, fun h => absurd h (by decide), fun _ => ⟨rfl, rfl, rfl⟩⟩

theorem State.recompute_links (all : Bool) (t l : Nat) (s : State) : ∃ ls, s.recompute all t l = { s with links := ls } := by
  unfold State.recompute
  split
  · exact ⟨_, rfl⟩
  · refine foldl_inv (fun v => ∃ ls, v = { s with links := ls }) _ ?_ _ s ⟨_, rfl⟩
    rintro _ b ⟨ls, rfl⟩
    exact ⟨_, rfl⟩

/-- A tracking update whose quotient fits moves the prediction to the edge (R314). -/
theorem State.trackUpdate_fits (h : qFits ((s.getPacer p).trackQ r e) = true) : (s.trackUpdate p r e).cells = s.cells ∧
    (s.trackUpdate p r e).getPacer p = (s.getPacer p).trackTo ((s.getPacer p).trackQ r e) ((s.getPacer p).runWith e) e := by
  have hrow : s.trackUpdate p r e =
      let v := s.updPacer p (Pacer.trackTo ((s.getPacer p).trackQ r e) ((s.getPacer p).runWith e) e)
      forAll (v.pacerLinks p) (fun v l => v.recompute false (v.now + 1200) l) v := if_pos h
  obtain ⟨ls, hloop⟩ := State.forAll_links (u := fun (v : State) l => v.recompute false (v.now + 1200) l) (fun _ _ => State.recompute_links ..)
    ((s.updPacer p (Pacer.trackTo ((s.getPacer p).trackQ r e) ((s.getPacer p).runWith e) e)).pacerLinks p)
    (s.updPacer p (Pacer.trackTo ((s.getPacer p).trackQ r e) ((s.getPacer p).runWith e) e))
  rw [hrow]
  dsimp only
  rw [hloop]
  exact ⟨rfl, State.getPacer_updPacer s p _⟩

end

end Sys2Proof.Machine
end

section
/-! EDGE-LEARN and EDGE-OVERDUE (R279, R313 to R315, R323, R330, R531). -/

namespace Sys2Proof.Machine

/-! ### EDGE-LEARN takes the oldest edge (R313) -/

section
variable {p : Nat} {r : EncRef} {e : PEdge} {rest : List PEdge} {s : State}

/-- An edge that is learned is off the list, and what the row does is what State.learn makes of a state with the same cells and plans. -/
theorem edgeLearn_learns (hon : s.on dCHN = true) (hf : s.fire = true) (hcur : (s.getPacer p).curRef = some r)
    (hin : (s.getPacer p).inbound = e :: rest) : ∃ v : State, v.getPacer p = { s.getPacer p with inbound := rest } ∧ v.cells = s.cells ∧
      v.plans = s.plans ∧ (edgeLearn p s).getPacer p = (v.learn p r e).getPacer p ∧ (edgeLearn p s).cells = (v.learn p r e).cells ∧
      (edgeLearn p s).plans = (v.learn p r e).plans := by
  obtain ⟨time, hat⟩ := s.at_time (e.t + 32)
  have hrow : edgeLearn p s = touching (((s.at_ (e.t + 32)).updPacer p (fun x => { x with inbound := rest })).pacerLinks p) (State.learn p r e)
      ((s.at_ (e.t + 32)).updPacer p (fun x => { x with inbound := rest })) := by
    unfold edgeLearn
    rw [if_neg (by simp [hon, hf])]
    dsimp only
    rw [hin, hcur]
  rw [hat] at hrow
  obtain ⟨before, after, htouch, hplans, hsame⟩ := touching_plans
    ((State.updPacer { s with time := time } p (fun x => { x with inbound := rest })).pacerLinks p) (State.learn p r e)
    (State.updPacer { s with time := time } p (fun x => { x with inbound := rest }))
  refine ⟨{ State.updPacer { s with time := time } p (fun x => { x with inbound := rest }) with links := before },
    State.getPacer_updPacer { s with time := time } p (fun x => { x with inbound := rest }), rfl, hplans, ?_, ?_, ?_⟩
  · rw [hrow, htouch]
    rfl
  · rw [hrow, htouch]
  · rw [hrow, hsame]

/-! ### By the state of the Pacer -/

theorem Pacer.regainEdge_stopped {x : Pacer} (e : PEdge) (h : x.st = .stopped) :
    (x.regainEdge e).st = .wait ∧ (x.regainEdge e).run = [e.t] ∧ (x.regainEdge e).inbound = x.inbound := by
  obtain ⟨sw, pri, cnt, sec, cnt2, hdone⟩ := x.switchDone_refs
  unfold Pacer.regainEdge
  rw [hdone]
  dsimp only
  rw [h]
  exact ⟨rfl, rfl, rfl⟩

/-- In WAIT and in TRACK an edge that regains a position moves no prediction (R279). -/
theorem Pacer.regainEdge_moving {x : Pacer} (e : PEdge) (h : x.st = .wait ∨ x.st = .track) :
    (x.regainEdge e).st = x.st ∧ (x.regainEdge e).q = x.q ∧ (x.regainEdge e).lastX = x.lastX := by
  obtain ⟨sw, pri, cnt, sec, cnt2, hdone⟩ := x.switchDone_refs
  unfold Pacer.regainEdge
  rw [hdone]
  dsimp only
  rcases h with h | h <;> rw [h] <;> exact ⟨rfl, rfl, rfl⟩

/-- The first edge after a stop puts the Pacer into WAIT (R311). -/
theorem State.learn_first (hn : (s.getPacer p).newRef = false) (hst : (s.getPacer p).st = .stopped) : (s.learn p r e).cells = s.cells ∧
    ((s.learn p r e).getPacer p).st = .wait ∧ ((s.learn p r e).getPacer p).run = [e.t] ∧
    ((s.learn p r e).getPacer p).inbound = (s.getPacer p).inbound := by
  obtain ⟨⟨ps, hps⟩, hnote⟩ := s.noteEdge_does p e
  obtain ⟨err, last, hx⟩ := (s.getPacer p).noteEdge_eq e
  cases hr : e.regain with
  | true =>
    rw [State.learn_regain hr, State.getPacer_updPacer, hnote, hx]
    exact ⟨by rw [hps]; rfl, Pacer.regainEdge_stopped e hst⟩
  | false =>
    rw [State.learn_stopped hr hn hst, State.getPacer_updPacer, hnote, hx]
    exact ⟨by rw [hps]; rfl, rfl, rfl, rfl⟩

/-- An edge that regains a position in WAIT or TRACK (R279, R332). -/
theorem State.learn_regained (hr : e.regain = true) (hst : (s.getPacer p).st = .wait ∨ (s.getPacer p).st = .track) :
    (s.learn p r e).cells = s.cells ∧ (s.learn p r e).plans = s.plans ∧ ((s.learn p r e).getPacer p).st = (s.getPacer p).st ∧
      ((s.learn p r e).getPacer p).q = (s.getPacer p).q ∧ ((s.learn p r e).getPacer p).lastX = (s.getPacer p).lastX := by
  obtain ⟨⟨ps, hps⟩, hnote⟩ := s.noteEdge_does p e
  obtain ⟨err, hx⟩ := Pacer.noteEdge_regain hr (s.getPacer p)
  rw [State.learn_regain hr, State.getPacer_updPacer, hnote, hx]
  refine ⟨by rw [hps]; rfl, by rw [hps]; rfl, ?_⟩
  exact Pacer.regainEdge_moving (x := { s.getPacer p with edgeErr := err }) e hst

/-- What an edge that is no part of the reference's past makes of a Pacer in WAIT (R313, R315). -/
theorem State.learn_waiting (hr : e.regain = false) (hst : (s.getPacer p).st = .wait) :
    ((s.learn p r e).getPacer p).inbound = (s.getPacer p).inbound ∧
      (qFits ((s.getPacer p).seedQ r e) = true → ((s.learn p r e).getPacer p).st = .track ∧
        ((s.learn p r e).getPacer p).q = BitVec.ofInt 32 ((s.getPacer p).seedQ r e) ∧ ((s.learn p r e).getPacer p).seedT = e.t ∧
        ((s.learn p r e).getPacer p).seedX = e.x ∧ ((s.learn p r e).getPacer p).schedule = true) ∧
      (qFits ((s.getPacer p).seedQ r e) = false → ((s.learn p r e).getPacer p).st = .wait ∧
        ((s.learn p r e).getPacer p).schedule = false ∧ ((s.learn p r e).getPacer p).q = (s.getPacer p).q) := by
  obtain ⟨_, hnote⟩ := s.noteEdge_does p e
  obtain ⟨err, last, hx⟩ := (s.getPacer p).noteEdge_eq e
  obtain ⟨hin, _, _, hfit, hunfit⟩ := State.reseed_does p r e (s.noteEdge p e)
  rw [hnote, hx] at hin hfit hunfit
  rw [State.learn_wait hr hst]
  have hseed : Pacer.seedQ r e { s.getPacer p with edgeErr := err, lastX := last } = (s.getPacer p).seedQ r e := rfl
  rw [hseed] at hfit hunfit
  exact ⟨hin, hfit, hunfit⟩

/-- An edge earlier than W before its prediction is a false start, and the prediction starts again at it (R315, R323). -/
theorem State.learn_early (hr : e.regain = false) (hn : (s.getPacer p).newRef = false) (hst : (s.getPacer p).st = .track)
    (hoff : (s.getPacer p).edgeOff e < -((s.getPacer p).w.toNat : Int)) :
    ((s.learn p r e).getPacer p).inbound = (s.getPacer p).inbound ∧ ((s.learn p r e).getPacer p).fstart = satInc (s.getPacer p).fstart ∧
      bit ((s.learn p r e).getPacer p).evt 1 = true ∧ (qFits ((s.getPacer p).seedQ r e) = true →
        ((s.learn p r e).getPacer p).st = .track ∧ ((s.learn p r e).getPacer p).q = BitVec.ofInt 32 ((s.getPacer p).seedQ r e)) := by
  obtain ⟨_, hnote⟩ := s.noteEdge_does p e
  obtain ⟨err, last, hx⟩ := (s.getPacer p).noteEdge_eq e
  obtain ⟨ws, hfalse⟩ := (s.noteEdge p e).getPacer_falseStart p
  rw [hnote, hx] at hfalse
  obtain ⟨hin, hfs, hevt, hfit, _⟩ := State.reseed_does p r e ((s.noteEdge p e).falseStart p)
  have hseed : ((State.falseStart p (s.noteEdge p e)).getPacer p).seedQ r e = (s.getPacer p).seedQ r e := by rw [hfalse]; rfl
  rw [hseed] at hfit
  rw [State.learn_track hr hn hst, if_pos hoff]
  refine ⟨hin.trans (by rw [hfalse]), hfs.trans (by rw [hfalse]), ?_, fun h => ?_⟩
  · rw [hevt, hfalse]
    exact bit_setBit_self _ (by decide)
  · obtain ⟨htrack, hq, _⟩ := hfit h
    exact ⟨htrack, hq⟩

/-- An edge later than W after its prediction is learned all the same. -/
theorem State.learn_late (hr : e.regain = false) (hn : (s.getPacer p).newRef = false) (hst : (s.getPacer p).st = .track)
    (hearly : ¬ (s.getPacer p).edgeOff e < -((s.getPacer p).w.toNat : Int)) (hoff : ((s.getPacer p).w.toNat : Int) < (s.getPacer p).edgeOff e) :
    ((s.learn p r e).getPacer p).inbound = (s.getPacer p).inbound := by
  obtain ⟨_, hnote⟩ := s.noteEdge_does p e
  obtain ⟨err, last, hx⟩ := (s.getPacer p).noteEdge_eq e
  obtain ⟨ws, hfalse⟩ := (s.noteEdge p e).getPacer_falseStart p
  rw [hnote, hx] at hfalse
  obtain ⟨hin, _⟩ := State.reseed_does p r e (((s.noteEdge p e).falseStart p).updPacer p (fun x => { x with st := .wait }))
  rw [State.learn_track hr hn hst, if_neg hearly, if_pos hoff, hin, State.getPacer_updPacer, hfalse]

/-- An edge within W of its prediction updates the tracking (R314). -/
theorem State.learn_tracking (hr : e.regain = false) (hn : (s.getPacer p).newRef = false) (hst : (s.getPacer p).st = .track)
    (hearly : ¬ (s.getPacer p).edgeOff e < -((s.getPacer p).w.toNat : Int)) (hlate : ¬ ((s.getPacer p).w.toNat : Int) < (s.getPacer p).edgeOff e) :
    s.learn p r e = (s.noteEdge p e).trackUpdate p r e := by
  rw [State.learn_track hr hn hst, if_neg hearly, if_neg hlate]

theorem State.trackUpdate_inbound (p : Nat) (r : EncRef) (e : PEdge) (s : State) :
    ((s.trackUpdate p r e).getPacer p).inbound = (s.getPacer p).inbound := by
  cases h : qFits ((s.getPacer p).trackQ r e) with
  | true =>
    rw [(State.trackUpdate_fits h).2]
    rfl
  | false =>
    have hrow : s.trackUpdate p r e =
        (s.updPacer p (fun x => { x with st := .wait, schedule := false, run := (s.getPacer p).runWith e })).squash p :=
      if_neg (fun ht => Bool.false_ne_true (h.symm.trans ht))
    rw [hrow, State.getPacer_squash, State.getPacer_updPacer]

/-- In TRACK the learned edge is off the list, whatever it leads to (R313). -/
theorem State.learn_inbound (hr : e.regain = false) (hn : (s.getPacer p).newRef = false) (hst : (s.getPacer p).st = .track) :
    ((s.learn p r e).getPacer p).inbound = (s.getPacer p).inbound := by
  by_cases hearly : (s.getPacer p).edgeOff e < -((s.getPacer p).w.toNat : Int)
  · exact (State.learn_early hr hn hst hearly).1
  · by_cases hlate : ((s.getPacer p).w.toNat : Int) < (s.getPacer p).edgeOff e
    · exact State.learn_late hr hn hst hearly hlate
    · obtain ⟨_, hnote⟩ := s.noteEdge_does p e
      obtain ⟨err, last, hx⟩ := (s.getPacer p).noteEdge_eq e
      rw [State.learn_tracking hr hn hst hearly hlate, State.trackUpdate_inbound, hnote, hx]

/-- A tracking update whose quotient fits (R314). -/
theorem State.learn_tracked (hr : e.regain = false) (hn : (s.getPacer p).newRef = false) (hst : (s.getPacer p).st = .track)
    (hearly : ¬ (s.getPacer p).edgeOff e < -((s.getPacer p).w.toNat : Int)) (hlate : ¬ ((s.getPacer p).w.toNat : Int) < (s.getPacer p).edgeOff e)
    (hfit : qFits ((s.getPacer p).trackQ r e) = true) : (s.learn p r e).cells = s.cells ∧ ((s.learn p r e).getPacer p).st = .track ∧
      ((s.learn p r e).getPacer p).q = BitVec.ofInt 32 ((s.getPacer p).trackQ r e) ∧ ((s.learn p r e).getPacer p).seedT = e.t ∧
      ((s.learn p r e).getPacer p).seedX = e.x ∧ ((s.learn p r e).getPacer p).fstart = (s.getPacer p).fstart := by
  obtain ⟨⟨ps, hps⟩, hnote⟩ := s.noteEdge_does p e
  obtain ⟨err, last, hx⟩ := (s.getPacer p).noteEdge_eq e
  have hq : ((s.noteEdge p e).getPacer p).trackQ r e = (s.getPacer p).trackQ r e := by rw [hnote, hx]; rfl
  obtain ⟨hcells, hpacer⟩ := State.trackUpdate_fits (s := s.noteEdge p e) (p := p) (r := r) (e := e) (by rw [hq]; exact hfit)
  rw [State.learn_tracking hr hn hst hearly hlate, hcells, hpacer, hq, hnote, hx]
  exact ⟨by rw [hps], hst, rfl, rfl, rfl, rfl⟩

/-! ### EDGE-OVERDUE (R313, R323, R330) -/

theorem edgeOverdue_eq (hon : s.on dCHN = true) (hf : s.fire = true) (hcur : (s.getPacer p).curRef = some r) (hst : (s.getPacer p).st = .track)
    (hin : ∀ y ∈ (s.getPacer p).inbound, (s.getPacer p).overdueAt r < (y.t : Int) + 32) : edgeOverdue p s =
      touching ((s.at_ ((s.getPacer p).overdueAt r).toNat).pacerLinks p) (fun s => (s.falseStart p).updPacer p (fun x => { x with st := .wait }))
        (s.at_ ((s.getPacer p).overdueAt r).toNat) := by
  have hnone : (s.getPacer p).inbound.any (fun y => decide ((y.t : Int) + 32 ≤ (s.getPacer p).overdueAt r)) = false := by
    simpa using hin
  unfold edgeOverdue
  rw [if_neg (by simp [hon, hf])]
  dsimp only
  rw [hcur]
  exact if_pos ⟨hst, Bool.eq_false_iff.mp hnone⟩

/-- An overdue edge is a false start that leaves WAIT (R330). -/
theorem edgeOverdue_does (hon : s.on dCHN = true) (hf : s.fire = true) (hcur : (s.getPacer p).curRef = some r)
    (hst : (s.getPacer p).st = .track) (hin : ∀ y ∈ (s.getPacer p).inbound, (s.getPacer p).overdueAt r < (y.t : Int) + 32) :
    ((edgeOverdue p s).getPacer p).st = .wait ∧ ((edgeOverdue p s).getPacer p).schedule = false ∧
      ((edgeOverdue p s).getPacer p).fstart = satInc (s.getPacer p).fstart ∧ bit ((edgeOverdue p s).getPacer p).evt 1 = true ∧
      (edgeOverdue p s).time = (s.at_ ((s.getPacer p).overdueAt r).toNat).time ∧ (edgeOverdue p s).cells = s.cells := by
  have hrow := edgeOverdue_eq hon hf hcur hst hin
  generalize hbase : s.at_ ((s.getPacer p).overdueAt r).toNat = v at hrow ⊢
  have hcells : v.cells = s.cells := by simp [← hbase]
  have hpacers : v.getPacer p = s.getPacer p := by simp [← hbase, State.getPacer]
  have hbench : (edgeOverdue p s).bench = v.bench := by
    rw [hrow]
    exact State.bench_touching v _ (fun t => (State.bench_updPacer ..).trans (State.bench_falseStart ..))
  obtain ⟨before, after, htouch⟩ := touching_links (v.pacerLinks p) (fun s => (s.falseStart p).updPacer p (fun x => { x with st := .wait })) v
  obtain ⟨ws, hfalse⟩ := State.getPacer_falseStart { v with links := before } p
  have hpacer : (edgeOverdue p s).getPacer p = { (State.falseStart p { v with links := before }).getPacer p with st := .wait } := by
    rw [hrow, htouch]
    exact State.getPacer_updPacer (State.falseStart p { v with links := before }) p (fun x => { x with st := .wait })
  have hbefore : State.getPacer { v with links := before } p = s.getPacer p := hpacers
  rw [hpacer, hfalse, hbefore]
  exact ⟨rfl, rfl, rfl, bit_setBit_self _ (by decide), State.time_of_bench hbench, (State.cells_of_bench hbench).trans hcells⟩

end

/-- Settles O25: EDGE-LEARN by the state of the Pacer, and EDGE-OVERDUE as a false start. Quotients are rounded down (log entry 74). -/
theorem pacersFollowTheirReference : Obligations.PacersFollowTheirReference := by
  intro p s e rest r hon hf
  dsimp only
  intro hcur
  refine ⟨fun hin hn hst => ?_, fun hin hr hst => ?_, fun hin hr hst => ?_, fun hin hr hn hst => ?_, fun hst hin => ?_⟩
  · obtain ⟨v, hv, hcells, _, hpacer, hsame, _⟩ := edgeLearn_learns hon hf hcur hin
    obtain ⟨hkept, hwait, hrun, hrest⟩ := State.learn_first (s := v) (p := p.val) (r := r) (e := e) (by rw [hv]; exact hn) (by rw [hv]; exact hst)
    refine ⟨_, rfl, ?_⟩
    rw [hpacer, hsame, hwait, hrun, hrest, hkept, hcells, hv]
    exact ⟨rfl, rfl, rfl, rfl⟩
  · obtain ⟨v, hv, _, _, hpacer, _, _⟩ := edgeLearn_learns hon hf hcur hin
    have hlearn := State.learn_waiting (s := v) (p := p.val) (r := r) hr (by rw [hv]; exact hst)
    refine ⟨_, rfl, ?_⟩
    rw [hpacer]
    rwa [hv] at hlearn
  · obtain ⟨v, hv, hcells, hplans, hpacer, hsame, hlinks⟩ := edgeLearn_learns hon hf hcur hin
    obtain ⟨hkept, hplan, hst', hq, hlast⟩ := State.learn_regained (s := v) (p := p.val) (r := r) hr (by rw [hv]; exact hst)
    rw [hv] at hst' hq hlast
    refine ⟨_, rfl, ?_⟩
    rw [hpacer, hsame, hst', hq, hlast, hkept, hcells]
    refine ⟨rfl, rfl, rfl, rfl, fun l => ?_⟩
    have hsteady := congrFun (hlinks.trans (hplan.trans hplans)) l
    exact ⟨congrArg Prod.fst hsteady, congrArg Prod.snd hsteady⟩
  · obtain ⟨v, hv, hcells, _, hpacer, hsame, _⟩ := edgeLearn_learns hon hf hcur hin
    have hvn : (v.getPacer p.val).newRef = false := by rw [hv]; exact hn
    have hvst : (v.getPacer p.val).st = .track := by rw [hv]; exact hst
    have hoff : (v.getPacer p.val).edgeOff e = (s.getPacer p.val).edgeOff e := by rw [hv]; rfl
    have hw : (v.getPacer p.val).w = (s.getPacer p.val).w := by rw [hv]
    refine ⟨_, rfl, ?_⟩
    rw [hpacer, hsame]
    refine ⟨?_, fun hlow hhigh hfit => ?_, fun hearly => ?_⟩
    · rw [State.learn_inbound hr hvn hvst, hv]
    · have hlearn := State.learn_tracked (r := r) hr hvn hvst (by rw [hoff, hw]; exact Int.not_lt.mpr hlow)
        (by rw [hoff, hw]; exact Int.not_lt.mpr hhigh) (by rw [hv]; exact hfit)
      rw [hv] at hlearn
      obtain ⟨hkept, hst', hq, hT, hX, hfs⟩ := hlearn
      exact ⟨hst', hq, hT, hX, hfs, hkept.trans hcells⟩
    · have hlearn := State.learn_early (r := r) hr hvn hvst (by rw [hoff, hw]; exact hearly)
      rw [hv] at hlearn
      obtain ⟨_, hfs, hevt, hfit⟩ := hlearn
      exact ⟨hfs, hevt, hfit⟩
  · exact ⟨_, rfl, edgeOverdue_does hon hf hcur hst hin⟩

end Sys2Proof.Machine
end

section
/-! Trigger edges and product records (R283, R297, R298). -/

namespace Sys2Proof.Machine

/-! ### TRIGGER-EDGE (R283) -/

/-- A trigger that accepts an edge at stamp t, with the position of its encoder: the latch of the edge's kind, the count and HOLDOFF. -/
def Trig.latch (fall : Bool) (t : Tick) (pos : W32) (g : Trig) : Trig :=
  let g := { g with count := g.count + 1, until_ := t + g.holdoff.toNat * usTicks }
  if fall then { g with fOvr := g.fOvr || g.fValid, fValid := true, fTime := BitVec.ofNat 64 t, fPos := pos }
  else { g with rOvr := g.rOvr || g.rValid, rValid := true, rTime := BitVec.ofNat 64 t, rPos := pos }

theorem Trig.latch_counts (fall : Bool) (t : Tick) (pos : W32) (g : Trig) : (g.latch fall t pos).level = g.level ∧
    (g.latch fall t pos).count = g.count + 1 ∧ (g.latch fall t pos).until_ = t + g.holdoff.toNat * usTicks := by
  cases fall <;> exact ⟨rfl, rfl, rfl⟩

section
variable {i : Nat} {fall : Bool} {t : Tick} {s : State}

/-- A trigger that is disabled or within HOLDOFF takes the level alone. -/
theorem triggerEdge_ignored (hon : s.on dCHN = true) (hf : s.fire = true) (h : (s.getTrig i).en = false ∨ t < (s.getTrig i).until_) :
    triggerEdge i fall t s = (s.at_ t).updTrig i (fun g => { g with level := !fall }) := by
  obtain ⟨time, hat⟩ := s.at_time t
  have hget : (s.at_ t).getTrig i = s.getTrig i := by rw [hat]; rfl
  unfold triggerEdge
  rw [if_neg (by simp [hon, hf])]
  dsimp only
  rw [hget]
  exact if_pos (by simpa using h)

/-- An accepted edge latches; the windows it moves leave the trigger. -/
theorem triggerEdge_latches (hon : s.on dCHN = true) (hf : s.fire = true) (he : (s.getTrig i).en = true) (ht : (s.getTrig i).until_ ≤ t) :
    (triggerEdge i fall t s).getTrig i =
      { s.getTrig i with level := !fall }.latch fall t (((s.getEnc (s.getTrig i).encSel.toNat).pos).setWidth 32) := by
  obtain ⟨time, hat⟩ := s.at_time t
  have hget : (s.at_ t).getTrig i = s.getTrig i := by rw [hat]; rfl
  have henc : ∀ k, (s.at_ t).getEnc k = s.getEnc k := fun k => by rw [hat]; rfl
  have hrow : triggerEdge i fall t s =
      forAll (List.range 8) (fun v p => v.edgeWindows (BitVec.ofNat 8 (i + 16 * b2n fall)) p)
        ((((s.at_ t).updTrig i (fun g => { g with level := !fall })).updTrig i
          (Trig.latch fall t (((s.getEnc (s.getTrig i).encSel.toNat).pos).setWidth 32))).raiseIf
            (bit (s.getTrig i).evtEdge (b2n fall)) (260 + i)) := by
    unfold triggerEdge
    rw [if_neg (by simp [hon, hf])]
    dsimp only
    rw [hget, if_neg (by simp [he, ht])]
    rw [← hget, ← henc]
    rfl
  have htrigs := State.trigs_of_courses (State.courses_forAll (List.range 8)
    (fun v p => State.courses_edgeWindows v (BitVec.ofNat 8 (i + 16 * b2n fall)) p)
    ((((s.at_ t).updTrig i (fun g => { g with level := !fall })).updTrig i
      (Trig.latch fall t (((s.getEnc (s.getTrig i).encSel.toNat).pos).setWidth 32))).raiseIf (bit (s.getTrig i).evtEdge (b2n fall)) (260 + i)))
  rw [State.trigs_of_courses (State.courses_raiseIf ..)] at htrigs
  have hlatched := congrArg (fun g => tabGet trigReset g i) (congrArg State.trigs hrow |>.trans htrigs)
  refine Eq.trans hlatched (Eq.trans (State.getTrig_updTrig ..) ?_)
  rw [State.getTrig_updTrig, hget]

end

/-! ### The records of a window (R298) -/

/-- A lane's record ring after one record of the Pacer: it takes it, or the record is lost while the ring is disabled. -/
def HostFn.takeRecord (h : HostFn) : HostFn :=
  if h.prEn then
    let t := (h.prTail.toNat + 1) % 2 ^ h.prLog.toNat
    { h with prTail := BitVec.ofNat 16 t, prPhase := if t = 0 then !h.prPhase else h.prPhase, prSeq := h.prSeq + 1 }
  else { h with prSeq := h.prSeq + 1, prLost := satInc h.prLost }

theorem HostFn.takeRecord_does (h : HostFn) : h.takeRecord.prSeq = h.prSeq + 1 ∧
    (h.prEn = false → h.takeRecord.prLost = satInc h.prLost ∧ h.takeRecord.prTail = h.prTail) ∧
    (h.prEn = true → h.takeRecord.prTail.toNat = (h.prTail.toNat + 1) % 2 ^ h.prLog.toNat % 65536 ∧ h.takeRecord.prLost = h.prLost) := by
  unfold HostFn.takeRecord
  cases he : h.prEn with
  | true => exact ⟨rfl, fun hn => absurd hn (by decide), fun _ => ⟨BitVec.toNat_ofNat .., rfl⟩⟩
  | false => exact ⟨rfl, fun _ => ⟨rfl, rfl⟩, fun hn => absurd hn (by decide)⟩

section
variable (p : Nat) (w : Window) (s : State)

theorem State.getHost_dma (f a k : Nat) (bs : List Byte) : (s.dma f a bs).getHost k = s.getHost k := rfl

theorem State.writeProduct_eq (l : Nat) : ∃ mem, s.writeProduct p w l = State.updHost { s with hostMem := mem } l HostFn.takeRecord := by
  unfold State.writeProduct
  by_cases h : (s.getHost l).prEn = true
  · rw [if_pos h]
    refine ⟨_, State.updHost_congr ?_⟩
    rw [State.getHost_dma, HostFn.takeRecord, if_pos h]
  · rw [if_neg h]
    refine ⟨s.hostMem, State.updHost_congr ?_⟩
    rw [HostFn.takeRecord, if_neg h]

theorem State.writeProduct_frame (l : Nat) : ∃ host mem, s.writeProduct p w l = { s with host := host, hostMem := mem } := by
  obtain ⟨mem, h⟩ := s.writeProduct_eq p w l
  exact ⟨_, mem, h⟩

theorem State.writeProduct_host (l : Nat) : (s.writeProduct p w l).getHost l = (s.getHost l).takeRecord ∧
    ∀ k, k ≠ l → (s.writeProduct p w l).getHost k = s.getHost k := by
  obtain ⟨mem, h⟩ := s.writeProduct_eq p w l
  rw [h]
  exact ⟨State.getHost_updHost { s with hostMem := mem } l _, fun k hk => State.getHost_updHost_ne { s with hostMem := mem } _ _ _ hk⟩

theorem State.writeProducts_frame (lanes : List Nat) :
    ∃ host mem, lanes.foldl (State.writeProduct p w) s = { s with host := host, hostMem := mem } := by
  refine foldl_inv (fun v => ∃ host mem, v = { s with host := host, hostMem := mem }) _ ?_ lanes s ⟨_, _, rfl⟩
  rintro _ l ⟨host, mem, rfl⟩
  obtain ⟨host', mem', h⟩ := State.writeProduct_frame p w ({ s with host := host, hostMem := mem } : State) l
  exact ⟨host', mem', h⟩

/-- Each lane of the window takes one record. -/
theorem State.writeProducts_host (lanes : List Nat) (hnd : lanes.Nodup) (k : Nat) :
    (lanes.foldl (State.writeProduct p w) s).getHost k = if k ∈ lanes then (s.getHost k).takeRecord else s.getHost k := by
  induction lanes generalizing s with
  | nil => exact (if_neg List.not_mem_nil).symm
  | cons l ls ih =>
    obtain ⟨hl, hls⟩ := List.nodup_cons.mp hnd
    obtain ⟨hself, hother⟩ := State.writeProduct_host p w s l
    rw [List.foldl_cons, ih _ hls]
    by_cases hk : k = l
    · subst hk
      rw [if_neg hl, if_pos List.mem_cons_self, hself]
    · simp only [List.mem_cons, hk, false_or, hother k hk]

end

/-! ### PRODUCT-RECORD (R297, R298) -/

theorem Pacer.settled_keeps (x : Pacer) (w : Window) : (x.settled w).lanes = w.lanes ∧ (x.settled w).id = w.id := by
  unfold Pacer.settled
  split
  · exact ⟨rfl, rfl⟩
  · split <;> exact ⟨rfl, rfl⟩

/-- The windows of a Pacer whose window w has its records: it is gone once its close has passed, and marked until then. -/
def Pacer.recordWindow (w : Window) (x : Pacer) : List Window :=
  if x.closed w then x.windows.filter (fun y => !decide (y.id = w.id))
  else x.windows.map (fun y => if decide (y.id = w.id) then { x.settled w with recorded := true } else y)

theorem Pacer.recordWindow_closed {w : Window} {x : Pacer} (h : x.closed w = true) : ∀ y ∈ x.recordWindow w, y.id ≠ w.id := by
  unfold Pacer.recordWindow
  rw [if_pos h]
  intro y hy
  simpa using (List.mem_filter.mp hy).2

theorem Pacer.recordWindow_open {w : Window} {x : Pacer} (h : x.closed w = false) :
    ∀ y ∈ x.recordWindow w, y.id = w.id → y = { x.settled w with recorded := true } := by
  unfold Pacer.recordWindow
  rw [if_neg (by simp [h])]
  intro y hy hid
  obtain ⟨z, _, rfl⟩ := List.mem_map.mp hy
  by_cases hz : z.id = w.id
  · rw [if_pos (decide_eq_true hz)]
  · rw [if_neg (by simp [hz])] at hid
    exact absurd hid hz

section
variable {p : Nat} {w : Window} {s : State}

theorem productRecord_eq (hon : s.on dCHN = true) (hfind : (s.getPacer p).windows.find? (s.windowDone p) = some w) : productRecord p s =
    (((if (s.getPacer p).closed w then
        (w.lanes.foldl (State.writeProduct p ((s.getPacer p).settled w)) s).discardWindows p (fun y => decide (y.id = w.id))
      else (w.lanes.foldl (State.writeProduct p ((s.getPacer p).settled w)) s).updWindow p w.id
        (fun _ => { (s.getPacer p).settled w with recorded := true })).updPacer p
          (fun x => { x with evt := setBit x.evt 0 true, lastPc := ((s.getPacer p).settled w).pc })).raise (376 + p)) := by
  unfold productRecord
  rw [if_neg (by simp [hon]), hfind]
  dsimp only
  rw [((s.getPacer p).settled_keeps w).1]

/-- PRODUCT-RECORD of window w: what it makes of the Pacer and of the record rings. -/
theorem productRecord_does (hon : s.on dCHN = true) (hfind : (s.getPacer p).windows.find? (s.windowDone p) = some w) (hnd : w.lanes.Nodup) :
    (productRecord p s).getPacer p = { s.getPacer p with
      windows := (s.getPacer p).recordWindow w, evt := setBit (s.getPacer p).evt 0 true, lastPc := ((s.getPacer p).settled w).pc } ∧
    (productRecord p s).cells = s.cells ∧ (productRecord p s).links = s.links ∧
    ∀ l ∈ w.lanes, ((productRecord p s).getHost l).steady = (s.getHost l).takeRecord.steady := by
  obtain ⟨host, mem, hframe⟩ := State.writeProducts_frame p ((s.getPacer p).settled w) s w.lanes
  have hrings := State.writeProducts_host p ((s.getPacer p).settled w) s w.lanes hnd
  have hrow := productRecord_eq hon hfind
  rw [hframe] at hrings hrow
  have hsteady (v : State) (hv : v.host = host) (l : Nat) (hl : l ∈ w.lanes) :
      ((v.raise (376 + p)).getHost l).steady = (s.getHost l).takeRecord.steady := by
    refine (congrFun (State.steady_raise v (376 + p)) l).trans (congrArg HostFn.steady ?_)
    have hl' := hrings l
    rw [if_pos hl] at hl'
    rw [← hl', State.getHost, hv]
    rfl
  unfold Pacer.recordWindow
  split at hrow
  · rename_i hclosed
    rw [if_pos hclosed, hrow]
    refine ⟨?_, by simp [State.discardWindows], by simp [State.discardWindows], fun l hl => hsteady _ rfl l hl⟩
    rw [State.getPacer_raise, State.getPacer_updPacer]
    unfold State.discardWindows
    rw [State.getPacer_updPacer]
    rfl
  · rename_i hclosed
    rw [if_neg hclosed, hrow]
    refine ⟨?_, by simp [State.updWindow, State.updWindows], by simp [State.updWindow, State.updWindows], fun l hl => hsteady _ rfl l hl⟩
    rw [State.getPacer_raise, State.getPacer_updPacer, State.updWindow, State.getPacer_updWindows]
    rfl

end

/-- The record registers are among the steady ones. -/
theorem HostFn.records_of_steady {h k : HostFn} (e : h.steady = k.steady) : h.prSeq = k.prSeq ∧ h.prLost = k.prLost ∧ h.prTail = k.prTail :=
  ⟨(congrArg HostFn.prSeq e :), (congrArg HostFn.prLost e :), (congrArg HostFn.prTail e :)⟩

/-- Settles O28: an edge by its latch and the windows it moves, and the records lane by lane. -/
theorem triggersLatchAndRecordsFollow : Obligations.TriggersLatchAndRecordsFollow := by
  intro s hon
  refine ⟨fun i fall t hf => ⟨fun he ht => ⟨_, rfl, ?_⟩, fun h => congrArg Host.Outcome.next (triggerEdge_ignored hon hf h)⟩,
    fun p w hfind hnd => ⟨_, rfl, ?_⟩⟩
  · rw [triggerEdge_latches hon hf he ht]
    obtain ⟨hlevel, hcount, huntil⟩ := Trig.latch_counts fall t
      (((s.getEnc (s.getTrig i.val).encSel.toNat).pos).setWidth 32) { s.getTrig i.val with level := !fall }
    refine ⟨hlevel, hcount, huntil, fun h => ?_, fun h => ?_⟩
    · subst h
      exact ⟨rfl, rfl, rfl, rfl, rfl⟩
    · subst h
      exact ⟨rfl, rfl, rfl, rfl, rfl⟩
  · obtain ⟨hpacer, hcells, hlinks, hrings⟩ := productRecord_does hon hfind hnd
    rw [hpacer]
    refine ⟨fun h => Pacer.recordWindow_closed h, fun h => Pacer.recordWindow_open h, bit_setBit_self _ (by decide), rfl, hcells, hlinks,
      fun l hl => ?_⟩
    obtain ⟨hseq, hlost, htail⟩ := HostFn.records_of_steady (hrings l hl)
    rw [hseq, hlost, htail]
    exact HostFn.takeRecord_does _

end Sys2Proof.Machine
end

section
/-! Writes of single registers of the plant: words of fields, and the block that an address reaches (R13, R17, R127). -/

namespace Sys2Proof.Machine

/-! ### Words made of fields (R13) -/

theorem bit_or (x y : W32) (i : Nat) : bit (x ||| y) i = (bit x i || bit y i) := BitVec.getLsbD_or

theorem fld_or (x y : W32) (lo n : Nat) : fld (x ||| y) lo n = fld x lo n ||| fld y lo n := BitVec.extractLsb'_or

theorem bit_put {n : Nat} (v : BitVec n) {lo : Nat} (i : Nat) (hi : i < 32) : bit (put lo v) i = (decide (lo ≤ i) && v.getLsbD (i - lo)) := by
  by_cases h : lo ≤ i
  · simp [bit, put, hi, h, Nat.not_lt.mpr h]
  · simp [bit, put, hi, h, Nat.lt_of_not_le h]

theorem fld_put {n : Nat} (v : BitVec n) {lo : Nat} (h : lo + n ≤ 32) : fld (put lo v) lo n = v := by
  refine BitVec.eq_of_getLsbD_eq fun i hi => ?_
  have hbit := bit_put v (lo := lo) (lo + i) (by omega)
  rw [fld, BitVec.getLsbD_extractLsb', decide_eq_true hi, Bool.true_and, ← bit, hbit]
  simp

/-- A field apart from another in its word does not show in it. -/
theorem fld_put_apart {m : Nat} (v : BitVec m) {at_ lo n : Nat} (hw : lo + n ≤ 32) (h : at_ + m ≤ lo ∨ lo + n ≤ at_) :
    fld (put at_ v) lo n = 0#n := by
  refine BitVec.eq_of_getLsbD_eq fun i hi => ?_
  have hbit := bit_put v (lo := at_) (lo + i) (by omega)
  rw [fld, BitVec.getLsbD_extractLsb', decide_eq_true hi, Bool.true_and, ← bit, hbit, BitVec.getLsbD_zero, Bool.and_eq_false_iff,
    decide_eq_false_iff_not]
  rcases h with h | h
  · exact .inr (BitVec.getLsbD_of_ge _ _ (by omega))
  · exact .inl (by omega)

/-- A flag is a field of one bit. -/
theorem putB_eq_put (i : Nat) (b : Bool) : putB i b = put i (BitVec.ofBool b) := by cases b <;> simp [putB, put]

theorem fld_putB_apart (b : Bool) {i lo n : Nat} (hw : lo + n ≤ 32) (h : i < lo ∨ lo + n ≤ i) : fld (putB i b) lo n = 0#n := by
  rw [putB_eq_put]
  exact fld_put_apart _ hw (by omega)

theorem bit_putB_self (b : Bool) {i : Nat} (h : i < 32) : bit (putB i b) i = b := by
  rw [putB_eq_put, bit_put _ _ h]
  simp

/-! ### The block of an address (R127) -/

theorem blockOf_glb {o : Nat} (h : o < 0x100000) : blockOf o = .glb := if_pos h

theorem blockOf_flt {o : Nat} (h : o < 0x10000) : blockOf (0x300000 + o) = .flt := by
  unfold blockOf
  rw [if_neg (by omega), if_neg (by omega), if_neg (by omega), if_neg (by omega), if_neg (by omega), if_pos (by omega)]

theorem blockOf_mot {o : Nat} (h : o < 0x10000) : blockOf (0x320000 + o) = .mot := by
  unfold blockOf
  rw [if_neg (by omega), if_neg (by omega), if_neg (by omega), if_neg (by omega), if_neg (by omega), if_neg (by omega), if_neg (by omega),
    if_pos (by omega)]

theorem blockOf_pos {o : Nat} (h : o < 0x10000) : blockOf (0x330000 + o) = .pos := by
  unfold blockOf
  rw [if_neg (by omega), if_neg (by omega), if_neg (by omega), if_neg (by omega), if_neg (by omega), if_neg (by omega), if_neg (by omega),
    if_neg (by omega), if_pos (by omega)]

theorem blockOf_cell {c o : Nat} (hc : c < 272) (h : o < 0x10000) : blockOf (0x1000000 + 0x10000 * c + o) = .cell c := by
  have hdiv : (0x1000000 + 0x10000 * c + o - 0x1000000) / 0x10000 = c := by omega
  unfold blockOf
  rw [if_neg (by omega), if_neg (by omega), if_neg (by omega), if_neg (by omega), if_neg (by omega), if_neg (by omega), if_neg (by omega),
    if_neg (by omega), if_neg (by omega), if_neg (by omega), if_neg (by omega), if_neg (by omega), if_neg (by omega), if_neg (by omega),
    if_neg (by omega), if_pos (by omega), hdiv]

/-! ### Writes of the physical function -/

section
variable {s : State} {a o : Nat}

/-- An aligned write of the physical function, whose target runs, goes to its block. -/
theorem State.write_physical (ha : Arrives 0 s) (h4 : a % 4 = 0) (hrun : ∀ d, s.target a = some d → s.on d = true) (v : W32) :
    s.write 0 a v = s.regPut 0 a v := by
  rw [State.write, regAcc_aligned h4, State.access_write ha (.inl rfl) (State.stoppedAt_of_runs hrun)]

theorem State.write_glb (ha : Arrives 0 s) (h : o < 0x100000) (h4 : o % 4 = 0) (v : W32) : s.write 0 o v = s.putGlb o v := by
  rw [State.write_physical ha h4 (by simp [State.target, blockOf_glb h]), State.regPut, blockOf_glb h]

theorem State.write_flt (ha : Arrives 0 s) (h : o < 0x10000) (h4 : o % 4 = 0) (v : W32) : s.write 0 (0x300000 + o) v = s.putFlt o v := by
  rw [State.write_physical ha (by omega) (by simp [State.target, blockOf_flt h]), State.regPut, blockOf_flt h, Nat.add_sub_cancel_left]

theorem State.write_pos (ha : Arrives 0 s) (hon : s.on dCHN = true) (h : o < 0x10000) (h4 : o % 4 = 0) (v : W32) :
    s.write 0 (0x330000 + o) v = s.putPos o v := by
  rw [State.write_physical ha (by omega) (by simp [State.target, blockOf_pos h, hon]), State.regPut, blockOf_pos h, Nat.add_sub_cancel_left]

/-- A write of register off of motor channel n. -/
theorem State.write_motor (ha : Arrives 0 s) (hon : s.on dMOT = true) {n off : Nat} (hn : n < 8) (hoff : off < 0x40) (h4 : off % 4 = 0) (v : W32) :
    s.write 0 (0x320000 + (0x40 * n + off)) v = s.updMotor n (fun m => m.put off v) := by
  rw [State.write_physical ha (by omega) (by simp [State.target, blockOf_mot (o := 0x40 * n + off) (by omega), hon]), State.regPut,
    blockOf_mot (by omega), Nat.add_sub_cancel_left, slotAt_inside n off (by omega) hn hoff]

/-- A write in the window of an active cell. -/
theorem State.write_cell (ha : Arrives 0 s) {c : Nat} (hc : c < 256) (hon : s.on (s.workQuad c) = true) (h : o < 0x10000) (h4 : o % 4 = 0)
    (v : W32) : s.write 0 (0x1000000 + 0x10000 * c + o) v = s.putCell 0 c o v := by
  have hoff : (0x1000000 + 0x10000 * c + o - 0x1000000) % 0x10000 = o := by omega
  rw [State.write_physical ha (by omega) (by simp [State.target, blockOf_cell (c := c) (o := o) (by omega) h, hc, hon]), State.regPut,
    blockOf_cell (by omega) h, hoff]

theorem State.standsIn_active {c : Nat} (hc : c < 256) : s.standsIn c = false := by
  simp [State.standsIn, Nat.not_le.mpr hc]

end

end Sys2Proof.Machine
end

section
/-! The single-register rows of encoders, Pacers, links, gates, motors and the fault block (R281, R303, R340, R356, R357, R375, R379, R419,
R497, R504). -/

namespace Sys2Proof.Machine

/-! ### IDXARM (R281) and FORCEBACK (R303) -/

/-- IDXMODE lies apart from the other fields of POS_ECFG. -/
theorem fld_idxMode (en term dirInv arm : Bool) (mode : BitVec 2) (val : BitVec 16) (db : Byte) :
    fld (putB 31 en ||| putB 30 term ||| putB 29 dirInv ||| put 27 mode ||| put 8 val ||| put 0 db ||| putB 26 arm) 27 2 = mode := by
  simp only [fld_or]
  rw [fld_putB_apart _ (by decide) (by decide), fld_putB_apart _ (by decide) (by decide), fld_putB_apart _ (by decide) (by decide),
    fld_put _ (by decide), fld_put_apart _ (by decide) (by decide), fld_put_apart _ (by decide) (by decide),
    fld_putB_apart _ (by decide) (by decide)]
  simp

/-- POS_ECFG as it stands, with IDXARM. -/
theorem Encoder.armWord (e : Encoder) : fld (pick e.regs 0 ||| putB 26 true) 27 2 = e.idxMode ∧
    bit (pick e.regs 0 ||| putB 26 true) 26 = true :=
  ⟨fld_idxMode .., by rw [bit_or, bit_putB_self _ (by decide), Bool.or_true]⟩

/-- IDXARM in ONCE mode arms the index, and the position stays. -/
theorem Encoder.putCfg_arms {e : Encoder} {v : W32} (hm : fld v 27 2 = 2) (ha : bit v 26 = true) :
    (e.putCfg v).armed = true ∧ (e.putCfg v).idxMode = 2 ∧ (e.putCfg v).pos = e.pos := by
  have hmode : inRange e.idxMode v 27 0 2 = 2 := by
    rw [inRange, hm]
    rfl
  unfold Encoder.putCfg
  rw [hmode, ha]
  simp

/-- From s to t Pacer p alone has changed. -/
structure OnlyPacer (p : Nat) (s t : State) : Prop where
  frame : ∃ ps, t = { s with pacers := ps }
  other : ∀ k, k ≠ p → t.getPacer k = s.getPacer k

theorem OnlyPacer.refl (p : Nat) (s : State) : OnlyPacer p s s := ⟨⟨_, rfl⟩, fun _ _ => rfl⟩

theorem OnlyPacer.updPacer {p : Nat} {s t : State} (h : OnlyPacer p s t) (u : Pacer → Pacer) : OnlyPacer p s (t.updPacer p u) := by
  obtain ⟨⟨ps, hps⟩, hother⟩ := h
  refine ⟨⟨(t.updPacer p u).pacers, by rw [hps]; rfl⟩, fun k hk => ?_⟩
  rw [State.getPacer_updPacer_ne _ _ _ _ hk, hother k hk]

/-- From s to t Pacer p alone has changed, and its forced return stands. -/
structure ForcesBack (p : Nat) (s t : State) : Prop where
  only  : OnlyPacer p s t
  force : (t.getPacer p).force = true

theorem ForcesBack.updPacer {p : Nat} {s t : State} (h : ForcesBack p s t) {u : Pacer → Pacer} (hu : ∀ x, (u x).force = x.force) :
    ForcesBack p s (t.updPacer p u) := ⟨h.only.updPacer u, by rw [State.getPacer_updPacer, hu, h.force]⟩

theorem ForcesBack.realign {p : Nat} {s t : State} (h : ForcesBack p s t) : ForcesBack p s (t.realign p) := by
  unfold State.realign
  split
  · exact h
  · exact h.updPacer fun _ => rfl

/-- POS_REFCFG with FORCEBACK forces the return, whatever else of it the Pacer takes. -/
theorem State.putRefCfg_forces (s : State) (p : Nat) {v : W32} (hv : bit v 29 = true) : ForcesBack p s (s.putRefCfg p v) := by
  have hforce : ForcesBack p s (s.updPacer p (fun x => { x with force := true })) :=
    ⟨(OnlyPacer.refl p s).updPacer _, by rw [State.getPacer_updPacer]⟩
  unfold State.putRefCfg
  rw [if_pos hv]
  dsimp only
  split
  · exact hforce
  · split
    · exact (hforce.updPacer (u := _) (by exact fun _ => rfl)).realign
    · exact hforce.updPacer fun _ => rfl

section
variable {s : State} {n : Nat}

theorem State.putPos_encoder (hn : n < 8) (v : W32) : s.putPos (0x40 * n) v = s.updEnc n (fun e => e.putCfg v) := by
  unfold State.putPos
  rw [slotAt_inside n 0 (by omega) hn (by decide), slotAt_outside (by omega), slotAt_outside (by omega)]
  rfl

theorem State.putPos_reference (hn : n < 8) (v : W32) : s.putPos (0x800 + 0x40 * n) v = s.putRefCfg n v := by
  unfold State.putPos
  rw [slotAt_outside (by omega), slotAt_outside (by omega), slotAt_inside n 0 (by omega) hn (by decide)]
  rfl

theorem idxarm_eq (ha : Arrives 0 s) (hon : s.on dCHN = true) (hn : n < 8) :
    idxarm 0 n s = s.updEnc n (fun e => e.putCfg (pick (s.getEnc n).regs 0 ||| putB 26 true)) := by
  rw [idxarm, State.write_pos ha hon (by omega) (by omega), State.putPos_encoder hn]

theorem forceback_eq (ha : Arrives 0 s) (hon : s.on dCHN = true) (hn : n < 8) :
    forceback 0 n s = s.putRefCfg n (pick (s.getPacer n).refRegs 0 ||| putB 29 true) := by
  have haddr : 0x330800 + 0x40 * n = 0x330000 + (0x800 + 0x40 * n) := by omega
  rw [forceback, haddr, State.write_pos ha hon (by omega) (by omega), State.putPos_reference hn]

/-! ### PVSEL (R340) -/

/-- A snapshot that finds no undecided strobe shows the line alone (log entry 57). -/
theorem State.snapshot_empty {c : Nat} {v : W32} (h : (s.getLink (2 * c + b2n (bit v 8))).strobes = []) :
    s.snapshot c v = s.updCell c (fun x => { x with
      pvsel := put 0 (fld v 0 5) ||| putB 8 (bit v 8) |>.setWidth 9
      pv := { pvReset with line := int64 (s.nextLine c + ((fld v 0 5).toNat : Int)) } }) := by
  unfold State.snapshot
  dsimp only
  rw [h]
  rfl

theorem State.putCell_snapshot {c : Nat} (hc : c < 256) (v : W32) : s.putCell 0 c 0x480 v = s.snapshot c v := by
  unfold State.putCell
  rw [State.standsIn_active hc]
  rfl

theorem pvselSnapshot_eq (ha : Arrives 0 s) {c : Nat} (hc : c < 256) (hon : s.on (s.workQuad c) = true) (v : W32) :
    pvselSnapshot 0 c v s = s.snapshot c v := by
  have haddr : 0x1000480 + 0x10000 * c = 0x1000000 + 0x10000 * c + 0x480 := by omega
  rw [pvselSnapshot, haddr, State.write_cell ha hc hon (by decide) (by decide), State.putCell_snapshot hc]

/-! ### HL_CTL: EN and RETRAIN (R356, R357) -/

theorem State.putCell_link {l : Nat} (hl : l < 512) (v : W32) :
    s.putCell 0 (l / 2) (0x800 + 0x40 * (l % 2)) v = s.putLinkCtl l v := by
  have hlink : 2 * (l / 2) + l % 2 = l := by omega
  unfold State.putCell
  dsimp only
  rw [if_neg (by omega), State.standsIn_active (by omega), if_neg Bool.false_ne_true, if_neg (by omega), if_neg (by omega), if_neg (by omega),
    if_neg (by omega), if_neg (by omega), slotAt_inside (l % 2) 0 (by omega) (by omega) (by decide), slotAt_outside (by omega)]
  dsimp only
  rw [hlink]
  rfl

theorem State.write_linkCtl (ha : Arrives 0 s) {l : Nat} (hl : l < 512) (hon : s.on (s.workQuad (l / 2)) = true) (v : W32) :
    s.write 0 (linkCtlAddr l) v = s.putLinkCtl l v := by
  have haddr : linkCtlAddr l = 0x1000000 + 0x10000 * (l / 2) + (0x800 + 0x40 * (l % 2)) := by
    unfold linkCtlAddr
    omega
  rw [haddr, State.write_cell ha (by omega) hon (by omega) (by omega), State.putCell_link hl]

theorem State.getLink_skipTests (q : GTest → Bool) (l : Nat) : (s.skipTests q).getLink l = s.getLink l := by
  obtain ⟨t, h⟩ := s.skipTests_gates q
  rw [h]
  rfl

theorem State.getLink_hlEvt (k i l : Nat) : (s.hlEvt k i).getLink l = s.getLink l := by simp [State.getLink]

theorem State.getLink_fault (src : Nat) (cls : BitVec 2) (inst : Nat) (d : W64) (st : Bool) (l : Nat) :
    (s.fault src cls inst d st).getLink l = s.getLink l := by simp [State.getLink]

/-- A link that goes down is DOWN, and keeps its enable (R357). -/
theorem State.linkGoesDown_does (s : State) (l : Nat) :
    ((s.linkGoesDown l).getLink l).st = .down ∧ ((s.linkGoesDown l).getLink l).en = (s.getLink l).en := by
  unfold State.linkGoesDown
  dsimp only
  split
  · rw [State.getLink_updLink]
    exact ⟨rfl, rfl⟩
  · split
    · rw [State.getLink_fault, State.getLink_hlEvt, State.getLink_updLink, State.getLink_skipTests, State.getLink_updLink]
      exact ⟨rfl, rfl⟩
    · rw [State.getLink_hlEvt, State.getLink_updLink, State.getLink_skipTests, State.getLink_updLink]
      exact ⟨rfl, rfl⟩

theorem State.getLink_send (s : State) (o : Out) (l : Nat) : (s.send o).getLink l = s.getLink l := rfl

theorem State.sendCtl_en (s : State) (l : Nat) (drive : Bool) : ((s.sendCtl l drive).getLink l).en = (s.getLink l).en := by
  unfold State.sendCtl State.sendConfig State.sendSeq
  dsimp only
  rw [State.getLink_send, State.getLink_updLink]

/-- The link as HL_CTL leaves it, with what of it goes to the head. -/
def Link.takeCtl (v : W32) (k : Link) : Link :=
  { k with en := bit v 31, swing := inRange k.swing v 24 0 8, tickle := bit v 8, stsper := inRange k.stsper v 0 1 100 }
def State.linkCtlTaken (l : Nat) (v : W32) (s : State) : State :=
  let t := s.updLink l (Link.takeCtl v)
  if (t.getLink l).st = .up ∧ ((t.getLink l).tickle ≠ (s.getLink l).tickle ∨ (t.getLink l).stsper ≠ (s.getLink l).stsper) then
    t.sendCtl l (t.getLink l).drive
  else t

theorem State.putLinkCtl_eq (s : State) (l : Nat) (v : W32) : s.putLinkCtl l v =
    if ((s.getLink l).en && !bit v 31) || (bit v 31 && bit v 30) then (s.linkCtlTaken l v).linkGoesDown l else s.linkCtlTaken l v := rfl

theorem State.linkCtlTaken_en (s : State) (l : Nat) (v : W32) : ((s.linkCtlTaken l v).getLink l).en = bit v 31 := by
  have hupd : ((s.updLink l (Link.takeCtl v)).getLink l).en = bit v 31 := congrArg Link.en (State.getLink_updLink ..)
  unfold State.linkCtlTaken
  dsimp only
  split
  · exact (State.sendCtl_en ..).trans hupd
  · exact hupd

/-- HL_CTL sets EN; EN written 0 while it is 1, and RETRAIN with EN, take the link DOWN (R356, R357). -/
theorem State.putLinkCtl_does (s : State) (l : Nat) (v : W32) : ((s.putLinkCtl l v).getLink l).en = bit v 31 ∧
    ((((s.getLink l).en && !bit v 31) || (bit v 31 && bit v 30)) = true → ((s.putLinkCtl l v).getLink l).st = .down) := by
  have htaken := s.linkCtlTaken_en l v
  obtain ⟨hdown, hen⟩ := (s.linkCtlTaken l v).linkGoesDown_does l
  rw [State.putLinkCtl_eq]
  split
  · exact ⟨hen.trans htaken, fun _ => hdown⟩
  · rename_i hno
    exact ⟨htaken, fun h => absurd h hno⟩

end

end Sys2Proof.Machine
end

section
/-! GATE_SEL and RECAL (R375, R379), duties (R419), and the rows of the fault block (R497, R504). -/

namespace Sys2Proof.Machine

section
variable {s : State} {g : Nat}

/-! ### HL_CTL rows -/

/-- HL_CTL as it stands shows no EN and no RETRAIN, so that each row adds its own. -/
theorem State.bit_linkCtl (s : State) (l : Nat) : bit (s.linkCtl l) 31 = false := bit_and_below_top _

/-- LINK-EN-WRITE sets EN; a link that was enabled goes DOWN with EN = 0 (R357). -/
theorem linkEnWrite_does (ha : Arrives 0 s) {l : Nat} (hl : l < 512) (hon : s.on (s.workQuad (l / 2)) = true) (en : Bool) :
    ((linkEnWrite 0 l en s).getLink l).en = en ∧
      (en = false → (s.getLink l).en = true → ((linkEnWrite 0 l en s).getLink l).st = .down) := by
  have hbit : bit (s.linkCtl l ||| putB 31 en) 31 = en := by
    rw [bit_or, State.bit_linkCtl, bit_putB_self _ (by decide), Bool.false_or]
  obtain ⟨hen, hdown⟩ := s.putLinkCtl_does l (s.linkCtl l ||| putB 31 en)
  rw [linkEnWrite, State.write_linkCtl ha hl hon, hen, hbit]
  refine ⟨rfl, fun h0 h1 => hdown ?_⟩
  rw [hbit, h0, h1]
  rfl

/-- RETRAIN takes an enabled link DOWN (R356). -/
theorem retrain_does (ha : Arrives 0 s) {l : Nat} (hl : l < 512) (hon : s.on (s.workQuad (l / 2)) = true) (h : (s.getLink l).en = true) :
    ((retrain 0 l s).getLink l).st = .down := by
  rw [retrain, State.write_linkCtl ha hl hon, h]
  refine (s.putLinkCtl_does l _).2 ?_
  simp only [bit_or, bit_putB_self _ (show 30 < 32 by decide), bit_putB_self _ (show 31 < 32 by decide), Bool.or_true, Bool.true_or, Bool.true_and]

/-! ### GATE_SEL (R375) -/

theorem State.putGlb_gate (hg : g < 16) (v : W32) : s.putGlb (0x600 + 4 * g) v = s.selectGate g v := by
  unfold State.putGlb
  rw [if_neg (by omega), if_neg (by omega), slotAt_outside (by omega), slotAt_outside (by omega), slotAt_inside g 0 (by omega) hg (by decide),
    slotAt_outside (by omega)]
  rfl

theorem gateselWrite_eq (ha : Arrives 0 s) (hg : g < 16) (v : W32) : gateselWrite 0 g v s = s.selectGate g v := by
  rw [gateselWrite, State.write_glb ha (by omega) (by omega), State.putGlb_gate hg]

/-- The state before a selection is judged: REFUSED cleared where the word asks it. -/
def State.clearRefused (g : Nat) (v : W32) (s : State) : State := if bit v 31 then s.updGate g (fun x => { x with refused := false }) else s

theorem State.getGate_clearRefused (g : Nat) (v : W32) (s : State) : ((s.clearRefused g v).getGate g).owner = (s.getGate g).owner ∧
    ∀ h, h ≠ g → (s.clearRefused g v).getGate h = s.getGate h := by
  unfold State.clearRefused
  split
  · rw [State.getGate_updGate]
    exact ⟨rfl, fun h hh => State.getGate_updGate_ne _ _ _ _ hh⟩
  · exact ⟨rfl, fun _ _ => rfl⟩

/-- Another gate of the quadrant serves a quad of the map. -/
def State.servedTwice (g : Nat) (serve : BitVec 16) (s : State) : Bool :=
  (List.range 16).any (fun h => decide (h ≠ g ∧ h / 4 = g / 4) && decide ((s.getGate h).serve &&& serve ≠ 0))

theorem State.servedTwice_eq_false {serve : BitVec 16} (h : ∀ k < 16, k ≠ g → k / 4 = g / 4 → (s.getGate k).serve &&& serve = 0) :
    s.servedTwice g serve = false := by
  rw [State.servedTwice, List.any_eq_false]
  intro k hk hboth
  obtain ⟨hne, hserve⟩ := Bool.and_eq_true_iff.mp hboth
  obtain ⟨hkg, hquad⟩ := of_decide_eq_true hne
  exact of_decide_eq_true hserve (h k (List.mem_range.mp hk) hkg hquad)

/-- The owner that a word of GATE_SEL names lies in the gate's quadrant. -/
def ownerFits (g : Nat) (v : W32) : Prop := 16 * (g / 4) ≤ (fld v 16 6).toNat ∧ (fld v 16 6).toNat < 16 * (g / 4) + 16

theorem State.selectGate_refuses {v : W32} (hst : (s.getGate g).st = .uncal) (h : ¬ ownerFits g v) :
    s.selectGate g v = (s.clearRefused g v).updGate g (fun x => { x with refused := true }) := by
  unfold State.selectGate
  dsimp only
  rw [if_neg (by simp [hst])]
  exact if_pos (.inl h)

/-- A gate with its owner and map, where the cell that times it is clocked or not (R375, R376). -/
def State.mapGate (g : Nat) (v : W32) (s : State) : State :=
  let t := s.updGate g (fun x => { x with owner := fld v 16 6, serve := fld v 0 16 })
  t.updGate g (fun x => { x with st := if !t.gateOn g then .unavailable else if x.st = .unavailable then .uncal else x.st })

theorem State.selectGate_maps {v : W32} (hst : (s.getGate g).st = .uncal) (h : ownerFits g v)
    (htwice : (s.clearRefused g v).servedTwice g (fld v 0 16) = false) : s.selectGate g v =
      forAll (((s.clearRefused g v).mapGate g v).servedCells g) (fun s c => s.updCell c (fun y => { y with noGate := false }))
        ((s.clearRefused g v).mapGate g v) := by
  unfold State.selectGate
  dsimp only
  rw [if_neg (by simp [hst])]
  exact if_neg (not_or.mpr ⟨not_not_intro h, Bool.eq_false_iff.mp htwice⟩)

theorem State.forAll_updCell_gates (l : List Nat) (u : Cell → Cell) (s : State) : (forAll l (fun s c => s.updCell c u) s).gates = s.gates :=
  foldl_keeps State.gates (fun s c => s.updCell c u) (fun _ _ => rfl) l s

/-- A gate takes its owner and map where they are legal, and refuses an owner outside its quadrant. -/
theorem State.selectGate_does {v : W32} (hst : (s.getGate g).st = .uncal) :
    (¬ ownerFits g v → ((s.selectGate g v).getGate g).refused = true ∧ ((s.selectGate g v).getGate g).owner = (s.getGate g).owner) ∧
      (ownerFits g v → (∀ h < 16, h ≠ g → h / 4 = g / 4 → (s.getGate h).serve &&& fld v 0 16 = 0) →
        ((s.selectGate g v).getGate g).owner = fld v 16 6 ∧ ((s.selectGate g v).getGate g).serve = fld v 0 16) := by
  obtain ⟨howner, hothers⟩ := s.getGate_clearRefused g v
  refine ⟨fun h => ?_, fun h hserve => ?_⟩
  · rw [State.selectGate_refuses hst h, State.getGate_updGate]
    exact ⟨rfl, howner⟩
  · have htwice : (s.clearRefused g v).servedTwice g (fld v 0 16) = false :=
      State.servedTwice_eq_false fun k hk hkg hquad => by rw [hothers k hkg]; exact hserve k hk hkg hquad
    have hgates := State.forAll_updCell_gates (((s.clearRefused g v).mapGate g v).servedCells g) (fun y => { y with noGate := false })
      ((s.clearRefused g v).mapGate g v)
    rw [State.selectGate_maps hst h htwice, State.getGate, hgates, ← State.getGate, State.mapGate, State.getGate_updGate,
      State.getGate_updGate]
    exact ⟨rfl, rfl⟩

/-! ### RECAL (R379) -/

/-- GATE_CFG2 of a gate that is neither tested nor calibrated. -/
def Gate.putCfg2 (v : W32) (x : Gate) : Gate :=
  { x with gdly := fld v 20 12, testLvl := inRange x.testLvl v 18 1 3, autoClr := bit v 17, recalRef := w1cBit x.recalRef v 16, guard := fld v 8 8 }

theorem State.putGate_recal {v : W32} (hst : (s.getGate g).st = .idle) (hv : bit v 0 = true) :
    s.putGate g 4 v = (s.updGate g (Gate.putCfg2 v)).recalGate g := by
  unfold State.putGate
  dsimp only
  rw [if_neg (by decide), if_pos rfl, hv, hst]
  rfl

/-- RECAL of an IDLE gate, with no lane in PRINT among those it serves, begins its calibration. -/
theorem State.recalGate_begins (hst : (s.getGate g).st = .idle) (hp : ∀ c ∈ s.servedCells g, (s.getLane (s.laneOf c)).st ≠ .print) :
    s.recalGate g = s.updGate g (Gate.beginCal s.now) := by
  have hfree : (s.servedCells g).any (fun c => decide ((s.getLane (s.laneOf c)).st = .print)) = false := by simpa using hp
  unfold State.recalGate
  dsimp only
  rw [if_neg (by rw [hfree]; exact Bool.false_ne_true), if_pos (.inl hst)]

theorem State.putCell_gate {c j : Nat} (hc : c < 256) (hj : j < 4) (hat : s.gateAt c j = some g) (v : W32) :
    s.putCell 0 c (0xC84 + 0x40 * j) v = s.putGate g 4 v := by
  unfold State.putCell
  dsimp only
  rw [if_neg (by omega), State.standsIn_active hc, if_neg Bool.false_ne_true, if_neg (by omega), if_neg (by omega), if_neg (by omega),
    if_neg (by omega), if_neg (by omega), slotAt_outside (by omega), slotAt_inside j 4 (by omega) hj (by decide)]
  dsimp only
  rw [hat]
  rfl

theorem recal_eq (ha : Arrives 0 s) (hon : s.on (s.workQuad (4 * (s.getGate g).owner.toNat)) = true)
    (hat : s.gateAt (4 * (s.getGate g).owner.toNat) (g % 4) = some g) :
    recal 0 g s = s.putGate g 4 ((pick (s.getGate g).regs 4 &&& 0xFFFEFFFF) ||| putB 0 true) := by
  have howner : 4 * (s.getGate g).owner.toNat < 256 := by omega
  have haddr : 0x1000C84 + 0x10000 * (4 * (s.getGate g).owner.toNat) + 0x40 * (g % 4) =
      0x1000000 + 0x10000 * (4 * (s.getGate g).owner.toNat) + (0xC84 + 0x40 * (g % 4)) := by omega
  unfold recal
  dsimp only
  rw [haddr, State.write_cell ha howner hon (by omega) (by omega), State.putCell_gate howner (by omega) hat]

/-- RECAL of an IDLE gate: its calibration begins with CALOK = 0 (log entry 42), and its open tests stay. -/
theorem recal_does (ha : Arrives 0 s) (hst : (s.getGate g).st = .idle)
    (hon : s.on (s.workQuad (4 * (s.getGate g).owner.toNat)) = true) (hat : s.gateAt (4 * (s.getGate g).owner.toNat) (g % 4) = some g)
    (hp : ∀ c ∈ s.servedCells g, (s.getLane (s.laneOf c)).st ≠ .print) :
    ((recal 0 g s).getGate g).st = .cal ∧ ((recal 0 g s).getGate g).calOk = false ∧
      ((recal 0 g s).getGate g).open_ = (s.getGate g).open_ := by
  have hbit : bit ((pick (s.getGate g).regs 4 &&& 0xFFFEFFFF) ||| putB 0 true) 0 = true := by
    rw [bit_or, bit_putB_zero, Bool.or_true]
  generalize hv : (pick (s.getGate g).regs 4 &&& 0xFFFEFFFF) ||| putB 0 true = v at hbit
  have hget : (s.updGate g (Gate.putCfg2 v)).getGate g = (s.getGate g).putCfg2 v := State.getGate_updGate ..
  have hserved : (s.updGate g (Gate.putCfg2 v)).servedCells g = s.servedCells g := by
    unfold State.servedCells
    rw [hget]
    rfl
  rw [recal_eq ha hon hat, hv, State.putGate_recal hst hbit,
    State.recalGate_begins (by rw [hget]; exact hst) (by rw [hserved]; exact hp), State.getGate_updGate, hget]
  exact ⟨rfl, rfl, rfl⟩

/-! ### DUTY-COMMIT (R419) -/

theorem State.updMotor_congr {n : Nat} {u w : Motor → Motor} (h : u (s.getMotor n) = w (s.getMotor n)) : s.updMotor n u = s.updMotor n w :=
  congrArg (s.setMotor n) h

/-- DW and COMMIT of a channel in direct mode that no loop drives. -/
theorem Motor.put_commit {m : Motor} (hm : m.mode = 2) (ho : m.ownDuties = false) (dw : BitVec 14) :
    m.put 0x20 (putB 31 true ||| Machine.put 0 dw) = { m with dw := dw, commit := true } := by
  have hfld : fld (putB 31 true ||| Machine.put 0 dw) 0 14 = dw := by
    rw [fld_or, fld_putB_apart _ (by decide) (by decide), fld_put _ (by decide), BitVec.zero_or]
  have hbit : bit (putB 31 true ||| Machine.put 0 dw) 31 = true := by rw [bit_or, bit_putB_self _ (by decide), Bool.true_or]
  have hrow : m.put 0x20 (putB 31 true ||| Machine.put 0 dw) =
      { m with dw := if m.ownDuties then m.dw else fld (putB 31 true ||| Machine.put 0 dw) 0 14
               commit := m.commit || (bit (putB 31 true ||| Machine.put 0 dw) 31 && decide (m.mode = 2)) } := rfl
  rw [hrow, hfld, hbit, ho, hm]
  simp

theorem dutyCommit_eq (ha : Arrives 0 s) (hon : s.on dMOT = true) {n : Nat} (hn : n < 8) (hm : (s.getMotor n).mode = 2)
    (ho : (s.getMotor n).ownDuties = false) (dw : BitVec 14) :
    dutyCommit 0 n dw s = s.updMotor n (fun m => { m with dw := dw, commit := true }) := by
  have haddr : 0x320020 + 0x40 * n = 0x320000 + (0x40 * n + 0x20) := by omega
  rw [dutyCommit, haddr, State.write_motor ha hon hn (by decide) (by decide)]
  exact State.updMotor_congr (Motor.put_commit hm ho dw)

/-! ### FLT_INJCTL (R504) -/

/-- The fault block with the target and the W1C bits of a word of FLT_INJCTL. -/
def State.injSet (v : W32) (s : State) : State :=
  { s with flt := { s.flt with done := w1cBit s.flt.done v 29, injRef := w1cBit s.flt.injRef v 28, injSrc := fld v 16 5, injInst := fld v 0 16 } }

/-- ARM goes to the injector with the target that its word names. -/
theorem fltInjArm_eq (ha : Arrives 0 s) (v : W32) : fltInjArm 0 v s = (s.injSet (v ||| 0x80000000)).armInject := by
  rw [fltInjArm, show 0x300020 = 0x300000 + 0x20 from rfl, State.write_flt ha (by decide) (by decide)]
  exact if_pos (bit_or_top v)

theorem State.armInject_refused (h : s.flt.pend = true) : s.armInject = { s with flt := { s.flt with injRef := true } } := by
  have hr : s.armRefused = true := by
    rw [State.armRefused, h]
    rfl
  exact if_pos hr

/-- An injection that waits for its checker: it is pending, and its target latched. -/
def State.injWaits (s : State) : State := { s with flt := { s.flt with
  pend := true, injRound := 0, hitSrc := s.flt.injSrc.toNat, hitInst := s.flt.injInst.toNat, hitAddr := s.flt.injAddr.toNat } }

/-- Sources whose injection waits for a checker (R504). -/
def waitsForChecker : List Nat := [0, 1, 3, 7, 11, 15]

theorem State.armInject_waits (hp : s.flt.pend = false) (hsrc : s.flt.injSrc.toNat ∈ waitsForChecker) : s.armInject = s.injWaits := by
  have hr : s.armRefused = false := by
    simp only [waitsForChecker, List.mem_cons, List.not_mem_nil, or_false] at hsrc
    unfold State.armRefused
    rcases hsrc with h | h | h | h | h | h <;> simp [h, hp, injectable]
  unfold State.armInject
  rw [if_neg (by rw [hr]; exact Bool.false_ne_true)]
  simp only [waitsForChecker, List.mem_cons, List.not_mem_nil, or_false] at hsrc
  rcases hsrc with h | h | h | h | h | h <;> simp only [h, State.injWaits]

/-! ### PERS (R497) -/

/-- Clearing PERSISTENT clears the recovery times with it. -/
theorem State.clearPers_does (s : State) (i : Nat) : SamePlant { s with flt := (s.clearPers i).flt } (s.clearPers i) ∧
    (s.clearPers i).getSrc i = { s.getSrc i with pers := false, times := [] } := by
  have hsrc : (s.updSrc i (fun x => { x with pers := false, times := [] })).getSrc i = { s.getSrc i with pers := false, times := [] } :=
    State.getSrc_updSrc ..
  unfold State.clearPers
  dsimp only
  split
  · exact ⟨rfl, hsrc⟩
  · rw [State.getSrc_setCause, hsrc]
    refine ⟨?_, rfl⟩
    rw [samePlant_iff]
    simp

theorem persClear_eq (ha : Arrives 0 s) {i : Nat} (hi : i < 32) :
    persClear 0 i s = (s.updSrc i (fun x => { x with rlim := (s.getSrc i).rlim })).clearPers i := by
  have haddr : 0x300080 + 4 * i = 0x300000 + (0x80 + 4 * i) := by omega
  have hbit : bit (putB 30 true ||| put 24 (s.getSrc i).rlim) 30 = true := by rw [bit_or, bit_putB_self _ (by decide), Bool.true_or]
  have hfld : fld (putB 30 true ||| put 24 (s.getSrc i).rlim) 24 4 = (s.getSrc i).rlim := by
    rw [fld_or, fld_putB_apart _ (by decide) (by decide), fld_put _ (by decide), BitVec.zero_or]
  rw [persClear, haddr, State.write_flt ha (by omega) (by omega), State.putFlt, if_neg (by omega), if_neg (by omega), if_neg (by omega),
    if_neg (by omega), slotAt_inside i 0 (by omega) hi (by decide)]
  dsimp only
  rw [hfld, hbit]
  rfl

end

/-- Settles O20: each row as a write of the physical function. A PVSEL with no undecided strobe is log entry 57, CALOK cleared at RECAL log entry
42, the target of an injection latched at ARM log entry 48. -/
theorem plantWritesTakeEffect : Obligations.PlantWritesTakeEffect := by
  intro s ha
  refine ⟨fun n hon hm => ?_, fun p hon => ?_, fun c v hc hon hs => ?_, fun l hon => ⟨⟨_, rfl, ?_⟩, ⟨_, rfl, ?_⟩, ⟨_, rfl, ?_⟩⟩, fun g v hst => ?_,
    fun g hst hon hat hp => ⟨_, rfl, recal_does ha hst hon hat hp⟩, fun n dw hon hm ho => ?_, fun v hp => ?_, fun v hp hsrc => ?_, fun i => ?_⟩
  · obtain ⟨hmode, hbit⟩ := (s.getEnc n.val).armWord
    refine ⟨_, congrArg Host.Outcome.next (idxarm_eq ha hon n.isLt), rfl, ?_⟩
    rw [State.getEnc_updEnc]
    exact Encoder.putCfg_arms (hmode.trans hm) hbit
  · have hbit : bit (pick (s.getPacer p.val).refRegs 0 ||| putB 29 true) 29 = true := by rw [bit_or, bit_putB_self _ (by decide), Bool.or_true]
    obtain ⟨⟨⟨ps, hps⟩, hother⟩, hforce⟩ := s.putRefCfg_forces p.val hbit
    exact ⟨_, congrArg Host.Outcome.next (forceback_eq ha hon p.isLt), hforce, by rw [hps], by rw [hps], hother⟩
  · refine ⟨_, congrArg Host.Outcome.next ((pvselSnapshot_eq ha hc hon v).trans (State.snapshot_empty hs)), rfl, ?_⟩
    rw [State.getCell_updCell]
  · exact retrain_does ha l.isLt hon
  · obtain ⟨hen, hdown⟩ := linkEnWrite_does ha l.isLt hon false
    exact ⟨hen, hdown rfl⟩
  · exact (linkEnWrite_does ha l.isLt hon true).1
  · obtain ⟨hrefused, hmapped⟩ := State.selectGate_does (v := v) hst
    exact ⟨_, congrArg Host.Outcome.next (gateselWrite_eq ha g.isLt v), hrefused, fun hlo hhi => hmapped ⟨hlo, hhi⟩⟩
  · exact congrArg Host.Outcome.next (dutyCommit_eq ha hon n.isLt hm ho dw)
  · refine ⟨_, congrArg Host.Outcome.next ((fltInjArm_eq ha v).trans (State.armInject_refused hp)), rfl, hp, ?_, ?_, rfl⟩
    · exact fld_or_top v (by decide)
    · exact fld_or_top v (by decide)
  · have hfield : (s.injSet (v ||| 0x80000000)).flt.injSrc = fld v 16 5 := fld_or_top v (by decide)
    refine ⟨_, congrArg Host.Outcome.next ((fltInjArm_eq ha v).trans (State.armInject_waits hp (by rw [hfield]; exact hsrc))), rfl, ?_, ?_, rfl⟩
    · exact congrArg BitVec.toNat hfield
    · exact congrArg BitVec.toNat (fld_or_top v (lo := 0) (n := 16) (by decide))
  · obtain ⟨hsame, hsrc⟩ := State.clearPers_does (s.updSrc i.val (fun x => { x with rlim := (s.getSrc i.val).rlim })) i.val
    refine ⟨_, congrArg Host.Outcome.next (persClear_eq ha i.isLt), ?_⟩
    rw [hsrc, State.getSrc_updSrc]
    exact ⟨rfl, rfl, rfl, hsame⟩

end Sys2Proof.Machine
end
